-- ==== Sys2Proof/Word.lean ====
section
/-! DEFINITION. The word types of the ZX4 model and their plainest arithmetic. -/

namespace Sys2Proof

/-- An octet of a wire format, a Legend value or a memory. -/
abbrev Byte := BitVec 8

/-- A plotter-core register (03_quads_and_messages R62). -/
abbrev Word := BitVec 32

/-- A lane register (04_lanes_and_arrays R116). -/
abbrev DWord := BitVec 64

/-- A 48-bit tick number (02_graticule R32). -/
abbrev TickNo := BitVec 48

/-- A stamp: bits [59:12] the tick number, bits [11:0] the sub-tick (02_graticule R40). -/
abbrev Stamp := BitVec 60

/-- A sequence of octets, first octet first. -/
abbrev Bytes := List Byte

/-- A sparse table: pairs of a key and a value, keys strictly rising, no value equal to what an unlisted key reads as. -/
abbrev Tab (α : Type) := List (Nat × α)

end Sys2Proof
end

