-- ==== Sys2Proof/Wire.lean ====
section
/-! DEFINITION. What reaches the ZX4 from outside and what leaves it: the operands of commands and the messages of
its wires, as data (chapters 08, 10, 11, 13, 14, 15). -/

namespace Sys2Proof

/-- Where and when a quad acts: its physical quad number, the quad clock cycle since its sheet was loaded, and the
graticule-clock cycles since the current tick's edge (02 R37, 03 R71, R83, R91). -/
structure QuadAt where
  quad : BitVec 8
  cyc : Nat
  e : Nat
  deriving DecidableEq, Repr

/-- A timing margin that a quad's droop sensor measures, in mV (15 R601). -/
structure DroopAt where
  quad : QuadAt
  marginMv : Int
  deriving DecidableEq, Repr

/-- Where a delivered message comes from (03 R82, R84; 06 R246; 10 R419). -/
inductive MsgSource where
  /-- The head of a physical quad's outbound buffer. -/
  | quad (src : BitVec 8)
  /-- The oldest message of the ingress area for a partition's logical quad and queue. -/
  | ingress (partition quad : Nat) (queue : BitVec 2)
  /-- The oldest bearing notice for a partition's logical quad. -/
  | notice (partition quad : Nat)
  deriving DecidableEq, Repr

/-- Fields of one lane instruction besides OP (04 R126). -/
structure LaneArgs where
  type : BitVec 4
  type2 : BitVec 4
  vd : BitVec 4
  va : BitVec 4
  vb : BitVec 4
  mask : BitVec 2
  minv : Bool
  imm : BitVec 32
  deriving DecidableEq, Repr

/-- A KEY request as it lands at a vault (05 R195). -/
structure KeyReq where
  device : BitVec 16
  partition : Byte
  tenant : BitVec 32
  keyId : BitVec 32
  digit : Byte
  page : Byte
  urgency : Byte
  need : Stamp
  tag : BitVec 16
  deriving DecidableEq, Repr

/-- A session slot of a mirrored checkpoint (07 R295): all that a checkpoint records of it but the number of its context,
which each device gives its own. -/
structure MirrorSession where
  startBeat : BitVec 32
  /-- 0 absent, 1 active, 2 refused, 3 aborted. -/
  state : Nat
  /-- The session holds a context. -/
  context : Bool
  cleared : Bool
  /-- Openings E of its pending turns. -/
  turns : List Stamp
  doneAt : Option Stamp
  abortAt : Stamp
  deriving DecidableEq, Repr

/-- Strip state of a mirrored checkpoint (07 R295, R299). -/
structure MirrorStrip where
  strip : Nat
  beat : Nat
  rseq : BitVec 32
  present : BitVec 64
  abortStatus : Bytes
  /-- Session slots, by number. -/
  sessions : List (Nat × MirrorSession)
  deriving DecidableEq, Repr

/-- Common part of a downstream PLOAM message (08 R336, R337). -/
structure Ploam where
  e : Nat
  /-- Addressed ONU-ID; 1,023 is broadcast. -/
  onuId : BitVec 10
  seq : Byte
  micOk : Bool
  deriving DecidableEq, Repr

/-- OMCI actions (08 R339). -/
inductive OmciAction where
  | create | set | get | delete
  /-- Start of a software download (Table 8.5, class 7). -/
  | download
  deriving DecidableEq, Repr

/-- An OMCI message (08 R339): attributes as pairs of attribute number and octets. -/
structure Omci where
  micOk : Bool
  extended : Bool
  tci : BitVec 16
  action : OmciAction
  cls : Nat
  inst : Nat
  attrs : List (Nat × Bytes)
  deriving DecidableEq, Repr

/-- A granted allocation (08 R346, R347; 09 R401). -/
structure Alloc where
  allocId : Nat
  /-- Granted start, in ns of the downstream's time: where the first preamble bit would be with a response time and an
  equalisation delay of 0. -/
  startNs : Nat
  /-- Octets granted. -/
  bytes : Nat
  profile : Nat
  dbru : Bool
  ploamu : Bool
  forcedWake : Bool
  /-- Superframe in which the allocation arrived. -/
  frame : TickNo
  /-- Length of the transmission on the fibre, in ns. -/
  lengthNs : Nat
  /-- The allocation goes on with the burst of the allocation before it: no preamble or delimiter of its own. -/
  goesOn : Bool
  /-- Stamp of the allocation's first preamble bit (09 R401). -/
  preambleAt : Stamp
  deriving DecidableEq, Repr

/-- What a segment timeout names (09 R368, R376). -/
inductive AsmTarget where
  | strip (s : Nat)
  | answer (partition port : Nat)
  deriving DecidableEq, Repr

/-- Aksia packet classes (10 Table 10.2). -/
inductive PktClass where
  | time | msg | req | resp | key
  deriving DecidableEq, Repr

/-- Kinds of packet within the classes (10 Table 10.3); the spec gives the classes' contents and no kind codes. -/
inductive PktKind where
  /-- TIME: a claim to be datum (PRIORITY, UNIQUE_ID, HOPS, device). -/
  | claim (priority : Byte) (uid : BitVec 64) (hops : Nat) (device : BitVec 16)
  /-- TIME: an UPDATE (tick, STATE code, correction in cycles). -/
  | update (tick : TickNo) (state : Byte) (correction : Nat)
  /-- TIME: a heartbeat (RUNNING, HANDOVER, FENCED) and its acknowledgement. -/
  | heartbeat (running handover : BitVec 64) (fenced : Bool)
  | heartbeatAck
  /-- TIME: a LINK_STATE notice. -/
  | linkState (device : BitVec 16) (direction : Nat) (up : Bool) (seq : BitVec 16)
  /-- MSG: a plotter message from a source quad to a destination logical quad and queue. -/
  | message (dstQuad : Byte) (queue : BitVec 2)
  /-- REQ: a remote read (quad and address, length), a remote write (quad and address). -/
  | remoteRead (quad : Byte) (addr : BitVec 22) (length : Nat)
  | remoteWrite (quad : Byte) (addr : BitVec 22)
  /-- REQ: a KEY request, and a mirror write of a checkpoint (its pages from a byte offset). -/
  | keyRequest (r : KeyReq)
  | mirrorWrite (beat phase offset : Nat) (strips : List MirrorStrip)
  /-- TIME: a delay request, and its reply with the instants at which the request came and the reply left (R434). -/
  | delayRequest
  | delayReply (t2 t3 : Nat)
  /-- RESP: acknowledgement, read data, isolation refusal, NACK, MSG credits, KEY credits, mirror acknowledgement. -/
  | ack
  | readData
  | isolation
  | keyNack
  | msgCredit (count : Nat)
  | keyCredit (count : Nat)
  | mirrorAck (beat : Nat)
  /-- KEY: key-page bytes from a byte offset; `last` for the last of the page. -/
  | keyPage (offset : Nat) (last : Bool)
  deriving DecidableEq, Repr

/-- An Aksia packet (10 R416). -/
structure Packet where
  cls : PktClass
  kind : PktKind
  /-- FLAGS: directions (false +, true −) and the dateline sub-channel. -/
  dirX : Bool
  dirY : Bool
  dirZ : Bool
  dl : Bool
  dst : BitVec 16
  src : BitVec 16
  dpart : Byte
  spart : Byte
  tenant : BitVec 32
  tag : BitVec 16
  payload : Bytes
  deriving DecidableEq, Repr

/-- A tick edge of a source: its moment, and the source's tick number from it on (02 R53). -/
structure SourceEdge where
  e : Nat
  tick : TickNo
  deriving DecidableEq, Repr

/-- The four instants of a delay exchange in graticule-clock cycles (10 R434): request sent, request received, reply sent,
reply received. -/
structure DelayTimes where
  t1 : Int
  t2 : Int
  t3 : Int
  t4 : Int
  deriving DecidableEq, Repr

/-- Credits of 64 bytes for one class and sub-channel of a link (10 R417). -/
structure LinkCredit where
  cls : PktClass
  dl : Bool
  units : Nat
  deriving DecidableEq, Repr

/-- A link frame as received (10 R416, R417): the credits it returns, its packet if it carries one, and the cycles that
an UPDATE in it spends in the device before it goes on (R438). -/
structure LinkFrame where
  credits : List LinkCredit
  packet : Option Packet
  residence : Nat
  deriving DecidableEq, Repr

/-- A link frame as sent (10 R416): its sequence number, its packet with the 16-byte header of Table 10.2, and its CRC. -/
structure SentFrame where
  seq : BitVec 12
  header : Bytes
  packet : Packet
  crc : BitVec 32
  deriving DecidableEq, Repr

/-- How far a port attempt has come (10 Table 10.5, R429). -/
inductive PortPhase where
  | equalise | align | ident | failed
  deriving DecidableEq, Repr

/-- What the partner sends in IDENT (10 R430). -/
structure IdentMsg where
  device : BitVec 16
  uid : BitVec 64
  port : Byte
  atlasId : BitVec 32
  dimX : Byte
  dimY : Byte
  dimZ : Byte
  /-- The partner is a ZX4-L, as the training of the port shows (R414, log 34). -/
  gradeL : Bool
  deriving DecidableEq, Repr

/-- The path of an Ezith message (13 R510). -/
inductive EzPath where
  | xgem
  | mgmt (address : BitVec 32) (port : BitVec 16)
  deriving DecidableEq, Repr

/-- A flash target as it answers at mount (14 R541). -/
structure Target where
  channel : Nat
  target : Nat
  answers : Bool
  /-- Its parameter page. -/
  params : Bytes
  /-- Octets it adds. -/
  bytes : Nat
  /-- Blocks it holds, and those with the factory bad-block mark. -/
  blocks : Nat
  factoryBad : List Nat
  /-- Rated TLC erase cycles and transfer rate of its parameter page. -/
  endurance : BitVec 32
  mts : BitVec 16
  deriving DecidableEq, Repr

/-- One sample of the sentry's measurements (15 Table 15.1): gate voltage relative to SRC. -/
structure Sample where
  vinMv : Nat
  voutMv : Nat
  gateMv : Int
  /-- SNS_P − SNS_N, in µV. -/
  senseUv : Int
  /-- Read-back levels: PG_N and EWARN_N read low; service outputs read high. -/
  pgLow : Bool
  ewarnLow : Bool
  svcHigh : List Bool
  deriving DecidableEq, Repr

/-- A PTP Announce as received (11 R463). -/
structure AnnounceMsg where
  port : Nat
  domain : Byte
  priority1 : Nat
  clockClass : Nat
  accuracy : Nat
  variance : Nat
  priority2 : Nat
  identity : Bytes
  steps : Nat
  sender : Bytes
  /-- The sender's Announce interval is 2 to this power, in seconds. -/
  logInterval : BitVec 8
  deriving DecidableEq, Repr

/-- Who sent a PTP Sync (11 R464): its port identity and domain, and the interval of its Syncs as for an Announce. -/
structure SyncFrom where
  identity : Bytes
  domain : Byte
  logInterval : BitVec 8
  deriving DecidableEq, Repr

/-- An upstream XGEM frame: its key index, 0 in clear, and the octets of the SDU it carries (08 Table 8.1). -/
structure XgemUp where
  port : Nat
  keyIndex : Nat
  last : Bool
  octets : Bytes
  deriving DecidableEq, Repr

/-- What leaves the ZX4, in the order in which it leaves. -/
inductive Emission where
  /-- An allocation of a burst: its PLOAM, its DBRu occupancy and its XGEM frames. One that `goesOn` stands in the burst
  of the allocation before it; another begins with the preamble and delimiter of the profile. -/
  | burst (allocId startNs profile : Nat) (goesOn : Bool) (eqdNs : Nat) (ploam : Option Bytes) (dbru : Option Nat) (frames : List XgemUp)
  /-- BURST_EN is asserted from a moment until it is negated, in ns, at a level: high, or low (08 Table 8.7, R348). -/
  | burstEn (fromNs toNs : Nat) (high : Bool)
  /-- A link frame first sent on an Aksia port. -/
  | packet (port : Nat) (f : SentFrame)
  /-- A link frame resent on an Aksia port. -/
  | resend (port : Nat) (f : SentFrame)
  /-- Credits returned in a link frame of an Aksia port (10 R417). -/
  | credit (port : Nat) (c : LinkCredit)
  /-- The identity that a port sends in IDENT (10 R430). -/
  | ident (port : Nat) (m : IdentMsg)
  /-- An Ethernet frame sent on a port, from its destination address to the end of its payload. -/
  | eth (port : Nat) (frame : Bytes)
  /-- An AVSBus write of a rail's target voltage in mV (18 R654). -/
  | avs (rail mv : Nat)
  /-- An MDIO write of the PHY's advertisement in a clause, 22 or 45, to PHY_ADDR: 100BASE-TX alone when true (11 R447,
  R457). -/
  | mdio (clause phy : Nat) (only100 : Bool)
  /-- An MDIO read of the PHY's link status (11 R447). -/
  | mdioRead (clause phy : Nat)
  deriving DecidableEq, Repr

/-- What an arrival handed inside the device for a later command to take. -/
inductive Handed where
  | segment (strip : Nat) (sdu : Bytes)
  | answer (partition port : Nat) (sdu : Bytes)
  | ezith (path : EzPath) (sdu : Bytes)
  | omci (sdu : Bytes)
  | datagram (port : Nat) (address : BitVec 32) (udpPort : BitVec 16) (payload : Bytes)
  | igmp (port : Nat) (group : BitVec 32)
  | ptp (port : Nat) (bytes : Bytes)
  | keyRequest (r : KeyReq)
  | keyNack (tag : BitVec 16)
  | keyPage (tag : BitVec 16) (offset : Nat) (bytes : Bytes) (last : Bool)
  | mirror (device : BitVec 16) (partition : Byte) (tenant : BitVec 32) (beat phase : Nat) (strips : List MirrorStrip) (pages : Bytes)
  | mirrorAck (device : BitVec 16) (partition : Byte) (beat : Nat)
  deriving DecidableEq, Repr

end Sys2Proof
end

