-- ==== Sys2Proof/Syntax.lean ====
section
/-! DEFINITION. The commands of the ZX4: one constructor for each row of the table of commands, with its operands.
An operand `e` is the moment of the command: graticule-clock cycles since the current tick's edge (02 R37). -/

namespace Sys2Proof

/-- The commands, in the table's order. -/
inductive Instr where
  /-- TICK_EDGE (R33): A tick edge occurs, from the source or generated by the graticule itself when e reaches T, closing and opening windows and readying tick waits. -/
  | tickEdge (spacing : Nat)
  /-- GRATICULE_STEP (R53): At the source's next tick edge after a step is decided, the graticule adopts the source tick number, skips the local ticks between and becomes LOCKED. -/
  | graticuleStep (source : SourceEdge)
  /-- DWELL_END (R53): A dwell ends when the source's edge for the next local tick arrives; the graticule becomes LOCKED and slews any residue. -/
  | dwellEnd (e : Nat) (source : TickNo)
  /-- FABRIC_UPDATE_TIMEOUT (R48): Eight ticks pass without a valid TIME-class update, and the FABRIC source is lost. -/
  | fabricUpdateTimeout (e : Nat)
  /-- HOLDOVER_LIMIT (R50): The 8,000th tick edge generated in holdover is reached, and the graticule becomes ADRIFT. -/
  | holdoverLimit (e : Nat)
  /-- SPLIT_COMPARISON (R57): Every 8 ticks a non-datum device on PON compares its stamp with fabric time, records SPLIT_LAST and judges GRATICULE_SPLIT. -/
  | splitComparison (e : Nat) (fabric : Stamp)
  /-- ADD (R66): Adds two general registers. -/
  | add (q : QuadAt)
  /-- SUB (R66): Subtracts two general registers. -/
  | sub (q : QuadAt)
  /-- AND (R66): Bitwise AND of two general registers. -/
  | and_ (q : QuadAt)
  /-- OR (R66): Bitwise OR of two general registers. -/
  | or_ (q : QuadAt)
  /-- XOR (R66): Bitwise XOR of two general registers. -/
  | xor_ (q : QuadAt)
  /-- SLL (R66): Shifts left logically by gs2[4:0]. -/
  | sll (q : QuadAt)
  /-- SRL (R66): Shifts right logically by gs2[4:0]. -/
  | srl (q : QuadAt)
  /-- SRA (R66): Shifts right arithmetically by gs2[4:0]. -/
  | sra (q : QuadAt)
  /-- SLT (R66): Sets 1 when gs1 is less than gs2, signed. -/
  | slt (q : QuadAt)
  /-- SLTU (R66): Sets 1 when gs1 is less than gs2, unsigned. -/
  | sltu (q : QuadAt)
  /-- MUL (R66): Writes the low 32 bits of the product. -/
  | mul (q : QuadAt)
  /-- MULH (R66): Writes bits [63:32] of the signed product. -/
  | mulh (q : QuadAt)
  /-- MULHU (R66): Writes bits [63:32] of the unsigned product. -/
  | mulhu (q : QuadAt)
  /-- ADDI (R66): Adds a sign-extended immediate. -/
  | addi (q : QuadAt)
  /-- ANDI (R66): ANDs a zero-extended immediate. -/
  | andi (q : QuadAt)
  /-- ORI (R66): ORs a zero-extended immediate. -/
  | ori (q : QuadAt)
  /-- XORI (R66): XORs a zero-extended immediate. -/
  | xori (q : QuadAt)
  /-- SLTI (R66): Sets 1 when gs1 is less than the sign-extended immediate. -/
  | slti (q : QuadAt)
  /-- SLLI (R66): Shifts left logically by imm[4:0]. -/
  | slli (q : QuadAt)
  /-- SRLI (R66): Shifts right logically by imm[4:0]. -/
  | srli (q : QuadAt)
  /-- SRAI (R66): Shifts right arithmetically by imm[4:0]. -/
  | srai (q : QuadAt)
  /-- LUI (R66): Loads the immediate shifted left by 16. -/
  | lui (q : QuadAt)
  /-- LB (R72): Loads a sign-extended byte, forwarding from the store buffer or waiting for overlapping entries to drain. -/
  | lb (q : QuadAt)
  /-- LH (R72): Loads a sign-extended halfword, with forwarding and alignment check. -/
  | lh (q : QuadAt)
  /-- LW (R72): Loads a word, with forwarding and alignment check. -/
  | lw (q : QuadAt)
  /-- LBU (R72): Loads a zero-extended byte. -/
  | lbu (q : QuadAt)
  /-- LHU (R72): Loads a zero-extended halfword. -/
  | lhu (q : QuadAt)
  /-- SB (R70): Stores a byte through the store buffer, waiting when it is full. -/
  | sb (q : QuadAt)
  /-- SH (R70): Stores a halfword through the store buffer. -/
  | sh (q : QuadAt)
  /-- SW (R70): Stores a word through the store buffer. -/
  | sw (q : QuadAt)
  /-- BEQ (R66): Branches when the registers are equal. -/
  | beq (q : QuadAt)
  /-- BNE (R66): Branches when the registers differ. -/
  | bne (q : QuadAt)
  /-- BLT (R66): Branches when gs1 is less than gs2, signed. -/
  | blt (q : QuadAt)
  /-- BGE (R66): Branches when gs1 is at least gs2, signed. -/
  | bge (q : QuadAt)
  /-- BLTU (R66): Branches when gs1 is less than gs2, unsigned. -/
  | bltu (q : QuadAt)
  /-- BGEU (R66): Branches when gs1 is at least gs2, unsigned. -/
  | bgeu (q : QuadAt)
  /-- JAL (R66): Jumps PC-relative and links. -/
  | jal (q : QuadAt)
  /-- JALR (R66): Jumps to a register plus offset and links. -/
  | jalr (q : QuadAt)
  /-- FENCE (R75): Waits until the store buffer is empty and/or every earlier unit command has completed. -/
  | fence (q : QuadAt)
  /-- CSRR (R64): Reads a control register, trapping on an unknown number. -/
  | csrr (q : QuadAt)
  /-- CSRW (R64): Writes SLOTREG, trapping on any other control register. -/
  | csrw (q : QuadAt)
  /-- SEND (R74): Sends the 64-byte message at gs1 into the outbound buffer, waiting for overlapping stores and for room. -/
  | send (q : QuadAt)
  /-- RECV (R74): Pops a queue into data memory, or returns EMPTY. -/
  | recv (q : QuadAt)
  /-- RECVW (R89): Pops a queue, making the slot WAITING while the queue is empty. -/
  | recvw (q : QuadAt)
  /-- QLEN (R66): Returns the depth of a queue. -/
  | qlen (q : QuadAt)
  /-- ARM (R86): Arms a slot on a queue, or records a pending arming for the running slot. -/
  | arm (q : QuadAt)
  /-- ARMT (R87): Arms a slot on a tick, or records a pending arming for the running slot. -/
  | armt (q : QuadAt)
  /-- CANCEL (R90): Cancels a slot, deferred to the next stop for the running slot. -/
  | cancel (q : QuadAt)
  /-- YIELD (R89): Returns the running slot to READY. -/
  | yield (q : QuadAt)
  /-- DONE (R89): Ends the task, re-arming by a pending arming or a persistent queue, or idling the slot. -/
  | done (q : QuadAt)
  /-- RDT (R94): Latches the retire stamp and returns its low tick bits. -/
  | rdt (q : QuadAt)
  /-- RDTH (R94): Returns the high tick bits and sub-tick of the latched stamp. -/
  | rdth (q : QuadAt)
  /-- WAITT (R87): Makes the running slot WAITING on a tick. -/
  | waitt (q : QuadAt)
  /-- CMD (R76): Copies a 32-byte descriptor into a unit's command queue with a completion spec, waiting while it is full. -/
  | cmd (q : QuadAt)
  /-- UWAIT (R66): Waits until a unit has no command queued or running. -/
  | uwait (q : QuadAt)
  /-- USTAT (R66): Returns the commands queued or running at a unit. -/
  | ustat (q : QuadAt)
  /-- TRAP (R69): Traps with cause SOFTWARE, halting the quad and raising SHEET_TRAP. -/
  | trap (q : QuadAt)
  /-- ILLEGAL_INSTRUCTION (R66): An undefined op, fn or unit number traps with cause ILLEGAL. -/
  | illegalInstruction (q : QuadAt)
  /-- STORE_BUFFER_DRAIN (R71): The oldest store-buffer entry drains to memory in a cycle in which its port is free. -/
  | storeBufferDrain (q : QuadAt)
  /-- MESSAGE_DELIVERY (R84): A message is pushed into a destination queue, or refused and offered again next cycle. -/
  | messageDelivery (e cyc : Nat) (src : MsgSource)
  /-- TASK_DISPATCH (R88): With no slot running, the lowest-numbered READY slot is dispatched. -/
  | taskDispatch (q : QuadAt)
  /-- LANE_COMMAND (R123): A lane command starts: kernel and stream table are checked, then the kernel runs COUNT iterations and writes the flag word. -/
  | laneCommand (q : QuadAt)
  /-- LANE_NOP (R127): Lane no-op. -/
  | laneNop (q : QuadAt) (a : LaneArgs)
  /-- LANE_LD (R122): Loads each lane's stream element into vd. -/
  | laneLd (q : QuadAt) (a : LaneArgs)
  /-- LANE_ST (R129): Stores va to each lane's stream element. -/
  | laneSt (q : QuadAt) (a : LaneArgs)
  /-- LANE_MOVI (R136): Moves an immediate converted to TYPE. -/
  | laneMovi (q : QuadAt) (a : LaneArgs)
  /-- LANE_MOV (R127): Copies va to vd. -/
  | laneMov (q : QuadAt) (a : LaneArgs)
  /-- LANE_ADD (R131): Adds, saturating or rounding by type. -/
  | laneAdd (q : QuadAt) (a : LaneArgs)
  /-- LANE_SUB (R131): Subtracts by type rules. -/
  | laneSub (q : QuadAt) (a : LaneArgs)
  /-- LANE_MUL (R131): Multiplies by type rules. -/
  | laneMul (q : QuadAt) (a : LaneArgs)
  /-- LANE_MAC (R131): Multiply-accumulates into vd. -/
  | laneMac (q : QuadAt) (a : LaneArgs)
  /-- LANE_MIN (R132): Minimum of two operands. -/
  | laneMin (q : QuadAt) (a : LaneArgs)
  /-- LANE_MAX (R132): Maximum of two operands. -/
  | laneMax (q : QuadAt) (a : LaneArgs)
  /-- LANE_ABS (R131): Absolute value. -/
  | laneAbs (q : QuadAt) (a : LaneArgs)
  /-- LANE_NEG (R131): Negation. -/
  | laneNeg (q : QuadAt) (a : LaneArgs)
  /-- LANE_SHL (R131): Shifts left by IMM[4:0], saturating. -/
  | laneShl (q : QuadAt) (a : LaneArgs)
  /-- LANE_SHR (R131): Shifts right arithmetically. -/
  | laneShr (q : QuadAt) (a : LaneArgs)
  /-- LANE_AND (R131): Bitwise AND at type width. -/
  | laneAnd (q : QuadAt) (a : LaneArgs)
  /-- LANE_OR (R131): Bitwise OR at type width. -/
  | laneOr (q : QuadAt) (a : LaneArgs)
  /-- LANE_XOR (R131): Bitwise XOR at type width. -/
  | laneXor (q : QuadAt) (a : LaneArgs)
  /-- LANE_CVT (R136): Converts va from TYPE to TYPE2. -/
  | laneCvt (q : QuadAt) (a : LaneArgs)
  /-- LANE_CEQ (R128): Compares equal into a mask register. -/
  | laneCeq (q : QuadAt) (a : LaneArgs)
  /-- LANE_CLT (R128): Compares less-than into a mask register. -/
  | laneClt (q : QuadAt) (a : LaneArgs)
  /-- LANE_CLE (R128): Compares less-or-equal into a mask register. -/
  | laneCle (q : QuadAt) (a : LaneArgs)
  /-- LANE_SEL (R127): Selects va or vb by mask in every active lane. -/
  | laneSel (q : QuadAt) (a : LaneArgs)
  /-- LANE_MAND (R127): ANDs two mask registers. -/
  | laneMand (q : QuadAt) (a : LaneArgs)
  /-- LANE_MOR (R127): ORs two mask registers. -/
  | laneMor (q : QuadAt) (a : LaneArgs)
  /-- LANE_MNOT (R127): Inverts a mask register. -/
  | laneMnot (q : QuadAt) (a : LaneArgs)
  /-- LANE_XSUM (R135): Sums va over executing lanes. -/
  | laneXsum (q : QuadAt) (a : LaneArgs)
  /-- LANE_XMAX (R127): Maximum of va over executing lanes. -/
  | laneXmax (q : QuadAt) (a : LaneArgs)
  /-- LANE_XMIN (R127): Minimum of va over executing lanes. -/
  | laneXmin (q : QuadAt) (a : LaneArgs)
  /-- LANE_SETQ (R134): Sets the lane modulus q. -/
  | laneSetq (q : QuadAt) (a : LaneArgs)
  /-- LANE_MADD (R134): Modular addition. -/
  | laneMadd (q : QuadAt) (a : LaneArgs)
  /-- LANE_MSUB (R134): Modular subtraction. -/
  | laneMsub (q : QuadAt) (a : LaneArgs)
  /-- LANE_MMUL (R134): Modular multiplication. -/
  | laneMmul (q : QuadAt) (a : LaneArgs)
  /-- LANE_MMAC (R134): Modular multiply-accumulate. -/
  | laneMmac (q : QuadAt) (a : LaneArgs)
  /-- LANE_LANEID (R127): Writes the lane number. -/
  | laneLaneid (q : QuadAt) (a : LaneArgs)
  /-- LANE_ITER (R127): Writes the iteration number. -/
  | laneIter (q : QuadAt) (a : LaneArgs)
  /-- COPY (R105): Block mover copies LENGTH bytes between global addresses. -/
  | copy (q : QuadAt)
  /-- GATHER (R106): Block mover gathers listed records contiguously. -/
  | gather (q : QuadAt)
  /-- SCATTER (R106): Block mover scatters contiguous records to listed addresses. -/
  | scatter (q : QuadAt)
  /-- ZERO (R105): Block mover zeroes LENGTH bytes. -/
  | zero (q : QuadAt)
  /-- CIM_LOAD (R143): Loads weights into CIM arrays and computes benchmark reference sums. -/
  | cimLoad (q : QuadAt)
  /-- DOT (R145): Runs input vectors through CIM arrays as dot products, with zero-pair skipping. -/
  | dot (q : QuadAt)
  /-- HAD (R145): Runs Hadamard-style products through CIM arrays. -/
  | had (q : QuadAt)
  /-- BENCH (R158): Runs one benchmark pass on the named arrays as a unit-2 command. -/
  | bench (q : QuadAt)
  /-- BENCH_SLOT_PASS (R161): At the first idle cycle of unit 2 within a BENCH slot, a benchmark pass runs. -/
  | benchSlotPass (q : QuadAt) (record : Nat)
  /-- BENCH_SLOT_MISSED (R163): A BENCH slot closes with unit 2 never idle, counting BENCH_MISSED. -/
  | benchSlotMissed (q : QuadAt) (record : Nat)
  /-- FWD (R176): NTT unit transforms limbs from COEF to EVAL form. -/
  | fwd (q : QuadAt)
  /-- INV (R176): NTT unit transforms limbs from EVAL to COEF form, scaled by 1/N. -/
  | inv (q : QuadAt)
  /-- AUTOMORPHISM_EVAL (R179): Permutes limbs in EVAL form by a Galois element. -/
  | automorphismEval (q : QuadAt)
  /-- AUTOMORPHISM_COEF (R180): Permutes and negates limbs in COEF form by a Galois element. -/
  | automorphismCoef (q : QuadAt)
  /-- BEXT (R185): Extends slices of limbs to new primes. -/
  | bext (q : QuadAt)
  /-- KMAC (R206): Multiplies a digit slice by key limbs, expanding the a-half, after waiting for the page's landing. -/
  | kmac (q : QuadAt)
  /-- EXPAND (R207): Writes the expanded a-half of a key limb. -/
  | expand (q : QuadAt)
  /-- KFETCH (R192): Opens a fetch-table entry and sends a KEY request to the first vault, waiting while the table is full. -/
  | kfetch (q : QuadAt)
  /-- UNIT_COMMAND_COMPLETE (R97): A unit command completes and, with NOTIFY, pushes a completion message. -/
  | unitCommandComplete (q : QuadAt) (unit : Nat)
  /-- KEY_REQUEST_RECEIVED (R212): A vault takes a KEY request, queuing it or answering NACK. -/
  | keyRequestReceived (e : Nat) (r : KeyReq)
  /-- VAULT_PAGE_SEND (R210): A vault sends the next page in service order while credits allow. -/
  | vaultPageSend (e : Nat)
  /-- KEY_PAGE_LANDING (R196): A key page is written in full to DST, closing its entry or re-requesting on mismatch. -/
  | keyPageLanding (q : QuadAt) (tag : BitVec 16) (page : Bytes)
  /-- KEY_RETRY (R199): An open entry reaches NEED plus KEY_RETRY_TICKS and is requested again from the next vault. -/
  | keyRetry (q : QuadAt) (tag : BitVec 16)
  /-- KEY_NACK (R200): A NACK from a vault sends the re-request to the next unasked vault. -/
  | keyNack (q : QuadAt) (tag : BitVec 16)
  /-- KEY_CREDIT_SEND (R420): The requesting device sends 4 KiB KEY credits to the vault at the partition's KEY rate. -/
  | keyCreditSend (e : Nat) (partition : Nat) (vault : BitVec 16)
  /-- POINT_OPEN (R223): A bearing point opens: record block written, tagged, entry taken and query accepted or held. -/
  | pointOpen (e : Nat) (partition point beat : Nat)
  /-- BEARING_ANSWER (R237): An authenticated bearing answer lands and resolves, or waits ANSWERED, or is stray or malformed. -/
  | bearingAnswer (e : Nat) (partition : Nat)
  /-- PENCIL_BUDGET (R241): The pencil budget window closes with the bearing unresolved, which pauses it and erases younger work. -/
  | pencilBudget (e : Nat) (partition entry : Nat)
  /-- BEARING_TIMEOUT (R243): The 400-tick bearing window closes without an answer and the declared route is taken as DEFAULTED. -/
  | bearingTimeout (e : Nat) (partition entry : Nat)
  /-- GAZ_COUNT_INTERVAL (R251): At each 2^GAZ_REVISION_LOG2 tick the gazetteer counts are written and restarted. -/
  | gazCountInterval (e : Nat)
  /-- BEAT_OPENING (R268): A partition's beat opens: strips fed, sessions started or ended, points scheduled and rolling writes applied. -/
  | beatOpening (e : Nat) (partition : Nat)
  /-- CHECKPOINT_COMPLETE (R299): A checkpoint's last page is written and it is sent to the buddy. -/
  | checkpointComplete (e : Nat) (partition : Nat)
  /-- MIRROR_WRITE (R299): The buddy writes a received checkpoint into its mirror slots and acknowledges it. -/
  | mirrorWrite (e : Nat) (device : BitVec 16) (partition : Byte) (tenant : BitVec 32) (beat phase : Nat) (strips : List MirrorStrip) (pages : Bytes)
  /-- MIRROR_ACK (R300): A mirror acknowledgement lands, updating MIRROR_BEAT. -/
  | mirrorAck (e : Nat) (partition : Nat) (beat : Nat)
  /-- PARTITION_HALT (R304): At the raise stamp plus 1 sub-tick a partition halts for recovery, discarding its work. -/
  | partitionHalt (e : Nat) (partition : Nat)
  /-- PARTITION_RESTART (R307): After reload and restore, the partition restarts at the checkpoint beat and replays. -/
  | partitionRestart (e : Nat) (partition : Nat)
  /-- STALL_WATCHDOG (R316): The 16-tick watchdog window closes with work pending and raises PARTITION_STALL. -/
  | stallWatchdog (e : Nat) (partition : Nat)
  /-- SHEET_LOAD (R109): The surveyor core loads a sheet container into a quad or rejects it. -/
  | sheetLoad (e : Nat) (partition logical : Nat)
  /-- RUN (R264): A commit of RUN starts loading a STOPPED partition or stops a partition. -/
  | run (e : Nat) (partition : Nat) (value : Bool)
  /-- ABORT (R288): A write of a slot mask aborts the named sessions of a strip. -/
  | abort_ (e : Nat) (strip : Nat) (mask : BitVec 64)
  /-- HANDOVER (R313): A write of 1 halts the partition and hands its strips to the buddy. -/
  | handover (e : Nat) (partition : Nat)
  /-- PSBD_RECEIVED (R320): A downstream PSBd arrives and moves delineation, giving its count to the graticule. -/
  | psbdReceived (e : Nat) (psyncErrors : Nat) (hecOk : Bool) (count : BitVec 51)
  /-- XGEM_FRAME_RECEIVED (R343): A downstream XGEM frame is decrypted and handed to its binding or discarded. -/
  | xgemFrameReceived (e : Nat) (port keyIndex : Nat) (corrected : Nat) (lost : List Nat) (counter : BitVec 128) (payload : Bytes)
  /-- BURST_PROFILE (R336): Stores a burst profile and moves O1.2 to O2-3. -/
  | burstProfile (h : Ploam) (index : Nat) (preamble delimiter : Bytes) (fec : Bool)
  /-- ASSIGN_ONU_ID (R336): Takes the ONU-ID and default Alloc-ID and moves O2-3 to O4. -/
  | assignOnuId (h : Ploam) (serial : Bytes) (onuId : BitVec 10)
  /-- RANGING_TIME (R332): Applies the equalisation delay and moves O4 to O5. -/
  | rangingTime (h : Ploam) (eqdNs : Int) (relative : Bool)
  /-- DEACTIVATE_ONU_ID (R336): Releases the ONU-ID and Alloc-IDs and moves O5 to O2-3. -/
  | deactivateOnuId (h : Ploam)
  /-- DISABLE_SERIAL_NUMBER (R326): Enters O7 on disable, or leaves it to O1.1 on enable. -/
  | disableSerialNumber (h : Ploam) (serial : Option Bytes) (enable : Bool)
  /-- REQUEST_REGISTRATION (R336): Sends Registration. -/
  | requestRegistration (h : Ploam)
  /-- ASSIGN_ALLOC_ID (R340): Adds or removes an Alloc-ID, refusing a 33rd. -/
  | assignAllocId (h : Ploam) (allocId : Nat) (remove : Bool)
  /-- KEY_CONTROL (R336): Generates or confirms a unicast key and replies with Key_Report. -/
  | keyControl (h : Ploam) (keyIndex : Nat) (confirm : Bool)
  /-- SLEEP_ALLOW (R336): Sets SLEEP_ALLOWED, or wakes the terminal when sleep is forbidden in a reception. -/
  | sleepAllow (h : Ploam) (allowed : Bool)
  /-- PLOAM_UNSUPPORTED (R337): An unknown PLOAM type is acknowledged with the unknown-message code. -/
  | ploamUnsupported (h : Ploam) (type : Byte)
  /-- OMCI_MESSAGE (R339): An OMCI message is executed on a supported entity or refused. -/
  | omciMessage (e : Nat) (m : Omci)
  /-- MIB_RESET (R339): Removes every OMCI-created port and T-CONT. -/
  | mibReset (e : Nat) (micOk : Bool) (tci : BitVec 16)
  /-- TIME_OF_DAY_SET (R354): A Set of the OLT-G time of day writes TOD_REF_STAMP and TOD_REF_VALUE. -/
  | timeOfDaySet (e : Nat) (micOk : Bool) (tci : BitVec 16) (sequence : BitVec 32) (timestamp : Bytes)
  /-- TO1_EXPIRY (R325): TO1 expires in O4 and the terminal returns to O1.1. -/
  | to1Expiry (e : Nat)
  /-- TO2_EXPIRY (R325): TO2 expires in O6 and the terminal returns to O1.1. -/
  | to2Expiry (e : Nat)
  /-- ACTIVATION_BACKOFF_END (R328): The back-off after failed attempts ends and O1.2 may be left. -/
  | activationBackoffEnd (e : Nat)
  /-- ALLOCATION (R346): A granted allocation is transmitted as a burst with DBRu and PLOAM, or skipped on overlap. -/
  | allocation (e : Nat) (a : Alloc)
  /-- ALLOCATION_FILL (R401): At the fill stamp the allocation's contents are chosen and items committed to the burst. -/
  | allocationFill (e : Nat) (a : Alloc)
  /-- BURST_OVERRUN (R349): The burst guard negates BURST_EN when it is held past its limit. -/
  | burstOverrun (e : Nat) (heldNs : Nat)
  /-- OPTICS_POLL (R351): Every 8,000 ticks the SFF-8472 diagnostics and flags are read. -/
  | opticsPoll (e : Nat) (reading : Option Bytes)
  /-- WATCHFUL_SLEEP_RECEPTION (R357): The receiver wakes once per rx-off interval to take count and phase and check for wake. -/
  | watchfulSleepReception (e : Nat) (count : Option (BitVec 51)) (forcedWake : Bool)
  /-- SEGMENT_RECEIVED (R365): A frame segment arrives, is policed and assembled into a ring slot. -/
  | segmentReceived (e : Nat) (strip : Nat) (sdu : Bytes)
  /-- ASSEMBLY_TIMEOUT (R368): No segment arrives for ASSEMBLY_TICKS and the frame being assembled is discarded. -/
  | assemblyTimeout (e : Nat) (target : AsmTarget)
  /-- ANSWER_SEGMENT (R376): An ANSWER frame segment is assembled in the service region, checked and passed to bearings. -/
  | answerSegment (e : Nat) (partition port : Nat) (sdu : Bytes)
  /-- ITEM_ENTRY (R385): A taken result enters the upstream scheduler once untagged, in order and with store room. -/
  | itemEntry (e : Nat) (partition : Nat)
  /-- UDP_DATAGRAM_RECEIVED (R408): A downstream UDP datagram is matched to a binding or discarded. -/
  | udpDatagramReceived (e : Nat) (port : Nat) (address : BitVec 32) (udpPort : BitVec 16) (fragment : Bool) (payload : Bytes)
  /-- IGMP_QUERY (R407): An IGMP query for a bound group is answered. -/
  | igmpQuery (e : Nat) (port : Nat) (group : BitVec 32)
  /-- LOCAL_PORT_TRANSMIT (R409): A session segment is handed to a local port's transmit queue when the MAC can accept it. -/
  | localPortTransmit (e : Nat) (port : Nat)
  /-- PACKET_RECEIVED (R422): An Aksia packet arrives and is consumed or forwarded on its route. -/
  | packetReceived (e : Nat) (port corrected : Nat) (f : LinkFrame)
  /-- LINK_FRAME_RETRANSMIT (R416): A link frame failing its CRC is resent with every later frame. -/
  | linkFrameRetransmit (e : Nat) (port : Nat) (seq : BitVec 12)
  /-- PORT_ATTEMPT (R429): A port attempt runs from DETECT and succeeds on UP within 800 ticks or fails into back-off. -/
  | portAttempt (e : Nat) (port : Nat) (phase : PortPhase)
  /-- PORT_ATTEMPT_TIMEOUT (R429): An attempt fails when 800 ticks pass without UP. -/
  | portAttemptTimeout (e : Nat) (port : Nat)
  /-- PORT_BACKOFF_END (R429): The back-off ends and the port returns to DETECT. -/
  | portBackoffEnd (e : Nat) (port : Nat)
  /-- IDENT (R430): Identity exchange succeeds or fails as miscabled. -/
  | ident (e : Nat) (port : Nat) (peer : IdentMsg) (times : DelayTimes)
  /-- PORT_DOWN (R431): An UP port loses a lane or retrains too often and goes to DETECT. -/
  | portDown (e : Nat) (port : Nat) (lanesLost : Bool)
  /-- LINK_STATE (R424): A LINK_STATE notice is flooded or forwarded and updates the link map. -/
  | linkState (e : Nat) (port : Nat) (device : BitVec 16) (direction : Nat) (up : Bool) (seq : BitVec 16)
  /-- EYE_MEASUREMENT (R432): Once per tick each lane's eye height is measured and checked against EYE_WARN_MV. -/
  | eyeMeasurement (e : Nat) (port : Nat) (eyesMv : List Nat)
  /-- DELAY_EXCHANGE (R434): Every 1,024 ticks the ends of a port exchange delay messages. -/
  | delayExchange (e : Nat) (port : Nat) (t1 t2 t3 t4 : Int)
  /-- DATUM_CLAIM (R436): At each tick edge a device sends its best claim and chooses its upstream. -/
  | datumClaim (e : Nat)
  /-- UPDATE (R438): A TIME update from the upstream is accepted, corrected and forwarded. -/
  | update (e : Nat) (port : Nat) (tick : TickNo) (state : Byte) (correction residence : Nat)
  /-- HEARTBEAT_SEND (R440): Once per heartbeat period a heartbeat goes to each buddy. -/
  | heartbeatSend (e : Nat)
  /-- HEARTBEAT_RECEIVED (R442): A heartbeat lands, is acknowledged and updates watching or triggers takeover. -/
  | heartbeatReceived (e : Nat) (device : BitVec 16) (running handover : BitVec 64) (fenced : Bool)
  /-- HEARTBEAT_ACK (R441): A heartbeat acknowledgement lands from a buddy. -/
  | heartbeatAck (e : Nat) (device : BitVec 16)
  /-- FENCE_TIMEOUT (R441): After 12 periods without acknowledgement the device fences its partitions. -/
  | fenceTimeout (e : Nat) (device : BitVec 16)
  /-- BUDDY_LOSS_TIMEOUT (R442): After 16 periods without a heartbeat the holder takes over. -/
  | buddyLossTimeout (e : Nat) (holder : Nat)
  /-- TAKEOVER (R444): The holder takes over the peer's strips from the mirror and replays. -/
  | takeover (e : Nat) (holder : Nat)
  /-- ETH_FRAME_RECEIVED (R448): An Ethernet frame is received, untagged, checked and accepted or discarded. -/
  | ethFrameReceived (e : Nat) (port : Nat) (fcsOk : Bool) (frame : Bytes)
  /-- ARP_REQUEST_SEND (R453): ARP requests are sent every 8 ticks while a next hop is unresolved. -/
  | arpRequestSend (e : Nat) (port : Nat) (ip : BitVec 32)
  /-- ARP_REFRESH (R453): A resolved entry is refreshed every 480,000 ticks. -/
  | arpRefresh (e : Nat) (port : Nat) (ip : BitVec 32)
  /-- MDIO_POLL (R447): Every 80 ticks the PHY link status is read. -/
  | mdioPoll (e : Nat) (status : Option Bool)
  /-- SPEED_JUDGEMENT (R456): At each tick edge the MGMT MAC judges whether to lower or raise its speed. -/
  | speedJudgement (e : Nat)
  /-- WAKE_MATCH (R461): In dormant a frame matching the magic packet or pattern is a wake event. -/
  | wakeMatch (e : Nat) (port : Nat) (fcsOk : Bool) (frame : Bytes)
  /-- ANNOUNCE (R463): A PTP Announce is taken into master selection. -/
  | announce (e : Nat) (a : AnnounceMsg)
  /-- SYNC (R464): A PTP Sync is timestamped for an offset measurement. -/
  | sync (e : Nat) (port : Nat) (sender : SyncFrom) (t1 t2 : Int)
  /-- DELAY_RESP (R464): A PTP Delay_Resp completes an offset measurement and moves PTP state. -/
  | delayResp (e : Nat) (t3 t4 : Int)
  /-- PTP_TIMEOUT (R465): Missing Announce or Sync intervals return PTP to LISTENING. -/
  | ptpTimeout (e : Nat)
  /-- ED25519_VERIFY (R467): Submits an Ed25519 verify job. -/
  | ed25519Verify (e : Nat) (record : Nat) (input : Bytes)
  /-- P256_VERIFY (R467): Submits an ECDSA P-256 verify job. -/
  | p256Verify (e : Nat) (record : Nat) (input : Bytes)
  /-- P384_VERIFY (R467): Submits an ECDSA P-384 verify job. -/
  | p384Verify (e : Nat) (record : Nat) (input : Bytes)
  /-- RSA_VERIFY (R467): Submits an RSA verify job. -/
  | rsaVerify (e : Nat) (record : Nat) (input : Bytes)
  /-- MLDSA65_VERIFY (R467): Submits an ML-DSA-65 verify job. -/
  | mldsa65Verify (e : Nat) (record : Nat) (input : Bytes)
  /-- AGREE (R483): Submits a key-agreement job that derives and installs a slot key. -/
  | agree (e : Nat) (record : Nat) (input : Bytes)
  /-- ATTEST (R482): Submits an attestation job over a nonce. -/
  | attest (e : Nat) (record : Nat) (input : Bytes)
  /-- JOB_FREE (R472): A write of OP 0 frees and zeroes a job record. -/
  | jobFree (e : Nat) (record : Nat)
  /-- JOB_START (R474): The free engine starts the lowest-class job. -/
  | jobStart (e : Nat)
  /-- YIELD_STATION (R475): At a yield station a running job is suspended for a lower-class job, or stopped if aborted. -/
  | yieldStation (e : Nat)
  /-- JOB_COMPLETE (R467): A job completes DONE or FAILED, installing a key for AGREE. -/
  | jobComplete (e : Nat) (retry : Bool)
  /-- JOB_ABORT (R478): A write aborts a job record's job. -/
  | jobAbort (e : Nat) (record : Byte)
  /-- KEY_OVERLAP_END (R488): The overlap window closes and the previous generation is zeroed. -/
  | keyOverlapEnd (e : Nat) (slot : Nat)
  /-- KEY_ERASE (R489): A write zeroes both generations of a slot and fails checks in progress. -/
  | keyErase (e : Nat) (value : Byte)
  /-- RAISE_FLOOR (R502): A write burns the security floor. -/
  | raiseFloor (e : Nat) (value : Byte)
  /-- REVOKE_KEYSET (R502): A write revokes a fused key set. -/
  | revokeKeyset (e : Nat) (value : Byte)
  /-- EZITH_REQUEST (R666): An Ezith message is header-checked, authenticated and sequence-judged, then its operations executed and a reply sent. -/
  | ezithRequest (e : Nat) (path : EzPath) (message : Bytes)
  /-- READ (R519): Returns bytes of an entry's value in force. -/
  | read (e : Nat) (path : EzPath) (index : BitVec 16) (sub : Byte) (offset length : Nat)
  /-- WRITE (R520): Writes an entry directly or stages it in the transaction. -/
  | write (e : Nat) (slot : Byte) (txn : BitVec 32) (index : BitVec 16) (sub : Byte) (setLength : Bool) (offset : Nat) (data : Bytes)
  /-- BEGIN (R521): Opens a transaction record. -/
  | begin_ (e : Nat) (slot : Byte)
  /-- COMMIT (R526): Requests a commit at tick T, making the transaction PENDING. -/
  | commit (e : Nat) (slot : Byte) (txn : BitVec 32) (tick : BitVec 64)
  /-- ROLLBACK (R533): Discards or reverts a transaction. -/
  | rollback (e : Nat) (slot : Byte) (txn : BitVec 32)
  /-- REGISTER_WRITE (R508): A write of an entry with no behaviour of its own is checked and takes effect. -/
  | registerWrite (e : Nat) (index : BitVec 16) (sub : Byte) (setLength : Bool) (offset : Nat) (data : Bytes)
  /-- COMMIT_JUDGEMENT (R527): At T:0 pending transactions are judged in order and applied or failed. -/
  | commitJudgement (e : Nat)
  /-- ROLLBACK_REVERT (R534): A committing transaction's writes revert, tick-atomic at the next edge and rolling per partition. -/
  | rollbackRevert (e : Nat) (record : Nat)
  /-- TXN_IDLE_ROLLBACK (R525): An OPEN transaction idle for TXN_IDLE_TICKS is rolled back. -/
  | txnIdleRollback (e : Nat) (record : Nat)
  /-- EVENT_SEND (R537): An EVENT message of queued records is sent to a subscriber. -/
  | eventSend (e : Nat) (subscriber : Nat)
  /-- EVENT_ACK (R537): An authenticated EVENT_ACK acknowledges the subscriber's message. -/
  | eventAck (e : Nat) (path : EzPath) (message : Bytes)
  /-- EVENT_RETRY (R537): An unacknowledged event message is resent every EVENT_RETRY_TICKS. -/
  | eventRetry (e : Nat) (subscriber : Nat)
  /-- CREATE (R551): An object port creates an object and reserves space. -/
  | create (e : Nat) (port : Nat) (kind : Byte) (object : BitVec 64) (size : BitVec 64)
  /-- SEAL (R555): An object port programs buffered bytes and seals the object after its checks. -/
  | seal (e : Nat) (port : Nat) (digest : Bytes)
  /-- OPEN (R551): An object port opens a sealed object for reading. -/
  | open_ (e : Nat) (port : Nat) (object : BitVec 64)
  /-- CLOSE (R550): An object port ends reading. -/
  | close (e : Nat) (port : Nat)
  /-- DELETE (R556): An object port deletes an object that is not in use. -/
  | delete (e : Nat) (port : Nat) (object : BitVec 64)
  /-- LOAD (R557): An object port copies object bytes into a partition's stack pages. -/
  | load (e : Nat) (port : Nat) (object : BitVec 64) (partition : Byte) (page : BitVec 32) (offset length : BitVec 64)
  /-- ARCHIVE (R557): An object port copies the newest checkpoint into a CKPT object. -/
  | archive (e : Nat) (port : Nat) (object : BitVec 64) (partition : Byte)
  /-- PORT_ABORT (R558): ABORT ends a port's operation, or finds it complete. -/
  | portAbort (e : Nat) (port : Nat)
  /-- PORT_OPERATION_COMPLETE (R559): A SEAL, DELETE, LOAD or ARCHIVE completes when its journal record is programmed. -/
  | portOperationComplete (e : Nat) (port : Nat)
  /-- PORT_DATA (R553): A write of PORT_DATA stores bytes at PORT_POS. -/
  | portData (e : Nat) (port : Nat) (data : Bytes)
  /-- PORT_POS (R554): A write of PORT_POS moves the read position. -/
  | portPos (e : Nat) (port : Nat) (pos : BitVec 64)
  /-- VAULT_KEY (R546): A write loads or unloads a key archive into stack pages. -/
  | vaultKey (e : Nat) (entry : Nat) (value : Bytes)
  /-- GAZ_PAGE (R249): Setting the gazetteer page initialises it. -/
  | gazPage (e : Nat) (partition : Nat) (page : BitVec 32)
  /-- GAZ_NEXT (R252): A committed slot image becomes the next epoch. -/
  | gazNext (e : Nat) (partition : Nat) (image : Bytes)
  /-- FLAVOUR (R319): A commit of FLAVOUR returns the terminal to HUNT and O1.1. -/
  | flavour (e : Nat) (value : Byte)
  /-- PTP_EPOCH_OFFSET (R36): A commit stores the offset and re-aligns a device whose source is PTP. -/
  | ptpEpochOffset (e : Nat) (value : BitVec 64)
  /-- JOURNAL_RECORD_PROGRAMMED (R571): A map change takes effect when its record is programmed in both copies. -/
  | journalRecordProgrammed (e : Nat)
  /-- PATROL_READ (R568): The patrol reads pages and refreshes parcels that need it. -/
  | patrolRead (e : Nat) (channel block : Nat) (bits : Nat) (retried : Bool) (last : Bool)
  /-- WEAR_RELOCATION (R562): Data of the lowest-count parcel moves to the highest-count free parcel. -/
  | wearRelocation (e : Nat) (channel : Nat)
  /-- PROGRAM_FAILURE (R563): A program or erase failure marks the block bad and moves its pages. -/
  | programFailure (e : Nat) (channel block : Nat)
  /-- CODEWORD_READ_RETRY (R566): A failing codeword is retried and soft-decoded, or declared lost. -/
  | codewordReadRetry (e : Nat) (channel : Nat) (object : BitVec 64) (codeword : Nat) (recovered : Bool)
  /-- EWARN_STOP (R572): On EWARN the cadastre completes running operations and programs a clean stop. -/
  | ewarnStop (e : Nat)
  /-- MOUNT (R573): The cadastre attaches targets and replays the journal. -/
  | mount (e : Nat) (targets : List Target)
  /-- VIN_QUALIFIED (R580): VIN in range for 10 ms moves the sentry from OFF to STARTING. -/
  | vinQualified (e : Nat)
  /-- START_COMPLETE (R581): The start completes and the sentry enters ON. -/
  | startComplete (e : Nat)
  /-- SENTRY_INRUSH_FAIL (R582): The inrush timer expires and the start fails into BACKOFF. -/
  | sentryInrushFail (e : Nat)
  /-- SENTRY_GATE_STUCK (R583): The gate fails to rise in time and the start fails. -/
  | sentryGateStuck (e : Nat)
  /-- SENTRY_SAMPLE (R575): Every 1 µs the sentry samples current, voltages and power and judges trips. -/
  | sentrySample (e : Nat) (sample : Sample)
  /-- SENTRY_OVERCURRENT (R584): Current above ILIMIT_MA for BREAKER_TIMER_US trips the output. -/
  | sentryOvercurrent (e : Nat)
  /-- SENTRY_OV (R584): VIN above OV_MV for 20 µs trips the output. -/
  | sentryOv (e : Nat)
  /-- SENTRY_UV (R584): VIN below UV_MV for 20 µs trips the output. -/
  | sentryUv (e : Nat)
  /-- TSNS_READING (R579): Every 1 ms the case temperature is read and anchors the thermal model. -/
  | tsnsReading (e : Nat) (reading : Option Int)
  /-- CONTROLLED_CUT (R585): A CUT raise asserts EWARN_N and cuts the gate after EWARN_LEAD_TICKS. -/
  | controlledCut (e : Nat)
  /-- EWARN_INPUT (R586): VIN below EWARN_MV for 20 µs asserts EWARN_N. -/
  | ewarnInput (e : Nat)
  /-- EWARN_NEGATE (R586): VIN above EWARN_MV + 1 V for 10 ms negates EWARN_N. -/
  | ewarnNegate (e : Nat)
  /-- SENTRY_BACKOFF_END (R588): The back-off ends and the sentry restarts or goes OFF. -/
  | sentryBackoffEnd (e : Nat)
  /-- SENTRY_FET_SHORT (R591): VOUT above 10 V for 10 ms with the gate off raises SENTRY_FET_SHORT. -/
  | sentryFetShort (e : Nat)
  /-- PIN_CONTENTION (R594): A pin in contention for 10 ms goes to high impedance. -/
  | pinContention (e : Nat) (pin : Nat)
  /-- PIN_TEST (R594): Every second a high-impedance pin is driven for 1 ms as a test. -/
  | pinTest (e : Nat) (pin : Nat) (contention : Bool)
  /-- HINT_CHANGE (R600): The loop raises the voltage at the hint lead or lowers it at the hint. -/
  | hintChange (q : QuadAt) (record : Nat) (lead : Bool)
  /-- DROOP (R601): Margin below DROOP_TRIP_MV halves the clock and adds 5 mV. -/
  | droop (q : DroopAt)
  /-- DROOP_RECOVERY (R601): After 256 cycles without droop the clock returns to target. -/
  | droopRecovery (q : QuadAt)
  /-- CALIBRATION_HOLE_END (R602): At the end of a used hole the sensors are zeroed and guarding ends. -/
  | calibrationHoleEnd (q : QuadAt) (record : Nat)
  /-- HOLE_STARVATION (R602): The starvation window closes unused and the quad is guarded. -/
  | holeStarvation (q : QuadAt)
  /-- THERMAL_SAMPLE (R604): Each µs a quad's temperature is judged for throttle and trip. -/
  | thermalSample (q : QuadAt) (tempC : Int)
  /-- DORMANT_ENTER (R605): A write of 1 begins dormant entry or is refused. -/
  | dormantEnter (e : Nat)
  /-- DORMANT_ENTRY_COMPLETE (R607): Entry completes and POWER_STATE becomes DORMANT. -/
  | dormantEntryComplete (e : Nat)
  /-- WAKE_AT (R608): The tick edge at WAKE_AT is a wake event. -/
  | wakeAt (e : Nat)
  /-- WAKE (R608): The first wake event of a dormant period starts WAKING. -/
  | wake (e : Nat)
  /-- WAKE_COMPLETE (R609): At w + 200 ticks POWER_STATE becomes RUNNING. -/
  | wakeComplete (e : Nat)
  /-- DEVICE_HALT (R617): At raise plus 1 sub-tick a HALT halts, hands over or stops every partition. -/
  | deviceHalt (e : Nat)
  /-- CLEAR (R622): A write clears the status of a source whose cause is gone. -/
  | clear (e : Nat) (value : BitVec 16)
  /-- INJECT (R629): A write inverts check bits of a word or CRCs of link frames. -/
  | inject (e : Nat) (record : Bytes)
  /-- SEVERITY (R614): A write sets a source's severity. -/
  | severity (e : Nat) (source : Byte) (value : Byte)
  /-- FAULT_LOG_PROGRAM (R626): Buffered fault records are programmed into both log copies. -/
  | faultLogProgram (e : Nat)
  /-- RAILS_IN_RANGE (R634): Every rail in range for 10 ms releases reset. -/
  | railsInRange (e : Nat)
  /-- BOOT_ROUND (R635): The ROM tries boot candidates and runs the first accepted. -/
  | bootRound (e : Nat) (answers : Bool)
  /-- BOOT_ROUND_BACKOFF_END (R636): After a failed round the back-off ends and a new round begins. -/
  | bootRoundBackoffEnd (e : Nat)
  /-- STACK_TRAINING_ATTEMPT (R638): A stack attempts training, retrying with back-off. -/
  | stackTrainingAttempt (e : Nat) (stack : Nat) (ok : Bool)
  /-- QUAD_CALIBRATION (R640): Each quad is calibrated at each clock to write its curve. -/
  | quadCalibration (e : Nat) (quad : BitVec 8) (passMv : List (Option Nat))
  /-- STARTUP_OBJECT_APPLY (R642): At CONFIG the start-up object is applied as one change or refused. -/
  | startupObjectApply (e : Nat)
  /-- LANE_SWEEP (R645): Starts a margin sweep of an UP port's lanes. -/
  | laneSweep (e : Nat) (command : Bytes)
  /-- STACK_SWEEP (R645): Starts a margin sweep of a stack interface. -/
  | stackSweep (e : Nat) (command : Bytes)
  /-- CORE_SWEEP (R645): Starts a calibration sweep of an unmapped quad. -/
  | coreSweep (e : Nat) (command : Bytes)
  /-- SWEEP_COMPLETE (R646): A sweep completes, writing its result and restoring settings. -/
  | sweepComplete (e : Nat) (result : Bytes)
  /-- SWEEP_ABORT (R647): A write ends the running sweep or finds it complete. -/
  | sweepAbort (e : Nat)
  /-- POWER_ON (R650): The VSB domain rises, service outputs go low, key slots, transactions and counters start empty, and start-up begins at stage SENTRY. -/
  | powerOn
  /-- PSBD_MISSING (R320): The expected PSBd position passes with no correct PSBd, moving delineation from SYNC to RE-SYNC and, at the third, to HUNT with loss of downstream sync. -/
  | psbdMissing (e : Nat)
  /-- ETH_LINK_CHANGE (R454): An Ethernet port's link goes down or up, updating LINK, stopping or resuming its session segments and PTP, and raising or clearing ETH_LINK_DOWN. -/
  | ethLinkChange (e : Nat) (port : Nat) (up : Bool) (speedMbps : BitVec 32)
  /-- VAULT_KEY_LOAD_COMPLETE (R546): Copying of a key archive into stack pages ends, and the VAULT_KEY state becomes loaded, or failed with its pages returned. -/
  | vaultKeyLoadComplete (e : Nat) (entry : Nat)
  /-- EXTEST (R661): The EXTEST debug instruction drives the boundary-scan lands, only in stage ROM before an image is accepted, and otherwise acts as BYPASS. -/
  | extest (cells : List (Nat × Bool))
  deriving DecidableEq, Repr

end Sys2Proof
end

