-- ==== Sys2Proof/Config.lean ====
section
/-! DEFINITION. What the spec leaves open and what the model does not compute: constants without a body, of which
nothing can be proved but that they are functions. Assumption log 2, 4 and 5. -/

namespace Sys2Proof

/-- Free values: the n-th value that the spec leaves open in a run, cut to the width it is needed at (log 2). -/
opaque Config.freeValue : Nat → Nat

/-- Entropy: the n-th draw of 32 octets from the entropy source (log 2). -/
opaque Config.entropy : Nat → Bytes

/-- The rounding of the tick filter of R38: 64ths of 1/256 cycle, from the old T and the spacing of two source edges,
taken mod 64 (log 4). -/
opaque Config.tickRound : Nat → Nat → Nat

/-- Payload and sign of a NaN result: the type code and the operands (log 10). -/
opaque Config.nanBits : Nat → Nat → Nat → Nat

/-- Result of modular arithmetic on operands or a modulus that 04 calls undefined: q and the operands (log 10). -/
opaque Config.freeResidue : Nat → Nat → Nat → Nat

/-- Ed25519 verification: public key, message, signature (log 5). -/
opaque Config.ed25519Verify : Bytes → Bytes → Bytes → Bool

/-- ECDSA P-256 with SHA-256: public key, message digest, signature (log 5). -/
opaque Config.p256Verify : Bytes → Bytes → Bytes → Bool

/-- ECDSA P-384: public key, message digest, signature (log 5). -/
opaque Config.p384Verify : Bytes → Bytes → Bytes → Bool

/-- RSA verification: job parameters, modulus, message digest, signature (log 5). -/
opaque Config.rsaVerify : Bytes → Bytes → Bytes → Bytes → Bool

/-- ML-DSA-65 verification: public key, message, signature (log 5). -/
opaque Config.mldsa65Verify : Bytes → Bytes → Bytes → Bool

/-- X25519: scalar, point (log 5). -/
opaque Config.x25519 : Bytes → Bytes → Bytes

/-- ML-KEM-768 encapsulation: encapsulation key and 32 octets of randomness; the ciphertext and the shared secret. -/
opaque Config.mlkemEncap : Bytes → Bytes → Bytes × Bytes

/-- Signature of the device's Ed25519 identity key over a message (log 5). -/
opaque Config.identityEd25519 : Bytes → Bytes

/-- Signature of the device's ML-DSA-65 identity key over a message (log 5). -/
opaque Config.identityMldsa65 : Bytes → Bytes

/-- SHA-384 of a message (log 5). -/
opaque Config.sha384 : Bytes → Bytes

/-- SHA-256 of a message (log 5). -/
opaque Config.sha256 : Bytes → Bytes

/-- The kind code of an Aksia packet in bits [7:3] of its CLASS octet, by class and kind (10 Table 10.2; log 21). -/
opaque Config.kindCode : Nat → Nat → Nat

/-- The 32-bit CRC of a link frame: its sequence number, header and payload (10 R416; log 21). -/
opaque Config.linkCrc : BitVec 12 → Bytes → BitVec 32

/-- DS_DELAY_NS where the value of 08 R333 does not fit its 32 bits (log 33). -/
opaque Config.dsDelayWide : Int → BitVec 32

/-- SPLIT_LAST where the difference does not fit its 32 bits (02 R57; log 51). -/
opaque Config.splitWide : Int → BitVec 32

/-- PTP_OFFSET_NS and PTP_MEAN_DELAY_NS where the value measured does not fit their 32 bits (11 R464; log 37). -/
opaque Config.ptpWide : Int → BitVec 32

/-- The counter block of an upstream XGEM frame: start of its allocation's transmission in ns, and the frame's place in
it (08 Table 8.1; the standard's construction is not in the spec, log 33). -/
opaque Config.upstreamCounter : Nat → Nat → Nat

/-- A received optical level as class 263 reports it, of the diagnostics' word in 0.1 µW (08 Table 8.5, log 33). -/
opaque Config.opticalLevel : Nat → BitVec 16

end Sys2Proof
end

