-- ==== Sys2Proof/Machine/Dict.lean ====
section
/-! DEFINITION. The Legend's dictionary: every entry the spec defines, with its type, access class, default, range
and commit class, from the entry tables of the chapters (13 R503, R504, R507). -/

namespace Sys2Proof.Machine

/-- Value types, 13 Table 13.1. -/
inductive LegTy where
  | bool
  | uint (bytes : Nat)
  | sint (bytes : Nat)
  | tick
  | fix
  /-- OCTETS(n) and TEXT(n). -/
  | oct (bytes : Nat)
  /-- BLOCK of a maximum size, fixed when the flag is set. -/
  | block (size : Nat) (fixed : Bool)
  deriving DecidableEq, Repr

/-- Access classes, 13 Table 13.2. -/
inductive LegAcc where
  | const | ro | rw | rws | wo
  deriving DecidableEq, Repr

/-- One row of the dictionary: subs from `lo` to `hi`, the default as a big-endian number, the ranges a numeric value
may take (none stated when empty), and whether the entry is rolling (13 R509). -/
structure LegRow where
  lo : Nat
  hi : Nat
  ty : LegTy
  acc : LegAcc
  dflt : Nat
  rng : List (Nat × Nat)
  rolling : Bool
  deriving DecidableEq, Repr

/-- Entries of index 0x1000. -/
def rows1000 : List LegRow := [
  ⟨0x00, 0x00, .oct 16, .const, 113421957519024621535907230801486413824, [], false⟩,  -- VENDOR
  ⟨0x01, 0x01, .oct 16, .const, 120011105277554315156029526394206683136, [], false⟩,  -- FAMILY
  ⟨0x02, 0x02, .uint 1, .const, 0, [], false⟩,  -- GRADE
  ⟨0x03, 0x03, .uint 1, .const, 0, [], false⟩,  -- COMPUTE_DIES
  ⟨0x04, 0x04, .uint 2, .const, 0, [], false⟩,  -- QUADS_FITTED
  ⟨0x05, 0x05, .uint 1, .const, 0, [], false⟩,  -- STACKS
  ⟨0x06, 0x06, .uint 8, .const, 0, [], false⟩,  -- STACK_BYTES
  ⟨0x07, 0x07, .uint 1, .const, 0, [], false⟩,  -- IO_DIES
  ⟨0x08, 0x08, .uint 1, .const, 0, [], false⟩,  -- AKSIA_PORTS
  ⟨0x09, 0x09, .uint 8, .const, 0, [], false⟩,  -- UNIQUE_ID
  ⟨0x0A, 0x0A, .uint 2, .const, 0, [], false⟩,  -- SILICON_STEP
  ⟨0x0B, 0x0B, .uint 4, .ro, 0, [], false⟩  -- FIRMWARE_VERSION
  ]

/-- Entries of index 0x2000. -/
def rows2000 : List LegRow := [
  ⟨0x00, 0x00, .tick, .ro, 0, [], false⟩,  -- NOW
  ⟨0x01, 0x01, .uint 1, .ro, 0, [], false⟩,  -- STATE
  ⟨0x02, 0x02, .uint 1, .ro, 0, [], false⟩,  -- SOURCE
  ⟨0x03, 0x03, .uint 1, .rws, 0, [(0, 1)], false⟩,  -- SOURCE_POLICY
  ⟨0x04, 0x04, .uint 1, .const, 8, [], false⟩,  -- LOCK_FRAMES
  ⟨0x05, 0x05, .uint 2, .const, 8000, [], false⟩,  -- HOLDOVER_LIMIT
  ⟨0x06, 0x06, .uint 2, .ro, 0, [], false⟩,  -- HOLDOVER_ELAPSED
  ⟨0x07, 0x07, .uint 4, .ro, 0, [], false⟩,  -- TICK_LENGTH
  ⟨0x08, 0x08, .sint 2, .ro, 0, [], false⟩,  -- SLEW_REMAINING
  ⟨0x09, 0x09, .uint 4, .ro, 0, [], false⟩,  -- STEP_COUNT
  ⟨0x0A, 0x0A, .uint 4, .ro, 0, [], false⟩,  -- DWELL_TICKS
  ⟨0x0B, 0x0B, .uint 4, .ro, 0, [], false⟩,  -- DS_DELAY_NS
  ⟨0x0C, 0x0C, .sint 4, .ro, 0, [], false⟩,  -- SPLIT_LAST
  ⟨0x0D, 0x0D, .uint 2, .const, 4096, [], false⟩,  -- SPLIT_LIMIT
  ⟨0x0E, 0x0E, .tick, .ro, 0, [], false⟩,  -- TOD_REF_STAMP
  ⟨0x0F, 0x0F, .oct 10, .ro, 0, [], false⟩,  -- TOD_REF_VALUE
  ⟨0x10, 0x10, .uint 8, .rws, 0, [], false⟩  -- PTP_EPOCH_OFFSET
  ]

/-- Entries of index 0x3000 to 0x303F. -/
def rows3000 : List LegRow := [
  ⟨0x00, 0x00, .uint 1, .ro, 0, [], false⟩,  -- STATE
  ⟨0x01, 0x01, .uint 4, .rws, 0, [], false⟩,  -- TENANT
  ⟨0x02, 0x02, .block 512 false, .rws, 0, [], false⟩,  -- QUAD_MAP
  ⟨0x03, 0x03, .uint 2, .rws, 0, [], false⟩,  -- STACK_PAGES
  ⟨0x04, 0x04, .uint 2, .rws, 0, [], false⟩,  -- STATE_FIRST
  ⟨0x05, 0x05, .uint 2, .rws, 0, [], false⟩,  -- STATE_COUNT
  ⟨0x06, 0x06, .uint 2, .rws, 0, [], false⟩,  -- CKPT_FIRST
  ⟨0x07, 0x07, .uint 2, .rws, 0, [(0, 639)], false⟩,  -- PHASE
  ⟨0x08, 0x08, .oct 32, .rws, (2 ^ 256 - 1), [], false⟩,  -- PEERS
  ⟨0x09, 0x09, .uint 2, .rws, 65535, [], false⟩,  -- BUDDY
  ⟨0x0A, 0x0A, .uint 8, .rws, 0, [], false⟩,  -- SHEET_OBJECT
  ⟨0x0B, 0x0B, .bool, .rws, 0, [(0, 1)], false⟩,  -- RUN
  ⟨0x0C, 0x0C, .uint 2, .rws, 640, [(64, 640)], false⟩,  -- REPLAY_PERIOD
  ⟨0x0D, 0x0D, .uint 2, .rws, 0, [], false⟩,  -- SESSION_QUOTA
  ⟨0x0E, 0x0E, .bool, .wo, 0, [(0, 1)], false⟩,  -- HANDOVER
  ⟨0x0F, 0x0F, .uint 4, .ro, 0, [], false⟩,  -- RECOVERIES
  ⟨0x10, 0x10, .block 64 true, .ro, 0, [], false⟩,  -- LAST_RECOVERY
  ⟨0x11, 0x11, .uint 2, .ro, 0, [], false⟩,  -- SHEET_COPY_PAGES
  ⟨0x12, 0x12, .uint 4, .ro, 0, [], false⟩,  -- STALLS
  ⟨0x13, 0x13, .uint 4, .rws, 4294967295, [], false⟩,  -- MIRROR_OF
  ⟨0x14, 0x14, .uint 2, .rws, 0, [], false⟩  -- MIRROR_FIRST
  ]

/-- Entries of index 0x4000 to 0x40FF. -/
def rows4000 : List LegRow := [
  ⟨0x00, 0x00, .uint 1, .ro, 0, [], false⟩,  -- STATE
  ⟨0x01, 0x01, .uint 1, .rws, 255, [(0, 63), (255, 255)], true⟩,  -- PARTITION
  ⟨0x02, 0x02, .uint 2, .rws, 2400, [(640, 8000)], false⟩,  -- STRIP_DEADLINE
  ⟨0x03, 0x03, .uint 1, .rws, 0, [(0, 1)], false⟩,  -- ROLE
  ⟨0x04, 0x04, .uint 4, .rws, 4294967295, [], false⟩,  -- PEER
  ⟨0x05, 0x05, .uint 8, .ro, 0, [], false⟩,  -- PRESENT
  ⟨0x06, 0x06, .uint 8, .ro, 0, [], false⟩,  -- BEAT
  ⟨0x07, 0x07, .uint 4, .ro, 0, [], false⟩,  -- RSEQ
  ⟨0x08, 0x08, .uint 4, .ro, 0, [], false⟩,  -- HIGH_SEQ
  ⟨0x09, 0x09, .uint 8, .ro, 0, [], false⟩,  -- TURNS
  ⟨0x0A, 0x0A, .uint 4, .ro, 0, [], false⟩,  -- LATE_TURNS
  ⟨0x0B, 0x0B, .uint 8, .wo, 0, [], false⟩,  -- ABORT
  ⟨0x0C, 0x0C, .oct 64, .ro, 0, [], false⟩,  -- ABORT_STATUS
  ⟨0x0D, 0x0D, .block 512 true, .ro, 0, [], false⟩,  -- SESSIONS
  ⟨0x0E, 0x0E, .uint 4, .ro, 0, [], false⟩,  -- REPLAY_SUPPRESSED
  ⟨0x0F, 0x0F, .uint 4, .ro, 0, [], false⟩,  -- FRAMES_LOST
  ⟨0x10, 0x10, .uint 8, .ro, 0, [], false⟩,  -- CKPT_BEAT
  ⟨0x11, 0x11, .uint 8, .ro, 0, [], false⟩,  -- MIRROR_BEAT
  ⟨0x20, 0x20, .uint 4, .rws, 0, [], false⟩,  -- STREAM_ID
  ⟨0x21, 0x21, .uint 1, .rws, 0, [(0, 1)], false⟩,  -- AUTH
  ⟨0x22, 0x22, .uint 1, .rws, 255, [], false⟩,  -- KEY_SLOT
  ⟨0x23, 0x23, .uint 2, .rws, 65535, [], false⟩,  -- RING_FIRST
  ⟨0x24, 0x24, .uint 2, .rws, 65535, [], false⟩,  -- FEED_PAGE
  ⟨0x25, 0x25, .uint 4, .rws, 0, [(0, 4192256)], false⟩,  -- FEED_OFF
  ⟨0x26, 0x26, .uint 1, .rws, 4, [(1, 8)], false⟩,  -- SLIP_DEPTH
  ⟨0x27, 0x27, .uint 1, .rws, 4, [(1, 16)], false⟩,  -- POLICE_BURST
  ⟨0x28, 0x28, .uint 8, .ro, 0, [], false⟩,  -- FRAMES_LANDED
  ⟨0x29, 0x29, .uint 4, .ro, 0, [], false⟩,  -- AUTH_FAILS
  ⟨0x2A, 0x2A, .uint 4, .ro, 0, [], false⟩,  -- INCOMPLETE
  ⟨0x2B, 0x2B, .uint 4, .ro, 0, [], false⟩,  -- POLICED
  ⟨0x2C, 0x2C, .uint 4, .ro, 0, [], false⟩,  -- SLIP_REPEATS
  ⟨0x2D, 0x2D, .uint 4, .ro, 0, [], false⟩,  -- SLIP_DROPS
  ⟨0x2E, 0x2E, .uint 4, .ro, 0, [], false⟩,  -- STALE
  ⟨0x2F, 0x2F, .uint 4, .ro, 0, [], false⟩,  -- HIGH_FSEQ
  ⟨0x30, 0x30, .uint 1, .ro, 0, [], false⟩  -- SLIP_HELD
  ]

/-- Entries of index 0x4800. -/
def rows4800 : List LegRow := [
  ⟨0x00, 0x00, .uint 1, .rws, 16, [(12, 20)], false⟩  -- GAZ_REVISION_LOG2
  ]

/-- Entries of index 0x4810 to 0x484F. -/
def rows4810 : List LegRow := [
  ⟨0x00, 0x00, .uint 4, .rws, 4294967295, [], false⟩,  -- GAZ_PAGE
  ⟨0x01, 0x01, .block 65536 true, .rws, 0, [], false⟩,  -- GAZ_NEXT
  ⟨0x02, 0x02, .uint 2, .ro, 0, [], false⟩,  -- GAZ_EPOCH
  ⟨0x03, 0x03, .uint 2, .ro, 0, [], false⟩  -- GAZ_RETIRED
  ]

/-- Entries of index 0x4900. -/
def rows4900 : List LegRow := [
  ⟨0x00, 0x00, .uint 2, .rws, 64, [(1, 399)], true⟩,  -- PENCIL_BUDGET
  ⟨0x01, 0x01, .uint 2, .const, 400, [], false⟩,  -- BEARING_TIMEOUT
  ⟨0x02, 0x02, .uint 1, .const, 4, [], false⟩,  -- OUTSTANDING_LIMIT
  ⟨0x03, 0x03, .uint 1, .const, 16, [], false⟩,  -- TABLE_ENTRIES
  ⟨0x04, 0x04, .uint 8, .ro, 0, [], false⟩,  -- OPENED
  ⟨0x05, 0x05, .uint 8, .ro, 0, [], false⟩,  -- INKED
  ⟨0x06, 0x06, .uint 4, .ro, 0, [], false⟩,  -- RERUNS
  ⟨0x07, 0x07, .uint 4, .ro, 0, [], false⟩,  -- PAUSES
  ⟨0x08, 0x08, .uint 4, .ro, 0, [], false⟩,  -- DEFAULTS
  ⟨0x09, 0x09, .uint 4, .ro, 0, [], false⟩,  -- STRAYS
  ⟨0x0A, 0x0A, .uint 4, .ro, 0, [], false⟩  -- MALFORMED
  ]

/-- Entries of index 0x4940 to 0x497F. -/
def rows4940 : List LegRow := [
  ⟨0x00, 0x3F, .block 64 true, .rws, 0, [], true⟩  -- POINT
  ]

/-- Entries of index 0x4980 to 0x49BF. -/
def rows4980 : List LegRow := [
  ⟨0x00, 0x0F, .block 32 true, .ro, 0, [], false⟩  -- ENTRY
  ]

/-- Entries of index 0x5000. -/
def rows5000 : List LegRow := [
  ⟨0x00, 0x00, .uint 1, .rws, 0, [(0, 2)], false⟩,  -- FLAVOUR
  ⟨0x01, 0x01, .uint 1, .ro, 1, [], false⟩,  -- ACT_STATE
  ⟨0x02, 0x02, .uint 1, .ro, 0, [], false⟩,  -- SYNC_STATE
  ⟨0x03, 0x03, .uint 2, .ro, 65535, [], false⟩,  -- ONU_ID
  ⟨0x04, 0x04, .oct 8, .const, 0, [], false⟩,  -- SERIAL
  ⟨0x05, 0x05, .uint 4, .ro, 0, [], false⟩,  -- EQD_NS
  ⟨0x06, 0x06, .uint 4, .const, 35000, [], false⟩,  -- RESPONSE_NS
  ⟨0x07, 0x07, .uint 4, .rws, 0, [], false⟩,  -- TEQD_NS
  ⟨0x08, 0x08, .fix, .rws, 32768, [], false⟩,  -- DS_FRACTION
  ⟨0x09, 0x09, .uint 4, .ro, 0, [], false⟩,  -- ATTEMPTS_FAILED
  ⟨0x0A, 0x0A, .uint 4, .const, 80000, [], false⟩,  -- TO1_TICKS
  ⟨0x0B, 0x0B, .uint 2, .const, 800, [], false⟩,  -- TO2_TICKS
  ⟨0x0C, 0x0C, .uint 1, .rws, 32, [], false⟩,  -- BURST_LEAD_NS
  ⟨0x0D, 0x0D, .bool, .rws, 0, [(0, 1)], false⟩,  -- BURST_POLARITY
  ⟨0x0E, 0x0E, .uint 1, .rws, 16, [], false⟩,  -- BURST_LAG_NS
  ⟨0x0F, 0x0F, .uint 8, .ro, 0, [], false⟩,  -- FEC_DS_CORRECTED
  ⟨0x10, 0x10, .uint 8, .ro, 0, [], false⟩,  -- FEC_DS_UNCORRECTABLE
  ⟨0x11, 0x11, .uint 4, .ro, 0, [], false⟩,  -- HEC_ERRORS
  ⟨0x12, 0x12, .uint 4, .ro, 0, [], false⟩,  -- PLOAM_UNSUPPORTED
  ⟨0x13, 0x13, .uint 4, .ro, 0, [], false⟩,  -- OMCI_REFUSED
  ⟨0x14, 0x14, .bool, .ro, 0, [(0, 1)], false⟩,  -- SLEEP_ALLOWED
  ⟨0x15, 0x15, .uint 2, .rws, 400, [(100, 100), (400, 400)], false⟩,  -- OPT_I2C_KHZ
  ⟨0x16, 0x16, .oct 10, .ro, 0, [], false⟩,  -- OPT_DIAG
  ⟨0x17, 0x17, .oct 6, .ro, 0, [], false⟩,  -- OPT_FLAGS
  ⟨0x18, 0x18, .uint 4, .ro, 0, [], false⟩,  -- GRANT_OVERLAPS
  ⟨0x19, 0x19, .uint 4, .ro, 0, [], false⟩,  -- DS_UNDECRYPTABLE
  ⟨0x1A, 0x1A, .uint 2, .rws, 80, [(8, 400)], false⟩  -- RX_OFF_MAX_TICKS
  ]

/-- Entries of index 0x5010. -/
def rows5010 : List LegRow := [
  ⟨0x00, 0x1F, .oct 4, .ro, (2 ^ 32 - 1), [], false⟩  -- ALLOC
  ]

/-- Entries of index 0x5020 to 0x5021. -/
def rows5020 : List LegRow := [
  ⟨0x00, 0xFF, .oct 8, .rws, 0, [], false⟩  -- BINDING
  ]

/-- Entries of index 0x5400. -/
def rows5400 : List LegRow := [
  ⟨0x00, 0x00, .uint 2, .rws, 16320, [(1024, 16320)], false⟩,  -- SEG_MAX_PON
  ⟨0x01, 0x01, .uint 2, .rws, 8192, [(1024, 8960)], false⟩,  -- SEG_MAX_ETH
  ⟨0x03, 0x03, .uint 1, .rws, 64, [(1, 255)], false⟩,  -- ANSWER_POLICE
  ⟨0x04, 0x04, .uint 2, .rws, 640, [(8, 640)], false⟩,  -- ASSEMBLY_TICKS
  ⟨0x05, 0x05, .uint 2, .rws, 6622, [], false⟩  -- UDP_SOURCE_PORT
  ]

/-- Entries of index 0x5410 to 0x544F. -/
def rows5410 : List LegRow := [
  ⟨0x00, 0x00, .uint 2, .rws, 65535, [], false⟩,  -- EMIT_PAGE
  ⟨0x01, 0x01, .uint 2, .rws, 0, [], false⟩,  -- UP_STORE_PAGES
  ⟨0x02, 0x02, .uint 4, .rws, 0, [], false⟩,  -- QUERY_RESERVE
  ⟨0x03, 0x03, .uint 1, .rws, 16, [(1, 255)], false⟩,  -- WEIGHT
  ⟨0x04, 0x04, .uint 1, .rws, 255, [(0, 15), (255, 255)], false⟩,  -- SHAPER
  ⟨0x05, 0x05, .uint 1, .rws, 255, [], false⟩,  -- UP_KEY_SLOT
  ⟨0x06, 0x06, .uint 1, .rws, 255, [], false⟩,  -- ANSWER_KEY_SLOT
  ⟨0x07, 0x07, .uint 4, .ro, 0, [], false⟩,  -- STORE_FREE
  ⟨0x08, 0x08, .uint 8, .ro, 0, [], false⟩,  -- ITEMS_SENT
  ⟨0x09, 0x09, .uint 4, .ro, 0, [], false⟩,  -- EMIT_REFUSED
  ⟨0x0A, 0x0A, .uint 4, .ro, 0, [], false⟩  -- ANSWERS_POLICED
  ]

/-- Entries of index 0x5450 to 0x545F. -/
def rows5450 : List LegRow := [
  ⟨0x00, 0x00, .uint 4, .rws, 0, [], false⟩,  -- RATE
  ⟨0x01, 0x01, .uint 4, .rws, 32768, [], false⟩,  -- BURST
  ⟨0x02, 0x02, .uint 1, .rws, 0, [(0, 2)], false⟩,  -- CHANGE_MODE
  ⟨0x03, 0x03, .uint 4, .ro, 32768, [], false⟩  -- TOKENS
  ]

/-- Entries of index 0x5460 to 0x5461. -/
def rows5460 : List LegRow := [
  ⟨0x00, 0xFF, .oct 16, .rws, 0, [], false⟩  -- UDP_BINDING
  ]

/-- Entries of index 0x5800. -/
def rows5800 : List LegRow := [
  ⟨0x00, 0x00, .uint 1, .rws, 0, [], false⟩,  -- PTP_PORTS
  ⟨0x01, 0x01, .uint 1, .rws, 0, [(0, 127)], false⟩,  -- PTP_DOMAIN
  ⟨0x02, 0x02, .uint 1, .rws, 0, [(0, 1)], false⟩,  -- PTP_TRANSPORT
  ⟨0x03, 0x03, .uint 1, .ro, 0, [], false⟩,  -- PTP_STATE
  ⟨0x04, 0x04, .uint 1, .ro, 255, [], false⟩,  -- PTP_PORT
  ⟨0x05, 0x05, .oct 8, .ro, 0, [], false⟩,  -- GM_IDENTITY
  ⟨0x06, 0x06, .sint 4, .ro, 0, [], false⟩,  -- PTP_OFFSET_NS
  ⟨0x07, 0x07, .uint 4, .ro, 0, [], false⟩,  -- PTP_MEAN_DELAY_NS
  ⟨0x08, 0x08, .uint 1, .ro, 0, [], false⟩,  -- WAKE_CAUSE
  ⟨0x09, 0x09, .tick, .ro, 0, [], false⟩  -- WAKE_STAMP
  ]

/-- Entries of index 0x5810 to 0x5812. -/
def rows5810 : List LegRow := [
  ⟨0x00, 0x00, .oct 6, .const, 0, [], false⟩,  -- MAC_ADDR
  ⟨0x01, 0x01, .uint 1, .ro, 0, [], false⟩,  -- LINK
  ⟨0x02, 0x02, .uint 4, .ro, 0, [], false⟩,  -- SPEED_MBPS
  ⟨0x03, 0x03, .uint 4, .rws, 0, [], false⟩,  -- IPV4_ADDR
  ⟨0x04, 0x04, .uint 1, .rws, 24, [(8, 32)], false⟩,  -- PREFIX_LEN
  ⟨0x05, 0x05, .uint 4, .rws, 0, [], false⟩,  -- GATEWAY
  ⟨0x06, 0x06, .uint 1, .rws, 0, [(0, 2)], false⟩,  -- TAG_MODE
  ⟨0x07, 0x07, .uint 2, .rws, 1, [(1, 4094)], false⟩,  -- S_VID
  ⟨0x08, 0x08, .uint 2, .rws, 1, [(1, 4094)], false⟩,  -- C_VID
  ⟨0x09, 0x09, .uint 2, .rws, 0, [], false⟩,  -- PCP_MAP
  ⟨0x0A, 0x0A, .uint 2, .rws, 9216, [(576, 9216)], false⟩,  -- MTU
  ⟨0x0B, 0x0B, .uint 1, .rws, 0, [], false⟩,  -- WAKE_ENABLE
  ⟨0x0C, 0x0C, .oct 128, .rws, 0, [], false⟩,  -- WAKE_PATTERN
  ⟨0x0D, 0x0D, .oct 16, .rws, 0, [], false⟩,  -- WAKE_MASK
  ⟨0x0E, 0x0E, .sint 4, .rws, 0, [], false⟩,  -- PTP_INGRESS_NS
  ⟨0x0F, 0x0F, .sint 4, .rws, 0, [], false⟩,  -- PTP_EGRESS_NS
  ⟨0x10, 0x10, .uint 8, .ro, 0, [], false⟩,  -- RX_FRAMES
  ⟨0x11, 0x11, .uint 8, .ro, 0, [], false⟩,  -- TX_FRAMES
  ⟨0x12, 0x12, .oct 28, .ro, 0, [], false⟩  -- RX_DISCARDS
  ]

/-- Entries of index 0x5820. -/
def rows5820 : List LegRow := [
  ⟨0x00, 0x00, .uint 1, .rws, 0, [(0, 2)], false⟩,  -- IF_MODE
  ⟨0x01, 0x01, .uint 1, .rws, 0, [(0, 31)], false⟩,  -- PHY_ADDR
  ⟨0x02, 0x02, .uint 1, .rws, 22, [(22, 22), (45, 45)], false⟩,  -- MDIO_CLAUSE
  ⟨0x03, 0x03, .uint 1, .rws, 0, [(0, 1)], false⟩,  -- SPEED_POLICY
  ⟨0x04, 0x04, .uint 4, .rws, 625000, [], false⟩,  -- LOWER_BYTES
  ⟨0x05, 0x05, .uint 4, .rws, 625000, [], false⟩,  -- RAISE_BYTES
  ⟨0x06, 0x06, .uint 4, .ro, 0, [], false⟩  -- SPEED_CHANGES
  ]

/-- Entries of index 0x6000. -/
def rows6000 : List LegRow := [
  ⟨0x00, 0x00, .uint 1, .rws, 1, [(1, 16)], false⟩,  -- DIM_X
  ⟨0x01, 0x01, .uint 1, .rws, 1, [(1, 16)], false⟩,  -- DIM_Y
  ⟨0x02, 0x02, .uint 1, .rws, 1, [(1, 8)], false⟩,  -- DIM_Z
  ⟨0x03, 0x03, .uint 2, .rws, 65535, [(0, 2047), (65535, 65535)], false⟩,  -- DEVICE_NUMBER
  ⟨0x04, 0x04, .uint 4, .rws, 0, [], false⟩,  -- ATLAS_ID
  ⟨0x05, 0x05, .uint 1, .rws, 0, [(0, 1)], false⟩,  -- ATLAS_MODE
  ⟨0x06, 0x06, .uint 1, .rws, 128, [], false⟩,  -- DATUM_PRIORITY
  ⟨0x07, 0x07, .uint 8, .ro, 0, [], false⟩,  -- DATUM_ID
  ⟨0x08, 0x08, .uint 2, .ro, 65535, [], false⟩,  -- DATUM_DEVICE
  ⟨0x09, 0x09, .uint 1, .ro, 0, [], false⟩,  -- DATUM_HOPS
  ⟨0x0A, 0x0A, .uint 1, .ro, 255, [], false⟩,  -- UPSTREAM_PORT
  ⟨0x0B, 0x0B, .oct 6, .rws, 0, [], false⟩,  -- PORT_DISABLE
  ⟨0x0C, 0x0C, .uint 2, .rws, 12, [(4, 60)], false⟩,  -- EYE_WARN_MV
  ⟨0x0D, 0x0D, .uint 4, .ro, 0, [], false⟩,  -- DROPPED
  ⟨0x0E, 0x0E, .uint 4, .ro, 0, [], false⟩,  -- UNREACHABLE
  ⟨0x0F, 0x0F, .uint 1, .const, 16, [], false⟩,  -- BUDDY_LOSS_PERIODS
  ⟨0x10, 0x10, .uint 1, .const, 12, [], false⟩,  -- FENCE_PERIODS
  ⟨0x11, 0x11, .uint 1, .ro, 0, [], false⟩  -- DIAMETER
  ]

/-- Entries of index 0x6010. -/
def rows6010 : List LegRow := [
  ⟨0x00, 0x2F, .block 32 true, .ro, 0, [], false⟩  -- PORT
  ]

/-- Entries of index 0x6080. -/
def rows6080 : List LegRow := [
  ⟨0x00, 0x00, .uint 2, .rws, 16, [(1, 640)], false⟩,  -- KEY_RETRY_TICKS
  ⟨0x01, 0x01, .uint 8, .ro, 0, [], false⟩,  -- PAGES_LANDED
  ⟨0x02, 0x02, .uint 4, .ro, 0, [], false⟩,  -- PAGES_LATE
  ⟨0x03, 0x03, .uint 4, .ro, 0, [], false⟩,  -- REREQUESTS
  ⟨0x04, 0x04, .uint 4, .ro, 0, [], false⟩,  -- NACKS
  ⟨0x05, 0x05, .uint 1, .const, 16, [], false⟩,  -- FETCH_ENTRIES
  ⟨0x06, 0x06, .uint 8, .ro, 0, [], false⟩  -- PAGES_SERVED
  ]

/-- Entries of index 0x6081. -/
def rows6081 : List LegRow := [
  ⟨0x00, 0x3F, .oct 8, .rws, (2 ^ 64 - 1), [], false⟩  -- KEY_ROUTE
  ]

/-- Entries of index 0x6082. -/
def rows6082 : List LegRow := [
  ⟨0x00, 0xFF, .block 17 true, .rws, 0, [], false⟩  -- VAULT_KEY
  ]

/-- Entries of index 0x6100 to 0x613F. -/
def rows6100 : List LegRow := [
  ⟨0x00, 0x00, .uint 1, .rws, 16, [(1, 64)], false⟩,  -- MSG_CREDITS
  ⟨0x01, 0x01, .uint 2, .rws, 0, [(0, 256)], false⟩  -- KEY_SHARE
  ]

/-- Entries of index 0x6140 to 0x617F. -/
def rows6140 : List LegRow := [
  ⟨0x00, 0x00, .uint 1, .ro, 0, [], false⟩,  -- WATCH_STATE
  ⟨0x01, 0x01, .tick, .ro, 0, [], false⟩,  -- TAKEOVER_STAMP
  ⟨0x02, 0x02, .uint 4, .ro, 0, [], false⟩  -- TAKEOVERS
  ]

/-- Entries of index 0x7000. -/
def rows7000 : List LegRow := [
  ⟨0x00, 0x00, .uint 1, .ro, 0, [], false⟩,  -- KEYSET
  ⟨0x01, 0x01, .uint 1, .ro, 0, [], false⟩,  -- KEYSET_REVOKED
  ⟨0x02, 0x02, .uint 1, .ro, 0, [], false⟩,  -- SECURITY_FLOOR
  ⟨0x03, 0x03, .uint 1, .ro, 0, [], false⟩,  -- IMAGE_SECURITY_VERSION
  ⟨0x04, 0x04, .uint 4, .ro, 0, [], false⟩,  -- MICROCODE_VERSION
  ⟨0x05, 0x05, .oct 32, .const, 0, [], false⟩,  -- DEVICE_ED25519_PUB
  ⟨0x06, 0x06, .block 1952 true, .const, 0, [], false⟩,  -- DEVICE_MLDSA_PUB
  ⟨0x07, 0x07, .uint 1, .wo, 0, [], false⟩,  -- RAISE_FLOOR
  ⟨0x08, 0x08, .uint 1, .wo, 0, [], false⟩,  -- REVOKE_KEYSET
  ⟨0x09, 0x09, .uint 2, .rws, 640, [(0, 8000)], false⟩,  -- KEY_OVERLAP_TICKS
  ⟨0x0A, 0x0A, .uint 1, .wo, 0, [(0, 127)], false⟩,  -- KEY_ERASE
  ⟨0x0B, 0x0B, .uint 1, .wo, 0, [(0, 15)], false⟩,  -- JOB_ABORT
  ⟨0x0C, 0x0C, .bool, .ro, 1, [(0, 1)], false⟩,  -- EZITH_OPEN
  ⟨0x0D, 0x0D, .uint 4, .ro, 0, [], false⟩,  -- BOOT_REJECTS
  ⟨0x0E, 0x0E, .uint 1, .ro, 0, [], false⟩  -- LAST_REJECT
  ]

/-- Entries of index 0x7010. -/
def rows7010 : List LegRow := [
  ⟨0x00, 0x7F, .oct 24, .ro, 0, [], false⟩  -- SLOT
  ]

/-- Entries of index 0x7020. -/
def rows7020 : List LegRow := [
  ⟨0x00, 0x0F, .block 16384 true, .rw, 0, [], false⟩  -- JOB
  ]

/-- Entries of index 0x7800. -/
def rows7800 : List LegRow := [
  ⟨0x00, 0x00, .uint 1, .ro, 0, [], false⟩,  -- CHANNELS
  ⟨0x01, 0x01, .uint 1, .ro, 0, [], false⟩,  -- TARGETS
  ⟨0x02, 0x02, .uint 8, .ro, 0, [], false⟩,  -- CAPACITY
  ⟨0x03, 0x03, .uint 8, .ro, 0, [], false⟩,  -- FREE
  ⟨0x04, 0x04, .uint 2, .rws, 20, [(5, 100)], false⟩,  -- RESERVE_PERMIL
  ⟨0x05, 0x05, .uint 2, .rws, 200, [(50, 2000)], false⟩,  -- WEAR_SPREAD
  ⟨0x06, 0x06, .uint 4, .ro, 0, [], false⟩,  -- ENDURANCE
  ⟨0x07, 0x07, .uint 4, .ro, 0, [], false⟩,  -- ERASE_MAX
  ⟨0x08, 0x08, .uint 4, .ro, 0, [], false⟩,  -- ERASE_MIN
  ⟨0x09, 0x09, .uint 2, .rws, 168, [(24, 720)], false⟩,  -- PATROL_HOURS
  ⟨0x0A, 0x0A, .uint 1, .rws, 48, [(8, 96)], false⟩,  -- REFRESH_BITS
  ⟨0x0B, 0x0B, .uint 2, .rws, 2160, [(168, 8760)], false⟩,  -- REFRESH_AGE_HOURS
  ⟨0x0C, 0x0C, .tick, .ro, 0, [], false⟩,  -- PATROL_LAST
  ⟨0x0D, 0x0D, .uint 8, .ro, 0, [], false⟩,  -- CORRECTED
  ⟨0x0E, 0x0E, .uint 4, .ro, 0, [], false⟩,  -- RETRIED
  ⟨0x0F, 0x0F, .uint 4, .ro, 0, [], false⟩,  -- LOST
  ⟨0x10, 0x10, .uint 4, .ro, 0, [], false⟩,  -- FACTORY_BAD
  ⟨0x11, 0x11, .uint 4, .ro, 0, [], false⟩,  -- GROWN_BAD
  ⟨0x12, 0x12, .uint 4, .ro, 0, [], false⟩,  -- REFRESHES
  ⟨0x13, 0x13, .uint 4, .ro, 0, [], false⟩,  -- RELOCATIONS
  ⟨0x14, 0x14, .uint 4, .ro, 0, [], false⟩,  -- UNSAFE_STOPS
  ⟨0x15, 0x15, .uint 2, .ro, 0, [], false⟩  -- ONFI_MTS
  ]

/-- Entries of index 0x7810. -/
def rows7810 : List LegRow := [
  ⟨0x00, 0x07, .oct 64, .wo, 0, [], false⟩  -- PORT_CONTROL
  ]

/-- Entries of index 0x7811. -/
def rows7811 : List LegRow := [
  ⟨0x00, 0x07, .block 1024 false, .rw, 0, [], false⟩  -- PORT_DATA
  ]

/-- Entries of index 0x7812. -/
def rows7812 : List LegRow := [
  ⟨0x00, 0x07, .uint 8, .rw, 0, [], false⟩  -- PORT_POS
  ]

/-- Entries of index 0x7813. -/
def rows7813 : List LegRow := [
  ⟨0x00, 0x07, .oct 16, .ro, 0, [], false⟩  -- PORT_STATE
  ]

/-- Entries of index 0x7820. -/
def rows7820 : List LegRow := [
  ⟨0x00, 0x00, .uint 8, .rw, 0, [], false⟩,  -- DIR_CURSOR
  ⟨0x01, 0x01, .oct 64, .ro, 0, [], false⟩  -- DIR_ENTRY
  ]

/-- Entries of index 0x7830. -/
def rows7830 : List LegRow := [
  ⟨0x00, 0x07, .oct 16, .ro, 0, [], false⟩  -- CHANNEL
  ]

/-- Entries of index 0x8000. -/
def rows8000 : List LegRow := [
  ⟨0x00, 0x00, .uint 1, .ro, 0, [], false⟩,  -- STATE
  ⟨0x01, 0x01, .uint 1, .rws, 0, [(0, 1)], false⟩,  -- INRUSH_MODE
  ⟨0x02, 0x02, .uint 4, .rws, 40000, [(5000, 40000)], false⟩,  -- ILIMIT_MA
  ⟨0x03, 0x03, .uint 4, .rws, 10000, [(1000, 20000)], false⟩,  -- ILIM_INRUSH_MA
  ⟨0x04, 0x04, .uint 2, .rws, 120, [(20, 400)], false⟩,  -- PFET_LIMIT_W
  ⟨0x05, 0x05, .uint 2, .rws, 100, [(10, 1000)], false⟩,  -- INRUSH_TIMER_MS
  ⟨0x06, 0x06, .uint 2, .rws, 500, [(50, 10000)], false⟩,  -- BREAKER_TIMER_US
  ⟨0x07, 0x07, .uint 4, .rws, 80000, [(0, 80000)], false⟩,  -- ISHORT_MA
  ⟨0x08, 0x08, .uint 4, .rws, 38000, [(36000, 40000)], false⟩,  -- UV_MV
  ⟨0x09, 0x09, .uint 4, .rws, 62000, [(60000, 66000)], false⟩,  -- OV_MV
  ⟨0x0A, 0x0A, .uint 4, .rws, 41000, [(0, 44000)], false⟩,  -- EWARN_MV
  ⟨0x0B, 0x0B, .uint 2, .rws, 16, [(16, 80)], false⟩,  -- EWARN_LEAD_TICKS
  ⟨0x0C, 0x0C, .uint 2, .rws, 500, [(250, 2000)], false⟩,  -- SHUNT_UOHM
  ⟨0x0D, 0x0D, .uint 1, .rws, 150, [(100, 175)], false⟩,  -- TJ_TRIP_C
  ⟨0x0E, 0x0E, .uint 2, .rws, 400, [], false⟩,  -- RTH_JC_MCW
  ⟨0x0F, 0x0F, .uint 2, .rws, 20, [(1, 1000)], false⟩,  -- TAU_MS
  ⟨0x10, 0x10, .uint 4, .ro, 0, [], false⟩,  -- VIN_MV
  ⟨0x11, 0x11, .uint 4, .ro, 0, [], false⟩,  -- VOUT_MV
  ⟨0x12, 0x12, .uint 8, .ro, 0, [], false⟩,  -- ENERGY_UJ
  ⟨0x13, 0x13, .tick, .ro, 0, [], false⟩,  -- ENERGY_STAMP
  ⟨0x14, 0x14, .uint 4, .ro, 0, [], false⟩,  -- POWER_MW
  ⟨0x15, 0x15, .sint 4, .ro, 0, [], false⟩,  -- IIN_MA
  ⟨0x16, 0x16, .fix, .ro, 0, [], false⟩,  -- TSNS_C
  ⟨0x17, 0x17, .fix, .ro, 0, [], false⟩,  -- TJ_C
  ⟨0x18, 0x18, .fix, .ro, 3932160, [], false⟩,  -- TJ_MARGIN_C
  ⟨0x19, 0x19, .uint 1, .ro, 0, [], false⟩,  -- BACKOFF_N
  ⟨0x1A, 0x1A, .uint 4, .ro, 0, [], false⟩,  -- RESTARTS
  ⟨0x1B, 0x1B, .block 128 true, .ro, 0, [], false⟩,  -- TRIPS
  ⟨0x1C, 0x1C, .uint 2, .ro, 0, [], false⟩  -- PIN_STATUS
  ]

/-- Entries of index 0x8800. -/
def rows8800 : List LegRow := [
  ⟨0x00, 0x00, .uint 2, .rws, 1639, [(1639, 4095)], false⟩,  -- HINT_LEAD_SUBTICKS
  ⟨0x01, 0x01, .uint 1, .rws, 2, [(0, 4)], false⟩,  -- LEVEL_MV
  ⟨0x02, 0x02, .uint 1, .const, 25, [], false⟩,  -- GUARD_MV
  ⟨0x03, 0x03, .uint 1, .rws, 10, [(5, 40)], false⟩,  -- DROOP_TRIP_MV
  ⟨0x04, 0x04, .uint 1, .rws, 105, [(85, 110)], false⟩,  -- TEMP_THROTTLE_C
  ⟨0x05, 0x05, .uint 1, .const, 120, [], false⟩,  -- TEMP_TRIP_C
  ⟨0x06, 0x06, .uint 8, .ro, 0, [], false⟩,  -- DROOPS
  ⟨0x07, 0x07, .uint 2, .ro, 0, [], false⟩,  -- GUARDED_QUADS
  ⟨0x10, 0x10, .bool, .wo, 0, [(0, 1)], false⟩,  -- DORMANT_ENTER
  ⟨0x11, 0x11, .uint 1, .ro, 0, [], false⟩,  -- POWER_STATE
  ⟨0x12, 0x12, .tick, .rws, 0, [], false⟩,  -- WAKE_AT
  ⟨0x13, 0x13, .uint 2, .const, 200, [], false⟩,  -- WAKE_TICKS
  ⟨0x14, 0x14, .uint 1, .ro, 0, [], false⟩,  -- DORMANT_REFUSAL
  ⟨0x15, 0x15, .oct 24, .ro, 0, [], false⟩  -- LAST_WAKE
  ]

/-- Entries of index 0x8810. -/
def rows8810 : List LegRow := [
  ⟨0x00, 0xFF, .oct 24, .ro, 0, [], false⟩  -- CONTOUR_RECORD
  ]

/-- Entries of index 0x9000. -/
def rows9000 : List LegRow := [
  ⟨0x00, 0x00, .uint 2, .ro, 65535, [], false⟩,  -- FIRST
  ⟨0x01, 0x01, .tick, .ro, 0, [], false⟩,  -- FIRST_STAMP
  ⟨0x02, 0x02, .bool, .ro, 0, [(0, 1)], false⟩,  -- OVERFLOW
  ⟨0x03, 0x03, .oct 32, .ro, 0, [], false⟩,  -- ACTIVE
  ⟨0x04, 0x04, .uint 1, .ro, 0, [], false⟩,  -- HIGHEST
  ⟨0x05, 0x05, .uint 2, .wo, 0, [], false⟩,  -- CLEAR
  ⟨0x06, 0x06, .oct 16, .wo, 0, [], false⟩,  -- INJECT
  ⟨0x07, 0x07, .uint 4, .ro, 0, [], false⟩,  -- INJECTIONS
  ⟨0x08, 0x08, .uint 8, .ro, 0, [], false⟩,  -- LOG_SEQ
  ⟨0x09, 0x09, .uint 4, .ro, 0, [], false⟩  -- LOG_DROPPED
  ]

/-- Entries of index 0x9100 to 0x91FF. -/
def rows9100 : List LegRow := [
  ⟨0x00, 0x00, .uint 1, .rw, 0, [(0, 5)], false⟩,  -- SEVERITY
  ⟨0x01, 0x01, .uint 1, .const, 0, [], false⟩,  -- DEFAULT
  ⟨0x02, 0x02, .uint 1, .ro, 0, [], false⟩,  -- STATUS
  ⟨0x03, 0x03, .uint 4, .ro, 0, [], false⟩,  -- COUNT
  ⟨0x04, 0x04, .tick, .ro, 0, [], false⟩,  -- LAST_STAMP
  ⟨0x05, 0x05, .oct 32, .ro, 0, [], false⟩  -- LAST_DATA
  ]

/-- Entries of index 0xA000. -/
def rowsA000 : List LegRow := [
  ⟨0x00, 0x00, .uint 1, .const, 16, [], false⟩,  -- TXN_LIMIT
  ⟨0x01, 0x01, .uint 2, .const, 256, [], false⟩,  -- TXN_WRITES
  ⟨0x02, 0x02, .uint 4, .const, 131072, [], false⟩,  -- TXN_STAGE_BYTES
  ⟨0x03, 0x03, .uint 4, .const, 8388608, [], false⟩,  -- COMMIT_HORIZON
  ⟨0x04, 0x04, .uint 4, .rws, 80000, [(800, 800000)], false⟩,  -- TXN_IDLE_TICKS
  ⟨0x05, 0x05, .uint 4, .ro, 1, [], false⟩,  -- NEXT_TXN
  ⟨0x06, 0x06, .uint 8, .ro, 0, [], false⟩,  -- COMMITS
  ⟨0x07, 0x07, .uint 4, .ro, 0, [], false⟩,  -- CONFLICTS
  ⟨0x08, 0x08, .uint 4, .ro, 0, [], false⟩,  -- ROLLBACKS
  ⟨0x09, 0x09, .uint 2, .const, 6620, [], false⟩,  -- EZITH_PORT
  ⟨0x0A, 0x0A, .uint 4, .ro, 0, [], false⟩,  -- AUTH_FAILS
  ⟨0x0B, 0x0B, .uint 4, .ro, 0, [], false⟩,  -- STALE_REQUESTS
  ⟨0x0C, 0x0C, .uint 2, .rws, 80, [(8, 8000)], false⟩,  -- EVENT_RETRY_TICKS
  ⟨0x0D, 0x0D, .uint 2, .const, 1472, [], false⟩  -- MSG_LIMIT
  ]

/-- Entries of index 0xA010. -/
def rowsA010 : List LegRow := [
  ⟨0x00, 0x0F, .block 64 true, .ro, 0, [], false⟩  -- TXN
  ]

/-- Entries of index 0xA020. -/
def rowsA020 : List LegRow := [
  ⟨0x00, 0x07, .oct 16, .rws, 0, [], false⟩  -- SUBSCRIBER
  ]

/-- Entries of index 0xA030. -/
def rowsA030 : List LegRow := [
  ⟨0x00, 0x07, .oct 16, .ro, 0, [], false⟩  -- SUBSCRIBER_STATE
  ]

/-- Entries of index 0xF000. -/
def rowsF000 : List LegRow := [
  ⟨0x00, 0x00, .uint 1, .ro, 3, [], false⟩,  -- STAGE
  ⟨0x01, 0x01, .oct 64, .ro, 0, [], false⟩,  -- STAGE_TIMES
  ⟨0x02, 0x02, .uint 1, .ro, 0, [], false⟩,  -- BOOT_AREA
  ⟨0x03, 0x03, .uint 1, .rw, 255, [(0, 1), (255, 255)], false⟩,  -- BOOT_NEXT
  ⟨0x04, 0x04, .uint 4, .ro, 0, [], false⟩,  -- BOOT_ROUNDS
  ⟨0x05, 0x05, .oct 8, .ro, 0, [], false⟩,  -- STARTUP_RESULT
  ⟨0x06, 0x06, .oct 12, .ro, 0, [], false⟩,  -- STACK_TRAIN
  ⟨0x07, 0x07, .uint 1, .rws, 20, [(10, 50)], false⟩  -- CAL_GUARD_MV
  ]

/-- Entries of index 0xF010. -/
def rowsF010 : List LegRow := [
  ⟨0x00, 0xFF, .block 24 true, .ro, 0, [], false⟩  -- QUAD_RECORD
  ]

/-- Entries of index 0xF011. -/
def rowsF011 : List LegRow := [
  ⟨0x00, 0x00, .oct 16, .rws, (2 ^ 128 - 1), [], false⟩,  -- SPARES
  ⟨0x01, 0x01, .uint 1, .ro, 0, [], false⟩,  -- SPARES_FREE
  ⟨0x02, 0x02, .uint 1, .const, 16, [], false⟩,  -- STALL_TICKS
  ⟨0x03, 0x03, .uint 1, .const, 8, [], false⟩,  -- CKPT_BEATS
  ⟨0x04, 0x04, .uint 1, .const, 8, [], false⟩,  -- RESTART_DELAY
  ⟨0x05, 0x05, .uint 2, .ro, 0, [], false⟩,  -- PAGES_FREE
  ⟨0x06, 0x06, .uint 2, .ro, 4096, [], false⟩,  -- SESSIONS_FREE
  ⟨0x07, 0x07, .uint 2, .ro, 256, [], false⟩  -- STRIPS_FREE
  ]

/-- Entries of index 0xF020. -/
def rowsF020 : List LegRow := [
  ⟨0x00, 0x00, .uint 1, .rws, 16, [(12, 20)], false⟩,  -- SURVEY_LOG2_SAMPLES
  ⟨0x01, 0x01, .fix, .rws, 5242880, [], false⟩,  -- SURVEY_CHI_LIMIT
  ⟨0x02, 0x02, .fix, .rws, 458752, [], false⟩,  -- SURVEY_BIT_SIGMAS
  ⟨0x03, 0x03, .uint 1, .rws, 2, [(1, 8)], false⟩,  -- SURVEY_RUN
  ⟨0x04, 0x04, .uint 8, .ro, 0, [], false⟩,  -- BENCH_PASSES
  ⟨0x05, 0x05, .uint 4, .ro, 0, [], false⟩,  -- BENCH_FAILS
  ⟨0x06, 0x06, .uint 4, .ro, 0, [], false⟩,  -- BENCH_MISSED
  ⟨0x07, 0x07, .uint 8, .ro, 0, [], false⟩,  -- SURVEY_WINDOWS
  ⟨0x08, 0x08, .uint 4, .ro, 0, [], false⟩,  -- SURVEY_SUSPECT
  ⟨0x09, 0x09, .uint 4, .ro, 0, [], false⟩  -- BENCH_SKIPPED
  ]

/-- Entries of index 0xF021. -/
def rowsF021 : List LegRow := [
  ⟨0x00, 0xFF, .block 128 true, .ro, 0, [], false⟩  -- CIM_RECORD
  ]

/-- Entries of index 0xF030. -/
def rowsF030 : List LegRow := [
  ⟨0x00, 0x00, .oct 16, .wo, 0, [], false⟩,  -- SWEEP
  ⟨0x01, 0x01, .bool, .wo, 0, [(0, 1)], false⟩,  -- SWEEP_ABORT
  ⟨0x02, 0x02, .oct 16, .ro, 0, [], false⟩,  -- SWEEP_STATE
  ⟨0x03, 0x03, .block 32 false, .ro, 0, [], false⟩  -- SWEEP_RESULT
  ]

/-- Entries of index 0xF040. -/
def rowsF040 : List LegRow := [
  ⟨0x00, 0xFF, .oct 20, .ro, (2 ^ 160 - 1), [], false⟩  -- CAL_CURVE
  ]

/-- The rows of an index; none for an index the spec does not define (R503). -/
def legGroup (idx : Nat) : List LegRow :=
  if 0x1000 ≤ idx ∧ idx < 0x1001 then rows1000
  else if 0x2000 ≤ idx ∧ idx < 0x2001 then rows2000
  else if 0x3000 ≤ idx ∧ idx < 0x3040 then rows3000
  else if 0x4000 ≤ idx ∧ idx < 0x4100 then rows4000
  else if 0x4800 ≤ idx ∧ idx < 0x4801 then rows4800
  else if 0x4810 ≤ idx ∧ idx < 0x4850 then rows4810
  else if 0x4900 ≤ idx ∧ idx < 0x4901 then rows4900
  else if 0x4940 ≤ idx ∧ idx < 0x4980 then rows4940
  else if 0x4980 ≤ idx ∧ idx < 0x49C0 then rows4980
  else if 0x5000 ≤ idx ∧ idx < 0x5001 then rows5000
  else if 0x5010 ≤ idx ∧ idx < 0x5011 then rows5010
  else if 0x5020 ≤ idx ∧ idx < 0x5022 then rows5020
  else if 0x5400 ≤ idx ∧ idx < 0x5401 then rows5400
  else if 0x5410 ≤ idx ∧ idx < 0x5450 then rows5410
  else if 0x5450 ≤ idx ∧ idx < 0x5460 then rows5450
  else if 0x5460 ≤ idx ∧ idx < 0x5462 then rows5460
  else if 0x5800 ≤ idx ∧ idx < 0x5801 then rows5800
  else if 0x5810 ≤ idx ∧ idx < 0x5813 then rows5810
  else if 0x5820 ≤ idx ∧ idx < 0x5821 then rows5820
  else if 0x6000 ≤ idx ∧ idx < 0x6001 then rows6000
  else if 0x6010 ≤ idx ∧ idx < 0x6011 then rows6010
  else if 0x6080 ≤ idx ∧ idx < 0x6081 then rows6080
  else if 0x6081 ≤ idx ∧ idx < 0x6082 then rows6081
  else if 0x6082 ≤ idx ∧ idx < 0x6083 then rows6082
  else if 0x6100 ≤ idx ∧ idx < 0x6140 then rows6100
  else if 0x6140 ≤ idx ∧ idx < 0x6180 then rows6140
  else if 0x7000 ≤ idx ∧ idx < 0x7001 then rows7000
  else if 0x7010 ≤ idx ∧ idx < 0x7011 then rows7010
  else if 0x7020 ≤ idx ∧ idx < 0x7021 then rows7020
  else if 0x7800 ≤ idx ∧ idx < 0x7801 then rows7800
  else if 0x7810 ≤ idx ∧ idx < 0x7811 then rows7810
  else if 0x7811 ≤ idx ∧ idx < 0x7812 then rows7811
  else if 0x7812 ≤ idx ∧ idx < 0x7813 then rows7812
  else if 0x7813 ≤ idx ∧ idx < 0x7814 then rows7813
  else if 0x7820 ≤ idx ∧ idx < 0x7821 then rows7820
  else if 0x7830 ≤ idx ∧ idx < 0x7831 then rows7830
  else if 0x8000 ≤ idx ∧ idx < 0x8001 then rows8000
  else if 0x8800 ≤ idx ∧ idx < 0x8801 then rows8800
  else if 0x8810 ≤ idx ∧ idx < 0x8811 then rows8810
  else if 0x9000 ≤ idx ∧ idx < 0x9001 then rows9000
  else if 0x9100 ≤ idx ∧ idx < 0x9200 then rows9100
  else if 0xA000 ≤ idx ∧ idx < 0xA001 then rowsA000
  else if 0xA010 ≤ idx ∧ idx < 0xA011 then rowsA010
  else if 0xA020 ≤ idx ∧ idx < 0xA021 then rowsA020
  else if 0xA030 ≤ idx ∧ idx < 0xA031 then rowsA030
  else if 0xF000 ≤ idx ∧ idx < 0xF001 then rowsF000
  else if 0xF010 ≤ idx ∧ idx < 0xF011 then rowsF010
  else if 0xF011 ≤ idx ∧ idx < 0xF012 then rowsF011
  else if 0xF020 ≤ idx ∧ idx < 0xF021 then rowsF020
  else if 0xF021 ≤ idx ∧ idx < 0xF022 then rowsF021
  else if 0xF030 ≤ idx ∧ idx < 0xF031 then rowsF030
  else if 0xF040 ≤ idx ∧ idx < 0xF041 then rowsF040
  else []

/-- The row of an entry. Severity entries exist for the sources of Table 16.1 only (16 R611): the caller checks. -/
def legRow (idx sub : Nat) : Option LegRow :=
  (legGroup idx).find? fun r => decide (r.lo ≤ sub ∧ sub ≤ r.hi)

/-- Fault sources with their default severities, 16 Table 16.1. -/
def faultSources : List (Nat × Nat) := [
  (0x00, 2), (0x01, 2), (0x02, 2), (0x03, 2), (0x04, 2), (0x05, 2), (0x06, 2), (0x07, 2),
  (0x08, 2), (0x09, 1), (0x0A, 2), (0x0B, 2), (0x20, 2), (0x21, 1), (0x22, 2), (0x23, 2),
  (0x24, 5), (0x40, 1), (0x41, 3), (0x42, 1), (0x43, 3), (0x44, 3), (0x48, 1), (0x49, 3),
  (0x60, 3), (0x61, 3), (0x62, 3), (0x63, 1), (0x80, 1), (0x81, 2), (0x82, 2), (0x83, 1),
  (0x84, 1), (0x85, 2), (0x86, 2), (0x87, 2), (0x88, 2), (0x89, 2), (0x8A, 2), (0x8B, 1),
  (0x98, 1), (0x99, 1), (0x9A, 2), (0x9B, 2), (0x9C, 2), (0xA0, 1), (0xA1, 2), (0xA2, 2),
  (0xA3, 1), (0xA4, 1), (0xA5, 2), (0xA6, 1), (0xA7, 2), (0xA8, 2), (0xA9, 1), (0xAA, 1),
  (0xAB, 2), (0xAC, 1), (0xAD, 2), (0xAE, 2), (0xAF, 1), (0xB0, 1), (0xB1, 1), (0xB2, 1),
  (0xB3, 1), (0xB4, 1), (0xB5, 2), (0xB6, 1), (0xB7, 1), (0xB8, 1), (0xB9, 2), (0xBA, 2),
  (0xBB, 2), (0xBC, 2), (0xBD, 1), (0xC0, 2), (0xC1, 2), (0xC2, 1), (0xC3, 1), (0xC4, 2),
  (0xC5, 2), (0xC6, 1), (0xC7, 1), (0xF0, 1), (0xF1, 2), (0xF2, 2), (0xD0, 2), (0xD1, 2),
  (0xD2, 1), (0xD3, 2), (0xD4, 2), (0xD5, 2), (0xD6, 2), (0xE0, 2), (0xE1, 3), (0xE2, 2),
  (0xE3, 2), (0xE4, 2), (0xE5, 2), (0xE6, 1), (0xE7, 1), (0xE8, 1), (0xE9, 2), (0xEA, 2),
  (0xEB, 1), (0xEC, 1), (0xF8, 3), (0xF9, 2)
  ]

/-- The default severity of a source, or none where Table 16.1 has no such source (16 R611). -/
def defaultSeverity (s : Nat) : Option Nat := (faultSources.find? fun p => p.1 == s).map (·.2)

end Sys2Proof.Machine
end

