-- ==== Sys2Proof/Machine/StGrat.lean ====
section
/-! DEFINITION. The graticule's state: chapter 02_graticule. -/

namespace Sys2Proof.Machine

/-- Graticule states, Table 2.3 (0x2000.01 STATE). -/
inductive GratState where
  | free | acquiring | locked | holdover | adrift | dwell
  deriving DecidableEq, Repr

/-- Time sources, 0x2000.02 SOURCE. -/
inductive Source where
  | none | pon | fabric | ptp
  deriving DecidableEq, Repr

/-- The run of consecutive tick numbers of one source (R45a). -/
structure SourceRun where
  /-- A run is in progress. -/
  live : Bool := false
  /-- The last tick number of the run. -/
  last : TickNo := 0
  /-- Consecutive tick numbers delivered, held at 8 (LOCK_FRAMES). -/
  count : Nat := 0
  /-- Difference, source stamp minus local stamp, at the last tick number, in sub-ticks (re-alignment's Δ). -/
  delta : Int := 0
  /-- How far the local stamp had been moved by then: the difference at a later moment follows from it (R49). -/
  shift : Int := 0
  deriving DecidableEq, Repr

/-- The graticule (02_graticule). -/
structure Grat where
  /-- 48-bit tick number of the current tick (R32, R33). -/
  tick : TickNo := 0
  /-- Graticule-clock cycles since the current tick's edge (R37); since the start of a dwell in DWELL, and since the release of reset before the first lock (R664). -/
  e : Nat := 0
  /-- Graticule-clock time at which `e` was 0, in 1/256 cycles: a clock that no step or dwell disturbs (10 R440). -/
  clock : Int := 0
  /-- The tick before the last edge: a step skips the ticks between (R45, R54). -/
  prevTick : TickNo := 0
  /-- Sub-ticks by which the local stamp has been moved against its clock: slews, steps, the holds of dwells. -/
  shift : Int := 0
  /-- 0x2000.01 STATE (Table 2.3). -/
  state : GratState := .free
  /-- 0x2000.02 SOURCE. -/
  source : Source := .none
  /-- 0x2000.07 TICK_LENGTH, T in 1/256 graticule-clock cycle (R37, R38). -/
  tickLength : BitVec 32 := 19906560
  /-- The first LOCKED state since power-on has been reached (R47, R664). -/
  everLocked : Bool := false
  /-- No edge has come since first lock: a more preferred source that qualifies now is taken directly (R46). -/
  firstTick : Bool := false
  /-- Dormant has been left: the followed source's next tick number re-aligns (Re-alignment). -/
  realignDue : Bool := false
  /-- 0x2000.06 HOLDOVER_ELAPSED (R50). -/
  holdoverElapsed : Nat := 0
  /-- 0x2000.08 SLEW_REMAINING, in sub-ticks (R53). -/
  slew : Int := 0
  /-- The source to be stepped to at its next edge (R53). -/
  stepTo : Option Source := none
  /-- 0x2000.09 STEP_COUNT. -/
  stepCount : BitVec 32 := 0
  /-- 0x2000.0A DWELL_TICKS. -/
  dwellTicks : BitVec 32 := 0
  /-- 0x2000.0B DS_DELAY_NS (R33, R333). -/
  dsDelayNs : BitVec 32 := 0
  /-- 0x2000.0C SPLIT_LAST (R57). -/
  splitLast : Int := 0
  /-- Consecutive comparisons beyond SPLIT_LIMIT, held at 4 (R58). -/
  splitOver : Nat := 0
  /-- Consecutive comparisons within SPLIT_LIMIT, held at 4 (R58). -/
  splitWithin : Nat := 0
  /-- Tick of the last split comparison (R57: once every 8 ticks). -/
  splitTick : TickNo := 0
  /-- 0x2000.0E TOD_REF_STAMP. -/
  todStamp : Stamp := 0
  /-- 0x2000.0F TOD_REF_VALUE: ten octets. -/
  todValue : Bytes := List.replicate 10 0
  /-- The PON source's run (R45a). -/
  runPon : SourceRun := {}
  /-- The FABRIC source's run (R45a). -/
  runFabric : SourceRun := {}
  /-- The PTP source's run (R45a). -/
  runPtp : SourceRun := {}
  /-- Consecutive valid counts of the locked source that do not continue the sequence (R48). -/
  badCounts : Nat := 0
  /-- The tick number the locked source is expected to deliver next (R48). -/
  expected : TickNo := 0
  /-- Local ticks since the last valid TIME-class update, held at 8 (R48, R46). -/
  updateAge : Nat := 0
  /-- Cycles since the release of reset at the last TIME-class update before first lock (R46). -/
  updateE : Nat := 0
  /-- The datum's STATE carried by the last TIME-class update (R51). -/
  datumState : GratState := .locked
  /-- Local stamp at which the locked source delivered its last tick number (R48). -/
  heard : Stamp := 0
  deriving DecidableEq, Repr

end Sys2Proof.Machine
end

