-- ==== Sys2Proof/Machine/StQuad.lean ====
section
/-! DEFINITION. The state of one quad: plotter core, queues, slots, units, banks, lane array and CIM arrays
(03_quads_and_messages, 04_lanes_and_arrays, the fetch table of 05_ciphertext_engines). -/

namespace Sys2Proof.Machine

/-- A pencil tag: one bit for each of the partition's 16 bearing-table entries (06_bearings_and_speculation R231). -/
abbrev PTag := BitVec 16

/-- One entry of the 8-entry store buffer (R70). -/
structure StoreEntry where
  /-- Quad address stored to. -/
  addr : Nat
  /-- Bytes stored: 1, 2 or 4. -/
  size : Nat
  /-- The value, little-endian in the low `size` bytes. -/
  data : Word
  /-- Quad cycle in which the entry was written (R71). -/
  cyc : Nat
  /-- Pencil tag of the storing core (06 R234). -/
  tag : PTag
  deriving DecidableEq, Repr

/-- A 64-byte message (R78) with its pencil tag. -/
structure Msg where
  /-- The 64 bytes, byte 0 first. -/
  bytes : Bytes
  /-- Pencil tag carried with the message (06 R234). -/
  tag : PTag
  deriving DecidableEq, Repr

/-- What a slot is armed on (R86, R87). -/
inductive Trigger where
  /-- A queue; persistent when the flag is true. -/
  | queue (q : BitVec 2) (persistent : Bool)
  /-- A tick, bits [31:0]. -/
  | tick (target : Word)
  deriving DecidableEq, Repr

/-- Task-slot states (R85). -/
inductive SlotState where
  | idle | armed | ready | running | waiting
  deriving DecidableEq, Repr

/-- An arming: what is waited for and the entry address (R92). -/
structure Arming where
  trig : Trigger
  entry : Word
  deriving DecidableEq, Repr

/-- One of the 8 task slots (R85 to R92). -/
structure Slot where
  /-- Slot state. -/
  st : SlotState := .idle
  /-- What the slot was last armed on; kept so that DONE re-arms a persistent slot. -/
  trig : Option Trigger := none
  /-- Entry address of the arming. -/
  entry : Word := 0
  /-- Address at which the slot starts when it is dispatched. -/
  resume : Word := 0
  /-- What a WAITING slot waits for (R87, R89). -/
  wait : Option Trigger := none
  /-- Pending arming recorded by the running task (R92). -/
  pending : Option Arming := none
  /-- A CANCEL of the running slot waits for its next stop (R90). -/
  cancelled : Bool := false
  /-- SLOTREG, CSR 0x08. -/
  slotreg : Word := 0
  /-- Quad cycle in which the slot was armed on, or began to wait for, a queue: it becomes READY in a later one (R86). -/
  since : Nat := 0
  deriving DecidableEq, Repr

/-- One of the 4 inbound queues, 16 messages deep (R83, R84). -/
structure InQueue where
  /-- Messages, oldest first. -/
  msgs : List Msg := []
  /-- Quad cycle to which `startDepth` and `pushed` refer. -/
  cyc : Nat := 0
  /-- Depth at the start of that cycle. -/
  startDepth : Nat := 0
  /-- A push was accepted in that cycle. -/
  pushed : Bool := false
  deriving DecidableEq, Repr

/-- A command held by a unit (R95 to R97). -/
structure UnitCmd where
  /-- The 32-byte descriptor copied at CMD (R76). -/
  desc : Bytes
  /-- Completion spec of gs2 (R97). -/
  spec : Word
  /-- Pencil tag of the command (06 R234). -/
  tag : PTag
  /-- Completion status and bytes moved, once the command's work is done and its completion is due. -/
  done : Option (Byte × Nat) := none
  /-- Stack bytes written, as page index × 2^22 + offset and length, for emit records (09 R384). -/
  wrote : List (Nat × Nat) := []
  /-- Replies of remote requests awaited: request tag, destination of the data as a byte offset from the command's own destination, and its length; for a write acknowledgement the bytes written, and length 0 (10 R421, R428). -/
  awaits : List (BitVec 16 × Nat × Nat) := []
  /-- The command has sent its remote requests. -/
  started : Bool := false
  /-- Quad cycle at which the command completes, by the durations of chapters 03, 04 and 05. -/
  due : Nat := 0
  /-- Bytes moved so far by a command that waits for replies (R97). -/
  moved : Nat := 0
  /-- Its completion message has been refused and is offered again in every cycle (R84). -/
  offered : Bool := false
  deriving DecidableEq, Repr

/-- A stream-table entry of the lane array (04 Table 4.3). -/
structure Stream where
  base : Nat
  lstride : Int
  istride : Int
  type : Nat
  deriving DecidableEq, Repr

/-- The lane array (04 R118 to R125). -/
structure Lanes where
  /-- Registers v0 to v15 of the 64 lanes: key 16·lane + register. -/
  v : Tab DWord := []
  /-- The 36-bit modulus register of each lane. -/
  q : Tab (BitVec 36) := []
  /-- Mask registers m0 to m3; m0 holds ACTIVE of the running command. -/
  m0 : DWord := 0
  m1 : DWord := 0
  m2 : DWord := 0
  m3 : DWord := 0
  /-- Stream table of the running command. -/
  streams : List Stream := []
  /-- Iteration of the running command. -/
  iter : Nat := 0
  /-- Flags of Table 4.5 gathered during the running command. -/
  flags : Word := 0
  /-- The command stopped on an uncorrectable read (R138). -/
  stopped : Bool := false
  deriving DecidableEq, Repr

/-- CIM array states (04 Table 4.14). -/
inductive CimState where
  | unloaded | loaded | failed
  deriving DecidableEq, Repr

/-- One CIM array (04 R139 to R168). -/
structure CimArray where
  st : CimState := .unloaded
  mode : BitVec 8 := 0
  rows : Nat := 0
  cols : Nat := 0
  q : BitVec 36 := 0
  /-- Weight elements, row-major, at their stored width. -/
  w : List DWord := []
  /-- Reference sums S1 and S2 (R155). -/
  s1 : List DWord := []
  s2 : List DWord := []
  /-- Survey bins n_0 to n_15 (R164). -/
  bins : List Nat := List.replicate 16 0
  /-- Survey bit counts c_0 to c_15 (R164). -/
  ones : List Nat := List.replicate 16 0
  /-- Samples counted in the open window (R165). -/
  samples : Nat := 0
  /-- Consecutive suspect windows (R167). -/
  run : Nat := 0
  /-- Failure code: 0 none, 1 benchmark, 2 chi-squared, 3 bit count, 4 range. -/
  failure : Byte := 0
  /-- Failing column or failing bit. -/
  failAt : Byte := 0
  /-- Chi-squared of the last closed window, FIX16.16. -/
  chi2 : BitVec 32 := 0
  /-- Suspect windows since load. -/
  suspects : BitVec 32 := 0
  deriving DecidableEq, Repr

/-- An open entry of a base-conversion unit's fetch table (05 R192 to R200). -/
structure FetchEntry where
  /-- Destination global address in stack memory. -/
  dst : BitVec 64
  keyId : BitVec 32
  digit : BitVec 8
  page : BitVec 8
  urgency : BitVec 8
  need : Stamp
  /-- Request tags this entry has sent. -/
  tags : List (BitVec 16)
  /-- KEY_ROUTE position asked last, if any. -/
  lastIdx : Option Nat
  /-- The vault asked last (10 R420). -/
  lastVault : Option Nat := none
  /-- Vaults asked since the KFETCH or the latest retry (R200). -/
  asked : List Nat
  /-- Stamp of the next retry (R199). -/
  retryAt : Stamp
  deriving DecidableEq, Repr

/-- A timed record of a HINTS, HOLES or BENCH section (R111, R113, 04 R159). -/
structure TimedRec where
  /-- TICK_OFF. -/
  tickOff : Nat
  /-- SUBTICK. -/
  sub : Nat
  /-- LENGTH in sub-ticks; 0 for a hint. -/
  len : Nat
  /-- LEVEL of a hint. -/
  level : Nat
  /-- UNITS of a hint, ARRAYS of a BENCH record. -/
  units : Byte
  deriving DecidableEq, Repr

/-- QUAD_RECORD byte 13 (Table 3.14). -/
inductive QuadState where
  | unloaded | loaded | running | trapped | failed | spare
  deriving DecidableEq, Repr

/-- Quad state that the plotter core and its units hold. -/
structure Quad where
  /-- g1 to g31, by number; g0 has no storage (R62). -/
  g : Tab Word := []
  /-- PC of the running task: the address of the next instruction to retire. -/
  pc : Word := 0
  /-- Quad clock cycles since the sheet was loaded, at the last retirement, dispatch or stop of a task (CSR 0x06). -/
  cyc : Nat := 0
  /-- A task has been dispatched and has retired nothing yet: its first instruction retires 2 cycles later (R88). -/
  fresh : Bool := false
  /-- Cycle of the last completion of a unit command, plus one; 0 for none (R75). -/
  unitDone : Nat := 0
  /-- Stamp latched by RDT (R94). -/
  latched : Stamp := 0
  /-- The 8 task slots. -/
  slots : List Slot := List.replicate 8 {}
  /-- Store buffer, oldest first (R70). -/
  sb : List StoreEntry := []
  /-- Cycle of the last drain, plus one; 0 for none (R71). -/
  drained : Nat := 0
  /-- Cycle of the last load and its memory (address divided by 2^16), for the port rule (R71). -/
  loadAt : Option (Nat × Nat) := none
  /-- Outbound buffer of 2 messages, as sent, oldest first (R82). -/
  outbound : List Msg := []
  /-- Inbound queues 0 to 3 (R83). -/
  inq : List InQueue := List.replicate 4 {}
  /-- Command queues of units 0 to 5, oldest first (R95). -/
  units : List (List UnitCmd) := List.replicate 6 []
  /-- Instruction memory, data memory, weight bank and activation bank by quad address (R67). -/
  mem : List Host.Cell := []
  /-- Pencil tags by 4 KiB block of quad address (R101). -/
  tags : Tab PTag := []
  /-- Pencil tag of the plotter core: the OR of the tags it has read (06 R234). -/
  coreTag : PTag := 0
  /-- Pencil tag of the lane array (06 R234). -/
  laneTag : PTag := 0
  /-- Pencil tags of the 8 CIM arrays, by array (06 R234). -/
  cimTag : Tab PTag := []
  /-- Words holding an injected error: key quad address of the word, value the number of bits inverted (16 R629). -/
  inj : Tab Nat := []
  /-- Lane array. -/
  lanes : Lanes := {}
  /-- CIM arrays 0 to 7. -/
  cim : List CimArray := List.replicate 8 {}
  /-- Fetch table of the base-conversion unit, 16 entries (05 R192). -/
  fetch : List FetchEntry := []
  /-- QUAD_RECORD: SHEET_ID. -/
  sheetId : BitVec 64 := 0
  /-- QUAD_RECORD: trap PC. -/
  trapPc : Word := 0
  /-- QUAD_RECORD: trap cause (R69). -/
  trapCause : Byte := 0
  /-- Code of a SOFTWARE trap. -/
  trapCode : BitVec 16 := 0
  /-- QUAD_RECORD: state. -/
  st : QuadState := .unloaded
  /-- QUAD_RECORD: corrected errors since load. -/
  corrected : BitVec 32 := 0
  /-- QUAD_RECORD: sheets rejected since power-on. -/
  rejected : BitVec 32 := 0
  /-- Fault sources whose cause lasts until the quad is reloaded or replaced (03 Table 3.15, 04 Table 4.15). -/
  causes : List Nat := []
  /-- START_OFFSET of the loaded sheet. -/
  startOffset : Nat := 0
  /-- PERIOD_TICKS of the loaded sheet. -/
  period : Nat := 640
  /-- CLOCK_MHZ of the loaded sheet. -/
  clockMhz : Nat := 0
  /-- HINTS, HOLES and accepted BENCH records of the loaded sheet. -/
  hints : List TimedRec := []
  holes : List TimedRec := []
  bench : List TimedRec := []
  /-- Start of the last BENCH slot passed or missed, by record (R161, R163). -/
  benchSeen : Tab Stamp := []
  /-- Unit 2 is held by a slot's benchmark pass until this cycle (R161). -/
  passUntil : Nat := 0
  /-- The latest span in which unit 2 had no command queued or running: its start, and its end when it is over (R163). -/
  idleFrom : Stamp := 0
  idleTo : Option Stamp := none
  deriving DecidableEq, Repr

end Sys2Proof.Machine
end

