-- ==== Sys2Proof/Machine/StPart.lean ====
section
/-! DEFINITION. The state of one partition and of one strip: chapters 06_bearings_and_speculation and
07_partitions_and_sessions. -/

namespace Sys2Proof.Machine

/-- Bearing-table entry states, 06 Table 6.4; FREE is the absence of an entry. -/
inductive EntryState where
  | held | sent | answered | paused
  deriving DecidableEq, Repr

/-- An entry of a partition's bearing table (06 R222 to R246). -/
structure BearingEntry where
  st : EntryState
  /-- Plan point. -/
  point : Nat
  /-- Device strip context. -/
  strip : Nat
  bseq : BitVec 32
  /-- Number of the beat whose point this is. -/
  beat : Nat
  /-- Open stamp. -/
  openAt : Stamp
  /-- Stamp of the query's acceptance (R228). -/
  queryAt : Option Stamp
  /-- Present sessions taken at the open (R223). -/
  present : BitVec 64
  /-- The 256-octet ANSWER landed and not yet resolved, in record-block order. -/
  answer : Option Bytes
  /-- The answer is the expansion of DECLARED after a timeout or a malformed answer. -/
  defaulted : Bool
  /-- PRED as formed at the open (256 octets, record-block order). -/
  pred : Bytes
  /-- The 64 octets of the point at its open. -/
  plan : Bytes
  /-- The query was discarded by an erase while it was held (06 R239, R241). -/
  dropped : Bool := false
  deriving DecidableEq, Repr

/-- Partition states, 07 Table 7.1. -/
inductive PartState where
  | free | loading | running | recovering | replaying | waitingSpare | stopped | handedOver
  deriving DecidableEq, Repr

/-- Strip states, 07 Table 7.2. -/
inductive StripState where
  | free | placed | running | recovering | shadow | closing | stopped | handedOver
  deriving DecidableEq, Repr

/-- Session states of SESSIONS byte 7 (07 Table 7.7). -/
inductive SessState where
  | absent | active | refused | aborted
  deriving DecidableEq, Repr

/-- One session slot of a strip (07 R281 to R291). -/
structure Session where
  /-- Session context, 0 to 4,095, when the slot holds one. -/
  ctx : Option Nat := none
  startBeat : BitVec 32 := 0
  st : SessState := .absent
  /-- A frame has cleared the slot's PRESENT bit since its abort (R290). -/
  cleared : Bool := false
  /-- Openings E of the slot's pending turns, oldest first (R285, R286). -/
  turns : List Stamp := []
  /-- Stamp of the last completed turn's completion, for ABORT_LATE (R289). -/
  doneAt : Option Stamp := none
  /-- Stamp of the abort of an aborted session (R289, R290), and its ordinal sub-tick while stamps are held (02 R664). -/
  abortAt : Stamp := 0
  abortOrd : Nat := 0
  deriving DecidableEq, Repr

/-- What a checkpoint records of one strip (R295). -/
structure CkptStrip where
  strip : Nat
  beat : Nat
  rseq : BitVec 32
  present : BitVec 64
  sessions : Tab Session
  abortStatus : Bytes
  deriving DecidableEq, Repr

/-- A checkpoint slot (R295, R296); its pages stand in stack memory. -/
structure Ckpt where
  /-- Checkpoint instant. -/
  instant : Stamp
  beat : Nat
  complete : Bool
  strips : List CkptStrip
  deriving DecidableEq, Repr

/-- A checkpoint held for a peer partition in mirror slots (R299). -/
structure Mirror where
  beat : Nat
  /-- Mirror slot 0 or 1. -/
  slot : Nat
  /-- PHASE and TENANT of the peer partition, and the pages of its checkpoint (10 R443, R444). -/
  phase : Nat
  tenant : BitVec 32
  pages : Nat
  strips : List CkptStrip
  deriving DecidableEq, Repr

/-- A partition's gazetteer registers (06 R248 to R254); slot images and written counts stand in its stack page. -/
structure Gaz where
  /-- GAZ_PAGE, 0xFFFF_FFFF for none. -/
  page : BitVec 32 := 0xFFFFFFFF
  /-- CURRENT: the slot in force. -/
  current : BitVec 1 := 0
  epoch0 : BitVec 16 := 0
  epoch1 : BitVec 16 := 0
  retired : BitVec 16 := 0
  /-- The slot not in force holds an epoch not yet retired. -/
  unretired : Bool := false
  /-- Counts gathered since the last interval boundary, by layer × 256 + expert. -/
  counts : Tab Nat := []
  /-- Start of the present count interval. -/
  countStart : Stamp := 0
  /-- Epoch each strip opened its last beat under. -/
  stripEpoch : Tab (Option (BitVec 16)) := []
  deriving DecidableEq, Repr

/-- One of the 64 partitions (07 R256 to R317). -/
structure Partition where
  st : PartState := .free
  /-- Physical quads by logical number, remapping applied (R257, R305). -/
  quadMap : List (BitVec 16) := []
  /-- Physical stack pages owned, by page index (R259). -/
  pages : List Nat := []
  /-- Physical pages holding sheet copies (R264). -/
  sheetCopy : List Nat := []
  /-- Container extents within the sheet copy: offset and length, in logical order (R264). -/
  containers : List (Nat × Nat) := []
  /-- Logical quads loaded since LOADING or RECOVERING began. -/
  loaded : List Nat := []
  /-- Stamp of the last quad load (R267). -/
  loadedAt : Stamp := 0
  /-- 0x3000+p.0B RUN. -/
  run : Bool := false
  /-- A stop waits for the next beat opening (R269). -/
  stopping : Bool := false
  /-- Number of the next beat to open. -/
  nextBeat : Nat := 0
  /-- Opening stamp of the last beat opened (R308). -/
  opening : Stamp := 0
  /-- Some beat has opened since LOADING. -/
  begun : Bool := false
  /-- Number of the first beat opened since LOADING. -/
  firstBeat : Nat := 0
  /-- PENCIL_BUDGET in force (rolling, 06 Table 6.9). -/
  pencilBudget : BitVec 16 := 64
  /-- Bearing points in force, 64 octets each, by point number (06 R218). -/
  plan : Tab Bytes := []
  /-- Bearing table, by entry 0 to 15 (06 R222). -/
  table : Tab (Option BearingEntry) := []
  /-- Pencil tags of the stack pages, by page index (06 R232). -/
  pageTags : Tab PTag := []
  /-- Gazetteer. -/
  gaz : Gaz := {}
  /-- Start of the watchdog window: last progress moved by the ticks that do not count (R316, R317). -/
  wdBase : Stamp := 0
  /-- The present window has closed (R316). -/
  wdClosed : Bool := false
  /-- The present tick has held a moment that keeps it from counting towards the window (R317). -/
  wdSkip : Bool := false
  /-- A halt waits for one sub-tick after this raise: stamp and source (R304). -/
  haltDue : Option (Stamp × Byte) := none
  /-- Physical quads whose raise marks them failed: the mark comes with the halt (R302, R304). -/
  failing : List Nat := []
  /-- Stamp of the last halt (R304). -/
  haltAt : Stamp := 0
  /-- Stamp of the last spare mapping (R307). -/
  mappedAt : Stamp := 0
  /-- Source that started the recovery in progress. -/
  cause : Byte := 0
  /-- Physical quads marked failed in the recovery in progress, with the spare each was mapped to. -/
  remaps : List (BitVec 16 × Option (BitVec 16)) := []
  /-- Frames lost in the replay in progress. -/
  lost : Nat := 0
  /-- LAST_RECOVERY, 64 octets. -/
  lastRecovery : Bytes := List.replicate 64 0
  /-- RECOVERIES. -/
  recoveries : BitVec 32 := 0
  /-- STALLS. -/
  stalls : BitVec 32 := 0
  /-- Checkpoint slots 0 and 1 (R296). -/
  ckpt0 : Option Ckpt := none
  ckpt1 : Option Ckpt := none
  /-- The state at the first beat opening since LOADING, from which a recovery before the first checkpoint starts: its
  strips, and the state pages by page number × 2^22 + offset (assumption log 23). -/
  base : Option Ckpt := none
  basePages : Tab Byte := []
  /-- Beat of the checkpoint sent to the buddy and not yet acknowledged (R300). -/
  mirrorSent : Option Nat := none
  /-- A mirror was abandoned and none acknowledged since (Table 7.9). -/
  mirrorFail : Bool := false
  /-- Checkpoints held for the peer partition named by MIRROR_OF. -/
  mirrors : List Mirror := []
  /-- A mirror of the peer's checkpoint was taken over (10 R443). -/
  takenOver : Bool := false
  deriving DecidableEq, Repr

/-- A beat of a strip whose points may still open (06 R221). -/
structure BeatRec where
  beat : Nat
  /-- Opening stamp. -/
  opening : Stamp
  /-- SHIFT of the beat, in sub-ticks (06 R221, R239). -/
  shift : Nat
  /-- Points already opened in the beat. -/
  opened : List Nat
  /-- The active points of the strip in the plan in force at the opening, by point number (06 R218, log 53). -/
  plan : Tab Bytes
  deriving DecidableEq, Repr

/-- One of the 256 strip contexts (07 R277 to R301). -/
structure Strip where
  /-- 0x4000+s.00 STATE. -/
  st : StripState := .free
  /-- 0x4000+s.01 PARTITION in force. -/
  partition : BitVec 8 := 0xFF
  /-- Session mask in force (R281). -/
  present : BitVec 64 := 0
  /-- BEAT. -/
  beat : Nat := 0
  rseq : BitVec 32 := 0
  highSeq : BitVec 32 := 0
  /-- A result has entered the upstream scheduler: HIGH_SEQ holds its RSEQ (R292). -/
  entered : Bool := false
  turns : BitVec 64 := 0
  lateTurns : BitVec 32 := 0
  /-- ABORT_STATUS, one octet per slot. -/
  abortStatus : Bytes := List.replicate 64 0
  sessions : Tab Session := []
  replaySuppressed : BitVec 32 := 0
  framesLost : BitVec 32 := 0
  ckptBeat : Nat := 0
  mirrorBeat : Nat := 0
  /-- Next bearing sequence of the strip (06 R222). -/
  bseq : BitVec 32 := 0
  /-- Last key-holder answer that resolved each point in this strip, in record-block order, with its present mask in
  the last 8 octets (06 R226). -/
  carried : Tab Bytes := []
  /-- The newest beat, and older ones with points yet to open or bearings outstanding, newest first (06 R221). -/
  beats : List BeatRec := []
  /-- The two newest stamps of resolutions with the DEFAULTED flag, newest first (06 R244). -/
  defaultedAt : List Stamp := []
  deriving DecidableEq, Repr

end Sys2Proof.Machine
end

