-- ==== Sys2Proof/Machine/StNet.lean ====
section
/-! DEFINITION. The state of the Aksia fabric, of key streaming as a vault, and of the Ethernet ports: chapters
10_aksia_fabric, 05_ciphertext_engines and 11_ethernet_ports. -/

namespace Sys2Proof.Machine

/-- Port states, 10 Table 10.5. -/
inductive PortState where
  | disabled | detect | equalise | align | ident | up | backoff
  deriving DecidableEq, Repr

/-- A claim to be datum (10 R436). -/
structure Claim where
  priority : Byte
  uid : BitVec 64
  hops : Nat
  /-- Device number of the claimant. -/
  device : BitVec 16
  deriving DecidableEq, Repr

/-- A packet that waits to be sent, with the link direction and sub-channel whose receive buffer it holds, if it came from
another device (10 R417). -/
structure Queued where
  pkt : Packet
  holds : Option (Nat × Bool)
  deriving DecidableEq, Repr

/-- One Aksia port (10 Table 10.5, Table 10.7). -/
structure AksPort where
  st : PortState := .disabled
  lanesUp : Nat := 0
  partnerDev : BitVec 16 := 0
  partnerPort : Byte := 0
  /-- n of R429. -/
  attempts : BitVec 32 := 0
  /-- Start of the attempt or of the back-off. -/
  since : Stamp := 0
  /-- Delay in graticule-clock cycles (R434). -/
  delay : Nat := 0
  retrains : BitVec 32 := 0
  eyeMv : BitVec 16 := 0
  fecCorrected : BitVec 64 := 0
  /-- Next 12-bit link-frame sequence (R416). -/
  txSeq : BitVec 12 := 0
  /-- Retry buffer: link frames sent and not yet known to have arrived, oldest first (R416). -/
  retry : List (BitVec 12 × Packet) := []
  /-- Packets that wait to be sent, in the order in which they came (R417, R418). -/
  queue : List Queued := []
  /-- Place in the round robin: the class, 1 MSG to 4 KEY, served last (R418). -/
  served : Nat := 0
  /-- Frames resent in the present tick (R431). -/
  resent : Nat := 0
  /-- Frames still to be sent with an inverted CRC (16 R629). -/
  badCrc : Nat := 0
  /-- Sequences sent with an inverted CRC and not yet resent. -/
  injected : List (BitVec 12) := []
  /-- Ticks since the last delay exchange (R434). -/
  exchangeAge : Nat := 0
  /-- AKSIA_PORT_DOWN, AKSIA_LINK_DOWN and AKSIA_MISCABLED raised for the port and its cause not gone (Table 10.8). -/
  fell : Bool := false
  linkFell : Bool := false
  miscabled : Bool := false
  deriving DecidableEq, Repr

/-- A link held down in the link map (10 R424). -/
structure LinkDown where
  device : BitVec 16
  direction : Nat
  deriving DecidableEq, Repr

/-- Liveness towards one buddy (10 R440, R441). -/
structure BuddyLive where
  /-- Clock of the last acknowledgement, or of the first heartbeat sent to it (R441). -/
  ackAt : Option Int := none
  /-- Partitions that entered HANDED_OVER since the previous acknowledged heartbeat. -/
  handover : BitVec 64 := 0
  /-- HANDOVER mask of the last heartbeat sent. -/
  sentHandover : BitVec 64 := 0
  /-- Partitions were fenced from this buddy: FENCED in later heartbeats to it (R441, assumption log 34). -/
  fenced : Bool := false
  deriving DecidableEq, Repr

/-- WATCH_STATE, 10 Table 10.7. -/
inductive WatchState where
  | idle | watching | blocked | takenOver
  deriving DecidableEq, Repr

/-- A holder partition's watch of its peer (10 R442, R443). -/
structure Watch where
  st : WatchState := .idle
  /-- Clock of the last heartbeat that landed from the peer's device. -/
  heardAt : Int := 0
  /-- The peer partition was set in the last RUNNING mask. -/
  lastRunning : Bool := false
  takeoverAt : Stamp := 0
  takeovers : BitVec 32 := 0
  deriving DecidableEq, Repr

/-- A message from another device in the ingress area (10 R419). -/
structure Ingress where
  srcDev : BitVec 16
  srcPart : Byte
  partition : Nat
  quad : Nat
  queue : BitVec 2
  msg : Msg
  deriving DecidableEq, Repr

/-- The Aksia fabric (10_aksia_fabric). -/
structure Aksia where
  /-- Ports by number 0 to 47. -/
  ports : Tab AksPort := []
  /-- Links held down by the link map (R424). -/
  linkMap : List LinkDown := []
  /-- Directions in which a ZX4-L faces a device of another grade (R414). -/
  mixed : List Nat := []
  /-- LINK_STATE sequences seen from each device, newest first, those less than 2^15 behind the newest (R424). -/
  seenSeq : Tab (List (BitVec 16)) := []
  /-- Sequence, plus one, of the newest notice entered in the map for a link: device × 8 + direction. -/
  linkSeq : Tab Nat := []
  /-- Link credits spent towards a neighbour, by direction × 16 + class × 2 + sub-channel (R417). -/
  linkUsed : Tab Nat := []
  /-- This device's LINK_STATE sequence. -/
  mySeq : BitVec 16 := 0
  /-- Claims received in the present tick, with the port of arrival (R436). -/
  claims : List (Nat × Claim) := []
  /-- Best claim held. -/
  best : Option Claim := none
  /-- Lowest-numbered port of the upstream link (R436). -/
  upstream : Option Nat := none
  /-- This device is the datum and sends UPDATEs from this edge on (R437). -/
  isDatum : Bool := false
  /-- The datum changed: the next UPDATE re-aligns a graticule on FABRIC (R439). -/
  newDatum : Bool := false
  dropped : BitVec 32 := 0
  unreachable : BitVec 32 := 0
  /-- MSG credits held towards each peer: key partition × 2^24 + device × 256 + peer partition (R419). -/
  msgHeld : Tab Nat := []
  /-- MSG credits given to each peer and not yet returned, by the same key (R419). -/
  msgGiven : Tab Nat := []
  /-- Space reserved for the RESP packets that REQ packets under way will cause: request and bytes (R421). -/
  respHeld : List (Nat × Nat) := []
  /-- KEY credits sent and unspent, in bytes, by partition × 2^16 + vault device (R420). -/
  keyCredits : Tab Nat := []
  /-- KEY credits sent in the present tick, in bytes, by partition (R420). -/
  keySentNow : Tab Nat := []
  /-- Ingress area (R419). -/
  ingress : List Ingress := []
  /-- Next request tag of REQ packets. -/
  nextTag : BitVec 16 := 0
  /-- Liveness by buddy device. -/
  buddies : Tab BuddyLive := []
  /-- Watches by holder partition. -/
  watches : Tab Watch := []
  /-- Clock of the last heartbeat that landed with a RUNNING mask that is not zero (15 R605). -/
  runningHeard : Option Int := none
  deriving DecidableEq, Repr

/-- A KEY request held by a vault (05 R210). -/
structure VaultReq where
  device : BitVec 16
  partition : Byte
  tenant : BitVec 32
  keyId : BitVec 32
  digit : Byte
  page : Byte
  urgency : Byte
  need : Stamp
  tag : BitVec 16
  /-- Bytes of the page sent so far (R211). -/
  sent : Nat := 0
  deriving DecidableEq, Repr

/-- State of a VAULT_KEY entry (05 Table 5.10). -/
structure VaultKey where
  keyId : BitVec 32 := 0
  tenant : BitVec 32 := 0
  object : BitVec 64 := 0
  /-- 0 empty, 1 loading, 2 loaded, 3 failed. -/
  st : Byte := 0
  /-- Physical stack pages that hold the archive's key pages, two to a page. -/
  pages : List Nat := []
  /-- Key pages of the archive. -/
  count : Nat := 0
  deriving DecidableEq, Repr

/-- Key streaming, device-wide (05 Table 5.10, R210 to R214). -/
structure KeyStream where
  pagesLanded : BitVec 64 := 0
  pagesLate : BitVec 32 := 0
  rerequests : BitVec 32 := 0
  nacks : BitVec 32 := 0
  pagesServed : BitVec 64 := 0
  /-- Requests held, in landing order, at most 4,096. -/
  requests : List VaultReq := []
  /-- Credits held towards each requester, by device × 256 + partition (R211). -/
  credits : Tab Nat := []
  /-- VAULT_KEY entries. -/
  keys : Tab VaultKey := []
  /-- Next KEY request tag (R195). -/
  nextTag : BitVec 16 := 0
  deriving DecidableEq, Repr

/-- An ARP entry of a port (11 R453). -/
structure Arp where
  ip : BitVec 32
  mac : Option (BitVec 48)
  /-- Stamp of the last request sent or, once resolved, of the resolution or refresh. -/
  at_ : Stamp
  deriving DecidableEq, Repr

/-- One Ethernet port (11_ethernet_ports). -/
structure EthPort where
  link : Bool := false
  /-- ETH_LINK_DOWN was raised for the port and its link has not come up since (Table 11.6). -/
  fell : Bool := false
  speedMbps : BitVec 32 := 0
  rxFrames : BitVec 64 := 0
  txFrames : BitVec 64 := 0
  /-- RX_DISCARDS: FCS, MTU, TAG, OTHER, IPV4, L4, TXFULL. -/
  discards : List (BitVec 32) := List.replicate 7 0
  arp : List Arp := []
  /-- Frames that wait in the transmit queue: for the link, or for the address of a next hop, their destination then still
  zero (R453, R455). -/
  txq : List (Option (BitVec 32) × Bytes) := []
  deriving DecidableEq, Repr

/-- The management port's PHY and speed judgement (11 R447, R456, R457). -/
structure Mgmt where
  /-- Consecutive MDIO reads without a valid response, held at 3. -/
  mdioMissed : Nat := 0
  /-- Stamp of the last MDIO read. -/
  mdioAt : Stamp := 0
  /-- Tick at which the link last came up. -/
  upTick : TickNo := 0
  /-- Tick of the last raise, if any. -/
  raiseTick : Option TickNo := none
  /-- The link is down for a speed change (R457). -/
  changing : Bool := false
  /-- The PHY advertises 100BASE-TX alone (R457). -/
  lowered : Bool := false
  speedChanges : BitVec 32 := 0
  /-- Bytes sent and received by tick, the present one first and at most 8,000 before it; trailing ticks without traffic
  unlisted. -/
  history : List Nat := []
  deriving DecidableEq, Repr

/-- PTP states, 11 Table 11.2. -/
inductive PtpState where
  | disabled | listening | uncalibrated | slave
  deriving DecidableEq, Repr

/-- A PTP Announce data set (11 R463). -/
structure Announce where
  priority1 : Nat
  clockClass : Nat
  accuracy : Nat
  variance : Nat
  priority2 : Nat
  identity : Bytes
  steps : Nat
  sender : Bytes
  port : Nat
  deriving DecidableEq, Repr

/-- The PTP slave (11 R462 to R465). -/
structure Ptp where
  st : PtpState := .disabled
  master : Option Announce := none
  /-- Last offset from master, ns. -/
  offsetNs : Int := 0
  meanDelayNs : Int := 0
  /-- Sequence number of the next Delay_Req. -/
  seq : BitVec 16 := 0
  /-- t1 and t2 of the last Sync, ns. -/
  sync : Option (Int × Int) := none
  /-- Clock of the master's last Announce, and of its last Sync or else of its selection; the intervals that the two
  last gave, in clock units (Table 11.2). -/
  announceAt : Int := 0
  syncAt : Int := 0
  announceEvery : Int := 0
  syncEvery : Int := 0
  /-- PTP time has been stepped to the first offset since UNCALIBRATED was entered from LISTENING. -/
  stepped : Bool := false
  /-- Consecutive offsets within 1,000 ns, held at 16. -/
  good : Nat := 0
  /-- Consecutive offsets beyond 10,000 ns, held at 4. -/
  bad : Nat := 0
  deriving DecidableEq, Repr

/-- The Ethernet ports (11_ethernet_ports). -/
structure Eth where
  /-- Port 0 MGMT, 1 LOCAL0, 2 LOCAL1. -/
  p0 : EthPort := {}
  p1 : EthPort := {}
  p2 : EthPort := {}
  mgmt : Mgmt := {}
  ptp : Ptp := {}
  wakeCause : Byte := 0
  wakeStamp : Stamp := 0
  deriving DecidableEq, Repr

end Sys2Proof.Machine
end

