-- ==== Sys2Proof/Machine/StPon.lean ====
section
/-! DEFINITION. The state of the PON terminal and of session transport: chapters 08_pon_terminal and
09_session_transport. -/

namespace Sys2Proof.Machine

/-- Delineation states, 08 Table 8.2. -/
inductive SyncState where
  | hunt | preSync | sync | reSync
  deriving DecidableEq, Repr

/-- Activation states, 08 Table 8.3. -/
inductive ActState where
  | o11 | o12 | o23 | o4 | o5 | o6 | o7
  deriving DecidableEq, Repr

/-- A stored burst profile (08 R336). -/
structure BurstProfile where
  index : Nat
  preamble : Bytes
  delimiter : Bytes
  fec : Bool
  deriving DecidableEq, Repr

/-- Contents of an allocation chosen at its fill stamp (09 R401 to R405). -/
structure Filled where
  allocId : Nat
  /-- Start of the allocation, in ns (08 R347). -/
  startNs : Nat
  /-- XGEM frames placed: Port-ID, last-fragment flag, octets of the SDU. -/
  frames : List (Nat × Bool × Bytes)
  /-- DBRu occupancy, when asked for. -/
  dbru : Option Nat
  deriving DecidableEq, Repr

/-- A GEM port created by OMCI (class 268): Port-ID, T-CONT instance and encryption key ring. -/
structure GemPort where
  portId : Nat
  tcont : Nat
  /-- 1 for encryption in both directions (log 33). -/
  ring : Nat := 0
  deriving DecidableEq, Repr

/-- The PON terminal (08_pon_terminal). -/
structure Pon where
  sync : SyncState := .hunt
  /-- Consecutive incorrect PSBds in RE-SYNC, the first counted (R320). -/
  badPsbd : Nat := 0
  /-- Superframe count of the last correct PSBd. -/
  lastCount : BitVec 51 := 0
  act : ActState := .o11
  /-- Entry stamp of O4 or O6, the opening of TO1 or TO2 (R325). -/
  timerAt : Stamp := 0
  onuId : BitVec 16 := 0xFFFF
  /-- EQD_NS in force. -/
  eqdNs : BitVec 32 := 0
  /-- Its changes, newest first: the frame that carried the message, and the delay it gave (R332). -/
  eqdLog : List (TickNo × BitVec 32) := []
  /-- n of R328. -/
  attemptsFailed : BitVec 32 := 0
  /-- An attempt is under way (R328). -/
  attempting : Bool := false
  /-- Stamp of the last attempt's failure, and whether its back-off has passed. -/
  failedAt : Stamp := 0
  backoffDone : Bool := true
  profiles : List BurstProfile := []
  /-- Alloc-IDs in force besides their T-CONT instances, which OMCI gives (R340). -/
  allocs : List Nat := []
  /-- T-CONT entities: Alloc-ID by instance (class 262). -/
  tconts : Tab (BitVec 16) := []
  /-- GEM port network CTPs by instance (class 268). -/
  gemPorts : Tab (Option GemPort) := []
  /-- GEM interworking termination points by instance: GEM port instance (class 266). -/
  gemIwtp : Tab (BitVec 17) := []
  /-- Multicast GEM interworking termination points by instance (class 281). -/
  mcastIwtp : Tab (BitVec 17) := []
  /-- ONU data: MIB data sync (class 2). -/
  mibSync : Byte := 0
  /-- Maximum rx-off interval set by class 336, in microseconds. -/
  rxOffUs : Option Nat := none
  /-- Unicast and broadcast keys by key index 1 and 2 (R324). -/
  uni1 : Option Bytes := none
  uni2 : Option Bytes := none
  bcast1 : Option Bytes := none
  bcast2 : Option Bytes := none
  /-- A unicast key generated and not yet confirmed: index and key (R336). -/
  keyPending : Option (Nat × Bytes) := none
  /-- Index of the unicast key confirmed last, which enciphers upstream frames (R318, log 33). -/
  txKey : Option Nat := none
  /-- Sequence number of the last unicast PLOAM message executed (R337). -/
  lastSeq : Option Byte := none
  /-- Upstream PLOAM messages queued (R346). -/
  ploamUp : List Bytes := []
  /-- OMCI responses that wait for an allocation of the default Alloc-ID (R346). -/
  omciUp : List Bytes := []
  /-- Completion code of the last message, acknowledged again on a repeat (R337). -/
  lastAck : Byte := 0
  fecCorrected : BitVec 64 := 0
  fecUncorrectable : BitVec 64 := 0
  /-- Number of the newest uncorrectable codeword counted, plus one (R323). -/
  lostSeen : Nat := 0
  hecErrors : BitVec 32 := 0
  ploamUnsupported : BitVec 32 := 0
  omciRefused : BitVec 32 := 0
  sleepAllowed : Bool := false
  optDiag : Bytes := List.replicate 10 0
  optFlags : Bytes := List.replicate 6 0
  /-- Tick of the last optics poll (R351). -/
  optAt : Stamp := 0
  /-- Consecutive polls without an acknowledgement, held at 3 (R353). -/
  optMissed : Nat := 0
  grantOverlaps : BitVec 32 := 0
  dsUndecryptable : BitVec 32 := 0
  /-- End of the last transmission with BURST_LAG_NS, in ns (R347). -/
  txEndNs : Nat := 0
  /-- BURST_EN is asserted from, and negated at, these moments of the last burst, in ns (R348). -/
  burstFrom : Nat := 0
  burstTo : Nat := 0
  /-- The guard has not cut the last burst (R349). -/
  burstOn : Bool := false
  /-- The allocation granted last was transmitted, so that its burst may go on with the next (R346). -/
  burstOpen : Bool := false
  /-- Limit of the burst guard for the last burst, in ns (R349). -/
  guardNs : Nat := 0
  /-- Allocations filled and not yet transmitted. -/
  filled : List Filled := []
  /-- Watchful sleep is in force (R356). -/
  watchful : Bool := false
  /-- Stamp of the last reception's end (R356). -/
  rxAt : Stamp := 0
  /-- Sleep_Request to send with the next allocation: 1 watchful sleep, 2 awake (R356, R359). -/
  sleepRequest : Nat := 0
  /-- Dormant with sleep forbidden: allocations go out idle (R358). -/
  sleepRefused : Bool := false
  deriving DecidableEq, Repr

/-- A frame being assembled (09 R366 to R368). -/
structure Assembly where
  /-- Ring slot claimed; 16 for an answer, which claims none. -/
  slot : Nat
  /-- Type octet of its segment header. -/
  type : Byte
  fseq : BitVec 32
  /-- Octets received so far: header, payload and tag. -/
  buf : Bytes
  /-- AUTH in force at its OFFSET 0 segment (R367, R411). -/
  auth : Byte
  /-- Key slot in force at its OFFSET 0 segment, and the copy of its acceptable generations (12 R492). -/
  keySlot : Byte
  keys : List Bytes
  /-- Stamp of the last segment (R368). -/
  lastAt : Stamp
  deriving DecidableEq, Repr

/-- A ring slot's frame (09 R372, R379). -/
structure RingSlot where
  fseq : BitVec 32
  sessions : BitVec 64
  turns : BitVec 64
  landed : Stamp
  deriving DecidableEq, Repr

/-- A feed record kept for replays (09 R379, R381). -/
structure Feed where
  beat : Nat
  /-- 0 FRESH, 1 REPEAT, 2 VOID. -/
  kind : Byte
  slot : Nat
  fseq : BitVec 32
  present : BitVec 64
  eot : BitVec 64
  landed : Stamp
  deriving DecidableEq, Repr

/-- A strip's transport state (09 Table 9.7 and R365 to R382). -/
structure StripTx where
  /-- Policer tokens (R365). -/
  tokens : Nat := 0
  asm : Option Assembly := none
  /-- FSEQ of a frame whose later segments are discarded (R365). -/
  discarding : Option (BitVec 32) := none
  /-- Landed frames by ring slot. -/
  ring : Tab (Option RingSlot) := []
  /-- Ring slots by claim, least recent first. -/
  claims : List Nat := List.range 16
  /-- Slip buffer: ring slots, oldest frame first. -/
  slip : List Nat := []
  /-- Slots that fed the present and the previous beat. -/
  fedNow : Option Nat := none
  fedPrev : Option Nat := none
  /-- Slots that fed the replayed beat that is open and the beat replayed before it (R366, 07 R310). -/
  fedReplay : Option Nat := none
  fedReplayPrev : Option Nat := none
  /-- The newest beat whose real opening has fed the strip, or came before the strip started (R378). -/
  fedUpTo : Option Nat := none
  /-- What fed each beat, by beat: from the oldest that a restart can replay on (07 R310). -/
  feeds : Tab (Option Feed) := []
  /-- A frame has landed since the strip was placed (R370). -/
  landedOnce : Bool := false
  framesLanded : BitVec 64 := 0
  authFails : BitVec 32 := 0
  incomplete : BitVec 32 := 0
  policed : BitVec 32 := 0
  slipRepeats : BitVec 32 := 0
  slipDrops : BitVec 32 := 0
  stale : BitVec 32 := 0
  highFseq : BitVec 32 := 0
  deriving DecidableEq, Repr

/-- Upstream classes (09 R390). -/
inductive UpClass where
  | query | mgmt | result
  deriving DecidableEq, Repr

/-- An upstream item in the store, or a management message (09 R385 to R405). -/
structure Item where
  cls : UpClass
  partition : Nat
  strip : Nat
  /-- Entry or acceptance stamp. -/
  entered : Stamp
  /-- Order of entry among all items of the device (R393). -/
  seq : Nat
  /-- Frame header and payload, STAMP and MARKS not yet written; a management message is its whole bytes. -/
  frame : Bytes
  /-- Earliest deadline among the turns it completes (07 R287). -/
  deadline : Option Stamp
  /-- Start of the deadline window, for the DEFAULTED mark (06 R244). -/
  windowAt : Stamp
  /-- MARKS REPLAY: the strip was taken over (10 R444). -/
  replay : Bool
  /-- Bearing-table entry of a query. -/
  entry : Nat
  /-- Committed to a burst: the whole frame with its tag (R402). -/
  sealed : Option Bytes
  /-- Octets of the sealed frame placed so far. -/
  placed : Nat
  /-- Octets still to place of a segment fragmented by the last allocation (R404). -/
  fragment : Bytes
  /-- Octets of the fragment that belong to the segment's header (R405). -/
  fragHead : Nat
  /-- Was passed over with an unusable key slot (R403). -/
  passedOver : Bool
  deriving DecidableEq, Repr

/-- An emit record taken and not yet entered (09 R384, R385). -/
structure TakenRec where
  recNo : Nat
  strip : Nat
  form : Byte
  srcPage : Nat
  srcOff : Nat
  length : Nat
  sessions : BitVec 64
  turns : BitVec 64
  /-- The record breaks Table 9.5 and was pencilled when it was taken: it is refused once it is not (06 R235). -/
  refuse : Bool
  deriving DecidableEq, Repr

/-- A result queue's tags at one scheduling point (09 R394). -/
structure WfqQueue where
  start : BitVec 64 := 0
  /-- The queue held an item when last looked at. -/
  active : Bool := false
  deriving DecidableEq, Repr

/-- A partition's transport state (09 Table 9.8). -/
structure PartTx where
  /-- Physical pages of the upstream store (R387). -/
  storePages : List Nat := []
  /-- Items in the store, in order of entry. -/
  items : List Item := []
  /-- Emit records taken and not yet entered, in order. -/
  taken : List TakenRec := []
  itemsSent : BitVec 64 := 0
  emitRefused : BitVec 32 := 0
  answersPoliced : BitVec 32 := 0
  /-- Answers accepted in the present tick (R377). -/
  answersNow : Nat := 0
  /-- Answer frames being assembled, by ANSWER port (R376). -/
  answerAsm : Tab (Option Assembly) := []
  /-- FSEQ of answers whose later segments are discarded, by port (R377). -/
  answerSkip : Tab (Option (BitVec 32)) := []
  /-- Landed answers awaiting the bearing machinery: strip, payload octets, landing stamp. -/
  answers : List (Nat × Bytes × Stamp) := []
  deriving DecidableEq, Repr

/-- A token-bucket shaper (09 R397 to R400): RATE, BURST and CHANGE_MODE stand in the Legend. -/
structure Shaper where
  tokens : Nat := 32768
  deriving DecidableEq, Repr

/-- Device-wide scheduler state (09 R392 to R405). -/
structure Sched where
  shapers : Tab Shaper := []
  /-- Virtual time V of each scheduling point: Alloc-ID, or 0x10000 + local port. -/
  vtime : Tab (BitVec 64) := []
  /-- Result queues, by scheduling point × 64 + partition. -/
  queues : Tab WfqQueue := []
  /-- Management items: Ezith replies and events, in order of entry (class 1). -/
  mgmt : List Item := []
  /-- Whose fragment goes first, by Alloc-ID: 1 for a management item, the order of entry of another item + 2, 0 for
  none (R404). -/
  fragOf : Tab Nat := []
  /-- Order of entry of the next item (R393). -/
  nextSeq : Nat := 0
  deriving DecidableEq, Repr

end Sys2Proof.Machine
end

