-- ==== Sys2Proof/Machine/StPower.lean ====
section
/-! DEFINITION. The state of the cadastre, the sentry, the contour loops, dormant, the fault collector, start-up and
the pins: chapters 14_cadastre, 15_power_sentry_and_contour, 16_faults, 17_startup_and_bringup and
18_pins_and_electrical. -/

namespace Sys2Proof.Machine

/-- Object states of DIR_ENTRY (14 Table 14.8). -/
inductive ObjState where
  | writing | sealed | damaged
  deriving DecidableEq, Repr

/-- A stored object (14_cadastre). -/
structure Object where
  id : BitVec 64
  kind : Byte
  st : ObjState
  size : Nat
  sealAt : Stamp
  digest : BitVec 256
  bytes : Bytes
  /-- Offsets of lost codewords, in units of 4,096 octets (R566). -/
  lost : List Nat
  deriving DecidableEq, Repr

/-- Object-port states, 14 Table 14.5. -/
inductive PortSt where
  | idle | writing | reading | busy | done | failed | aborted | abortLate
  deriving DecidableEq, Repr

/-- An object port (14 R550 to R559). -/
structure ObjPort where
  st : PortSt := .idle
  result : Byte := 0
  lastOp : Byte := 0
  lost : BitVec 32 := 0
  endAt : Stamp := 0
  /-- Its ordinal sub-tick, while stamps are held (02 R664). -/
  endOrd : Nat := 0
  object : BitVec 64 := 0
  pos : Nat := 0
  /-- Kind of the operation BUSY runs, with its operands of Table 14.4. -/
  partition : Byte := 0
  page : Nat := 0
  offset : Nat := 0
  length : Nat := 0
  digest : BitVec 256 := 0
  /-- Bytes held in the 4 MiB write buffer and not yet programmed (R553). -/
  buffered : Nat := 0
  /-- Beat of the checkpoint being archived (R557). -/
  ckptBeat : Nat := 0
  /-- Snapshot read by an open port: the fault log's records at its OPEN (16 R628). -/
  snapshot : Bytes := []
  /-- Fault of the operation, known before its journal record is programmed: result to report. -/
  outcome : Byte := 0
  /-- The operation that an ABORT stopped, with the object it discarded and that object's parcels: they stand again when the
  operation proves to be complete at the abort's own stamp (R558). -/
  undone : Option (Byte × Option (Object × List (Nat × Nat))) := none
  deriving DecidableEq, Repr

/-- The metadata record of a programmed page, beside its object (14 R542): the page's offset in the object and its write
sequence. -/
structure Page where
  offset : Nat
  seq : BitVec 48
  deriving DecidableEq, Repr

/-- A parcel: one erase block (14 R560 to R564, R568). -/
structure Parcel where
  good : Bool := true
  /-- It carries the factory bad-block mark. -/
  factory : Bool := false
  erases : Nat := 0
  /-- Object whose pages it holds; none when free. A boot area's blocks name the area's object, the fault log's blocks
  its object, the map's and journal's blocks object 0. -/
  owner : Option (BitVec 64) := none
  /-- Its oldest program stamp. -/
  oldest : Stamp := 0
  /-- Pages programmed since its last erase, in order; of the object area only (log 41). -/
  pages : List Page := []
  deriving DecidableEq, Repr

/-- One attached channel (14 Table 14.8). -/
structure Channel where
  targets : Nat := 0
  /-- Blocks of its attached targets; parcels by block address. -/
  blocks : Nat := 0
  /-- Blocks of each attached target, in order. -/
  sizes : List Nat := []
  parcels : Tab Parcel := []
  lost : BitVec 32 := 0
  deriving DecidableEq, Repr

/-- A map change waiting for its journal record to be programmed in both copies (14 R571). -/
inductive JournalRec where
  | create (object : BitVec 64)
  | delete (port : Nat)
  /-- A parcel taken by an object, and one found bad: channel and block. -/
  | alloc (channel block : Nat)
  | retire (channel block : Nat)
  /-- Relocation of a parcel, or its refresh: channel and block, new channel and block. -/
  | move (channel old channel2 new : Nat) (refresh : Bool)
  deriving DecidableEq, Repr

/-- The cadastre (14_cadastre). -/
structure Cad where
  mounted : Bool := false
  /-- Objects, by rising ID. -/
  objects : List Object := []
  ports : Tab ObjPort := []
  channels : Tab Channel := []
  /-- Pending journal records, oldest first. -/
  journal : List JournalRec := []
  /-- Ports whose SEAL or ARCHIVE runs, oldest first: the seal's record is programmed at its end (R555, R557). -/
  closing : List Nat := []
  /-- Bad blocks whose pages are still to be written elsewhere, and boot areas still to be erased: no program or erase
  starts while EWARN stops them (R563, R572). -/
  owed : List (Nat × Nat) := []
  eraseOwed : List (BitVec 64) := []
  /-- Write sequence of the next page (R542). -/
  writeSeq : BitVec 48 := 0
  /-- The journal's last record is a clean stop (R572, R573). -/
  cleanStop : Bool := true
  /-- EWARN is asserted: no program or erase outside the journal starts (R572). -/
  stopping : Bool := false
  /-- Octets of an erase block in TLC mode. -/
  blockBytes : Nat := 0
  endurance : BitVec 32 := 0
  onfiMts : BitVec 16 := 0
  patrolLast : Stamp := 0
  /-- Start of the patrol pass in progress (R568, R570). -/
  patrolStart : Stamp := 0
  corrected : BitVec 64 := 0
  retried : BitVec 32 := 0
  lost : BitVec 32 := 0
  refreshes : BitVec 32 := 0
  relocations : BitVec 32 := 0
  unsafeStops : BitVec 32 := 0
  dirCursor : BitVec 64 := 0
  deriving DecidableEq, Repr

/-- Sentry states, 15 Table 15.2. -/
inductive SentryState where
  | off | starting | on | backoff
  deriving DecidableEq, Repr

/-- The inrush settings of a start: a change applies from the next start (15 Table 15.3, Legend entries). -/
structure Inrush where
  mode : Nat := 0
  limitMa : Nat := 10000
  powerW : Nat := 120
  timerMs : Nat := 100
  deriving DecidableEq, Repr

/-- A trip record of the VSB domain (15 R589). -/
structure Trip where
  source : Byte
  stamp : BitVec 64
  deriving DecidableEq, Repr

/-- The sentry (15 R575 to R595); times in microseconds of its own clock. -/
structure Sentry where
  st : SentryState := .off
  /-- Uptime in µs since the VSB domain powered up. -/
  us : Nat := 0
  vinMv : Nat := 0
  voutMv : Nat := 0
  gateMv : Int := 0
  iinMa : Int := 0
  /-- Energy total in µJ, and in nJ below one µJ. -/
  energyNj : Nat := 0
  /-- ENERGY_UJ, ENERGY_STAMP and POWER_MW as last written at a tick edge (R576). -/
  energyUj : BitVec 64 := 0
  energyStamp : Stamp := 0
  meanMw : BitVec 32 := 0
  /-- Energy total at the previous tick edge, and samples since it. -/
  edgeNj : Nat := 0
  edgeSamples : Nat := 0
  /-- T_anchor and the margin, in 1/65,536 °C; TSNS_C; µs of the last valid reading, if any. -/
  anchor : Int := 85 * 65536
  margin : Int := 60 * 65536
  tsns : Int := 0
  validAt : Option Nat := none
  /-- ΔT in 2^−40 °C (R578). -/
  deltaT : Int := 0
  /-- Consecutive µs for which VIN has been in range, above OV_MV, below UV_MV, below EWARN_MV, at or above EWARN_MV + 1 V. -/
  inRangeUs : Nat := 0
  ovUs : Nat := 0
  uvUs : Nat := 0
  ewarnUs : Nat := 0
  ewarnOkUs : Nat := 0
  /-- Consecutive µs of over-current; µs at the inrush limit in total during this start. -/
  overUs : Nat := 0
  limitUs : Nat := 0
  /-- The settings of this start; GATE has been 2 V or more above SRC in it (R583). -/
  inrush : Inrush := {}
  gateRose : Bool := false
  /-- µs since the state was entered; µs since VOUT came within 0.5 V of VIN; µs of VOUT above 10 V with GATE off. -/
  stateUs : Nat := 0
  nearUs : Nat := 0
  shortUs : Nat := 0
  /-- Consecutive trips or failed starts, n of R588. -/
  n : Nat := 0
  restarts : BitVec 32 := 0
  /-- The last 8 trips, newest first, and how many of them no boot has reported (R589). -/
  trips : List Trip := []
  unreported : Nat := 0
  /-- EWARN_N asserted by the sentry, and whether a trip or cut holds it (R586). -/
  ewarn : Bool := false
  ewarnHeld : Bool := false
  /-- PG_N asserted. -/
  pg : Bool := false
  /-- A raise at CUT waits for the controlled cut to begin (R615). -/
  cutDue : Bool := false
  /-- Source of the raise that started the controlled cut. -/
  cutSource : Byte := 0
  /-- A controlled cut is under way: microseconds of lead left (R585). -/
  cut : Option Nat := none
  /-- SENTRY_FET_SHORT holds GATE off. -/
  fetShort : Bool := false
  /-- Pins in high impedance: 0 PG_N, 1 EWARN_N, 2 to 4 service outputs. -/
  hiz : List Bool := List.replicate 5 false
  /-- Externally asserted levels of PG_N and EWARN_N (R593). -/
  extPg : Bool := false
  extEwarn : Bool := false
  /-- Consecutive µs in contention, by pin (R594). -/
  contUs : Tab Nat := []
  /-- µs of the last test of a high-impedance pin, by pin. -/
  testUs : Tab Nat := []
  deriving DecidableEq, Repr

/-- A quad's contour loop (15 R596 to R604). -/
structure Contour where
  /-- Powered (TRAIN or later, outside dormant). -/
  powered : Bool := false
  level : Byte := 15
  /-- Target voltage and clock in force. -/
  voltageMv : Nat := 0
  clockMhz : Nat := 0
  tempC : Int := 0
  /-- End of the quad's last hole (R602). -/
  holeEnd : Stamp := 0
  droops : BitVec 32 := 0
  guarded : Bool := false
  throttled : Bool := false
  /-- The clock is halved after a droop (R601). -/
  halved : Bool := false
  /-- Quad cycle of the last droop. -/
  droopCyc : Nat := 0
  /-- Extra target in mV gained by droops until the next hint record. -/
  extraMv : Nat := 0
  /-- A raise begun at the hint lead: the LEVEL it prepares for (R600). -/
  leadLevel : Option Byte := none
  /-- Above 850 mV at its clock: CONTOUR_LIMIT holds (R598). -/
  limited : Bool := false
  /-- The plotter core retired or a unit was busy inside the hole in progress (R114). -/
  lastBusy : Stamp := 0
  deriving DecidableEq, Repr

/-- POWER_STATE (15 Table 15.9). -/
inductive PowerState where
  | running | entering | dormant | waking
  deriving DecidableEq, Repr

/-- Dormant (15 R605 to R610). -/
structure Dormant where
  st : PowerState := .running
  /-- Entry stamp D. -/
  enterAt : Stamp := 0
  refusal : Byte := 0
  /-- Wake event held or taken: cause and stamp. -/
  wake : Option (Byte × Stamp) := none
  /-- Stamp of a wake event met while RUNNING, for R605's reason 4. -/
  lastEvent : Option (Byte × Stamp) := none
  /-- Its ordinal sub-tick, while stamps are held (02 R664). -/
  lastEventOrd : Nat := 0
  lastWake : Bytes := List.replicate 24 0
  droops : BitVec 64 := 0
  deriving DecidableEq, Repr

/-- Per-source fault entries (16 Table 16.7). -/
structure FaultSrc where
  /-- STATUS bit 0. -/
  set : Bool := false
  /-- STATUS [6:4]. -/
  applied : Byte := 0
  count : BitVec 32 := 0
  lastStamp : Stamp := 0
  /-- LAST_DATA: 32 octets, all zero until the first raise. -/
  lastData : Bytes := List.replicate 32 0
  /-- Ordinal stamp of the last raise: whether a clear at the same stamp takes (R622, R665). -/
  lastOrd : Nat := 0
  /-- The cause is present (STATUS bit 1), for sources whose cause is an event's aftermath. -/
  cause : Bool := false
  deriving DecidableEq, Repr

/-- The fault collector (16_faults). -/
structure Faults where
  /-- FIRST, none for 0xFFFF. -/
  first : Option Byte := none
  firstStamp : Stamp := 0
  /-- Ordinal sub-tick of the raise that latched it, while stamps are held (02 R664). -/
  firstOrd : Nat := 0
  overflow : Bool := false
  sources : Tab FaultSrc := []
  injections : BitVec 32 := 0
  /-- LOG_SEQ of the newest record produced. -/
  logSeq : BitVec 64 := 0
  logDropped : BitVec 32 := 0
  /-- Records of 64 octets waiting to be programmed, oldest first, at most 1,024 (R627). -/
  buffer : List Bytes := []
  /-- Records programmed in the fault log, oldest first, at most 262,144 (R626). -/
  log : List Bytes := []
  /-- A HALT waits for one sub-tick after this raise, with the severity 4 or 5 (R617). -/
  haltDue : Option (Stamp × Byte) := none
  /-- The device is halted (R617). -/
  halted : Bool := false
  deriving DecidableEq, Repr

/-- Start-up stages, 17 Table 17.1. -/
inductive Stage where
  | sentry | rails | rom | mount | train | config | sync | ready
  deriving DecidableEq, Repr

/-- One stack's interface training (17 R638). -/
structure StackTrain where
  /-- 0 absent, 1 training, 2 trained, 3 back-off. -/
  st : Byte := 1
  failed : Nat := 0
  /-- µs at which the back-off began. -/
  since : Nat := 0
  deriving DecidableEq, Repr

/-- A margin sweep (17 R645 to R647). -/
structure Sweep where
  /-- 0 idle, 1 running, 2 done, 3 aborted, 4 ABORT_LATE. -/
  st : Byte := 0
  kind : Byte := 0
  flags : Byte := 0
  unit : BitVec 16 := 0
  startAt : Stamp := 0
  endAt : Stamp := 0
  /-- Its ordinal sub-tick, while stamps are held (02 R664). -/
  endOrd : Nat := 0
  result : Bytes := []
  deriving DecidableEq, Repr

/-- Start-up and margining (17_startup_and_bringup). -/
structure Start where
  stage : Stage := .sentry
  /-- Reset is released (R634). -/
  released : Bool := false
  /-- STAGE_TIMES, µs by stage number. -/
  times : Tab Nat := []
  /-- Failed boot rounds since power-on. -/
  rounds : Nat := 0
  /-- µs at which the last failed round ended; a back-off is under way. -/
  roundAt : Option Nat := none
  bootArea : Byte := 0
  /-- BOOT_NEXT, held in the VSB domain. -/
  bootNext : Byte := 0xFF
  /-- BOOT_ROUNDS: failed rounds before this boot. -/
  bootRounds : BitVec 32 := 0
  /-- LAST_REJECT of the latest failed boot round, for the progress word (R633). -/
  roundReject : Byte := 0
  startupResult : Bytes := List.replicate 8 0
  stackTrain : Tab StackTrain := []
  /-- Quads calibrated in this TRAIN. -/
  calibrated : List Nat := []
  /-- CAL_CURVE points of each quad, 0xFFFF until calibrated. -/
  curves : Tab (List (BitVec 16)) := []
  sweep : Sweep := {}
  /-- Partitions whose RUN = 1 of the start-up object is held, in record order (R643). -/
  heldRuns : List Nat := []
  deriving DecidableEq, Repr

/-- The debug port (18 R661, R662) and the lands it drives. -/
structure Debug where
  /-- Instruction register, 6 bits: IDCODE at test-logic reset. -/
  ir : BitVec 6 := 0x02
  /-- Boundary-scan cells driven by EXTEST: land number and level. -/
  boundary : List (Nat × Bool) := []
  /-- EXTEST drives the lands. -/
  driving : Bool := false
  deriving DecidableEq, Repr

end Sys2Proof.Machine
end

