-- ==== Sys2Proof/Machine/StSec.lean ====
section
/-! DEFINITION. The state of the big-number and symmetric engines, of the Legend's transactions and of Ezith:
chapters 12_security_engines and 13_legend_and_transactions. -/

namespace Sys2Proof.Machine

/-- Fuses: key-set hashes, revocation mask and security floor (12 R498). -/
structure Fuses where
  /-- SHA3-256 hashes of key sets 0 to 3. -/
  hash0 : BitVec 256 := 0
  hash1 : BitVec 256 := 0
  hash2 : BitVec 256 := 0
  hash3 : BitVec 256 := 0
  /-- Revoked sets, bit per set. -/
  revoked : BitVec 4 := 0
  /-- Security floor, 0 to 63. -/
  floor : BitVec 6 := 0
  deriving DecidableEq, Repr

/-- Job states, 12 Table 12.3. -/
inductive JobState where
  | free | queued | running | suspended | done | failed | aborted | abortLate
  deriving DecidableEq, Repr

/-- A job record (12 Table 12.2). -/
structure Job where
  op : Byte := 0
  st : JobState := .free
  cls : Byte := 0
  result : Byte := 0
  inLen : Nat := 0
  outLen : Nat := 0
  submitted : Stamp := 0
  started : Stamp := 0
  ended : Stamp := 0
  /-- Ordinal sub-tick of an abort, while stamps are held (02 R664). -/
  abortOrd : Nat := 0
  /-- INPUT, its trailing octets beyond those written read zero. -/
  input : Bytes := []
  /-- OUTPUT, its trailing octets beyond those written read zero. -/
  output : Bytes := []
  /-- Order of submission among equal stamps (R474). -/
  order : Nat := 0
  /-- An abort waits for the next yield station (R480). -/
  aborting : Bool := false
  /-- Clock from which the job runs, and the time it ran before it was last suspended, in clock units (R466, R476). -/
  runsFrom : Int := 0
  ran : Int := 0
  deriving DecidableEq, Repr

/-- A key slot (12 R487 to R489). -/
structure KeySlot where
  /-- Current generation, 32 octets. -/
  cur : Option Bytes := none
  /-- Previous generation and the end of its overlap window. -/
  prev : Option (Bytes × Stamp) := none
  uses : Byte := 0
  tenant : BitVec 32 := 0
  installs : BitVec 32 := 0
  check : BitVec 32 := 0
  installAt : Stamp := 0
  deriving DecidableEq, Repr

/-- The service region's cryptographic engines (12_security_engines). -/
structure Sec where
  /-- Job records 0 to 15. -/
  jobs : Tab Job := []
  /-- Submissions so far, for the order of equal stamps. -/
  submissions : Nat := 0
  /-- Clock at which the engine is free again after a suspension (R476). -/
  engineFree : Int := 0
  /-- Key slots 0 to 127. -/
  slots : Tab KeySlot := []
  /-- Key set of the running image. -/
  keyset : BitVec 2 := 0
  /-- IMAGE_SECURITY_VERSION of the running image. -/
  imageVersion : BitVec 6 := 0
  /-- MICROCODE_VERSION of the running image. -/
  microcode : BitVec 32 := 0
  ezithOpen : Bool := true
  bootRejects : BitVec 32 := 0
  lastReject : Byte := 0
  deriving DecidableEq, Repr

/-- Transaction states, 13 Table 13.7. -/
inductive TxnState where
  | free | open_ | pending | committing | committed | rollingBack | rolledBack | failed
  deriving DecidableEq, Repr

/-- A staged entry of a transaction (13 R523). -/
structure Staged where
  /-- Legend key: index × 256 + sub. -/
  key : Nat
  value : Bytes
  /-- Change count at the first staging. -/
  count : Nat
  deriving DecidableEq, Repr

/-- A transaction record (13 R521 to R535). -/
structure Txn where
  st : TxnState := .free
  owner : Byte := 0
  number : BitVec 32 := 0
  /-- Staged entries, in staging order. -/
  staged : List Staged := []
  /-- Rolling applications made, and to be made. -/
  n : Nat := 0
  m : Nat := 0
  beginAt : Stamp := 0
  /-- Commit stamp T:0. -/
  t0 : Stamp := 0
  /-- Order of the COMMIT request (R527). -/
  commitOrder : Nat := 0
  endAt : Stamp := 0
  /-- Its ordinal sub-tick, while stamps are held (02 R664). -/
  endOrd : Nat := 0
  failIndex : BitVec 16 := 0
  failSub : Byte := 0
  /-- 0 none, 1 CHANGED, 2 LOCKED, 3 RULE, 4 IDLE. -/
  reason : Byte := 0
  /-- Tick edges without an operation (R525). -/
  idle : Nat := 0
  /-- Partitions still to apply. -/
  todo : List Nat := []
  /-- Partitions that have applied, newest first. -/
  applied : List Nat := []
  /-- Values before T of the entries written, for a roll-back. -/
  before : List (Nat × Bytes) := []
  /-- Request stamp of the roll-back of a COMMITTING transaction. -/
  rollAt : Stamp := 0
  /-- The same, or the stamp of the last revert of an application after it. -/
  revertAt : Stamp := 0
  /-- The tick-atomic writes have reverted. -/
  reverted : Bool := false
  deriving DecidableEq, Repr

/-- A kept request and its reply (13 R517). -/
structure Kept where
  seq : BitVec 32
  reply : Bytes
  deriving DecidableEq, Repr

/-- A subscriber's queue (13 R536 to R538). -/
structure Subscriber where
  /-- Event records of 48 octets, oldest first. -/
  queue : List Bytes := []
  nextSeq : BitVec 32 := 0
  acked : BitVec 32 := 0
  lost : BitVec 32 := 0
  /-- The next message carries FLAGS LOST. -/
  lostFlag : Bool := false
  /-- Message sent and not acknowledged: its records, its SEQ, its FLAGS LOST, and the stamp it was last sent at. -/
  inFlight : Option (List Bytes × BitVec 32 × Bool × Stamp) := none
  deriving DecidableEq, Repr

/-- Ezith, transactions and events (13_legend_and_transactions). -/
structure Ezith where
  /-- Transaction records 0 to 15. -/
  txns : Tab Txn := []
  nextTxn : BitVec 32 := 1
  commits : BitVec 64 := 0
  conflicts : BitVec 32 := 0
  rollbacks : BitVec 32 := 0
  authFails : BitVec 32 := 0
  staleRequests : BitVec 32 := 0
  /-- COMMITs requested so far, for R527's order. -/
  commitOrder : Nat := 0
  /-- Kept SEQ and reply by key slot, and by owner 0xFF (R517). -/
  kept : Tab (Option Kept) := []
  /-- Subscribers 0 to 7. -/
  subs : Tab Subscriber := []
  deriving DecidableEq, Repr

end Sys2Proof.Machine
end

