-- ==== Sys2Proof/Machine/State.lean ====
section
/-! DEFINITION. The state of the ZX4: everything the spec gives the device, as plain data, with the queue of waiting
commands; the reasons a step can stop; the state after reset. -/

namespace Sys2Proof.Machine

/-- The reasons a command stops the machine. -/
inductive Fault where
  /-- Raised by every command that names a quad, stack, port, die or record which the grade does not fit or the spec
  does not number (00 R3, Table 0.1). Safe: the device has no such unit, so no such event occurs. -/
  | absentUnit
  deriving DecidableEq, Repr

/-- The reasons a command has no meaning here. -/
inductive Refusal where
  /-- Raised by an arm of the dispatcher whose command has no meaning yet. Safe: the run stops. -/
  | notModelled (mnemonic : String)
  deriving DecidableEq, Repr

/-- Values fixed at assembly or by the running image (00 Table 0.3, 08 R329, 11 Table 11.4, 12 Table 12.8). -/
structure Part where
  /-- 0x1000.02 GRADE: 1 ZX4-B, 2 ZX4-K, 3 ZX4-L. -/
  grade : Byte := 1
  uniqueId : BitVec 64 := 0
  siliconStep : BitVec 16 := 0
  firmware : BitVec 32 := 0
  /-- Vendor-specific part of the serial number. -/
  serial : BitVec 32 := 0
  mac0 : BitVec 48 := 0
  mac1 : BitVec 48 := 0
  mac2 : BitVec 48 := 0
  /-- 0x7000.05 DEVICE_ED25519_PUB, 32 octets, and 0x7000.06 DEVICE_MLDSA_PUB, 1,952 octets. -/
  edPub : Bytes := []
  mlPub : Bytes := []
  deriving DecidableEq, Repr

/-- Device-wide CIM check counters (04 Table 4.13). -/
structure CimCount where
  benchPasses : BitVec 64 := 0
  benchFails : BitVec 32 := 0
  benchMissed : BitVec 32 := 0
  surveyWindows : BitVec 64 := 0
  surveySuspect : BitVec 32 := 0
  benchSkipped : BitVec 32 := 0
  deriving DecidableEq, Repr

/-- Device-wide bearing counters (06 Table 6.9). -/
structure BearingCount where
  opened : BitVec 64 := 0
  inked : BitVec 64 := 0
  reruns : BitVec 32 := 0
  pauses : BitVec 32 := 0
  defaults : BitVec 32 := 0
  strays : BitVec 32 := 0
  malformed : BitVec 32 := 0
  deriving DecidableEq, Repr

/-- A bearing notice waiting for its queue (06 R246). -/
structure Notice where
  partition : Nat
  quad : Nat
  queue : BitVec 2
  msg : Msg
  deriving DecidableEq, Repr

/-- Everything of the device but its fuses. -/
structure Dev where
  part : Part := {}
  grat : Grat := {}
  /-- Quads by physical number (03 R60, R61). -/
  quads : Tab Quad := []
  /-- Contour loops by physical quad (15 R596). -/
  contours : Tab Contour := []
  /-- Partitions 0 to 63 and their transport state. -/
  parts : Tab Partition := []
  partTx : Tab PartTx := []
  /-- Strips 0 to 255 and their transport state. -/
  strips : Tab Strip := []
  stripTx : Tab StripTx := []
  sched : Sched := {}
  pon : Pon := {}
  aksia : Aksia := {}
  key : KeyStream := {}
  eth : Eth := {}
  sec : Sec := {}
  ez : Ezith := {}
  cad : Cad := {}
  sentry : Sentry := {}
  dormant : Dormant := {}
  faults : Faults := {}
  start : Start := {}
  jtag : Debug := {}
  cim : CimCount := {}
  bearing : BearingCount := {}
  /-- Bearing notices not yet pushed, oldest first (06 R246). -/
  notices : List Notice := []
  /-- Stack memory by physical byte address: page × 2^22 + offset (03 R102, 16 R612). -/
  stackMem : List Host.Cell := []
  /-- Stack words holding an injected error: key physical byte address of the word (16 R629). -/
  stackInj : Tab Nat := []
  /-- Legend values of RW and RWS entries that differ from their defaults, by index × 256 + sub (13 R503). -/
  legend : Tab (Option Bytes) := []
  /-- Change counts by index × 256 + sub (13 R524). -/
  changes : Tab Nat := []
  /-- Arrivals handed inside the device and not yet taken. -/
  handed : List Handed := []
  /-- Everything the device has sent, oldest first. -/
  wire : List Emission := []
  /-- The model's own: number of the next free value (assumption log). -/
  free : Nat := 0
  /-- The model's own: number of the next entropy draw (assumption log). -/
  entropy : Nat := 0
  deriving DecidableEq, Repr

/-- The state of the machine. -/
structure State where
  /-- Commands that wait, first in, first out. -/
  pending : List Instr := []
  /-- Fuses: changed by RAISE_FLOOR and REVOKE_KEYSET only (12 R498, R502). -/
  fuses : Fuses := {}
  dev : Dev := {}
  deriving DecidableEq, Repr

/-- The machine right after the VSB domain has risen: stage SENTRY, sentry OFF, every default of the Legend in force,
no command waiting (15 Table 15.2, 17 Table 17.1, 18 R650). -/
def State.reset : State := {}

end Sys2Proof.Machine
end

