-- ==== Sys2Proof/Machine/Bits.lean ====
section
/-! DEFINITION. Bytes and numbers: big-endian wire and Legend values, little-endian scratchpad and stack values
(00 Table 0.4), slices and patches of byte strings. -/

namespace Sys2Proof.Machine

/-- The n octets of a number, least significant first. -/
def le : Nat → Nat → Bytes
  | 0, _ => []
  | n + 1, v => BitVec.ofNat 8 v :: le n (v / 256)

/-- The n octets of a number, most significant first. -/
def be (n v : Nat) : Bytes := (le n v).reverse

/-- The number of octets with the least significant first. -/
def leVal : Bytes → Nat
  | [] => 0
  | b :: r => b.toNat + 256 * leVal r

/-- The number of octets with the most significant first. -/
def beVal (bs : Bytes) : Nat := bs.foldl (fun a b => 256 * a + b.toNat) 0

/-- Octets [off, off + len). -/
def slice (off len : Nat) (bs : Bytes) : Bytes := (bs.drop off).take len

/-- Big-endian field of `len` octets at `off`; octets beyond the end read as absent. -/
def beAt (off len : Nat) (bs : Bytes) : Nat := beVal (slice off len bs)

/-- Little-endian field of `len` octets at `off`. -/
def leAt (off len : Nat) (bs : Bytes) : Nat := leVal (slice off len bs)

/-- n zero octets. -/
def zeros (n : Nat) : Bytes := List.replicate n 0

/-- A string cut or filled with zeros to n octets. -/
def fit (n : Nat) (bs : Bytes) : Bytes := bs.take n ++ zeros (n - bs.length)

/-- A string with `new` at `off`, filled with zeros up to `off` where it is shorter (13 R506). -/
def patch (off : Nat) (new bs : Bytes) : Bytes :=
  bs.take off ++ zeros (off - bs.length) ++ new ++ bs.drop (off + new.length)

/-- Every octet is zero. -/
def allZero (bs : Bytes) : Bool := bs.all (· == 0)

/-- Octets of text. -/
def ascii (s : String) : Bytes := s.toList.map fun c => BitVec.ofNat 8 c.toNat

/-- A truth value as 0 or 1. -/
def bit (b : Bool) : Nat := if b then 1 else 0

/-- Octet-wise exclusive or, of the length of the shorter. -/
def xorBytes (a b : Bytes) : Bytes := List.zipWith (· ^^^ ·) a b

/-- Two's complement of an integer at a width of `bits`. -/
def ofInt (bits : Nat) (i : Int) : Nat := (i % (2 ^ bits : Nat)).toNat

/-- The integer of a two's-complement number at a width of `bits`. -/
def toInt (bits v : Nat) : Int := if v % 2 ^ bits < 2 ^ (bits - 1) then (v % 2 ^ bits : Nat) else (v % 2 ^ bits : Nat) - (2 ^ bits : Nat)

/-- Bits [lo + n − 1 : lo] of a number. -/
def bitsAt (lo n v : Nat) : Nat := (v / 2 ^ lo) % 2 ^ n

/-- Element i of a list, or a default. -/
def nth {α : Type} (d : α) (l : List α) (i : Nat) : α := l.getD i d

/-- A list with element i replaced; unchanged when it is shorter. -/
def setNth {α : Type} : List α → Nat → α → List α
  | [], _, _ => []
  | _ :: r, 0, v => v :: r
  | a :: r, i + 1, v => a :: setNth r i v

/-- Insertion into a list sorted by a key, after equal keys. -/
def insertBy {α : Type} (key : α → Nat) (x : α) : List α → List α
  | [] => [x]
  | a :: r => if key x < key a then x :: a :: r else a :: insertBy key x r

/-- A list sorted by a key, equal keys in their order. -/
def sortBy {α : Type} (key : α → Nat) (l : List α) : List α := l.foldl (fun acc x => insertBy key x acc) []

/-- Chunks of n elements, the last perhaps shorter; `fuel` bounds their number. -/
def chunks {α : Type} (n : Nat) : Nat → List α → List (List α)
  | 0, _ => []
  | fuel + 1, l => if l.isEmpty then [] else l.take n :: chunks n fuel (l.drop n)

end Sys2Proof.Machine
end

