-- ==== Sys2Proof/Machine/Tab.lean ====
section
/-! DEFINITION. Sparse tables and byte memories in one canonical form: keys strictly rising, no value equal to what an
unlisted key reads as. -/

namespace Sys2Proof.Machine

/-- The value at a key, the default where none is listed. -/
def tabGet {α : Type} (d : α) : Tab α → Nat → α
  | [], _ => d
  | (k, v) :: r, i => if i = k then v else if i < k then d else tabGet d r i

/-- A table with a value at a key; the default removes the key. -/
def tabSet {α : Type} [DecidableEq α] (d : α) : Tab α → Nat → α → Tab α
  | [], i, x => if x = d then [] else [(i, x)]
  | (k, v) :: r, i, x =>
    if i < k then (if x = d then (k, v) :: r else (i, x) :: (k, v) :: r)
    else if i = k then (if x = d then r else (i, x) :: r)
    else (k, v) :: tabSet d r i x

/-- The canonical form. -/
def tabWf {α : Type} [DecidableEq α] (d : α) : Tab α → Bool
  | [] => true
  | (_, v) :: [] => decide (v ≠ d)
  | (k, v) :: (k', v') :: r => decide (v ≠ d) && decide (k < k') && tabWf d ((k', v') :: r)

/-- A table with every value changed, in canonical form. -/
def tabMap {α : Type} [DecidableEq α] (d : α) (f : α → α) (t : Tab α) : Tab α :=
  (t.map fun x => (x.1, f x.2)).filter fun x => decide (x.2 ≠ d)

/-- A memory: what an unlisted address reads as is the octet zero (assumption log 6). -/
abbrev Mem := Tab Byte

/-- One octet of a memory. -/
def memByte (m : Mem) (a : Nat) : Byte := tabGet 0 m a

/-- Octets from an address. -/
def memRead (m : Mem) (a : Nat) : Nat → Bytes
  | 0 => []
  | n + 1 => memByte m a :: memRead m (a + 1) n

/-- Octets written from an address. -/
def memWrite (m : Mem) (a : Nat) : Bytes → Mem
  | [] => m
  | b :: r => memWrite (tabSet 0 m a b) (a + 1) r

/-- A memory whose octets in [lo, hi) are zero. -/
def memZero (m : Mem) (lo hi : Nat) : Mem := m.filter fun c => !(decide (lo ≤ c.1) && decide (c.1 < hi))

/-- The canonical form of a memory. -/
def Memory.wf (m : Mem) : Bool := tabWf 0 m

end Sys2Proof.Machine
end

