-- ==== Sys2Proof/Machine/Ops.lean ====
section
/-! DEFINITION. The named operations over the state: fitted resources, stamps and windows, Legend values in force,
the tables of quads, partitions and strips, free values and entropy. -/

namespace Sys2Proof.Machine

/-- What an arm of the dispatcher answers. -/
abbrev Res := Host.Outcome State Fault Refusal

/-- The machine with its device replaced: every command but the two that burn fuses answers so. -/
def State.withDev (s : State) (d : Dev) : State := { s with dev := d }

/-- A command on a unit that exists (00 R3): the effect, or the fault `absentUnit`. -/
def onUnit (s : State) (fitted : Bool) (d : Dev) : Res :=
  if fitted then .next (s.withDev d) else .fault .absentUnit

/-! ## Fitted resources (00 Table 0.1) -/

/-- Compute dies. -/
def dies (d : Dev) : Nat := if d.part.grade = 2 then 2 else 4

/-- Quads fitted. -/
def quadsFitted (d : Dev) : Nat := 64 * dies d

/-- SRAM stacks fitted, each of 64 pages of 4 MiB. -/
def stacksFitted (d : Dev) : Nat := if d.part.grade = 2 then 12 else if d.part.grade = 3 then 6 else 8

/-- I/O dies. -/
def ioDies (d : Dev) : Nat := if d.part.grade = 3 then 4 else 2

/-- Aksia ports fitted. -/
def portsFitted (d : Dev) : Nat := 12 * ioDies d

/-- Stack pages of 4 MiB fitted. -/
def pagesFitted (d : Dev) : Nat := 64 * stacksFitted d

/-- Bytes of a stack page. -/
def pageBytes : Nat := 4194304

/-! ## Legend values in force (13 R504, R507) -/

/-- Width of a type in octets; a BLOCK's is its maximum. -/
def LegTy.size : LegTy → Nat
  | .bool => 1
  | .uint n => n
  | .sint n => n
  | .tick => 8
  | .fix => 4
  | .oct n => n
  | .block n _ => n

/-- The default value of an entry: its row's default, the severity of Table 16.1, MTU 1,500 on MGMT. -/
def legDefault (idx sub : Nat) : Bytes :=
  if 0x9100 ≤ idx ∧ idx < 0x9200 ∧ sub ≤ 1 then be 1 ((defaultSeverity (idx - 0x9100)).getD 0)
  else if idx = 0x5810 ∧ sub = 0x0A then be 2 1500
  else match legRow idx sub with
    | none => []
    | some r => match r.ty with
      | .block n fixed => if fixed then zeros n else if r.dflt = 0 then [] else be n r.dflt
      | ty => be ty.size r.dflt

/-- Key of an entry in the Legend's tables. -/
def legKey (idx sub : Nat) : Nat := idx * 256 + sub

/-- The value of a writable entry without a home of its own in the state. -/
def legVal (d : Dev) (idx sub : Nat) : Bytes :=
  match tabGet none d.legend (legKey idx sub) with
  | some v => v
  | none => legDefault idx sub

/-- The same as a number. -/
def legNat (d : Dev) (idx sub : Nat) : Nat := beVal (legVal d idx sub)

/-- An entry's value replaced; the default is not listed. -/
def legPut (d : Dev) (idx sub : Nat) (v : Bytes) : Dev :=
  { d with legend := tabSet none d.legend (legKey idx sub) (if v = legDefault idx sub then none else some v) }

/-- The change count of an entry grows by 1 (13 R524). -/
def bumpChange (d : Dev) (key : Nat) : Dev :=
  { d with changes := tabSet 0 d.changes key (tabGet 0 d.changes key + 1) }

/-- A value that the ZX4 itself changes: it counts when it alters (13 R524). -/
def ownChange (d : Dev) (idx sub : Nat) (v : Bytes) : Dev :=
  if legVal d idx sub = v then d else bumpChange (legPut d idx sub v) (legKey idx sub)

/-- Ethernet mode (10 ATLAS_MODE 1). -/
def ethMode (d : Dev) : Bool := decide (legNat d 0x6000 0x05 = 1)

/-- This device's atlas number (10 DEVICE_NUMBER). -/
def deviceNumber (d : Dev) : Nat := legNat d 0x6000 0x03

/-! ## Stamps and windows (02 R37 to R45, R664) -/

/-- The nominal tick length in 1/256 cycles (02 0x2000.07). -/
def nominalT (d : Dev) : Nat := if ethMode d then 20000000 else 19906560

/-- Stamps are held (R664). -/
def held (d : Dev) : Bool := !d.grat.everLocked || decide (d.grat.state = .dwell)

/-- The tick length that the graticule applies. -/
def tickLen (d : Dev) : Nat := if d.grat.everLocked then d.grat.tickLength.toNat else nominalT d

/-- Intervals of T/4,096 since the count `e` began. -/
def subTicks (d : Dev) : Nat := 4096 * d.grat.e * 256 / tickLen d

/-- A stamp of a tick and a sub-tick (R40). -/
def stampOf (t : TickNo) (sub : Nat) : Stamp := BitVec.ofNat 60 (t.toNat * 4096 + sub)

/-- Tick number of a stamp. -/
def stampTick (s : Stamp) : TickNo := BitVec.ofNat 48 (s.toNat / 4096)

/-- Sub-tick of a stamp. -/
def stampSub (s : Stamp) : Nat := s.toNat % 4096

/-- The present stamp (R37, R55, R634). -/
def now (d : Dev) : Stamp :=
  if !d.grat.everLocked then 0
  else if d.grat.state = .dwell then stampOf d.grat.tick 4095
  else stampOf d.grat.tick (min 4095 (subTicks d))

/-- The ordinal sub-tick of an event while stamps are held (R664). -/
def ordinal (d : Dev) : Nat := if held d then subTicks d else 0

/-- Stamp a is before stamp b (R41). -/
def before (a b : Stamp) : Bool := decide (a ≠ b) && decide ((b - a).toNat < 2 ^ 59)

/-- Stamp a with ordinal sub-tick m is before stamp b with ordinal sub-tick n (R664). -/
def stampOrdBefore (a : Stamp) (m : Nat) (b : Stamp) (n : Nat) : Bool := before a b || (decide (a = b) && decide (m < n))

/-- The stamp n ticks later, its sub-tick carried (R44). -/
def after (s : Stamp) (n : Nat) : Stamp := s + BitVec.ofNat 60 (n * 4096)

/-- The present stamp is at or after s: a window that ends at s has closed (R5, R44). -/
def reached (d : Dev) (s : Stamp) : Bool := !before (now d) s

/-- The later of two stamps. -/
def later (a b : Stamp) : Stamp := if before a b then b else a

/-- The difference b − a in sub-ticks, signed. -/
def stampDiff (a b : Stamp) : Int := (b - a).toInt

/-- The command's moment: `e` cycles since the edge; moments never go back (R42). -/
def Dev.at (d : Dev) (e : Nat) : Dev := { d with grat := { d.grat with e := max d.grat.e e } }

/-- The count of cycles set to another value, the clock running on. -/
def Grat.setE (g : Grat) (e : Nat) : Grat := { g with e := e, clock := g.clock + ((g.e : Int) - e) * 256 }

/-- The graticule clock now, in 1/256 cycles: it runs whatever the graticule's state (10 R440). -/
def clockNow (d : Dev) : Int := d.grat.clock + d.grat.e * 256

/-- A stamp as a Legend TICK value. -/
def tickBytes (s : Stamp) : Bytes := be 8 s.toNat

/-! ## Free values and entropy (assumption log 2) -/

/-- The next free value and the device after it. -/
def drawFree (d : Dev) : Nat × Dev := (Config.freeValue d.free, { d with free := d.free + 1 })

/-- The next 32 octets of entropy and the device after them. -/
def drawEntropy (d : Dev) : Bytes × Dev := (fit 32 (Config.entropy d.entropy), { d with entropy := d.entropy + 1 })

/-! ## The tables of the device -/

/-- Physical quad n. -/
def Dev.quad (d : Dev) (n : Nat) : Quad := tabGet {} d.quads n

/-- Physical quad n replaced. -/
def Dev.setQuad (d : Dev) (n : Nat) (q : Quad) : Dev := { d with quads := tabSet {} d.quads n q }

/-- Contour loop of physical quad n. -/
def Dev.contour (d : Dev) (n : Nat) : Contour := tabGet {} d.contours n

/-- Contour loop of physical quad n replaced. -/
def Dev.setContour (d : Dev) (n : Nat) (c : Contour) : Dev := { d with contours := tabSet {} d.contours n c }

/-- Partition p. -/
def Dev.partition (d : Dev) (p : Nat) : Partition := tabGet {} d.parts p

/-- Partition p replaced. -/
def Dev.setPartition (d : Dev) (p : Nat) (x : Partition) : Dev := { d with parts := tabSet {} d.parts p x }

/-- Transport state of partition p. -/
def Dev.ptx (d : Dev) (p : Nat) : PartTx := tabGet {} d.partTx p

/-- Transport state of partition p replaced. -/
def Dev.setPtx (d : Dev) (p : Nat) (x : PartTx) : Dev := { d with partTx := tabSet {} d.partTx p x }

/-- Strip s. -/
def Dev.strip (d : Dev) (s : Nat) : Strip := tabGet {} d.strips s

/-- Strip s replaced. -/
def Dev.setStrip (d : Dev) (s : Nat) (x : Strip) : Dev := { d with strips := tabSet {} d.strips s x }

/-- Transport state of strip s. -/
def Dev.stx (d : Dev) (s : Nat) : StripTx := tabGet {} d.stripTx s

/-- Transport state of strip s replaced. -/
def Dev.setStx (d : Dev) (s : Nat) (x : StripTx) : Dev := { d with stripTx := tabSet {} d.stripTx s x }

/-- Aksia port i. -/
def Dev.port (d : Dev) (i : Nat) : AksPort := tabGet {} d.aksia.ports i

/-- Aksia port i replaced. -/
def Dev.setPort (d : Dev) (i : Nat) (x : AksPort) : Dev :=
  { d with aksia := { d.aksia with ports := tabSet {} d.aksia.ports i x } }

/-- Key slot n. -/
def Dev.keySlot (d : Dev) (n : Nat) : KeySlot := tabGet {} d.sec.slots n

/-- Key slot n replaced. -/
def Dev.setKeySlot (d : Dev) (n : Nat) (x : KeySlot) : Dev :=
  { d with sec := { d.sec with slots := tabSet {} d.sec.slots n x } }

/-- Job record n. -/
def Dev.job (d : Dev) (n : Nat) : Job := tabGet {} d.sec.jobs n

/-- Job record n replaced; an altered record counts as a change of its entry (13 R524). -/
def Dev.setJob (d : Dev) (n : Nat) (x : Job) : Dev :=
  let old := d.job n
  let d := { d with sec := { d.sec with jobs := tabSet {} d.sec.jobs n x } }
  if { old with order := x.order, aborting := x.aborting } = x then d else bumpChange d (legKey 0x7020 n)

/-- Transaction record n. -/
def Dev.txn (d : Dev) (n : Nat) : Txn := tabGet {} d.ez.txns n

/-- Transaction record n replaced. -/
def Dev.setTxn (d : Dev) (n : Nat) (x : Txn) : Dev := { d with ez := { d.ez with txns := tabSet {} d.ez.txns n x } }

/-- Subscriber n. -/
def Dev.sub (d : Dev) (n : Nat) : Subscriber := tabGet {} d.ez.subs n

/-- Subscriber n replaced. -/
def Dev.setSub (d : Dev) (n : Nat) (x : Subscriber) : Dev := { d with ez := { d.ez with subs := tabSet {} d.ez.subs n x } }

/-- Object port n of the cadastre. -/
def Dev.objPort (d : Dev) (n : Nat) : ObjPort := tabGet {} d.cad.ports n

/-- Object port n replaced; PORT_POS and PORT_DATA altered with it count as changes of their entries (13 R524). -/
def Dev.setObjPort (d : Dev) (n : Nat) (x : ObjPort) : Dev :=
  let old := d.objPort n
  let d := { d with cad := { d.cad with ports := tabSet {} d.cad.ports n x } }
  let d := if old.pos = x.pos then d else bumpChange d (legKey 0x7812 n)
  if old.pos = x.pos ∧ old.object = x.object ∧ (old.st = .reading) = (x.st = .reading) then d else bumpChange d (legKey 0x7811 n)

/-- Ethernet port n: 0 MGMT, 1 LOCAL0, 2 LOCAL1. -/
def Dev.ethPort (d : Dev) (n : Nat) : EthPort := if n = 0 then d.eth.p0 else if n = 1 then d.eth.p1 else d.eth.p2

/-- Ethernet port n replaced. -/
def Dev.setEthPort (d : Dev) (n : Nat) (x : EthPort) : Dev :=
  if n = 0 then { d with eth := { d.eth with p0 := x } }
  else if n = 1 then { d with eth := { d.eth with p1 := x } }
  else { d with eth := { d.eth with p2 := x } }

/-- Entry of fault source s. -/
def Dev.fault (d : Dev) (s : Nat) : FaultSrc := tabGet {} d.faults.sources s

/-- Entry of fault source s replaced. -/
def Dev.setFault (d : Dev) (s : Nat) (x : FaultSrc) : Dev :=
  { d with faults := { d.faults with sources := tabSet {} d.faults.sources s x } }

/-- Something sent. -/
def Dev.emit (d : Dev) (x : Emission) : Dev := { d with wire := d.wire ++ [x] }

/-- The cause of a source set or removed, where the state keeps it as a flag. -/
def Dev.setCause (d : Dev) (s : Nat) (c : Bool) : Dev := d.setFault s { d.fault s with cause := c }

/-! ## Maps between quads, partitions and strips -/

/-- Position of an element in a list. -/
def findIdx {α : Type} [DecidableEq α] (x : α) : List α → Option Nat
  | [] => none
  | a :: r => if a = x then some 0 else (findIdx x r).map (· + 1)

/-- The partition a physical quad is mapped in, with its logical number (R257). -/
def quadOwner (d : Dev) (pq : Nat) : Option (Nat × Nat) :=
  d.parts.findSome? fun x => (findIdx (BitVec.ofNat 16 pq) x.2.quadMap).map fun l => (x.1, l)

/-- The physical quad of a partition's logical quad. -/
def physQuad (d : Dev) (p l : Nat) : Option Nat := ((d.partition p).quadMap[l]?).map (·.toNat)

/-- The tenant of a partition. -/
def tenant (d : Dev) (p : Nat) : Nat := legNat d (0x3000 + p) 0x01

/-- The strips placed in a partition, in rising order. -/
def stripsOf (d : Dev) (p : Nat) : List Nat :=
  (d.strips.filter fun x => decide (x.2.partition.toNat = p)).map (·.1)

/-- Spares listed, in rising order (07 R275). -/
def sparesListed (d : Dev) : List Nat :=
  sortBy id (((chunks 2 8 (legVal d 0xF011 0x00)).map beVal).filter fun q => decide (q < quadsFitted d))

/-- Spares not yet mapped and not failed, in rising order. -/
def sparesFree (d : Dev) : List Nat :=
  (sparesListed d).filter fun q => (quadOwner d q).isNone && decide ((d.quad q).st ≠ .failed)

/-- Beat k of a partition in real time: 640k + PHASE : 0 (R268). -/
def beatStamp (d : Dev) (p k : Nat) : Stamp :=
  stampOf (BitVec.ofNat 48 (640 * k + legNat d (0x3000 + p) 0x07)) 0

end Sys2Proof.Machine
end

