-- ==== Sys2Proof/Machine/Raise.lean ====
section
/-! DEFINITION. Raising a fault and telling the subscribers: what the fault collector does on a raise (16 R614 to
R627), the event records and queues (13 R536 to R538), and CRC-32 (assumption log 7). -/

namespace Sys2Proof.Machine

/-! ## CRC-32 -/

/-- Eight shifts of the reflected CRC-32 register. -/
def crcStep : Nat → BitVec 32 → BitVec 32
  | 0, c => c
  | n + 1, c => crcStep n (if c.getLsbD 0 then (c >>> 1) ^^^ 0xEDB88320#32 else c >>> 1)

/-- CRC-32 of IEEE 802.3 (log 7). -/
def crc32 (bs : Bytes) : BitVec 32 :=
  (bs.foldl (fun c b => crcStep 8 (c ^^^ b.setWidth 32)) 0xFFFFFFFF#32) ^^^ 0xFFFFFFFF#32

/-! ## Events (13 R536 to R538) -/

/-- An event record of 48 octets (13 Table 13.9). -/
def eventRecord (kind code idx sub : Nat) (stamp : Stamp) (data : Bytes) : Bytes :=
  be 1 kind ++ be 1 code ++ be 2 idx ++ be 1 sub ++ zeros 3 ++ tickBytes stamp ++ fit 32 data

/-- Subscriber n takes events whose kind has bit `k` of KINDS (13 Table 13.8). -/
def subscribed (d : Dev) (n k : Nat) : Bool :=
  let v := legVal d 0xA020 n
  decide (beAt 0 1 v ≠ 0) && decide (bitsAt k 1 (beAt 8 4 v) = 1)

/-- A record offered to one subscriber's queue of 256 (13 R538): the device and whether the record was dropped. -/
def offerEvent (d : Dev) (n : Nat) (record : Bytes) : Dev × Bool :=
  let s := d.sub n
  if s.queue.length < 256 then (d.setSub n { s with queue := s.queue ++ [record] }, false)
  else (d.setSub n { s with lost := s.lost + 1, lostFlag := true }, true)

/-- A record offered to every subscriber of its kind: the device and the subscribers that dropped it. -/
def pushEvent (d : Dev) (k : Nat) (record : Bytes) : Dev × List Nat :=
  (List.range 8).foldl (fun (acc : Dev × List Nat) n =>
    if subscribed acc.1 n k then
      let r := offerEvent acc.1 n record
      (r.1, if r.2 then acc.2 ++ [n] else acc.2)
    else acc) (d, [])

/-! ## Raising (16 R614 to R627) -/

/-- What a checker names when it raises a source. -/
structure Raise where
  src : Nat
  quad : Option Nat := none
  part : Option Nat := none
  loc16 : Nat := 0
  loc64 : Nat := 0
  detail : Bytes := []
  /-- Transaction record of an 0xF0 or 0xF1. -/
  txnRec : Nat := 0
  injected : Bool := false
  /-- Re-raised at boot, with the trip's stamp (15 R589, 16 R619). -/
  boot : Option Stamp := none
  deriving DecidableEq, Repr

/-- What a raise is attributed to (16 R616). -/
inductive Attribution where
  | quad (q : Nat)
  | partition (p : Nat)
  | device
  deriving DecidableEq, Repr

/-- Sources whose row of 16 Table 16.3 names a quad. -/
def quadSource (s : Nat) : Bool :=
  (decide (0x20 ≤ s) && decide (s ≤ 0x24)) || (decide (0x40 ≤ s) && decide (s ≤ 0x44)) ||
  (decide (0x60 ≤ s) && decide (s ≤ 0x63)) || (decide (0x98 ≤ s) && decide (s ≤ 0x9C)) ||
  decide (s = 0xF8) || decide (s = 0xF9)

/-- Sources whose row of 16 Table 16.3 names a partition. -/
def partitionSource (s : Nat) : Bool :=
  decide (s = 0x48) || decide (s = 0x49) || (decide (0xB0 ≤ s) && decide (s ≤ 0xB7)) ||
  (decide (0xE0 ≤ s) && decide (s ≤ 0xEC))

/-- The attribution of a raise with its fall-backs (16 R616). -/
def attribution (r : Raise) : Attribution :=
  if quadSource r.src then
    match r.quad, r.part with
    | some q, _ => .quad q
    | none, some p => .partition p
    | none, none => .device
  else if partitionSource r.src then
    match r.part with
    | some p => .partition p
    | none => .device
  else .device

/-- The detail entry of a raise: index and sub (16 Table 16.3). -/
def detailEntry (r : Raise) : Nat × Nat :=
  let own := (0x9100 + r.src, 0x05)
  let byQuad (idx : Nat) := match r.quad with
    | some q => (idx, q)
    | none => own
  if r.src ≤ 0x07 then (0x8000, 0x1B)
  else if 0x20 ≤ r.src ∧ r.src ≤ 0x24 then byQuad 0x8810
  else if (0x40 ≤ r.src ∧ r.src ≤ 0x44) ∨ r.src = 0xF8 ∨ r.src = 0xF9 then byQuad 0xF010
  else if 0x60 ≤ r.src ∧ r.src ≤ 0x63 then byQuad 0xF021
  else if (0x80 ≤ r.src ∧ r.src ≤ 0x83) ∨ r.src = 0x8B then (0x6010, r.loc16)
  else if 0xB0 ≤ r.src ∧ r.src ≤ 0xB7 then (0x4000 + r.loc16, 0x28)
  else if 0xB8 ≤ r.src ∧ r.src ≤ 0xBD then (0x2000, 0x01)
  else if r.src = 0xE1 ∨ r.src = 0xE2 then
    match r.part with
    | some p => (0x3000 + p, 0x10)
    | none => own
  else if r.src = 0xF0 ∨ r.src = 0xF1 then (0xA010, r.txnRec)
  else own

/-- The 32 octets of fault data (16 Table 16.4). -/
def faultData (r : Raise) (sev flags count : Nat) : Bytes :=
  be 1 sev ++ be 1 flags ++ be 2 (r.quad.getD 0xFFFF) ++ be 1 (r.part.getD 0xFF) ++ zeros 1 ++ be 2 r.loc16 ++
    be 8 r.loc64 ++ be 4 count ++ fit 12 r.detail

/-- The severity held for a source. -/
def severityOf (d : Dev) (s : Nat) : Nat := legNat d (0x9100 + s) 0x00

/-- A fault-log record enters the buffer of 1,024, or is lost (16 R626, R627). -/
def logRecord (d : Dev) (event : Bytes) : Dev :=
  let f := d.faults
  let seq := f.logSeq + 1
  let body := event ++ be 8 seq.toNat
  let rcd := body ++ be 4 (crc32 body).toNat ++ zeros 4
  if f.buffer.length < 1024 then { d with faults := { f with logSeq := seq, buffer := f.buffer ++ [rcd] } }
  else { d with faults := { f with logSeq := seq, logDropped := f.logDropped + 1 } }

/-- The latch on a raise at severity 2 or above (16 R621): the FLAGS it gives the record, and the collector after it.
Of two sources raised at one stamp the lower number is held as first. -/
def latch (d : Dev) (s : Nat) (stamp : Stamp) : Nat × Dev :=
  let f := d.faults
  match f.first with
  | none => (1, { d with faults := { f with first := some (BitVec.ofNat 8 s), firstStamp := stamp, firstOrd := ordinal d } })
  | some held =>
    if f.firstStamp = stamp ∧ f.firstOrd = ordinal d ∧ s < held.toNat then
      (1, { d with faults := { f with first := some (BitVec.ofNat 8 s), overflow := true } })
    else (2, { d with faults := { f with overflow := true } })

/-- Sources whose quad is marked failed and remapped (07 Table 7.4). -/
def remapSource (s : Nat) : Bool :=
  decide (s = 0x41) || decide (s = 0x43) || decide (s = 0x44) || decide (s = 0x60) || decide (s = 0x61) || decide (s = 0x62)

/-- A quad is marked failed: it keeps that state until power-on, and leaves the spares when it was one (07 R276). -/
def failQuad (d : Dev) (q : Nat) : Dev :=
  let d := d.setQuad q { d.quad q with st := .failed }
  let l := chunks 2 8 (legVal d 0xF011 0x00)
  if l.any (fun b => decide (beVal b = q)) then ownChange d 0xF011 0x00 ((l.map fun b => if beVal b = q then be 2 0xFFFF else b).flatten) else d

/-- A partition that holds no running resources has nothing to recover (assumption log 24). -/
def recovers (x : Partition) : Bool :=
  match x.st with
  | .free | .stopped | .handedOver => false
  | _ => true

/-- A partition's recovery is due one sub-tick after a raise (07 R302, R304, R312). -/
def recoveryDue (d : Dev) (p s : Nat) (stamp : Stamp) : Dev :=
  let x := d.partition p
  if recovers x ∧ x.haltDue.isNone then d.setPartition p { x with haltDue := some (stamp, BitVec.ofNat 8 s) } else d

/-- A mapped quad whose raise has it remapped (07 Table 7.4): its mark comes with the halt that its partition owes. -/
def failMapped (d : Dev) (p q : Nat) : Dev :=
  let x := d.partition p
  if recovers x then d.setPartition p { x with failing := if q ∈ x.failing then x.failing else x.failing ++ [q] } else failQuad d q

/-- ISOLATE (16 R616, 07 R302, R303). -/
def isolate (d : Dev) (r : Raise) (stamp : Stamp) : Dev :=
  match attribution r with
  | .device => d
  | .partition p => recoveryDue d p r.src stamp
  | .quad q =>
    match quadOwner d q with
    | none => failQuad d q
    | some (p, _) => recoveryDue (if remapSource r.src then failMapped d p q else d) p r.src stamp

/-- HALT and CUT: due one sub-tick after the raise; a cut also asks the sentry (16 R617, 15 R585). -/
def haltDevice (d : Dev) (sev s : Nat) (stamp : Stamp) : Dev :=
  let f := d.faults
  let due := match f.haltDue with
    | none => some (stamp, BitVec.ofNat 8 sev)
    | some (t, v) => some (t, BitVec.ofNat 8 (max v.toNat sev))
  let d := { d with faults := { f with haltDue := due } }
  if sev = 5 ∧ d.sentry.cut.isNone ∧ ¬ d.sentry.cutDue then { d with sentry := { d.sentry with cutDue := true, cutSource := BitVec.ofNat 8 s } } else d

/-- One raise taken by the collector, without the EVENTS_LOST raises it may cause: the device and the subscribers that
dropped its record. -/
def raiseOne (d : Dev) (r : Raise) : Dev × List Nat :=
  let held := severityOf d r.src
  let held := if r.boot.isSome then min held 2 else held
  if held = 0 then (d, [])
  else
    let stamp := r.boot.getD (now d)
    let asNotify := decide (held = 3) && decide (attribution r = .device)
    let sev := if asNotify then 2 else held
    let x := d.fault r.src
    let count := if x.count = 0xFFFFFFFF#32 then x.count else x.count + 1
    let lf := if 2 ≤ sev then latch d r.src stamp else (0, d)
    let flags := lf.1 + 4 * bit r.injected + 8 * bit r.boot.isSome + 16 * bit asNotify
    let data := faultData r sev flags count.toNat
    let d := lf.2.setFault r.src
      { x with
        count := count
        lastStamp := stamp
        lastOrd := ordinal d
        lastData := data
        set := x.set || decide (2 ≤ sev)
        applied := if 2 ≤ sev then BitVec.ofNat 8 (max x.applied.toNat sev) else x.applied }
    if sev < 2 then (d, [])
    else
      let ev := eventRecord 1 r.src (detailEntry r).1 (detailEntry r).2 stamp data
      let d := logRecord d ev
      let p := pushEvent d 0 ev
      let d := if sev = 3 then isolate p.1 r stamp else if 4 ≤ sev then haltDevice p.1 sev r.src stamp else p.1
      (d, p.2)

/-- EVENTS_LOST for subscribers that dropped a record (13 R538); its own record may be dropped in turn, and counts. -/
def eventsLost (d : Dev) (subs : List Nat) : Dev :=
  subs.foldl (fun d n => (raiseOne d { src := 0xF2, loc16 := n }).1) d

/-- A raise (16 R615). -/
def raise (d : Dev) (r : Raise) : Dev :=
  let x := raiseOne d r
  eventsLost x.1 x.2

/-- A raise of a device-attributed source. -/
def raiseDev (d : Dev) (s loc16 loc64 : Nat) : Dev := raise d { src := s, loc16 := loc16, loc64 := loc64 }

/-- A raise of a quad's source: the partition that maps the quad is named with it. -/
def raiseQuad (d : Dev) (s q loc16 loc64 : Nat) (detail : Bytes) (injected : Bool) : Dev :=
  raise d { src := s, quad := some q, part := (quadOwner d q).map (·.1), loc16 := loc16, loc64 := loc64, detail := detail, injected := injected }

/-- A raise of a partition's source. -/
def raisePart (d : Dev) (s p loc16 loc64 : Nat) : Dev :=
  raise d { src := s, part := some p, loc16 := loc16, loc64 := loc64 }

/-- The event of a transaction's final state (13 Table 13.9, KIND 2). -/
def txnEvent (d : Dev) (code idx sub : Nat) (data : Bytes) : Dev :=
  let p := pushEvent d 1 (eventRecord 2 code idx sub (now d) data)
  eventsLost p.1 p.2

end Sys2Proof.Machine
end

