-- ==== Sys2Proof/Machine/Memory.lean ====
section
/-! DEFINITION. Reads and writes of the quads' memories and of stack memory: the protecting codes and injected errors
(03 R98, R99; 16 R612, R629, R630), the partition's pages (07 R259), and the pencil tags of blocks and pages
(06 R232 to R235). -/

namespace Sys2Proof.Machine

/-! ## Quad address space (03 Table 3.4) -/

/-- The four memories of a quad. -/
inductive Bank where
  | imem | dmem | weight | act
  deriving DecidableEq, Repr

/-- The memory that holds a quad address. -/
def bankOf (a : Nat) : Option Bank :=
  if a < 0x8000 then some .imem
  else if 0x10000 ≤ a ∧ a < 0x18000 then some .dmem
  else if 0x100000 ≤ a ∧ a < 0x1C0000 then some .weight
  else if 0x200000 ≤ a ∧ a < 0x380000 then some .act
  else none

/-- The memory that holds the whole of [a, a + len). -/
def bankSpan (a len : Nat) : Option Bank :=
  if len = 0 ∨ bankOf a = bankOf (a + len - 1) then bankOf a else none

/-- Bytes of a protected word at an address: 32 in the weight bank, 8 in the activation bank, 4 elsewhere (R98). -/
def codeWord (a : Nat) : Nat :=
  match bankOf a with
  | some .weight => 32
  | some .act => 8
  | _ => 4

/-- Inverted bits of a word that its code still corrects (R98): parity corrects none. -/
def correctable (a : Nat) : Nat :=
  match bankOf a with
  | some .weight => 2
  | some .act => 1
  | _ => 0

/-- Sources of a corrected and of an uncorrectable read of a bank (R99). -/
def bankSources (a : Nat) : Nat × Nat :=
  match bankOf a with
  | some .weight => (0x40, 0x41)
  | some .act => (0x42, 0x43)
  | _ => (0x44, 0x44)

/-- Bank number of a raise (16 Table 16.3). -/
def bankCode (a : Nat) : Nat :=
  match bankOf a with
  | some .weight => 0
  | some .act => 1
  | some .imem => 2
  | _ => 3

/-- Injected words that overlap [a, a + len), with their inverted bits. -/
def injected (inj : Tab Nat) (width : Nat → Nat) (a len : Nat) : List (Nat × Nat) :=
  inj.filter fun x => decide (x.1 < a + len) && decide (a < x.1 + width x.1)

/-- The syndrome of k inverted check bits, big-endian, right-aligned (16 R667). -/
def syndrome (k : Nat) : Bytes := be 4 (2 ^ k - 1)

/-- A quad's source whose cause lasts until it is reloaded or replaced is noted on the quad (03 Table 3.15). -/
def raiseLasting (d : Dev) (s q loc16 loc64 : Nat) (detail : Bytes) (inj : Bool) : Dev :=
  let x := d.quad q
  raiseQuad (d.setQuad q { x with causes := if s ∈ x.causes then x.causes else x.causes ++ [s] }) s q loc16 loc64 detail inj

/-- The check of one injected word by its code when it is read (16 R630): whether it is uncorrectable. -/
def checkWord (d : Dev) (q : Nat) (w : Nat × Nat) : Bool × Dev :=
  let x := d.quad q
  if w.2 ≤ correctable w.1 then
    let d := d.setQuad q { x with inj := tabSet 0 x.inj w.1 0, corrected := x.corrected + 1 }
    (false, raiseQuad d (bankSources w.1).1 q (bankCode w.1) w.1 (syndrome w.2) true)
  else (true, raiseLasting d (bankSources w.1).2 q (bankCode w.1) w.1 (syndrome w.2) true)

/-- Checks of a list of words: whether any is uncorrectable. -/
def checkWords (d : Dev) (q : Nat) (ws : List (Nat × Nat)) : Bool × Dev :=
  ws.foldl (fun acc w => let r := checkWord acc.2 q w; (acc.1 || r.1, r.2)) (false, d)

/-- A read of a quad's memory: the bytes, whether the read is uncorrectable, the device after it. -/
def readQuad (d : Dev) (q a len : Nat) : Bytes × Bool × Dev :=
  let x := d.quad q
  let r := checkWords d q (injected x.inj codeWord a len)
  (memRead x.mem a len, r.1, r.2)

/-- A write of a quad's memory: words written in part are read first, and every word written stores correct check
bits (16 R630). The flag: one of those reads was uncorrectable. -/
def storeQuad (d : Dev) (q a : Nat) (bs : Bytes) : Bool × Dev :=
  let hit := injected (d.quad q).inj codeWord a bs.length
  let part := hit.filter fun w => !(decide (a ≤ w.1) && decide (w.1 + codeWord w.1 ≤ a + bs.length))
  let r := checkWords d q part
  let x := r.2.quad q
  (r.1, r.2.setQuad q { x with mem := memWrite x.mem a bs, inj := x.inj.filter fun w => decide (w.1 ∉ hit.map (·.1)) })

/-- A write of a quad's memory that stops nothing. -/
def writeQuad (d : Dev) (q a : Nat) (bs : Bytes) : Dev := (storeQuad d q a bs).2

/-- Zeroing of [lo, hi) of a quad's memory: whole words, no read (16 R630). -/
def zeroQuad (d : Dev) (q lo hi : Nat) : Dev :=
  let x := d.quad q
  d.setQuad q { x with mem := memZero x.mem lo hi, inj := x.inj.filter fun w => !(decide (lo ≤ w.1) && decide (w.1 < hi)) }

/-! ## Stack memory -/

/-- The partition that owns or holds a physical page (16 Table 16.3). -/
def pageOwner (d : Dev) (page : Nat) : Option Nat :=
  (d.parts.find? fun x => decide (page ∈ x.2.pages) || decide (page ∈ x.2.sheetCopy)).map (·.1)

/-- A raise of STACK_CE or STACK_UE for the word at a physical address. -/
def raiseStack (d : Dev) (s a bits : Nat) : Dev :=
  raise d { src := s, part := pageOwner d (a / pageBytes), loc16 := a / (64 * pageBytes), loc64 := a % (64 * pageBytes), detail := syndrome bits, injected := true }

/-- The check of one injected stack word when it is read (16 R612). -/
def checkStackWord (d : Dev) (w : Nat × Nat) : Bool × Dev :=
  if w.2 ≤ 1 then (false, raiseStack { d with stackInj := tabSet 0 d.stackInj w.1 0 } 0x48 w.1 w.2)
  else (true, (raiseStack d 0x49 w.1 w.2).setCause 0x49 true)

/-- Checks of a list of stack words. -/
def checkStackWords (d : Dev) (ws : List (Nat × Nat)) : Bool × Dev :=
  ws.foldl (fun acc w => let r := checkStackWord acc.2 w; (acc.1 || r.1, r.2)) (false, d)

/-- A read of stack memory at a physical address: the bytes, whether the read is uncorrectable, the device after it. -/
def readStack (d : Dev) (a len : Nat) : Bytes × Bool × Dev :=
  let r := checkStackWords d (injected d.stackInj (fun _ => 8) a len)
  (memRead d.stackMem a len, r.1, r.2)

/-- Words removed from the injected ones; the cause of STACK_UE is gone when no uncorrectable word is left (R612). -/
def dropStackInj (d : Dev) (gone : Nat × Nat → Bool) : Dev :=
  let inj := d.stackInj.filter fun w => !gone w
  let d := { d with stackInj := inj }
  if inj.any (fun w => decide (1 < w.2)) then d else if (d.fault 0x49).cause then d.setCause 0x49 false else d

/-- A write of stack memory at a physical address (16 R612, R630), flagged as `storeQuad` flags it. -/
def storeStack (d : Dev) (a : Nat) (bs : Bytes) : Bool × Dev :=
  let hit := injected d.stackInj (fun _ => 8) a bs.length
  let part := hit.filter fun w => !(decide (a ≤ w.1) && decide (w.1 + 8 ≤ a + bs.length))
  let r := checkStackWords d part
  (r.1, dropStackInj { r.2 with stackMem := memWrite r.2.stackMem a bs } fun w => decide (w.1 ∈ hit.map (·.1)))

/-- A write of stack memory that stops nothing. -/
def writeStack (d : Dev) (a : Nat) (bs : Bytes) : Dev := (storeStack d a bs).2

/-- Zeroing of [lo, hi) of stack memory. -/
def zeroStack (d : Dev) (lo hi : Nat) : Dev :=
  dropStackInj { d with stackMem := memZero d.stackMem lo hi } fun w => decide (lo ≤ w.1) && decide (w.1 < hi)

/-- Zeroing of a physical page (07 R260). -/
def zeroPage (d : Dev) (page : Nat) : Dev := zeroStack d (page * pageBytes) ((page + 1) * pageBytes)

/-- The physical byte address of an offset in a partition's page, when the partition owns the page (03 R104). -/
def pageAddr (d : Dev) (p page off : Nat) : Option Nat := ((d.partition p).pages[page]?).map fun x => x * pageBytes + off

/-- Bytes of a partition's page. -/
def readPage (d : Dev) (p page off len : Nat) : Bytes × Bool × Dev :=
  match pageAddr d p page off with
  | some a => readStack d a len
  | none => (zeros len, false, d)

/-- Bytes written into a partition's page. -/
def writePage (d : Dev) (p page off : Nat) (bs : Bytes) : Dev :=
  match pageAddr d p page off with
  | some a => writeStack d a bs
  | none => d

/-! ## The free pool (07 R259) -/

/-- Pages held by key archives (05 R214). -/
def vaultPages (d : Dev) : List Nat := (d.key.keys.map fun k => k.2.pages).flatten

/-- Physical pages in use by partitions, sheet copies, upstream stores and key archives. -/
def pagesUsed (d : Dev) : List Nat :=
  (d.parts.map fun x => x.2.pages ++ x.2.sheetCopy).flatten ++ (d.partTx.map fun x => x.2.storePages).flatten ++ vaultPages d

/-- Free pages, lowest first (assumption log 8). -/
def pagesFree (d : Dev) : List Nat :=
  let used := pagesUsed d
  (List.range (pagesFitted d)).filter fun p => decide (p ∉ used)

/-! ## Pencil tags (06 R232 to R235) -/

/-- Blocks of a bank touched by [a, a + len). -/
def blocks (a len : Nat) : List Nat :=
  if len = 0 then [] else (List.range ((a + len - 1) / 4096 - a / 4096 + 1)).map (· + a / 4096)

/-- The tags of the bank blocks in [a, a + len) together. -/
def spanTag (x : Quad) (a len : Nat) : PTag :=
  match bankOf a with
  | some .weight | some .act => (blocks a len).foldl (fun t b => t ||| tabGet 0 x.tags b) 0
  | _ => 0

/-- The bank blocks in [a, a + len) gain a tag. -/
def tagSpan (x : Quad) (a len : Nat) (t : PTag) : Quad :=
  match bankOf a with
  | some .weight | some .act =>
    { x with tags := (blocks a len).foldl (fun m b => tabSet 0 m b (tabGet 0 m b ||| t)) x.tags }
  | _ => x

/-- Tag of a partition's page. -/
def pageTag (d : Dev) (p page : Nat) : PTag := tabGet 0 (d.partition p).pageTags page

/-- Bytes of a quad read for another partition: tagged blocks read as zero, for a pencilled value does not leave its
partition (06 R235, log 53). -/
def readForeign (d : Dev) (q a len : Nat) : Bytes × Bool × Dev :=
  let r := readQuad d q a len
  let x := d.quad q
  (r.1.zipIdx.map fun b => if tabGet 0 x.tags ((a + b.2) / 4096) = 0 then b.1 else 0, r.2.1, r.2.2)

/-- A partition's page gains a tag. -/
def tagPage (d : Dev) (p page : Nat) (t : PTag) : Dev :=
  let x := d.partition p
  d.setPartition p { x with pageTags := tabSet 0 x.pageTags page (tabGet 0 x.pageTags page ||| t) }

/-! ## Progress and work pending (07 R314, R315) -/

/-- A partition makes progress now. At the very stamp at which its watchdog window closes the watchdog wins, so the
window stays until it has been judged (R316). -/
def progress (d : Dev) (p : Nat) : Dev :=
  let x := d.partition p
  if now d = after x.wdBase 16 ∧ ¬ x.wdClosed then d
  else d.setPartition p { x with wdBase := now d, wdClosed := false }

/-- The partition of a quad makes progress; the quad was busy now (03 R114). -/
def quadProgress (d : Dev) (q : Nat) : Dev :=
  let c := d.contour q
  let d := d.setContour q { c with lastBusy := now d }
  match quadOwner d q with
  | some (p, _) => progress d p
  | none => d

end Sys2Proof.Machine
end

