-- ==== Sys2Proof/Machine/Fabric.lean ====
section
/-! DEFINITION. The Aksia fabric's shared operations: the torus, routes, sending and forwarding packets, link state and
what a port carries (10 R412 to R428, R431). -/

namespace Sys2Proof.Machine

/-- The fabric changed. -/
def Dev.updAksia (d : Dev) (f : Aksia → Aksia) : Dev := { d with aksia := f d.aksia }

/-! ## The torus (R412, R413) -/

/-- Size of dimension 0 X, 1 Y, 2 Z. -/
def dimSize (d : Dev) (k : Nat) : Nat := legNat d 0x6000 k

/-- Coordinate k of a device number. -/
def coord (dev k : Nat) : Nat := if k = 0 then dev % 16 else if k = 1 then dev / 16 % 16 else dev / 256

/-- A device number with coordinate k replaced. -/
def withCoord (dev k c : Nat) : Nat :=
  if k = 0 then dev - dev % 16 + c else if k = 1 then dev - dev / 16 % 16 * 16 + c * 16 else dev % 256 + c * 256

/-- The neighbour of a device in a direction. -/
def neighbour (d : Dev) (dev dir : Nat) : Nat :=
  let n := dimSize d (dir / 2)
  let c := coord dev (dir / 2)
  withCoord dev (dir / 2) (if dir % 2 = 0 then (c + 1) % n else (c + n - 1) % n)

/-- The opposite direction. -/
def opposite (dir : Nat) : Nat := if dir % 2 = 0 then dir + 1 else dir - 1

/-- Ports of a link (Table 10.1). -/
def portsPerLink (d : Dev) : Nat := if d.part.grade = 3 then 8 else 4

/-- Direction of a port. -/
def portDir (d : Dev) (p : Nat) : Nat := p / portsPerLink d

/-- Ports of a direction. -/
def linkPorts (d : Dev) (dir : Nat) : List Nat := (List.range (portsPerLink d)).map (· + dir * portsPerLink d)

/-- UP ports of a direction, lowest first. -/
def upPorts (d : Dev) (dir : Nat) : List Nat := (linkPorts d dir).filter fun p => decide ((d.port p).st = .up)

/-- Directions whose link has an UP port. -/
def upDirs (d : Dev) : List Nat := (List.range 6).filter fun k => !(upPorts d k).isEmpty

/-- A port that is off: by PORT_DISABLE, in a dimension of size 1, one of ports j = 4 to 7 of a ZX4-L's link to another
grade, with no device number, or in dormant (Table 10.5, R414, 15 Table 15.6). -/
def portOff (d : Dev) (p : Nat) : Bool :=
  decide (bitsAt p 1 (legNat d 0x6000 0x0B) = 1) || decide (dimSize d (portDir d p / 2) ≤ 1) || decide (deviceNumber d = 0xFFFF) ||
    decide (d.dormant.st = .dormant) || (decide (portsPerLink d = 8) && decide (4 ≤ p % 8) && decide (portDir d p ∈ d.aksia.mixed))

/-- D of R437. -/
def diameter (d : Dev) : Nat := dimSize d 0 / 2 + dimSize d 1 / 2 + dimSize d 2 / 2

/-- A link is held as down: this device's own by its ports, another's by a notice from either end (R424). -/
def linkIsDown (d : Dev) (dev dir : Nat) : Bool :=
  let me := deviceNumber d
  let nb := neighbour d dev dir
  if dev = me then (upPorts d dir).isEmpty
  else if nb = me then (upPorts d (opposite dir)).isEmpty
  else d.aksia.linkMap.any fun l =>
    (decide (l.device.toNat = dev) && decide (l.direction = dir)) || (decide (l.device.toNat = nb) && decide (l.direction = opposite dir))

/-! ## Routes (R422, R423) -/

/-- Some link on `n` steps in a direction is held as down. -/
def pathDown (d : Dev) (dir : Nat) : Nat → Nat → Bool
  | 0, _ => false
  | n + 1, dev => linkIsDown d dev dir || pathDown d dir n (neighbour d dev dir)

/-- The way through one dimension: whether it goes −, or none when both ways are blocked. -/
def routeDim (d : Dev) (k cur tgt : Nat) : Option Bool :=
  let n := dimSize d k
  let up := (coord tgt k + n - coord cur k) % n
  if up = 0 then some false
  else
    let minus := decide (n - up < up)
    let plusDown := pathDown d (2 * k) up cur
    let minusDown := pathDown d (2 * k + 1) (n - up) cur
    if minus then (if ¬ minusDown then some true else if ¬ plusDown then some false else none)
    else if ¬ plusDown then some false else if ¬ minusDown then some true else none

/-- The route from this device: the three DIR flags. -/
def route (d : Dev) (tgt : Nat) : Option (Bool × Bool × Bool) :=
  let me := deviceNumber d
  let m1 := withCoord me 0 (coord tgt 0)
  let m2 := withCoord m1 1 (coord tgt 1)
  match routeDim d 0 me tgt, routeDim d 1 m1 tgt, routeDim d 2 m2 tgt with
  | some x, some y, some z => some (x, y, z)
  | _, _, _ => none

/-- The direction of a packet's next hop from this device; none at its destination. -/
def nextHop (d : Dev) (p : Packet) : Option Nat :=
  let me := deviceNumber d
  let t := p.dst.toNat
  if coord me 0 ≠ coord t 0 then some (bit p.dirX)
  else if coord me 1 ≠ coord t 1 then some (2 + bit p.dirY)
  else if coord me 2 ≠ coord t 2 then some (4 + bit p.dirZ)
  else none

/-- A hop from this device crosses the link between coordinates size − 1 and 0. -/
def crossesDateline (d : Dev) (dir : Nat) : Bool :=
  let c := coord (deviceNumber d) (dir / 2)
  if dir % 2 = 0 then decide (c + 1 = dimSize d (dir / 2)) else decide (c = 0)

/-! ## Sending -/

/-- Ports whose partner device a raise names. -/
def raisePort (d : Dev) (s p : Nat) : Dev := raiseDev d s p (d.port p).partnerDev.toNat

/-- Class numbers (Table 10.2). -/
def classCode : PktClass → Nat
  | .time => 0
  | .msg => 1
  | .req => 2
  | .resp => 3
  | .key => 4

/-- A number for each kind of packet, in the order of Wire.lean. -/
def kindIndex : PktKind → Nat
  | .claim .. => 0
  | .update .. => 1
  | .heartbeat .. => 2
  | .heartbeatAck => 3
  | .linkState .. => 4
  | .message .. => 5
  | .remoteRead .. => 6
  | .remoteWrite .. => 7
  | .keyRequest _ => 8
  | .mirrorWrite .. => 9
  | .delayRequest => 10
  | .delayReply .. => 11
  | .ack => 12
  | .readData => 13
  | .isolation => 14
  | .keyNack => 15
  | .msgCredit _ => 16
  | .keyCredit _ => 17
  | .mirrorAck _ => 18
  | .keyPage .. => 19

/-- TAG of a header: a credit count or a sequence number where the kind has one, else the request tag (Table 10.2). -/
def headerTag (p : Packet) : Nat :=
  match p.kind with
  | .msgCredit n => n
  | .keyCredit n => n
  | .linkState _ _ _ seq => seq.toNat
  | _ => p.tag.toNat

/-- The 16-byte header of a packet (Table 10.2). -/
def packetHeader (p : Packet) : Bytes :=
  be 1 (classCode p.cls + Config.kindCode (classCode p.cls) (kindIndex p.kind) % 32 * 8) ++
    be 1 (bit p.dirX + 2 * bit p.dirY + 4 * bit p.dirZ + 8 * bit p.dl) ++ be 2 p.dst.toNat ++ be 2 p.src.toNat ++ be 1 p.dpart.toNat ++
    be 1 p.spart.toNat ++ be 4 p.tenant.toNat ++ be 2 p.payload.length ++ be 2 (headerTag p)

/-- A link frame with its sequence number and CRC, the latter inverted for an injection (R416, 16 R629). -/
def sentFrame (seq : BitVec 12) (p : Packet) (bad : Bool) : SentFrame :=
  let h := packetHeader p
  let crc := Config.linkCrc seq (h ++ p.payload)
  { seq := seq, header := h, packet := p, crc := if bad then ~~~crc else crc }

/-- Receive buffer of a sub-channel in credits of 64 bytes (Table 10.3). -/
def bufferUnits : PktClass → Nat
  | .time => 32
  | .msg => 256
  | .req => 512
  | .resp => 512
  | .key => 1024

/-- Credits that a packet takes: its header and payload in units of 64 bytes (R417). -/
def packetUnits (p : Packet) : Nat := (16 + p.payload.length + 63) / 64

/-- Key of a link's credits for a class and sub-channel. -/
def creditSlot (dir : Nat) (cls : PktClass) (dl : Bool) : Nat := dir * 16 + classCode cls * 2 + bit dl

/-- The sender holds credits for a whole packet on its sub-channel (R417). -/
def creditsFor (d : Dev) (dir : Nat) (p : Packet) : Bool :=
  decide (tabGet 0 d.aksia.linkUsed (creditSlot dir p.cls p.dl) + packetUnits p ≤ bufferUnits p.cls)

/-- A packet goes out in a link frame of a port (R416): an injected frame carries an inverted CRC (16 R629). -/
def sendOn (d : Dev) (port : Nat) (p : Packet) : Dev :=
  let x := d.port port
  let bad := decide (0 < x.badCrc)
  let y := { x with
    txSeq := x.txSeq + 1
    retry := (x.retry ++ [(x.txSeq, p)]).drop (x.retry.length + 1 - 2048)
    badCrc := x.badCrc - 1
    injected := if bad then x.injected ++ [x.txSeq] else x.injected }
  (d.setPort port y).emit (.packet port (sentFrame x.txSeq p bad))

/-- The receive buffer of a packet that came over a link is free again, and its credits go back (R417). -/
def freeBuffer (d : Dev) (holds : Option (Nat × Bool)) (p : Packet) : Dev :=
  match holds with
  | none => d
  | some (dir, dl) =>
    match (upPorts d dir).head? with
    | some port => d.emit (.credit port { cls := p.cls, dl := dl, units := packetUnits p })
    | none => d

/-- The first packet of a port's queue of a class that may go: the oldest of its sub-channel, with credits (R417, R418). -/
def readyOf (d : Dev) (port : Nat) (cls : PktClass) : Option Nat :=
  let q := (d.port port).queue
  (List.range q.length).find? fun i => match q[i]? with
    | some x => decide (x.pkt.cls = cls) && creditsFor d (portDir d port) x.pkt && (q.take i).all fun y => decide (y.pkt.cls ≠ cls) || decide (y.pkt.dl ≠ x.pkt.dl)
    | none => false

/-- The order in which a port looks at the classes: TIME, then the other four round robin after the one served last
(R418). -/
def serviceClasses (served : Nat) : List PktClass :=
  let four : List PktClass := [.msg, .req, .resp, .key]
  .time :: (four.drop served ++ four.take served)

/-- The queue entry that a port sends next. -/
def nextReady (d : Dev) (port : Nat) : Option Nat := (serviceClasses ((d.port port).served % 4)).findSome? (readyOf d port)

/-- One packet of a port's queue sent: its credits are spent, the buffer it held is free. -/
def sendQueued (d : Dev) (port i : Nat) : Dev :=
  let x := d.port port
  match x.queue[i]? with
  | none => d
  | some q =>
    let k := creditSlot (portDir d port) q.pkt.cls q.pkt.dl
    let d := d.setPort port { x with queue := x.queue.eraseIdx i, served := if q.pkt.cls = .time then x.served else classCode q.pkt.cls }
    let d := d.updAksia fun a => { a with linkUsed := tabSet 0 a.linkUsed k (tabGet 0 a.linkUsed k + packetUnits q.pkt) }
    freeBuffer (sendOn d port q.pkt) q.holds q.pkt

/-- A port sends what is ready; `fuel` bounds the number of packets. -/
def servePort (d : Dev) (port : Nat) : Nat → Dev
  | 0 => d
  | fuel + 1 => match nextReady d port with
    | some i => servePort (sendQueued d port i) port fuel
    | none => d

/-- Every port of a link sends what is ready. -/
def serveLink (d : Dev) (dir : Nat) : Dev := (upPorts d dir).foldl (fun d p => servePort d p (d.port p).queue.length) d

/-- A packet offered to a port, and sent when it is its turn and its credits are there. -/
def offer (d : Dev) (port : Nat) (q : Queued) : Dev :=
  let x := d.port port
  servePort (d.setPort port { x with queue := x.queue ++ [q] }) port (x.queue.length + 1)

/-- The port of a link that a packet takes (R426, R434): TIME packets and the flows of the other classes the lowest UP
port, KEY packets spread over the UP ports (log 21). -/
def flowPort (d : Dev) (dir : Nat) (p : Packet) : Option Nat :=
  let ups := upPorts d dir
  match p.kind with
  | .keyPage off _ => ups[off / 512 % ups.length]?
  | _ => ups.head?

/-- A packet discarded on a link that is down (R425). -/
def dropPacket (d : Dev) (port : Nat) (p : Packet) : Dev :=
  let d := { d with aksia := { d.aksia with dropped := d.aksia.dropped + 1 } }
  raiseDev d 0x84 port p.dst.toNat

/-- A packet put on its next hop: it enters a dimension on DL 0 and carries DL 1 from the dateline on (R423). `holds` is the
link and sub-channel it came over. -/
def sendHop (d : Dev) (dir : Nat) (fresh : Bool) (holds : Option (Nat × Bool)) (p : Packet) : Dev :=
  let p := { p with dl := crossesDateline d dir || (!fresh && p.dl) }
  match flowPort d dir p with
  | some port => offer d port { pkt := p, holds := holds }
  | none => freeBuffer (dropPacket d (dir * portsPerLink d) p) holds p

/-- A TIME packet of this device to the neighbour of a link. -/
def timePacket (d : Dev) (dir : Nat) (kind : PktKind) : Packet :=
  let me := deviceNumber d
  { cls := .time, kind := kind, dirX := decide (dir = 1), dirY := decide (dir = 3), dirZ := decide (dir = 5), dl := crossesDateline d dir, dst := BitVec.ofNat 16 (neighbour d me dir), src := BitVec.ofNat 16 me, dpart := 0xFF, spart := 0xFF, tenant := 0, tag := 0, payload := [] }

/-- A TIME packet to the neighbour of a link, on its lowest UP port (R434). -/
def sendNeighbour (d : Dev) (dir : Nat) (kind : PktKind) : Dev :=
  match (upPorts d dir).head? with
  | some port => offer d port { pkt := timePacket d dir kind, holds := none }
  | none => d

/-- A handed mirror's part put in its place. -/
def handMirror (l : List Handed) (p : Packet) (beat phase off : Nat) (strips : List MirrorStrip) : List Handed :=
  let merge : Handed → Option Handed := fun h => match h with
    | .mirror dv pt tn b ph ss pg =>
      if dv = p.src ∧ pt = p.spart ∧ b = beat then some (.mirror dv pt tn b ph (if strips.isEmpty then ss else strips) (patch off p.payload pg)) else none
    | _ => none
  if l.any (fun h => (merge h).isSome) then l.map (fun h => (merge h).getD h)
  else l ++ [.mirror p.src p.spart p.tenant beat phase strips (patch off p.payload [])]

/-- What a packet for this device hands to a later command, or the credits it returns (R419 to R421, 05 R195, R200,
07 R299). -/
def handPacket (d : Dev) (p : Packet) : Dev :=
  let hand := fun (h : Handed) => { d with handed := d.handed ++ [h] }
  match p.kind with
  | .keyRequest r => hand (.keyRequest r)
  | .keyNack => hand (.keyNack p.tag)
  | .keyPage off last =>
    let key := p.dpart.toNat * 2 ^ 16 + p.src.toNat
    let a := d.aksia
    { d with
      handed := d.handed ++ [.keyPage p.tag off p.payload last]
      aksia := { a with keyCredits := tabSet 0 a.keyCredits key (tabGet 0 a.keyCredits key - p.payload.length) } }
  | .mirrorWrite beat phase off strips => { d with handed := handMirror d.handed p beat phase off strips }
  | .mirrorAck beat => hand (.mirrorAck p.src p.dpart beat)
  | .msgCredit n =>
    let key := p.dpart.toNat * 2 ^ 24 + p.src.toNat * 256 + p.spart.toNat
    { d with aksia := { d.aksia with msgHeld := tabSet 0 d.aksia.msgHeld key (tabGet 0 d.aksia.msgHeld key + n) } }
  | .keyCredit n =>
    let key := p.src.toNat * 256 + p.spart.toNat
    { d with key := { d.key with credits := tabSet 0 d.key.credits key (tabGet 0 d.key.credits key + n) } }
  | _ => d

/-- A packet of this device to a device: handed on at once when that is this device, routed otherwise (R422). -/
def sendPacket (d : Dev) (cls : PktClass) (kind : PktKind) (dst dpart spart : Nat) (tag : BitVec 16) (payload : Bytes) : Dev :=
  let me := deviceNumber d
  let p : Packet := { cls := cls, kind := kind, dirX := false, dirY := false, dirZ := false, dl := false, dst := BitVec.ofNat 16 dst, src := BitVec.ofNat 16 me, dpart := BitVec.ofNat 8 dpart, spart := BitVec.ofNat 8 spart, tenant := BitVec.ofNat 32 (if spart < 64 then tenant d spart else 0), tag := tag, payload := payload }
  if dst = me then handPacket d p
  else
    match route d dst with
    | some (x, y, z) =>
      let p := { p with dirX := x, dirY := y, dirZ := z }
      match nextHop d p with
      | some dir => sendHop d dir true none p
      | none => d
    | none =>
      let d := { d with aksia := { d.aksia with unreachable := d.aksia.unreachable + 1 } }
      raiseDev d 0x85 0xFFFF dst

/-- A request of this device, its kind and tag or partition, as a key of the reserved space. -/
def requestKey (kind : PktKind) (spart : Nat) (tag : BitVec 16) : Nat :=
  match kind with
  | .keyRequest _ => 0x10000 + tag.toNat
  | .mirrorWrite .. => 0x20000 + spart
  | _ => tag.toNat

/-- Bytes of the RESP packets that a REQ will cause: read data, or one packet without payload (R421). -/
def respBytes : PktKind → Nat
  | .remoteRead _ _ len => (len + 511) / 512 * 16 + len
  | _ => 16

/-- Space reserved for the RESP packets of a request (R421). -/
def reserveResp (d : Dev) (key n : Nat) : Dev :=
  d.updAksia fun a => if a.respHeld.any (fun x => decide (x.1 = key)) then a else { a with respHeld := a.respHeld ++ [(key, n)] }

/-- The space of a request that has been answered is free. -/
def freeResp (d : Dev) (key : Nat) : Dev := d.updAksia fun a => { a with respHeld := a.respHeld.filter fun x => decide (x.1 ≠ key) }

/-- A REQ packet, sent after the space for the RESP packets it will cause has been reserved (R421). -/
def sendRequestPacket (d : Dev) (kind : PktKind) (dst dpart spart : Nat) (tag : BitVec 16) (payload : Bytes) : Dev :=
  let d := if dst = deviceNumber d then d else reserveResp d (requestKey kind spart tag) (respBytes kind)
  sendPacket d .req kind dst dpart spart tag payload

/-- A payload as packets of at most 512 bytes, with their byte offsets (R416). -/
def packets (bs : Bytes) : List (Nat × Bytes) :=
  ((chunks 512 bs.length bs).zipIdx).map fun x => (512 * x.2, x.1)

/-- The next request tag of a REQ packet. -/
def nextReqTag (d : Dev) : BitVec 16 × Dev :=
  (d.aksia.nextTag, { d with aksia := { d.aksia with nextTag := d.aksia.nextTag + 1 } })

/-! ## MSG credits (R419) -/

/-- A device can be reached: the first link of its route has an UP port. -/
def reachable (d : Dev) (dev : Nat) : Bool :=
  match route d dev with
  | none => false
  | some (x, y, z) =>
    let p : Packet := { timePacket d 0 .ack with dirX := x, dirY := y, dirZ := z, dst := BitVec.ofNat 16 dev }
    match nextHop d p with
    | some dir => !(upPorts d dir).isEmpty
    | none => false

/-- The peers that PEERS of a partition names: devices and partitions. -/
def peersOf (d : Dev) (p : Nat) : List (Nat × Nat) :=
  ((chunks 4 8 (legVal d (0x3000 + p) 0x08)).map fun b => (beAt 0 2 b, beAt 2 1 b)).filter fun x => decide (x.1 ≠ 0xFFFF)

/-- A peer given the MSG credits it lacks of MSG_CREDITS, once it can be reached (R419, log 22). -/
def grantTo (d : Dev) (p : Nat) (peer : Nat × Nat) : Dev :=
  let key := p * 2 ^ 24 + peer.1 * 256 + peer.2
  let given := tabGet 0 d.aksia.msgGiven key
  let want := legNat d (0x6100 + p) 0x00
  if peer.1 = deviceNumber d ∨ want ≤ given ∨ ¬ reachable d peer.1 then d
  else sendPacket (d.updAksia fun a => { a with msgGiven := tabSet 0 a.msgGiven key want }) .resp (.msgCredit (want - given)) peer.1 peer.2 p 0 []

/-- Every peer of a partition given its MSG credits. -/
def grantPeers (d : Dev) (p : Nat) : Dev := (peersOf d p).foldl (fun d x => grantTo d p x) d

/-- Every peer of every partition that has PEERS given its MSG credits. -/
def grantAll (d : Dev) : Dev :=
  let ps := d.legend.filterMap fun x => if 0x300000 ≤ x.1 ∧ x.1 < 0x304000 ∧ x.1 % 256 = 0x08 then some (x.1 / 256 - 0x3000) else none
  ps.foldl grantPeers d

/-- The credit of a message that has left the ingress area returns to its sender while PEERS names it (R419). -/
def returnMsgCredit (d : Dev) (p dev part : Nat) : Dev :=
  let key := p * 2 ^ 24 + dev * 256 + part
  let d := d.updAksia fun a => { a with msgGiven := tabSet 0 a.msgGiven key (tabGet 0 a.msgGiven key - 1) }
  if (dev, part) ∈ peersOf d p then grantTo d p (dev, part) else d

/-! ## Link state (R424, R425, R426, R431) -/

/-- A LINK_STATE notice sent on every up link but one. -/
def floodNotice (d : Dev) (dev : BitVec 16) (dir : Nat) (up : Bool) (seq : BitVec 16) (from_ : Option Nat) : Dev :=
  (upDirs d).foldl (fun d k => if from_ = some k then d else sendNeighbour d k (.linkState dev dir up seq)) d

/-- One of this device's links went up or down: a notice with the next sequence number is flooded. -/
def ownLinkChange (d : Dev) (dir : Nat) (up : Bool) : Dev :=
  let seq := d.aksia.mySeq + 1
  floodNotice { d with aksia := { d.aksia with mySeq := seq } } (BitVec.ofNat 16 (deviceNumber d)) dir up seq none

/-- AKSIA_FRAME_RETRY: a port resends a link frame (16 R613); the raise of an injected one says so (16 R630). -/
def raiseRetry (d : Dev) (port : Nat) (injected : Bool) : Dev :=
  raise d { src := 0x8B, loc16 := port, loc64 := (d.port port).partnerDev.toNat, injected := injected }

/-- An UP port leaves UP for another state (R425, R426, R431). The frames not known to have arrived, a number of the newest
that is a free value, are resent on another UP port of the link, and what waits follows them there; on a link that is down
they are discarded, and the link's credits start anew. -/
def leaveUp (d : Dev) (port : Nat) (st : PortState) : Dev :=
  let x := d.port port
  let dir := portDir d port
  let f := drawFree d
  let lost := x.retry.drop (x.retry.length - f.1 % (x.retry.length + 1))
  let x := { x with st := st, lanesUp := 0, retry := [], queue := [], resent := 0, injected := [], since := now d }
  let waits := (d.port port).queue
  let bad := (d.port port).injected
  let d := f.2.setPort port x
  match (upPorts d dir).head? with
  | some other =>
    let d := lost.foldl (fun d fr => sendOn (raiseRetry d other (decide (fr.1 ∈ bad))) other fr.2) d
    let d := d.setPort other { d.port other with queue := waits ++ (d.port other).queue }
    servePort d other (d.port other).queue.length
  | none =>
    let d := raisePort (d.setPort port { x with linkFell := true }) 0x81 port
    let d := lost.foldl (fun d fr => dropPacket d port fr.2) d
    let d := waits.foldl (fun d q => freeBuffer (dropPacket d port q.pkt) q.holds q.pkt) d
    let d := d.updAksia fun a => { a with linkUsed := a.linkUsed.filter fun u => decide (u.1 / 16 ≠ dir) }
    ownLinkChange d dir false

/-- The packets that wait on a link, but for KEY packets, wait on its lowest UP port (R426). -/
def gatherQueues (d : Dev) (dir : Nat) : Dev :=
  match upPorts d dir with
  | [] => d
  | low :: rest =>
    let moves := fun (q : Queued) => decide (q.pkt.cls ≠ .key)
    let moved := (rest.map fun p => (d.port p).queue.filter moves).flatten
    let d := rest.foldl (fun d p => d.setPort p { d.port p with queue := (d.port p).queue.filter fun q => !moves q }) d
    d.setPort low { d.port low with queue := moved ++ (d.port low).queue }

/-- A port reaches UP (R429): its causes and those of its link are gone (Table 10.8); the first of its link to do so
is told to the atlas (R424), and the peers that can be reached again have their MSG credits. -/
def reachUp (d : Dev) (port : Nat) (x : AksPort) : Dev :=
  let dir := portDir d port
  let was := (upPorts d dir).isEmpty
  let d := d.setPort port { x with st := .up, lanesUp := 8, attempts := 0, fell := false, miscabled := false, exchangeAge := 0, resent := 0 }
  let d := gatherQueues ((linkPorts d dir).foldl (fun d p => d.setPort p { d.port p with linkFell := false }) d) dir
  if was then grantAll (ownLinkChange d dir true) else serveLink d dir

end Sys2Proof.Machine
end

