-- ==== Sys2Proof/Machine/Graticule.lean ====
section
/-! DEFINITION. The graticule as it reads: state and source codes, the runs of the sources and their order of preference,
the moment of a source against the local stamp, ticks that an edge brings (02 Tables 2.3 and 2.4, R45 to R54). What
edges do is in Machine/Edges.lean, lock and re-alignment in Machine/Sources.lean. -/

namespace Sys2Proof.Machine

/-- State codes of 02 Table 2.3. -/
def gratCode : GratState → Nat
  | .free => 0
  | .acquiring => 1
  | .locked => 2
  | .holdover => 3
  | .adrift => 4
  | .dwell => 5

/-- Source codes of 0x2000.02. -/
def sourceCode : Source → Nat
  | .none => 0
  | .pon => 1
  | .fabric => 2
  | .ptp => 3

/-- STATE as it reads: a graticule on FABRIC reports the datum's holdover (R51). -/
def gratReported (d : Dev) : GratState :=
  if d.grat.state = .locked ∧ d.grat.source = .fabric ∧ (d.grat.datumState = .holdover ∨ d.grat.datumState = .adrift) then d.grat.datumState
  else d.grat.state

/-- A raise of a graticule source: LOC16 the state, LOC64 a signed number of sub-ticks (16 Table 16.3). -/
def raiseGrat (d : Dev) (s : Nat) (delta : Int) : Dev := raiseDev d s (gratCode (gratReported d)) (ofInt 64 delta)

/-- The device changed in its graticule. -/
def Dev.updGrat (d : Dev) (f : Grat → Grat) : Dev := { d with grat := f d.grat }

/-- The run of a source. -/
def runOf (g : Grat) : Source → SourceRun
  | .pon => g.runPon
  | .fabric => g.runFabric
  | .ptp => g.runPtp
  | .none => {}

/-- The run of a source replaced. -/
def setRun (g : Grat) (s : Source) (r : SourceRun) : Grat :=
  match s with
  | .pon => { g with runPon := r }
  | .fabric => { g with runFabric := r }
  | .ptp => { g with runPtp := r }
  | .none => g

/-- Sources in order of preference (Table 2.4). A FABRIC source needs an upstream link to another device (R49). -/
def sourceOrder (d : Dev) : List Source :=
  let fabric := if d.aksia.upstream.isSome ∧ ¬ d.aksia.isDatum then [Source.fabric] else []
  if ethMode d then (if d.aksia.isDatum then [.ptp] else fabric)
  else if legNat d 0x2000 0x03 = 1 then [.pon] else .pon :: fabric

/-- A source has delivered 8 consecutive tick numbers (R45a). -/
def qualified (g : Grat) (s : Source) : Bool := decide (8 ≤ (runOf g s).count)

/-- Rank of a source in the order of preference, after the list when it is not in it. -/
def sourceRank (d : Dev) (s : Source) : Nat := (findIdx s (sourceOrder d)).getD (sourceOrder d).length

/-- Cycles of one tick length, rounded down. -/
def tickCycles (d : Dev) : Nat := tickLen d / 256

/-- How far the local stamp has been moved against its clock; a stamp that is held falls back by a sub-tick in every
sub-tick (R55, R664). -/
def localShift (d : Dev) : Int := d.grat.shift - (if held d then (subTicks d : Int) else 0)

/-- A source's stamp minus the local stamp, now (02 Re-alignment): as at its last tick number, less what the local stamp
has been moved since. -/
def deltaOf (d : Dev) (s : Source) : Int := (runOf d.grat s).delta - (localShift d - (runOf d.grat s).shift)

/-- The stamp of a source `phase` cycles after the edge of its tick t; whole ticks of the phase count as ticks. -/
def sourceStamp (d : Dev) (t : TickNo) (phase : Nat) : Stamp :=
  let n := max 1 (tickCycles d)
  stampOf (t + BitVec.ofNat 48 (phase / n)) (min 4095 (4096 * (phase % n) * 256 / tickLen d))

/-- A tick is due at the edge that began the present tick: it is the present tick, or a step skipped it (R45, R54). -/
def dueNow (d : Dev) (t : TickNo) : Bool :=
  let k := (t - d.grat.prevTick).toNat
  decide (0 < k) && decide (k ≤ (d.grat.tick - d.grat.prevTick).toNat)

end Sys2Proof.Machine
end

