-- ==== Sys2Proof/Machine/Flags.lean ====
section
/-! DEFINITION. Lane and CIM number types and the flags of their results: integers that saturate, the five floating
formats, residues, and the conversion matrix (04 Tables 4.1, 4.5 and 4.7, R131 to R136, R147). Every operation is
computed exactly and rounded or saturated once. -/

namespace Sys2Proof.Machine

/-! ## The flag word (04 Table 4.5) -/

/-- SAT, NAN, OVF, NANCVT as bits 0 to 3. -/
abbrev LaneFlags := Nat

/-- SAT. -/
def fSat : LaneFlags := 1
/-- NAN. -/
def fNan : LaneFlags := 2
/-- OVF. -/
def fOvf : LaneFlags := 4
/-- NANCVT. -/
def fNanCvt : LaneFlags := 8

/-- Two sets of flags together. -/
def orFlags (a b : LaneFlags) : LaneFlags := a ||| b

/-- A result at its type's width, with the flags it sets. -/
abbrev LaneRes := Nat × LaneFlags

/-! ## Types (04 Table 4.1) -/

/-- Bytes in memory of a type. -/
def typeBytes (t : Nat) : Nat :=
  if t = 0 ∨ t = 6 ∨ t = 7 then 1 else if t = 1 ∨ t = 4 ∨ t = 5 then 2 else if t = 8 then 8 else 4

/-- Bits an operation reads and writes: 36 for a residue. -/
def typeBits (t : Nat) : Nat := if t = 8 then 36 else 8 * typeBytes t

/-- An integer type. -/
def isIntType (t : Nat) : Bool := decide (t ≤ 2)

/-- Exponent bits of a floating type. -/
def expBits (t : Nat) : Nat := if t = 3 ∨ t = 5 then 8 else if t = 6 then 4 else 5

/-- Mantissa bits of a floating type. -/
def manBits (t : Nat) : Nat := if t = 3 then 23 else if t = 4 then 10 else if t = 5 then 7 else if t = 6 then 3 else 2

/-- Exponent bias. -/
def fBias (t : Nat) : Nat := 2 ^ (expBits t - 1) - 1

/-! ## Integers (R131) -/

/-- An exact integer saturated to a type's range. -/
def satInt (t : Nat) (i : Int) : LaneRes :=
  let hi : Int := 2 ^ (typeBits t - 1) - 1
  let lo : Int := -(2 ^ (typeBits t - 1))
  if hi < i then (ofInt (typeBits t) hi, fSat)
  else if i < lo then (ofInt (typeBits t) lo, fSat)
  else (ofInt (typeBits t) i, 0)

/-! ## Floating values -/

/-- What a floating bit pattern stands for: m × 2^e with a sign, an infinity or a NaN. -/
inductive FVal where
  | nan
  | inf (neg : Bool)
  | num (neg : Bool) (m : Nat) (e : Int)
  deriving DecidableEq, Repr

/-- The value of a bit pattern of a floating type. -/
def fDecode (t v : Nat) : FVal :=
  let mb := manBits t
  let eb := expBits t
  let neg := decide (bitsAt (mb + eb) 1 v = 1)
  let x := bitsAt mb eb v
  let m := bitsAt 0 mb v
  if t = 6 then
    if x = 15 ∧ m = 7 then .nan
    else if x = 0 then .num neg m (1 - (fBias t : Int) - mb) else .num neg (2 ^ mb + m) ((x : Int) - fBias t - mb)
  else if x = 2 ^ eb - 1 then (if m = 0 then .inf neg else .nan)
  else if x = 0 then .num neg m (1 - (fBias t : Int) - mb)
  else .num neg (2 ^ mb + m) ((x : Int) - fBias t - mb)

/-- The sign bit of a type in place. -/
def fSign (t : Nat) (neg : Bool) : Nat := if neg then 2 ^ (manBits t + expBits t) else 0

/-- A NaN of a type; its sign and payload are free (log 10). -/
def fNaN (t a b : Nat) : Nat :=
  let r := Config.nanBits t a b
  let mb := manBits t
  if t = 6 then fSign t (decide (r % 2 = 1)) + 127
  else fSign t (decide (r % 2 = 1)) + (2 ^ expBits t - 1) * 2 ^ mb + 2 ^ (mb - 1) + (r / 2) % 2 ^ (mb - 1)

/-- An infinity of a type that has one. -/
def fInf (t : Nat) (neg : Bool) : Nat := fSign t neg + (2 ^ expBits t - 1) * 2 ^ manBits t

/-- The largest finite magnitude of a type: 448 in E4M3. -/
def fMax (t : Nat) (neg : Bool) : Nat :=
  if t = 6 then fSign t neg + 126 else fSign t neg + (2 ^ expBits t - 1) * 2 ^ manBits t - 1

/-- m / 2^s rounded to an integer, ties to even. -/
def rne (m s : Nat) : Nat :=
  let q := m / 2 ^ s
  let r := m % 2 ^ s
  if s = 0 then m
  else if 2 * r < 2 ^ s then q
  else if 2 ^ s < 2 * r then q + 1
  else if q % 2 = 0 then q else q + 1

/-- A finite result beyond the range: infinity with OVF in fp32, fp16 and bf16, the largest magnitude with SAT in the
8-bit formats (R132, R133). -/
def fOverflow (t : Nat) (neg : Bool) : LaneRes := if 6 ≤ t then (fMax t neg, fSat) else (fInf t neg, fOvf)

/-- An exact value m × 2^e rounded once to a type, to nearest even. -/
def fRound (t : Nat) (neg : Bool) (m : Nat) (e : Int) : LaneRes :=
  if m = 0 then (fSign t neg, 0)
  else
    let mb := manBits t
    let top : Int := e + Nat.log2 m
    let q : Int := max top (1 - (fBias t : Int)) - mb
    let r := if q ≤ e then m * 2 ^ (e - q).toNat else rne m (q - e).toNat
    let carry := decide (2 ^ (mb + 1) ≤ r)
    let r' := if carry then 2 ^ mb else r
    let q' := if carry then q + 1 else q
    if r' < 2 ^ mb then (fSign t neg + r', 0)
    else
      let x := (q' + mb + fBias t).toNat
      let limit := if t = 6 then decide (15 < x) || (decide (x = 15) && decide (r' = 15)) else decide (2 ^ expBits t - 1 ≤ x)
      if limit then fOverflow t neg else (fSign t neg + x * 2 ^ mb + (r' - 2 ^ mb), 0)

/-- A signed exact value m × 2^e rounded; a zero takes the given sign. -/
def fRoundInt (t : Nat) (zeroNeg : Bool) (i e : Int) : LaneRes :=
  fRound t (if i = 0 then zeroNeg else decide (i < 0)) i.natAbs e

/-- The signed mantissa of a finite value at a lower exponent. -/
def alignTo (neg : Bool) (m : Nat) (e f : Int) : Int :=
  let x : Int := (m * 2 ^ (e - f).toNat : Nat)
  if neg then -x else x

/-- The result of an invalid operation on operands that are no NaN. -/
def fInvalid (t a b : Nat) : LaneRes := (fNaN t a b, fNan)

/-- a + b on values, rounded to type t (R132, R133): an exact zero sum of unlike signs is +0. -/
def fAddV (t a b : Nat) : FVal → FVal → LaneRes
  | .nan, _ => (fNaN t a b, 0)
  | _, .nan => (fNaN t a b, 0)
  | .inf s, .inf u => if s = u then (fInf t s, 0) else fInvalid t a b
  | .inf s, _ => (fInf t s, 0)
  | _, .inf s => (fInf t s, 0)
  | .num s m e, .num u k f =>
    let g := min e f
    fRoundInt t (s && u) (alignTo s m e g + alignTo u k f g) g

/-- a × b on values, as a value: exact. -/
def fMulV : FVal → FVal → FVal
  | .nan, _ => .nan
  | _, .nan => .nan
  | .inf s, .inf u => .inf (s != u)
  | .inf s, .num u k _ => if k = 0 then .nan else .inf (s != u)
  | .num s m _, .inf u => if m = 0 then .nan else .inf (s != u)
  | .num s m e, .num u k f => .num (s != u) (m * k) (e + f)

/-- A value rounded to a type; `a` and `b` are the operands a NaN comes from, `quiet` whether one of them was a NaN. -/
def fRoundV (t a b : Nat) (quiet : Bool) : FVal → LaneRes
  | .nan => if quiet then (fNaN t a b, 0) else fInvalid t a b
  | .inf s => (fInf t s, 0)
  | .num s m e => fRound t s m e

/-- A NaN pattern. -/
def isNaN (t v : Nat) : Bool := decide (fDecode t v = .nan)

/-- a + b. -/
def fAdd (t a b : Nat) : LaneRes := fAddV t a b (fDecode t a) (fDecode t b)

/-- −v on values. -/
def fNegV : FVal → FVal
  | .nan => .nan
  | .inf s => .inf (!s)
  | .num s m e => .num (!s) m e

/-- a − b. -/
def fSub (t a b : Nat) : LaneRes := fAddV t a b (fDecode t a) (fNegV (fDecode t b))

/-- a × b. -/
def fMul (t a b : Nat) : LaneRes := fRoundV t a b (isNaN t a || isNaN t b) (fMulV (fDecode t a) (fDecode t b))

/-- c + a × b with one rounding. -/
def fMac (t c a b : Nat) : LaneRes :=
  let p := fMulV (fDecode t a) (fDecode t b)
  if p = .nan ∧ !(isNaN t a || isNaN t b || isNaN t c) then fInvalid t a b
  else fAddV t a b (fDecode t c) p

/-- a < b on values; false with a NaN. -/
def fLt : FVal → FVal → Bool
  | .nan, _ => false
  | _, .nan => false
  | .inf s, .inf u => s && !u
  | .inf s, .num _ _ _ => s
  | .num _ _ _, .inf u => !u
  | .num s m e, .num u k f => decide (alignTo s m e (min e f) < alignTo u k f (min e f))

/-- a = b on values; false with a NaN; +0 equals −0. -/
def fEq : FVal → FVal → Bool
  | .nan, _ => false
  | _, .nan => false
  | .inf s, .inf u => s == u
  | .inf _, .num _ _ _ => false
  | .num _ _ _, .inf _ => false
  | .num s m e, .num u k f => decide (alignTo s m e (min e f) = alignTo u k f (min e f))

/-- The standard's minimum: a NaN operand gives a NaN, −0 is below +0. -/
def fMin (t a b : Nat) : LaneRes :=
  if isNaN t a || isNaN t b then (fNaN t a b, 0)
  else if fLt (fDecode t a) (fDecode t b) then (a, 0)
  else if fEq (fDecode t a) (fDecode t b) then (max a b, 0)
  else (b, 0)

/-- The standard's maximum. -/
def fMax2 (t a b : Nat) : LaneRes :=
  if isNaN t a || isNaN t b then (fNaN t a b, 0)
  else if fLt (fDecode t a) (fDecode t b) then (b, 0)
  else if fEq (fDecode t a) (fDecode t b) then (min a b, 0)
  else (a, 0)

/-! ## Arithmetic by type -/

/-- The integer of an operand of an integer type. -/
def iVal (t v : Nat) : Int := toInt (typeBits t) v

/-- ADD. -/
def tAdd (t a b : Nat) : LaneRes := if isIntType t then satInt t (iVal t a + iVal t b) else fAdd t a b
/-- SUB. -/
def tSub (t a b : Nat) : LaneRes := if isIntType t then satInt t (iVal t a - iVal t b) else fSub t a b
/-- MUL. -/
def tMul (t a b : Nat) : LaneRes := if isIntType t then satInt t (iVal t a * iVal t b) else fMul t a b
/-- MAC. -/
def tMac (t c a b : Nat) : LaneRes := if isIntType t then satInt t (iVal t c + iVal t a * iVal t b) else fMac t c a b
/-- MIN. -/
def tMin (t a b : Nat) : LaneRes := if isIntType t then (if iVal t a ≤ iVal t b then (a, 0) else (b, 0)) else fMin t a b
/-- MAX. -/
def tMax (t a b : Nat) : LaneRes := if isIntType t then (if iVal t a ≤ iVal t b then (b, 0) else (a, 0)) else fMax2 t a b
/-- ABS: of a floating value, its sign cleared. -/
def tAbs (t a : Nat) : LaneRes := if isIntType t then satInt t (iVal t a).natAbs else (a % 2 ^ (typeBits t - 1), 0)
/-- NEG: of a floating value, its sign inverted. -/
def tNeg (t a : Nat) : LaneRes := if isIntType t then satInt t (-iVal t a) else (a ^^^ 2 ^ (typeBits t - 1), 0)
/-- a = b. -/
def tEq (t a b : Nat) : Bool := if isIntType t || decide (t = 8) then decide (a = b) else fEq (fDecode t a) (fDecode t b)
/-- a < b. -/
def tLt (t a b : Nat) : Bool :=
  if t = 8 then decide (a < b) else if isIntType t then decide (iVal t a < iVal t b) else fLt (fDecode t a) (fDecode t b)

/-! ## Residues (R134, 04 Undefined uses) -/

/-- A modulus for which results are defined: odd, in (2^29, 2^36). -/
def modulusOk (q : Nat) : Bool := decide (q % 2 = 1) && decide (2 ^ 29 < q) && decide (q < 2 ^ 36)

/-- A residue result: free when the modulus or an operand is outside what 04 defines (log 10). -/
def residue (q a b : Nat) (ops : List Nat) (v : Int) : Nat :=
  if modulusOk q && ops.all (fun x => decide (x < q)) then (v % q).toNat else Config.freeResidue q a b % 2 ^ 36

/-! ## Conversion (04 Table 4.7, R136) -/

/-- A value rounded to the nearest integer, ties to even. -/
def fToInt (neg : Bool) (m : Nat) (e : Int) : Int :=
  let x : Int := if 0 ≤ e then (m * 2 ^ e.toNat : Nat) else (rne m (-e).toNat : Nat)
  if neg then -x else x

/-- An exact integer converted to a type other than RES36: S for integers, R, RO and RS for floating types. -/
def cvtInt (t2 : Nat) (i : Int) : LaneRes := if isIntType t2 then satInt t2 i else fRoundInt t2 false i 0

/-- A floating value converted to a type other than RES36; an infinity that becomes ±448 counts as saturated (log 54). -/
def cvtFloat (t2 a : Nat) : FVal → LaneRes
  | .nan => if isIntType t2 then (0, fNanCvt) else (fNaN t2 a a, 0)
  | .inf s =>
    if isIntType t2 then
      (ofInt (typeBits t2) (if s then -(2 ^ (typeBits t2 - 1)) else 2 ^ (typeBits t2 - 1) - 1), orFlags fSat fNanCvt)
    else if t2 = 6 then (fMax 6 s, fSat)
    else (fInf t2 s, 0)
  | .num s m e => if isIntType t2 then satInt t2 (fToInt s m e) else fRound t2 s m e

/-- CVT and MOVI: `a` of type t to type t2 under the lane's q. -/
def convert (t t2 q a : Nat) : LaneRes :=
  if t2 = 8 then
    if t = 8 then (residue q a a [] a, 0)
    else if isIntType t then (residue q a a [] (iVal t a), 0)
    else match fDecode t a with
      | .num s m e => (residue q a a [] (fToInt s m e), 0)
      | _ => (0, fNanCvt)
  else if t = t2 then (a, 0)
  else if t = 8 then
    if modulusOk q && decide (a < q) then cvtInt t2 (if a ≤ (q - 1) / 2 then (a : Int) else (a : Int) - q)
    else (Config.freeResidue q a t2 % 2 ^ typeBits t2, 0)
  else if isIntType t then cvtInt t2 (iVal t a)
  else cvtFloat t2 a (fDecode t a)

end Sys2Proof.Machine
end

