-- ==== Sys2Proof/Machine/Operands.lean ====
section
/-! DEFINITION. The plotter core's operand forms: instruction fields (03 Table 3.2), general registers (R62), fetching
and recognising the operation at the running slot's PC (R65, R66), trapping (R69) and retiring (R71, R314). -/

namespace Sys2Proof.Machine

/-! ## Fields of an instruction word (03 Table 3.2) -/

/-- Bits [31:26]. -/
def fOp (w : Nat) : Nat := bitsAt 26 6 w
/-- Bits [25:21]: gd, and gs2 of format S. -/
def fGd (w : Nat) : Nat := bitsAt 21 5 w
/-- Bits [20:16]. -/
def fGs1 (w : Nat) : Nat := bitsAt 16 5 w
/-- Bits [15:11]. -/
def fGs2 (w : Nat) : Nat := bitsAt 11 5 w
/-- Bits [10:0]. -/
def fFn (w : Nat) : Nat := bitsAt 0 11 w
/-- The 16-bit immediate. -/
def fImm (w : Nat) : BitVec 16 := BitVec.ofNat 16 w
/-- The 16-bit immediate sign-extended. -/
def sImm (w : Nat) : Word := (fImm w).signExtend 32
/-- The 16-bit immediate zero-extended. -/
def zImm (w : Nat) : Word := (fImm w).setWidth 32
/-- The 21-bit immediate sign-extended. -/
def jImm (w : Nat) : Word := (BitVec.ofNat 21 w).signExtend 32

/-! ## General registers (03 R62) -/

/-- Register i; g0 reads as zero. -/
def Quad.reg (x : Quad) (i : Nat) : Word := if i = 0 then 0 else tabGet 0 x.g i

/-- Register i written; a write of g0 is discarded. -/
def Quad.setReg (x : Quad) (i : Nat) (v : Word) : Quad := if i = 0 then x else { x with g := tabSet 0 x.g i v }

/-! ## Operations of 03 Table 3.3 -/

/-- A word that is no operation of Table 3.3: an op value not in the table, fn 13 to 2,047 under op 0, a unit number of
6 or 7 (R66), and a selector of 3 under op 0x06 (assumption log 9). -/
def illegalWord (w : Nat) : Bool :=
  let op := fOp w
  if op = 0x00 then decide (13 ≤ fFn w)
  else if op = 0x06 then decide (bitsAt 8 2 w = 3)
  else if op = 0x30 ∨ op = 0x31 ∨ op = 0x32 then decide (6 ≤ bitsAt 0 3 w)
  else !(decide (op ≤ 0x1A) || (decide (0x20 ≤ op) && decide (op ≤ 0x2B)) || decide (op = 0x3F))

/-- The running slot. -/
def runningSlot (x : Quad) : Option Nat := findIdx .running (x.slots.map (·.st))

/-- A quad that is loaded, or running, and not trapped or failed. -/
def quadLive (x : Quad) : Bool := decide (x.st = .loaded) || decide (x.st = .running)

/-- A PC that names an instruction word: in instruction memory, a multiple of 4. -/
def pcOk (pc : Word) : Bool := decide (pc.toNat < 0x8000) && decide (pc.toNat % 4 = 0)

/-- The instruction word at the PC. -/
def fetchWord (x : Quad) : Nat := leVal (memRead x.mem x.pc.toNat 4)

/-- A trap (R69): the quad halts, QUAD_RECORD takes PC and cause, SHEET_TRAP is raised. -/
def trapQuad (d : Dev) (n cause : Nat) (code : BitVec 16) : Dev :=
  let x := d.quad n
  let d := d.setQuad n { x with st := .trapped, trapPc := x.pc, trapCause := BitVec.ofNat 8 cause, trapCode := code }
  raiseLasting d 0xF8 n cause x.sheetId.toNat [] false

/-- Trap causes (R69). -/
def causeIllegal : Nat := 1
/-- MISALIGNED. -/
def causeMisaligned : Nat := 2
/-- FORBIDDEN. -/
def causeForbidden : Nat := 3
/-- SOFTWARE. -/
def causeSoftware : Nat := 4

/-- What one instruction does: the next state of the device, given the quad, its word and its retire cycle. -/
abbrev CoreFn := Dev → Nat → Nat → Nat → Dev

/-- The earliest cycle at which an instruction of `cost` cycles retires: so many after the last retirement, or 2 after
the dispatch of its task (R88, Table 3.3). -/
def leastCycle (x : Quad) (cost : Nat) : Nat := x.cyc + (if x.fresh then 2 else cost)

/-- The parity of the instruction word at the PC fails (R98). -/
def fetchError (x : Quad) : Option (Nat × Nat) := (injected x.inj codeWord x.pc.toNat 4).head?

/-- The word at the PC fetched by the running task, if there is one: a parity error is raised and nothing retires
(R99); otherwise `f` goes on with the word. -/
def fetching (d : Dev) (n : Nat) (f : Nat → Dev) : Dev :=
  let x := d.quad n
  if quadLive x && (runningSlot x).isSome && pcOk x.pc then
    match fetchError x with
    | some w => (checkWord d n w).2
    | none => f (fetchWord x)
  else d

/-- A command that retires the running task's instruction, when that instruction is the command's operation: the
word at the PC satisfies `m`; `cost` is the least number of cycles since the last retirement (Table 3.3). With no
running task, or with another operation at the PC, nothing happens but the passing of the moment. -/
def coreStep (s : State) (q : QuadAt) (m : Nat → Bool) (cost : Nat) (f : CoreFn) : Res :=
  let n := q.quad.toNat
  let d := s.dev.at q.e
  let x := d.quad n
  onUnit s (decide (n < quadsFitted s.dev))
    (fetching d n fun w => if m w then f d n w (max q.cyc (leastCycle x cost)) else d)

/-- The instruction retires at a cycle: the quad's clock and PC move on, and the partition makes progress. -/
def retire (d : Dev) (n c : Nat) (x : Quad) (pc : Word) : Dev :=
  quadProgress (d.setQuad n { x with cyc := c, pc := pc, fresh := false }) n

/-- An operation that writes one register. -/
def retireReg (v : Quad → Nat → Word) : CoreFn := fun d n w c =>
  let x := d.quad n
  retire d n c (x.setReg (fGd w) (v x w)) (x.pc + 4)

/-- Recognises an op value. -/
def isOp (op : Nat) (w : Nat) : Bool := decide (fOp w = op)

/-- Recognises an op value with an fn value (R format). -/
def isFn (fn : Nat) (w : Nat) : Bool := decide (fOp w = 0) && decide (fFn w = fn)

/-- Recognises a shift by an immediate. -/
def isShift (sel : Nat) (w : Nat) : Bool := decide (fOp w = 0x06) && decide (bitsAt 8 2 w = sel)

end Sys2Proof.Machine
end

