-- ==== Sys2Proof/Machine/Plotter.lean ====
section
/-! DEFINITION. Plotter-core arithmetic, immediates, branches and jumps (03 Table 3.3). -/

namespace Sys2Proof.Machine

/-- Truth as 1 or 0 in a register. -/
def flagWord (b : Bool) : Word := if b then 1 else 0

/-- gd ← gs1 op gs2. -/
def aluRR (f : Word → Word → Word) : CoreFn := retireReg fun x w => f (x.reg (fGs1 w)) (x.reg (fGs2 w))

/-- gd ← gs1 op immediate. -/
def aluRI (imm : Nat → Word) (f : Word → Word → Word) : CoreFn := retireReg fun x w => f (x.reg (fGs1 w)) (imm w)

/-- The shift amount of a register: its low five bits. -/
def shamt (b : Word) : Nat := b.toNat % 32

/-- Bits [63:32] of the signed product. -/
def mulHigh (a b : Word) : Word := BitVec.ofInt 32 (a.toInt * b.toInt / (2 ^ 32 : Nat))

/-- Bits [63:32] of the unsigned product. -/
def mulHighU (a b : Word) : Word := BitVec.ofNat 32 (a.toNat * b.toNat / 2 ^ 32)

/-- ADD. -/
def execAdd (q : QuadAt) (s : State) : Res := coreStep s q (isFn 0) 1 (aluRR (· + ·))
/-- SUB. -/
def execSub (q : QuadAt) (s : State) : Res := coreStep s q (isFn 1) 1 (aluRR (· - ·))
/-- AND. -/
def execAnd (q : QuadAt) (s : State) : Res := coreStep s q (isFn 2) 1 (aluRR (· &&& ·))
/-- OR. -/
def execOr (q : QuadAt) (s : State) : Res := coreStep s q (isFn 3) 1 (aluRR (· ||| ·))
/-- XOR. -/
def execXor (q : QuadAt) (s : State) : Res := coreStep s q (isFn 4) 1 (aluRR (· ^^^ ·))
/-- SLL. -/
def execSll (q : QuadAt) (s : State) : Res := coreStep s q (isFn 5) 1 (aluRR fun a b => a <<< shamt b)
/-- SRL. -/
def execSrl (q : QuadAt) (s : State) : Res := coreStep s q (isFn 6) 1 (aluRR fun a b => a >>> shamt b)
/-- SRA. -/
def execSra (q : QuadAt) (s : State) : Res := coreStep s q (isFn 7) 1 (aluRR fun a b => a.sshiftRight (shamt b))
/-- SLT. -/
def execSlt (q : QuadAt) (s : State) : Res := coreStep s q (isFn 8) 1 (aluRR fun a b => flagWord (a.slt b))
/-- SLTU. -/
def execSltu (q : QuadAt) (s : State) : Res := coreStep s q (isFn 9) 1 (aluRR fun a b => flagWord (a.ult b))
/-- MUL. -/
def execMul (q : QuadAt) (s : State) : Res := coreStep s q (isFn 10) 3 (aluRR (· * ·))
/-- MULH. -/
def execMulh (q : QuadAt) (s : State) : Res := coreStep s q (isFn 11) 3 (aluRR mulHigh)
/-- MULHU. -/
def execMulhu (q : QuadAt) (s : State) : Res := coreStep s q (isFn 12) 3 (aluRR mulHighU)
/-- ADDI. -/
def execAddi (q : QuadAt) (s : State) : Res := coreStep s q (isOp 0x01) 1 (aluRI sImm (· + ·))
/-- ANDI. -/
def execAndi (q : QuadAt) (s : State) : Res := coreStep s q (isOp 0x02) 1 (aluRI zImm (· &&& ·))
/-- ORI. -/
def execOri (q : QuadAt) (s : State) : Res := coreStep s q (isOp 0x03) 1 (aluRI zImm (· ||| ·))
/-- XORI. -/
def execXori (q : QuadAt) (s : State) : Res := coreStep s q (isOp 0x04) 1 (aluRI zImm (· ^^^ ·))
/-- SLTI. -/
def execSlti (q : QuadAt) (s : State) : Res := coreStep s q (isOp 0x05) 1 (aluRI sImm fun a b => flagWord (a.slt b))
/-- SLLI. -/
def execSlli (q : QuadAt) (s : State) : Res := coreStep s q (isShift 0) 1 (aluRI zImm fun a b => a <<< shamt b)
/-- SRLI. -/
def execSrli (q : QuadAt) (s : State) : Res := coreStep s q (isShift 1) 1 (aluRI zImm fun a b => a >>> shamt b)
/-- SRAI. -/
def execSrai (q : QuadAt) (s : State) : Res := coreStep s q (isShift 2) 1 (aluRI zImm fun a b => a.sshiftRight (shamt b))
/-- LUI. -/
def execLui (q : QuadAt) (s : State) : Res := coreStep s q (isOp 0x07) 1 (retireReg fun _ w => zImm w <<< (16 : Nat))

/-- A conditional branch, format S: gs1 and gs2; 1 cycle, 3 when taken. -/
def branch (cond : Word → Word → Bool) : CoreFn := fun d n w c =>
  let x := d.quad n
  if cond (x.reg (fGs1 w)) (x.reg (fGd w)) then retire d n (max c (leastCycle x 3)) x (x.pc + 4 * sImm w)
  else retire d n c x (x.pc + 4)

/-- BEQ. -/
def execBeq (q : QuadAt) (s : State) : Res := coreStep s q (isOp 0x10) 1 (branch fun a b => a == b)
/-- BNE. -/
def execBne (q : QuadAt) (s : State) : Res := coreStep s q (isOp 0x11) 1 (branch fun a b => a != b)
/-- BLT. -/
def execBlt (q : QuadAt) (s : State) : Res := coreStep s q (isOp 0x12) 1 (branch fun a b => a.slt b)
/-- BGE. -/
def execBge (q : QuadAt) (s : State) : Res := coreStep s q (isOp 0x13) 1 (branch fun a b => !a.slt b)
/-- BLTU. -/
def execBltu (q : QuadAt) (s : State) : Res := coreStep s q (isOp 0x14) 1 (branch fun a b => a.ult b)
/-- BGEU. -/
def execBgeu (q : QuadAt) (s : State) : Res := coreStep s q (isOp 0x15) 1 (branch fun a b => !a.ult b)

/-- JAL. -/
def execJal (q : QuadAt) (s : State) : Res := coreStep s q (isOp 0x16) 3 fun d n w c =>
  let x := d.quad n
  retire d n c (x.setReg (fGd w) (x.pc + 4)) (x.pc + 4 * jImm w)

/-- JALR: bits [1:0] of the target are cleared. -/
def execJalr (q : QuadAt) (s : State) : Res := coreStep s q (isOp 0x17) 3 fun d n w c =>
  let x := d.quad n
  retire d n c (x.setReg (fGd w) (x.pc + 4)) ((x.reg (fGs1 w) + sImm w) &&& 0xFFFFFFFC)

/-- The value of a control register (03 Table 3.1), or none for a number not in the table. -/
def csrValue (d : Dev) (n c num : Nat) : Option Word :=
  let x := d.quad n
  let owner := quadOwner d n
  let slot := (runningSlot x).getD 0
  if num = 0x00 then some x.pc
  else if num = 0x01 then some (BitVec.ofNat 32 slot)
  else if num = 0x02 then some (BitVec.ofNat 32 ((owner.map (·.2)).getD 0))
  else if num = 0x03 then some (BitVec.ofNat 32 n)
  else if num = 0x04 then some (BitVec.ofNat 32 ((owner.map (·.1)).getD 0))
  else if num = 0x05 then some (BitVec.ofNat 32 (deviceNumber d))
  else if num = 0x06 then some (BitVec.ofNat 32 c)
  else if num = 0x08 then some (nth {} x.slots slot).slotreg
  else none

/-- CSRR: a number not in Table 3.1 traps (R64). -/
def execCsrr (q : QuadAt) (s : State) : Res := coreStep s q (isOp 0x19) 1 fun d n w c =>
  let x := d.quad n
  match csrValue d n c (bitsAt 0 8 w) with
  | some v => retire d n c (x.setReg (fGd w) v) (x.pc + 4)
  | none => trapQuad d n causeIllegal 0

/-- A slot changed by number. -/
def Quad.updSlot (x : Quad) (i : Nat) (f : Slot → Slot) : Quad := { x with slots := setNth x.slots i (f (nth {} x.slots i)) }

/-- CSRW: SLOTREG of the running slot; any other number traps (R64). -/
def execCsrw (q : QuadAt) (s : State) : Res := coreStep s q (isOp 0x1A) 1 fun d n w c =>
  let x := d.quad n
  if bitsAt 0 8 w = 0x08 then
    retire d n c (x.updSlot ((runningSlot x).getD 0) fun t => { t with slotreg := x.reg (fGs1 w) }) (x.pc + 4)
  else trapQuad d n causeIllegal 0

/-- TRAP (R69): cause SOFTWARE with code imm. -/
def execTrap (q : QuadAt) (s : State) : Res := coreStep s q (isOp 0x3F) 1 fun d n w _ =>
  trapQuad d n causeSoftware (fImm w)

/-- ILLEGAL_INSTRUCTION (R66): the word at the PC is no operation; a PC that is not a multiple of 4 traps as the
misaligned access it is, and one outside instruction memory as the forbidden one (log 9). -/
def execIllegalInstruction (q : QuadAt) (s : State) : Res :=
  let n := q.quad.toNat
  let d := s.dev.at q.e
  let x := d.quad n
  onUnit s (decide (n < quadsFitted s.dev))
    (if quadLive x && (runningSlot x).isSome then
      if x.pc.toNat % 4 ≠ 0 then trapQuad d n causeMisaligned 0
      else if !pcOk x.pc then trapQuad d n causeForbidden 0
      else fetching d n fun w => if illegalWord w then trapQuad d n causeIllegal 0 else d
    else d)

/-- RDT (R94): the stamp of this instruction is latched; its tick's low bits are returned. -/
def execRdt (q : QuadAt) (s : State) : Res := coreStep s q (isOp 0x29) 1 fun d n w c =>
  let x := d.quad n
  retire d n c (({ x with latched := now d }).setReg (fGd w) ((stampTick (now d)).setWidth 32)) (x.pc + 4)

/-- RDTH (R94): the latched stamp's high tick bits and sub-tick. -/
def execRdth (q : QuadAt) (s : State) : Res := coreStep s q (isOp 0x2A) 1 (retireReg fun x _ =>
  BitVec.ofNat 32 (bitsAt 44 16 x.latched.toNat + stampSub x.latched * 2 ^ 16))

end Sys2Proof.Machine
end

