-- ==== Sys2Proof/Machine/CoreMem.lean ====
section
/-! DEFINITION. The store buffer, loads and stores, fences and descriptors (03 R67, R68, R70 to R77, R95). -/

namespace Sys2Proof.Machine

/-- A buffered entry overlaps [a, a + len) (R72). -/
def StoreEntry.overlaps (t : StoreEntry) (a len : Nat) : Bool := decide (t.addr < a + len) && decide (a < t.addr + t.size)

/-- A buffered entry covers [a, a + len) (R72). -/
def StoreEntry.covers (t : StoreEntry) (a len : Nat) : Bool := decide (t.addr ≤ a) && decide (a + len ≤ t.addr + t.size)

/-- The oldest entry drains at cycle c: its bytes are written and its block gains its tag (R71, 06 Table 6.6). -/
def drainOne (d : Dev) (n c : Nat) : Dev :=
  let x := d.quad n
  match x.sb with
  | [] => d
  | t :: r =>
    let d := d.setQuad n { x with sb := r, drained := c + 1 }
    let d := writeQuad d n t.addr (le t.size t.data.toNat)
    d.setQuad n (tagSpan (d.quad n) t.addr t.size t.tag)

/-- The first cycle in which the oldest entry can drain: after the one in which it was written, one entry a cycle, and not
while a load uses the port of its memory (R71). -/
def drainCycle (x : Quad) (t : StoreEntry) : Nat :=
  let k := max (t.cyc + 1) x.drained
  if x.loadAt = some (k, bankCode t.addr) then k + 1 else k

/-- The oldest entry drains in the first cycle in which it can. -/
def drainNext (d : Dev) (n : Nat) : Dev :=
  match (d.quad n).sb with
  | [] => d
  | t :: _ => drainOne d n (drainCycle (d.quad n) t)

/-- Entries drain in order, each in its own cycle, until none that overlaps [a, a + len) is left; `fuel` is the buffer's
depth (R73, R74). -/
def drainOver (d : Dev) (n a len : Nat) : Nat → Dev
  | 0 => d
  | fuel + 1 => if (d.quad n).sb.any (·.overlaps a len) then drainOver (drainNext d n) n a len fuel else d

/-- Every entry drains (R75). -/
def drainAll (d : Dev) (n : Nat) : Nat → Dev
  | 0 => d
  | fuel + 1 => if (d.quad n).sb.isEmpty then d else drainAll (drainNext d n) n fuel

/-- Some buffered entry overlaps [a, a + len). -/
def waitsDrain (x : Quad) (a len : Nat) : Bool := x.sb.any (·.overlaps a len)

/-- The cycle of an instruction that waited for entries to drain: the first at whose start they have (R73 to R75). -/
def afterDrain (waited : Bool) (x : Quad) (c : Nat) : Nat := if waited then max c x.drained else c

/-- Cycles of a load from memory (03 Table 3.5). -/
def loadCost (a : Nat) : Nat :=
  match bankOf a with
  | some .weight => 9
  | some .act => 6
  | _ => 2

/-- A load served by memory at a cycle: what an uncorrectable read returns is a free value (log 2). -/
def loadMemory (len : Nat) (ext : Nat → Word) (d : Dev) (n w c a : Nat) : Dev :=
  let r := readQuad d n a len
  let x := r.2.2.quad n
  let x := { x with coreTag := x.coreTag ||| spanTag x a len, loadAt := some (c, bankCode a) }
  let v := if r.2.1 then (drawFree r.2.2).1 else leVal r.1
  let d := if r.2.1 then (drawFree r.2.2).2 else r.2.2
  retire d n c (x.setReg (fGd w) (ext (v % 2 ^ (8 * len)))) (x.pc + 4)

/-- A load of `len` bytes, the value formed by `ext` (R67, R68, R72, R73): forwarded from the youngest overlapping
entry when that covers it, and read from memory once every overlapping entry has drained otherwise. Of an address both
misaligned and forbidden the misalignment is the trap's cause (log 52). -/
def load (len : Nat) (ext : Nat → Word) : CoreFn := fun d n w c =>
  let x := d.quad n
  let a := (x.reg (fGs1 w) + sImm w).toNat
  if a % len ≠ 0 then trapQuad d n causeMisaligned 0
  else if ¬(bankSpan a len = some .dmem ∨ bankSpan a len = some .weight ∨ bankSpan a len = some .act) then
    trapQuad d n causeForbidden 0
  else
    match (x.sb.filter (·.overlaps a len)).getLast? with
    | some t =>
      if t.covers a len then
        retire d n c (x.setReg (fGd w) (ext (bitsAt (8 * (a - t.addr)) (8 * len) t.data.toNat))) (x.pc + 4)
      else
        let d := drainOver d n a len 8
        loadMemory len ext d n w (max c (max (leastCycle x (loadCost a)) ((d.quad n).drained + loadCost a - 1))) a
    | none => loadMemory len ext d n w (max c (leastCycle x (loadCost a))) a

/-- Sign extension of an 8- or 16-bit value. -/
def sext (bits v : Nat) : Word := (BitVec.ofNat bits v).signExtend 32

/-- LB. -/
def execLb (q : QuadAt) (s : State) : Res := coreStep s q (isOp 0x08) 2 (load 1 (sext 8))
/-- LH. -/
def execLh (q : QuadAt) (s : State) : Res := coreStep s q (isOp 0x09) 2 (load 2 (sext 16))
/-- LW. -/
def execLw (q : QuadAt) (s : State) : Res := coreStep s q (isOp 0x0A) 2 (load 4 (BitVec.ofNat 32))
/-- LBU. -/
def execLbu (q : QuadAt) (s : State) : Res := coreStep s q (isOp 0x0B) 2 (load 1 (BitVec.ofNat 32))
/-- LHU. -/
def execLhu (q : QuadAt) (s : State) : Res := coreStep s q (isOp 0x0C) 2 (load 2 (BitVec.ofNat 32))

/-- A store of the low `len` bytes of gs2, format S, as one entry; with the buffer full the oldest entry drains first
(R67, R68, R70). -/
def store (len : Nat) : CoreFn := fun d n w c =>
  let x := d.quad n
  let a := (x.reg (fGs1 w) + sImm w).toNat
  if a % len ≠ 0 then trapQuad d n causeMisaligned 0
  else if ¬(bankSpan a len = some .dmem ∨ bankSpan a len = some .act) then trapQuad d n causeForbidden 0
  else
    let full := decide (8 ≤ x.sb.length)
    let d := if full then drainNext d n else d
    let x := d.quad n
    let c := afterDrain full x c
    let t : StoreEntry := { addr := a, size := len, data := BitVec.ofNat 32 ((x.reg (fGd w)).toNat % 2 ^ (8 * len)), cyc := c, tag := x.coreTag }
    retire d n c { x with sb := x.sb ++ [t] } (x.pc + 4)

/-- SB. -/
def execSb (q : QuadAt) (s : State) : Res := coreStep s q (isOp 0x0D) 1 (store 1)
/-- SH. -/
def execSh (q : QuadAt) (s : State) : Res := coreStep s q (isOp 0x0E) 1 (store 2)
/-- SW. -/
def execSw (q : QuadAt) (s : State) : Res := coreStep s q (isOp 0x0F) 1 (store 4)

/-- STORE_BUFFER_DRAIN (R71): not before the cycle after the oldest entry was written, one entry a cycle, and not in a
cycle in which a load uses the port of the entry's memory. -/
def execStoreBufferDrain (q : QuadAt) (s : State) : Res :=
  let n := q.quad.toNat
  let d := s.dev.at q.e
  let x := d.quad n
  onUnit s (decide (n < quadsFitted s.dev))
    (match x.sb with
    | [] => d
    | t :: _ =>
      if t.cyc < q.cyc ∧ x.drained ≤ q.cyc ∧ x.loadAt ≠ some (q.cyc, bankCode t.addr) then drainOne d n q.cyc else d)

/-- FENCE (R75): bit 0 waits for the store buffer, bit 1 for every unit: it retires in the first cycle at whose start the
buffer is empty and every command has completed. While a unit has a command the fence has not retired. -/
def execFence (q : QuadAt) (s : State) : Res := coreStep s q (isOp 0x18) 1 fun d n w c =>
  if bitsAt 1 1 w = 1 ∧ ¬ (d.quad n).units.all List.isEmpty then d
  else
    let d := if bitsAt 0 1 w = 1 then drainAll d n 8 else d
    let x := d.quad n
    let c := afterDrain (decide (bitsAt 0 1 w = 1)) x c
    retire d n (if bitsAt 1 1 w = 1 then max c x.unitDone else c) x (x.pc + 4)

/-- Commands queued or running at a unit. -/
def unitQueue (x : Quad) (u : Nat) : List UnitCmd := nth [] x.units u

/-- A unit's queue replaced. -/
def setUnitQueue (x : Quad) (u : Nat) (l : List UnitCmd) : Quad := { x with units := setNth x.units u l }

/-- A global address in a weight bank, the quad's own or another's. -/
def weightAddr (g : Nat) : Bool :=
  (decide (g / 2 ^ 62 = 0) || decide (g / 2 ^ 62 = 2)) && decide (bankOf (bitsAt 0 22 g) = some .weight)

/-- A block-mover descriptor whose destinations, for SCATTER the addresses of its list, all lie in weight banks. -/
def weightBound (x : Quad) (desc : Bytes) : Bool :=
  if leAt 20 1 desc = 2 then
    let l := (chunks 8 (leAt 22 2 desc) (memRead x.mem (leAt 24 4 desc) (8 * leAt 22 2 desc))).map leVal
    !l.isEmpty && l.all weightAddr
  else weightAddr (leAt 8 8 desc)

/-- A quad whose units' queues have changed at a stamp: the span in which unit 2 has no command opens or closes (04
R163). -/
def Quad.idleSince (y x : Quad) (t : Stamp) : Quad :=
  if (unitQueue x 2).isEmpty ∧ ¬ (unitQueue y 2).isEmpty then { y with idleTo := some t }
  else if ¬ (unitQueue x 2).isEmpty ∧ (unitQueue y 2).isEmpty then { y with idleFrom := t, idleTo := none }
  else y

/-- The tag a command takes as it is issued (06 Table 6.6): the core mask, but for a KFETCH and for a block-mover command
whose destination is the weight bank. -/
def issueTag (x : Quad) (u : Nat) (desc : Bytes) : PTag :=
  if u = 5 ∧ leAt 0 1 desc = 3 then 0 else if u = 0 ∧ weightBound x desc then 0 else x.coreTag

/-- CMD (R76, R95): the descriptor is copied as the instruction retires; with the unit's queue full, the running command
among its 4 (log 52), it has not retired. A descriptor address that is not a 32-byte-aligned data-memory address leaves a
command without a descriptor, which its unit completes with INVALID (log 9); a descriptor of a word whose parity fails is
a free value (R99, log 2). -/
def execCmd (q : QuadAt) (s : State) : Res := coreStep s q (isOp 0x30) 1 fun d n w c =>
  let x := d.quad n
  let u := bitsAt 0 3 w
  let a := (x.reg (fGs1 w)).toNat
  if illegalWord w then trapQuad d n causeIllegal 0
  else if 4 ≤ (unitQueue x u).length then d
  else
    let ok := decide (a % 32 = 0) && decide (bankSpan a 32 = some .dmem)
    let r := if ok then readQuad d n a 32 else ([], false, d)
    let desc := if r.2.1 then le 32 (drawFree r.2.2).1 else r.1
    let d := if r.2.1 then (drawFree r.2.2).2 else r.2.2
    let x := d.quad n
    let cmd : UnitCmd := { desc := desc, spec := x.reg (fGs2 w), tag := issueTag x u desc }
    retire d n c ((setUnitQueue x u (unitQueue x u ++ [cmd])).idleSince x (now d)) (x.pc + 4)

/-- UWAIT: retires when the unit has no command queued or running. -/
def execUwait (q : QuadAt) (s : State) : Res := coreStep s q (isOp 0x31) 1 fun d n w c =>
  let x := d.quad n
  if illegalWord w then trapQuad d n causeIllegal 0
  else if (unitQueue x (bitsAt 0 3 w)).isEmpty then retire d n c x (x.pc + 4)
  else d

/-- USTAT: the number of commands queued or running at the unit. -/
def execUstat (q : QuadAt) (s : State) : Res := coreStep s q (isOp 0x32) 1 fun d n w c =>
  let x := d.quad n
  if illegalWord w then trapQuad d n causeIllegal 0
  else retire d n c (x.setReg (fGd w) (BitVec.ofNat 32 (unitQueue x (bitsAt 0 3 w)).length)) (x.pc + 4)

end Sys2Proof.Machine
end

