-- ==== Sys2Proof/Machine/Tasks.lean ====
section
/-! DEFINITION. Messages, inbound queues and task slots of the plotter core (03 R74, R78 to R93). -/

namespace Sys2Proof.Machine

/-! ## Inbound queues (03 R83, R84) -/

/-- A queue as it stands in cycle c: its depth at the cycle's start is the one every decision of the cycle uses. -/
def InQueue.inCycle (i : InQueue) (c : Nat) : InQueue :=
  if c ≤ i.cyc then i else { i with cyc := c, startDepth := i.msgs.length, pushed := false }

/-- Inbound queue k of a quad. -/
def Quad.queue (x : Quad) (k : Nat) : InQueue := nth {} x.inq k

/-- Inbound queue k replaced. -/
def Quad.setQueue (x : Quad) (k : Nat) (i : InQueue) : Quad := { x with inq := setNth x.inq k i }

/-- Depth of queue k at the start of cycle c. -/
def Quad.depthAt (x : Quad) (k c : Nat) : Nat := ((x.queue k).inCycle c).startDepth

/-- A slot at a cycle: armed on, or waiting for, a queue since an earlier cycle, it is READY once its queue holds a message
at the cycle's start (R86, R89). -/
def Slot.settle (x : Quad) (c : Nat) (t : Slot) : Slot :=
  match t.st, t.trig, t.wait with
  | .armed, some (.queue j _), _ => if t.since < c ∧ 0 < x.depthAt j.toNat c then { t with st := .ready, wait := none } else t
  | .waiting, _, some (.queue j _) => if t.since < c ∧ 0 < x.depthAt j.toNat c then { t with st := .ready } else t
  | _, _, _ => t

/-- A quad as it stands in cycle c, the slots that its queues ready by then READY. -/
def Quad.settled (x : Quad) (c : Nat) : Quad := { x with slots := x.slots.map (·.settle x c) }

/-- A push at cycle c: refused when the queue was full at the cycle's start or has taken a push in it (Table 3.8, R84). -/
def pushMsg (x : Quad) (k c : Nat) (m : Msg) : Option Quad :=
  let i := (x.queue k).inCycle c
  if i.startDepth < 16 ∧ i.pushed = false then some ((x.settled c).setQueue k { i with msgs := i.msgs ++ [m], pushed := true })
  else none

/-- A pop at cycle c: the old head, or none for a queue empty at the cycle's start. -/
def popMsg (x : Quad) (k c : Nat) : Option (Msg × Quad) :=
  let i := (x.queue k).inCycle c
  if i.startDepth = 0 then none
  else match i.msgs with
    | [] => none
    | m :: r => some (m, (x.settled c).setQueue k { i with msgs := r })

/-- A unit below `u` offers a completion message to queue k, refused in an earlier cycle: it is accepted first (R84). -/
def offeredBelow (x : Quad) (u k : Nat) : Bool :=
  (x.units.take u).any fun l => match l with
    | c :: _ => c.offered && decide (bitsAt 16 2 c.spec.toNat = k)
    | [] => false

/-- A message of the mesh pushed: the quad's own completions offered to the queue come first (R84). -/
def pushMesh (x : Quad) (k c : Nat) (m : Msg) : Option Quad := if offeredBelow x 6 k then none else pushMsg x k c m

/-- A completion message pushed, after those of lower units. -/
def pushDone (x : Quad) (u k c : Nat) (m : Msg) : Option Quad := if offeredBelow x u k then none else pushMsg x k c m

/-! ## SEND, RECV, RECVW, QLEN (03 R68, R74, R82) -/

/-- The trap of a message address: MISALIGNED, or FORBIDDEN outside data memory (R67, R68). -/
def msgTrap (a : Nat) : Option Nat :=
  if a % 64 ≠ 0 then some causeMisaligned
  else if bankSpan a 64 ≠ some .dmem then some causeForbidden
  else none

/-- SEND: overlapping stores drain, then the message enters the outbound buffer of 2; with the buffer full it has not
retired. -/
def execSend (q : QuadAt) (s : State) : Res := coreStep s q (isOp 0x20) 1 fun d n w c =>
  let x := d.quad n
  let a := (x.reg (fGs1 w)).toNat
  match msgTrap a with
  | some cause => trapQuad d n cause 0
  | none =>
    if 2 ≤ x.outbound.length then d
    else
      let waited := waitsDrain x a 64
      let r := readQuad (drainOver d n a 64 8) n a 64
      let bytes := if r.2.1 then le 64 (drawFree r.2.2).1 else r.1
      let d := if r.2.1 then (drawFree r.2.2).2 else r.2.2
      let x := d.quad n
      retire d n (afterDrain waited x c) { x with outbound := x.outbound ++ [{ bytes := bytes, tag := x.coreTag }] } (x.pc + 4)

/-- A received message written into data memory, the core mask gaining its tag (06 Table 6.6). -/
def deliverToCore (d : Dev) (n a : Nat) (m : Msg) : Dev :=
  let d := writeQuad d n a m.bytes
  let x := d.quad n
  d.setQuad n { x with coreTag := x.coreTag ||| m.tag }

/-- RECV: pops a queue into data memory and gives 0, or gives 1 and writes nothing. -/
def execRecv (q : QuadAt) (s : State) : Res := coreStep s q (isOp 0x21) 2 fun d n w c =>
  let a := ((d.quad n).reg (fGs1 w)).toNat
  match msgTrap a with
  | some cause => trapQuad d n cause 0
  | none =>
    let waited := waitsDrain (d.quad n) a 64
    let d := drainOver d n a 64 8
    let x := d.quad n
    let c := afterDrain waited x c
    match popMsg x (bitsAt 0 2 w) c with
    | none => retire d n c (x.setReg (fGd w) 1) (x.pc + 4)
    | some (m, x) =>
      let d := deliverToCore (d.setQuad n x) n a m
      retire d n c ((d.quad n).setReg (fGd w) 0) ((d.quad n).pc + 4)

/-- The running slot stops: a pending CANCEL leaves it IDLE and discards its pending arming (R90); otherwise `f`. -/
def stopSlot (x : Quad) (i : Nat) (f : Slot → Slot) : Quad :=
  x.updSlot i fun t =>
    if t.cancelled then { t with st := .idle, trig := none, wait := none, pending := none, cancelled := false } else f t

/-- RECVW: as RECV; with the queue empty the slot waits on it, and the pop is made when the slot is dispatched again. A
cancelled task stops without popping (R89, R90). -/
def execRecvw (q : QuadAt) (s : State) : Res := coreStep s q (isOp 0x22) 2 fun d n w c =>
  let x := d.quad n
  let a := (x.reg (fGs1 w)).toNat
  let i := (runningSlot x).getD 0
  let k := bitsAt 0 2 w
  match msgTrap a with
  | some cause => trapQuad d n cause 0
  | none =>
    if (nth {} x.slots i).cancelled then retire d n c (stopSlot x i id) (x.pc + 4)
    else
      let waited := waitsDrain x a 64
      let d := drainOver d n a 64 8
      let x := d.quad n
      let c := afterDrain waited x c
      match popMsg x k c with
      | some (m, x) =>
        let d := deliverToCore (d.setQuad n x) n a m
        retire d n c ((d.quad n).setReg (fGd w) 0) ((d.quad n).pc + 4)
      | none =>
        let x := stopSlot x i fun t => { t with st := .waiting, wait := some (.queue (BitVec.ofNat 2 k) false), resume := x.pc + 4, since := c }
        d.setQuad n { x with cyc := c, fresh := false }

/-- QLEN: the depth of a queue at the cycle's start. -/
def execQlen (q : QuadAt) (s : State) : Res := coreStep s q (isOp 0x23) 1 fun d n w c =>
  let x := d.quad n
  retire d n c (x.setReg (fGd w) (BitVec.ofNat 32 (x.depthAt (bitsAt 0 2 w) c))) (x.pc + 4)

/-! ## Task slots (03 R85 to R92) -/

/-- A slot armed at cycle c as an arming says: a queue that holds a message makes it READY from the next cycle on. -/
def armSlot (x : Quad) (i c : Nat) (a : Arming) : Quad :=
  x.updSlot i fun t => { t with st := .armed, trig := some a.trig, entry := a.entry, resume := a.entry, wait := none, pending := none, cancelled := false, since := c }

/-- ARM and ARMT: the running slot records a pending arming, which withdraws an earlier CANCEL (R92). -/
def arm (x : Quad) (i c : Nat) (a : Arming) : Quad :=
  if runningSlot x = some i then x.updSlot i fun t => { t with pending := some a, cancelled := false }
  else armSlot x i c a

/-- ARM (R86): slot fn[2:0], queue fn[4:3], persistent fn[5]. -/
def execArm (q : QuadAt) (s : State) : Res := coreStep s q (isOp 0x24) 1 fun d n w c =>
  let x := d.quad n
  let a : Arming := { trig := .queue (BitVec.ofNat 2 (bitsAt 3 2 w)) (decide (bitsAt 5 1 w = 1)), entry := x.reg (fGs1 w) }
  retire d n c (arm x (bitsAt 0 3 w) c a) (x.pc + 4)

/-- ARMT (R87): slot fn[2:0], tick gs2. -/
def execArmt (q : QuadAt) (s : State) : Res := coreStep s q (isOp 0x25) 1 fun d n w c =>
  let x := d.quad n
  let a : Arming := { trig := .tick (x.reg (fGs2 w)), entry := x.reg (fGs1 w) }
  retire d n c (arm x (bitsAt 0 3 w) c a) (x.pc + 4)

/-- A CANCEL of a slot (R90). -/
def cancelSlot (x : Quad) (i : Nat) : Quad :=
  x.updSlot i fun t =>
    match t.st with
    | .idle => t
    | .running => { t with cancelled := true, pending := none }
    | _ => { t with st := .idle, trig := none, wait := none, pending := none }

/-- CANCEL. -/
def execCancel (q : QuadAt) (s : State) : Res := coreStep s q (isOp 0x26) 1 fun d n w c =>
  let x := d.quad n
  retire d n c (cancelSlot x (bitsAt 0 3 w)) (x.pc + 4)

/-- YIELD (R89). -/
def execYield (q : QuadAt) (s : State) : Res := coreStep s q (isOp 0x27) 1 fun d n _ c =>
  let x := d.quad n
  let i := (runningSlot x).getD 0
  retire d n c (stopSlot x i fun t => { t with st := .ready, wait := none, resume := x.pc + 4 }) (x.pc + 4)

/-- The end of a task at cycle c (R89, R92): a pending arming, else the same persistent queue, else IDLE. -/
def endTask (x : Quad) (i c : Nat) : Quad :=
  let t := nth {} x.slots i
  if t.cancelled then stopSlot x i id
  else match t.pending, t.trig with
    | some a, _ => armSlot x i c a
    | none, some (.queue k true) => armSlot x i c { trig := .queue k true, entry := t.entry }
    | none, _ => x.updSlot i fun t => { t with st := .idle, trig := none, wait := none }

/-- DONE. -/
def execDone (q : QuadAt) (s : State) : Res := coreStep s q (isOp 0x28) 1 fun d n _ c =>
  let x := d.quad n
  retire d n c (endTask x ((runningSlot x).getD 0) c) (x.pc + 4)

/-- WAITT (R87): the running slot waits on tick gs1. -/
def execWaitt (q : QuadAt) (s : State) : Res := coreStep s q (isOp 0x2B) 1 fun d n w c =>
  let x := d.quad n
  let i := (runningSlot x).getD 0
  retire d n c (stopSlot x i fun t => { t with st := .waiting, wait := some (.tick (x.reg (fGs1 w))), resume := x.pc + 4 }) (x.pc + 4)

/-- A tick that satisfies a wait (R45, R87). -/
def tickMet (tick : TickNo) (target : Word) : Bool := decide ((tick.setWidth 32 - target).toNat < 2 ^ 31)

/-- A slot at a tick edge: an ARMED or WAITING slot whose tick is met becomes READY (R87). -/
def Slot.wakeTick (tick : TickNo) (t : Slot) : Slot :=
  match t.st, t.trig, t.wait with
  | .armed, some (.tick g), _ => if tickMet tick g then { t with st := .ready } else t
  | .waiting, _, some (.tick g) => if tickMet tick g then { t with st := .ready, wait := none } else t
  | _, _, _ => t

/-- A slot dispatched at cycle c: it runs from its entry or after the instruction at which it stopped, and its first
instruction retires 2 cycles later (R88). -/
def startSlot (x : Quad) (i c : Nat) : Quad :=
  let t := nth {} x.slots i
  { x.updSlot i (fun t => { t with st := .running, wait := none }) with pc := t.resume, cyc := c, fresh := true, st := .running }

/-- A READY slot tried: one that stopped at RECVW makes its pop now, and waits again when its queue is empty (log 9). -/
def trySlot (d : Dev) (n c i : Nat) : Dev :=
  let x := d.quad n
  let t := nth {} x.slots i
  match t.wait with
  | some (.queue k p) =>
    let w := leVal (memRead x.mem (t.resume.toNat - 4) 4)
    let a := (x.reg (fGs1 w)).toNat
    match popMsg x k.toNat c with
    | none => d.setQuad n (x.updSlot i fun t => { t with st := .waiting, wait := some (.queue k p), since := c })
    | some (m, x) =>
      let d := d.setQuad n (startSlot x i c)
      match msgTrap a with
      | some cause => trapQuad d n cause 0
      | none =>
        let d := deliverToCore (drainOver d n a 64 8) n a m
        quadProgress (d.setQuad n ((d.quad n).setReg (fGd w) 0)) n
  | _ => d.setQuad n (startSlot x i c)

/-- READY slots tried in increasing number until one runs. -/
def dispatchFrom (d : Dev) (n c : Nat) : List Nat → Dev
  | [] => d
  | i :: r =>
    if (runningSlot (d.quad n)).isNone ∧ (nth {} (d.quad n).slots i).st = .ready then dispatchFrom (trySlot d n c i) n c r
    else dispatchFrom d n c r

/-- TASK_DISPATCH (R88): with no slot running, the lowest-numbered READY slot, in a cycle after that in which the last task
stopped. -/
def execTaskDispatch (q : QuadAt) (s : State) : Res :=
  let n := q.quad.toNat
  let d := s.dev.at q.e
  let x := d.quad n
  let c := max q.cyc (x.cyc + 1)
  onUnit s (decide (n < quadsFitted s.dev))
    (if quadLive x && (runningSlot x).isNone then dispatchFrom (d.setQuad n (x.settled c)) n c (List.range 8) else d)

end Sys2Proof.Machine
end

