-- ==== Sys2Proof/Machine/LaneOps.lean ====
section
/-! DEFINITION. The lane array: masks, streams, one lane instruction in all 64 lanes, the start check, a whole kernel
(04 R118 to R138). -/

namespace Sys2Proof.Machine

/-- A lane instruction: OP and the other fields of its word (R126). -/
structure LaneIns where
  op : Nat
  a : LaneArgs
  deriving DecidableEq, Repr

/-- The lane instruction of a 64-bit word (R126); bit 32, which the field list gives as zero, is not looked at (log 54). -/
def laneDecode (w : Nat) : LaneIns :=
  { op := bitsAt 56 8 w
    a := { type := BitVec.ofNat 4 (bitsAt 52 4 w), type2 := BitVec.ofNat 4 (bitsAt 48 4 w), vd := BitVec.ofNat 4 (bitsAt 44 4 w), va := BitVec.ofNat 4 (bitsAt 40 4 w), vb := BitVec.ofNat 4 (bitsAt 36 4 w), mask := BitVec.ofNat 2 (bitsAt 34 2 w), minv := decide (bitsAt 33 1 w = 1), imm := BitVec.ofNat 32 (bitsAt 0 32 w) } }

/-! ## Registers and masks (R118, R119, R127) -/

/-- Register r of lane l. -/
def Lanes.reg (x : Lanes) (l r : Nat) : Nat := (tabGet 0 x.v (16 * l + r)).toNat

/-- Register r of lane l written, zero-extended. -/
def Lanes.setReg (x : Lanes) (l r v : Nat) : Lanes := { x with v := tabSet 0 x.v (16 * l + r) (BitVec.ofNat 64 v) }

/-- Modulus of lane l. -/
def Lanes.modulus (x : Lanes) (l : Nat) : Nat := (tabGet 0 x.q l).toNat

/-- Mask register k. -/
def Lanes.mask (x : Lanes) (k : Nat) : DWord := if k = 0 then x.m0 else if k = 1 then x.m1 else if k = 2 then x.m2 else x.m3

/-- Mask register k written; m0 cannot be. -/
def Lanes.setMask (x : Lanes) (k : Nat) (v : DWord) : Lanes :=
  if k = 1 then { x with m1 := v } else if k = 2 then { x with m2 := v } else if k = 3 then { x with m3 := v } else x

/-- m[MASK][l] XOR MINV. -/
def laneTakes (x : Lanes) (a : LaneArgs) (l : Nat) : Bool := (x.mask a.mask.toNat).getLsbD l != a.minv

/-- Lanes in which an instruction executes, in rising order; SEL executes in every active lane. -/
def lanesOf (x : Lanes) (i : LaneIns) : List Nat :=
  (List.range 64).filter fun l => x.m0.getLsbD l && (decide (i.op = 0x16) || laneTakes x i.a l)

/-- An operand at a type's width. -/
def laneOp (x : Lanes) (t l r : Nat) : Nat := x.reg l r % 2 ^ typeBits t

/-! ## Streams (R121, R122) -/

/-- The stream-table entry of 16 octets. -/
def streamOf (b : Bytes) : Stream :=
  { base := leAt 0 4 b, lstride := toInt 32 (leAt 4 4 b), istride := toInt 32 (leAt 8 4 b), type := leAt 12 1 b }

/-- Address of the element of lane l in iteration i. -/
def elemAddr (s : Stream) (l i : Nat) : Int := (s.base : Int) + l * s.lstride + i * s.istride

/-! ## The check of R123 and R130 -/

/-- The types an operation takes. -/
def laneTypeOk (op t : Nat) : Bool :=
  if (0x05 ≤ op ∧ op ≤ 0x0C) ∨ op = 0x03 ∨ op = 0x1B ∨ op = 0x1C then decide (t ≤ 7)
  else if 0x0D ≤ op ∧ op ≤ 0x11 then decide (t ≤ 2)
  else if op = 0x00 ∨ op = 0x01 ∨ op = 0x02 ∨ op = 0x04 ∨ op = 0x12 ∨ (0x13 ≤ op ∧ op ≤ 0x16) ∨ op = 0x1A then decide (t ≤ 8)
  else if 0x1E ≤ op ∧ op ≤ 0x21 then decide (t = 8)
  else true

/-- An instruction that passes the check, given the stream table. -/
def laneInsOk (streams : List Stream) (i : LaneIns) : Bool :=
  let s := (i.a.imm.toNat) % 8
  decide (i.op ≤ 0x23) && laneTypeOk i.op i.a.type.toNat &&
  (if i.op = 0x12 then decide (i.a.type2.toNat ≤ 8) else true) &&
  (if i.op = 0x01 ∨ i.op = 0x02 then
    decide (s < streams.length) && decide ((nth ⟨0, 0, 0, 0⟩ streams s).type = i.a.type.toNat) else true) &&
  (if 0x13 ≤ i.op ∧ i.op ≤ 0x15 ∨ 0x17 ≤ i.op ∧ i.op ≤ 0x19 then decide (i.a.imm.toNat % 4 ≠ 0) else true)

/-- Every element of a stream lies inside the activation bank, for lanes 0 to 63 and the iterations of the command: the
four corners bound the rest. -/
def streamInside (s : Stream) (count : Nat) : Bool :=
  [(0, 0), (63, 0), (0, count - 1), (63, count - 1)].all fun c =>
    decide (0x200000 ≤ elemAddr s c.1 c.2) && decide (elemAddr s c.1 c.2 + typeBytes s.type ≤ 0x380000)

/-- A stream-table entry within Table 4.3. -/
def streamOk (b : Bytes) (count : Nat) : Bool :=
  let s := streamOf b
  let n : Int := typeBytes s.type
  decide (s.type ≤ 8) && allZero (slice 13 3 b) && decide ((s.base : Int) % n = 0) && decide (s.lstride % n = 0) &&
    decide (s.istride % n = 0) && streamInside s count

/-! ## One instruction -/

/-- A kernel under way: the device, the tags read so far, and the spans of the activation bank written. -/
structure LaneRun where
  dev : Dev
  tag : PTag
  wrote : List (Nat × Nat)
  deriving DecidableEq, Repr

/-- The lane array of a run's quad. -/
def LaneRun.lanes (r : LaneRun) (n : Nat) : Lanes := (r.dev.quad n).lanes

/-- The lane array of a run's quad replaced. -/
def LaneRun.setLanes (r : LaneRun) (n : Nat) (x : Lanes) : LaneRun := { r with dev := r.dev.setQuad n { r.dev.quad n with lanes := x } }

/-- Flags of a result gathered. -/
def Lanes.flag (x : Lanes) (f : LaneFlags) : Lanes := { x with flags := x.flags ||| BitVec.ofNat 32 f }

/-- LD in one lane; an uncorrectable read stops the command (R138). -/
def laneLoad (r : LaneRun) (n : Nat) (i : LaneIns) (l : Nat) : LaneRun :=
  let x := r.lanes n
  if x.stopped then r
  else
    let s := nth ⟨0, 0, 0, 0⟩ x.streams (i.a.imm.toNat % 8)
    let a := (elemAddr s l x.iter).toNat
    let got := readQuad r.dev n a (typeBytes s.type)
    let r : LaneRun := { r with dev := got.2.2, tag := r.tag ||| spanTag (r.dev.quad n) a (typeBytes s.type) }
    if got.2.1 then r.setLanes n { x with stopped := true }
    else r.setLanes n (x.setReg l i.a.vd.toNat (leVal got.1))

/-- ST in one lane; part of a word is read first, and an uncorrectable read stops the command (R138, 16 R630). -/
def laneStore (r : LaneRun) (n : Nat) (i : LaneIns) (l : Nat) : LaneRun :=
  let x := r.lanes n
  if x.stopped then r
  else
    let s := nth ⟨0, 0, 0, 0⟩ x.streams (i.a.imm.toNat % 8)
    let a := (elemAddr s l x.iter).toNat
    let b := typeBytes s.type
    let g := storeQuad r.dev n a (le b (laneOp x s.type l i.a.va.toNat))
    let r : LaneRun := { r with dev := g.2, wrote := r.wrote ++ [(a, b)] }
    if g.1 then r.setLanes n { x with stopped := true } else r

/-- The value an operation gives one lane, with its flags; none where the operation writes no register so. -/
def laneValue (x : Lanes) (i : LaneIns) (l : Nat) : Option LaneRes :=
  let t := i.a.type.toNat
  let va := laneOp x t l i.a.va.toNat
  let vb := laneOp x t l i.a.vb.toNat
  let vd := laneOp x t l i.a.vd.toNat
  let q := x.modulus l
  let k := i.a.imm.toNat % 32
  let ra := x.reg l i.a.va.toNat % 2 ^ 36
  let rb := x.reg l i.a.vb.toNat % 2 ^ 36
  let rd := x.reg l i.a.vd.toNat % 2 ^ 36
  match i.op with
  | 0x03 => some (convert 2 t q i.a.imm.toNat)
  | 0x04 => some (va, 0)
  | 0x05 => some (tAdd t va vb)
  | 0x06 => some (tSub t va vb)
  | 0x07 => some (tMul t va vb)
  | 0x08 => some (tMac t vd va vb)
  | 0x09 => some (tMin t va vb)
  | 0x0A => some (tMax t va vb)
  | 0x0B => some (tAbs t va)
  | 0x0C => some (tNeg t va)
  | 0x0D => some (satInt t (iVal t va * 2 ^ k))
  | 0x0E => some (ofInt (typeBits t) (iVal t va / 2 ^ k), 0)
  | 0x0F => some (va &&& vb, 0)
  | 0x10 => some (va ||| vb, 0)
  | 0x11 => some (va ^^^ vb, 0)
  | 0x12 => some (convert t i.a.type2.toNat q va)
  | 0x16 => some (if laneTakes x i.a l then va else vb, 0)
  | 0x1E => some (residue q ra rb [ra, rb] (ra + rb), 0)
  | 0x1F => some (residue q ra rb [ra, rb] (ra - rb), 0)
  | 0x20 => some (residue q ra rb [ra, rb] (ra * rb), 0)
  | 0x21 => some (residue q ra rb [ra, rb, rd] (rd + ra * rb), 0)
  | 0x22 => some (l, 0)
  | 0x23 => some (x.iter % 2 ^ 32, 0)
  | _ => none

/-- A comparison in one lane; on residues 04 leaves undefined the bit is free (log 10). -/
def laneCompare (x : Lanes) (i : LaneIns) (l : Nat) : Bool :=
  let t := i.a.type.toNat
  let a := laneOp x t l i.a.va.toNat
  let b := laneOp x t l i.a.vb.toNat
  let q := x.modulus l
  let v := if i.op = 0x13 then tEq t a b else if i.op = 0x14 then tLt t a b else tEq t a b || tLt t a b
  if t = 8 ∧ ¬ (modulusOk q ∧ a < q ∧ b < q) then decide (Config.freeResidue q a b % 2 = 1) else v

/-- A 64-bit mask of the lanes of a list. -/
def maskOf (ls : List Nat) : DWord := BitVec.ofNat 64 (ls.foldl (fun m l => m + 2 ^ l) 0)

/-- One level of the adding tree: neighbours added (R135). -/
def treeLevel (t : Nat) : List LaneRes → List LaneRes
  | a :: b :: r => ((tAdd t a.1 b.1).1, orFlags (orFlags a.2 b.2) (tAdd t a.1 b.1).2) :: treeLevel t r
  | l => l

/-- The adding tree of 2^k values. -/
def treeSum (t : Nat) : Nat → List LaneRes → LaneRes
  | 0, l => nth (0, 0) l 0
  | k + 1, l => treeSum t k (treeLevel t l)

/-- XSUM over the executing lanes (R134, R135). -/
def laneXsum (x : Lanes) (i : LaneIns) (ls : List Nat) : LaneRes :=
  let t := i.a.type.toNat
  let v := fun l => laneOp x t l i.a.va.toNat
  if t = 8 then
    let q := x.modulus (nth 0 ls 0)
    (residue q (v (nth 0 ls 0)) (ls.length) (ls.map v) (ls.foldl (fun a l => a + v l) 0), 0)
  else if isIntType t then satInt t (ls.foldl (fun a l => a + iVal t (v l)) 0)
  else treeSum t 6 ((List.range 64).map fun l => (if l ∈ ls then v l else 0, 0))

/-- XMAX or XMIN over the executing lanes. -/
def laneExtreme (f : Nat → Nat → Nat → LaneRes) (x : Lanes) (i : LaneIns) (ls : List Nat) : LaneRes :=
  let t := i.a.type.toNat
  match ls.map fun l => laneOp x t l i.a.va.toNat with
  | [] => (0, 0)
  | a :: r => r.foldl (fun acc b => ((f t acc.1 b).1, orFlags acc.2 (f t acc.1 b).2)) (a, 0)

/-- One instruction in every lane in which it executes (Table 4.4); nothing once the command has stopped. -/
def laneExec (r : LaneRun) (n : Nat) (i : LaneIns) : LaneRun :=
  let x := r.lanes n
  let ls := lanesOf x i
  let vd := i.a.vd.toNat
  if x.stopped then r
  else if i.op = 0x00 then r
  else if i.op = 0x01 then ls.foldl (fun r l => laneLoad r n i l) r
  else if i.op = 0x02 then ls.foldl (fun r l => laneStore r n i l) r
  else if 0x13 ≤ i.op ∧ i.op ≤ 0x15 then r.setLanes n (x.setMask (i.a.imm.toNat % 4) (maskOf (ls.filter fun l => laneCompare x i l)))
  else if i.op = 0x17 then
    r.setLanes n (x.setMask (i.a.imm.toNat % 4) (x.mask (i.a.va.toNat % 4) &&& x.mask (i.a.vb.toNat % 4)))
  else if i.op = 0x18 then
    r.setLanes n (x.setMask (i.a.imm.toNat % 4) (x.mask (i.a.va.toNat % 4) ||| x.mask (i.a.vb.toNat % 4)))
  else if i.op = 0x19 then r.setLanes n (x.setMask (i.a.imm.toNat % 4) (~~~ (x.mask (i.a.va.toNat % 4))))
  else if i.op = 0x1A ∨ i.op = 0x1B ∨ i.op = 0x1C then
    if ls.isEmpty then r
    else
      let v := if i.op = 0x1A then laneXsum x i ls else if i.op = 0x1B then laneExtreme tMax x i ls else laneExtreme tMin x i ls
      r.setLanes n (ls.foldl (fun y l => y.setReg l vd v.1) (x.flag v.2))
  else if i.op = 0x1D then
    r.setLanes n { x with q := ls.foldl (fun q l => tabSet 0 q l (BitVec.ofNat 36 (x.reg l i.a.va.toNat))) x.q }
  else
    r.setLanes n (ls.foldl (fun y l =>
      match laneValue x i l with
      | some v => (y.setReg l vd v.1).flag v.2
      | none => y) x)

/-! ## A whole command (R121 to R125, R137, R138) -/

/-- Issue cycles of an instruction (Table 4.8). -/
def laneCycles (streams : List Stream) (i : LaneIns) : Nat :=
  let t := i.a.type.toNat
  if i.op = 0x01 ∨ i.op = 0x02 then
    let s := nth ⟨0, 0, 0, 0⟩ streams (i.a.imm.toNat % 8)
    if s.lstride = 0 then 1
    else if s.lstride.natAbs = typeBytes s.type then typeBytes s.type
    else max 8 (typeBytes s.type)
  else if ((i.op = 0x07 ∨ i.op = 0x08) ∧ (t = 2 ∨ t = 3)) ∨ i.op = 0x20 ∨ i.op = 0x21 then 2
  else if 0x1A ≤ i.op ∧ i.op ≤ 0x1C then 7
  else 1

/-- Iterations first to first + k − 1 of a kernel. -/
def laneIterate (n : Nat) (kernel : List LaneIns) : Nat → Nat → LaneRun → LaneRun
  | 0, _, r => r
  | k + 1, first, r =>
    let r := r.setLanes n { r.lanes n with iter := first }
    laneIterate n kernel k (first + 1) (kernel.foldl (fun r i => laneExec r n i) r)

/-- A unit's command replaced at its head. -/
def setHead (x : Quad) (u : Nat) (c : UnitCmd) : Quad :=
  match unitQueue x u with
  | [] => x
  | _ :: r => setUnitQueue x u (c :: r)

/-- The head command of a unit, when its work is not done. -/
def headCmd (x : Quad) (u : Nat) : Option UnitCmd :=
  match unitQueue x u with
  | c :: _ => if c.done.isNone then some c else none
  | [] => none

/-- A unit's head command finishes with a status: it completes not before `due`. -/
def finishHead (d : Dev) (n u status moved due : Nat) : Dev :=
  let x := d.quad n
  match headCmd x u with
  | some c => d.setQuad n (setHead x u { c with done := some (BitVec.ofNat 8 status, moved), due := due })
  | none => d

/-- Completion statuses (03 Table 3.9). -/
def stOk : Nat := 0
/-- UNCORRECTABLE. -/
def stUncorrectable : Nat := 1
/-- INVALID. -/
def stInvalid : Nat := 2
/-- ISOLATION. -/
def stIsolation : Nat := 3

/-- A unit command's row: with the unit's head command matching, and not yet done, its work; unit 2 starts none while a
slot's pass holds it (R161). -/
def unitStep (s : State) (q : QuadAt) (u : Nat) (m : Bytes → Bool) (f : Dev → Nat → Nat → UnitCmd → Dev) : Res :=
  let n := q.quad.toNat
  let d := s.dev.at q.e
  let x := d.quad n
  onUnit s (decide (n < quadsFitted s.dev))
    (match headCmd x u with
    | some c => if quadLive x && m c.desc then f d n (max (max q.cyc x.cyc) (if u = 2 then x.passUntil else 0)) c else d
    | none => d)

/-- Everything a lane command checks before it reads an operand (R123). -/
def laneCheck (desc : Bytes) (kernel : List LaneIns) (table : List Bytes) : Bool :=
  let count := leAt 16 4 desc
  decide (desc.length = 32) && decide (leAt 0 4 desc % 8 = 0) && decide (1 ≤ leAt 4 2 desc) && decide (leAt 4 2 desc ≤ 128) &&
    allZero (slice 6 2 desc) && decide (1 ≤ count) && decide (count ≤ 65536) && decide (leAt 28 1 desc ≤ 8) && allZero (slice 29 3 desc) &&
    decide (bankSpan (leAt 0 4 desc) (8 * leAt 4 2 desc) = some .act) &&
    (if leAt 28 1 desc = 0 then decide (leAt 20 4 desc = 0)
      else decide (leAt 20 4 desc % 16 = 0) && decide (bankSpan (leAt 20 4 desc) (16 * leAt 28 1 desc) = some .act)) &&
    (if leAt 24 4 desc = 0 then true else decide (leAt 24 4 desc % 4 = 0) && decide (bankSpan (leAt 24 4 desc) 4 = some .act)) &&
    table.all (fun b => streamOk b count) && kernel.all (laneInsOk (table.map streamOf))

/-- The flag word written as a command completes (R125), read first where it covers part of a word; a command stopped by
an uncorrectable word completes with UNCORRECTABLE (R138). -/
def laneFinish (r : LaneRun) (n faddr due : Nat) : Dev :=
  let y := r.lanes n
  let g := if faddr = 0 then (false, r.dev) else storeQuad r.dev n faddr (le 4 y.flags.toNat)
  let x := g.2.quad n
  let x := (if faddr = 0 then r.wrote else r.wrote ++ [(faddr, 4)]).foldl (fun x w => tagSpan x w.1 w.2 r.tag) x
  let x := { x with laneTag := r.tag }
  let x := match headCmd x 1 with
    | some c => setHead x 1 { c with tag := r.tag }
    | none => x
  finishHead (g.2.setQuad n x) n 1 (if y.stopped || g.1 then stUncorrectable else stOk) 0 due

/-- LANE_COMMAND: check, COUNT iterations, flag word, tags (R123 to R125, R137, R138; 06 Table 6.6). -/
def laneCommand (d : Dev) (n c : Nat) (cmd : UnitCmd) : Dev :=
  let desc := cmd.desc
  let klen := leAt 4 2 desc
  let nstr := leAt 28 1 desc
  let kaddr := leAt 0 4 desc
  let taddr := leAt 20 4 desc
  let faddr := leAt 24 4 desc
  let inside := decide (desc.length = 32) && decide (klen ≤ 128) && decide (nstr ≤ 8) && decide (bankSpan kaddr (8 * klen) = some .act) &&
    (decide (nstr = 0) || decide (bankSpan taddr (16 * nstr) = some .act))
  if ¬ inside then finishHead d n 1 stInvalid 0 (c + 8)
  else
    let kr := readQuad d n kaddr (8 * klen)
    let tr := readQuad kr.2.2 n taddr (16 * nstr)
    let d := tr.2.2
    let kernel := (chunks 8 klen kr.1).map fun b => laneDecode (leVal b)
    let table := chunks 16 nstr tr.1
    let flagsOk := decide (faddr % 4 = 0) && decide (bankSpan faddr 4 = some .act)
    let x := d.quad n
    let tag := cmd.tag ||| x.laneTag ||| spanTag x kaddr (8 * klen) ||| spanTag x taddr (16 * nstr)
    if kr.2.1 || tr.2.1 then
      laneFinish { dev := d.setQuad n { x with lanes := { x.lanes with flags := 0, stopped := true } }, tag := tag, wrote := [] } n (if flagsOk then faddr else 0) (c + 8)
    else if ¬ laneCheck desc kernel table then finishHead d n 1 stInvalid 0 (c + 8)
    else
      let streams := table.map streamOf
      let d := d.setQuad n { x with lanes := { x.lanes with m0 := BitVec.ofNat 64 (leAt 8 8 desc), streams := streams, iter := 0, flags := 0, stopped := false } }
      let r := laneIterate n kernel (leAt 16 4 desc) 0 { dev := d, tag := tag, wrote := [] }
      let k := (kernel.map (laneCycles streams)).foldl (· + ·) 0
      laneFinish r n faddr (c + 8 + leAt 16 4 desc * k)

/-- LANE_COMMAND. -/
def execLaneCommand (q : QuadAt) (s : State) : Res := unitStep s q 1 (fun _ => true) laneCommand

/-- One lane instruction by itself, in the lane array's present context: one that fails the check of R130 has no
effect; what it writes gains the tags of the lane array and of the running command (06 Table 6.6). -/
def laneRow (op : Nat) (q : QuadAt) (a : LaneArgs) (s : State) : Res :=
  let n := q.quad.toNat
  let d := s.dev.at q.e
  let x := d.quad n
  let i : LaneIns := { op := op, a := a }
  onUnit s (decide (n < quadsFitted s.dev))
    (if quadLive x && laneInsOk x.lanes.streams i then
      let t := match headCmd x 1 with
        | some c => c.tag
        | none => 0
      let r := laneExec { dev := d, tag := x.laneTag ||| t, wrote := [] } n i
      let y := r.dev.quad n
      r.dev.setQuad n (r.wrote.foldl (fun z w => tagSpan z w.1 w.2 r.tag) { y with laneTag := r.tag })
    else d)

end Sys2Proof.Machine
end

