-- ==== Sys2Proof/Machine/Cim.lean ====
section
/-! DEFINITION. The CIM arrays: LOAD, DOT, HAD, benchmark passes and uniformity surveys (04 R139 to R171). -/

namespace Sys2Proof.Machine

/-! ## Modes (04 Table 4.9) -/

/-- Bytes of a weight and of an input element. -/
def cimIn (mode : Nat) : Nat := if mode = 3 then 8 else 1

/-- Bytes of an output element. -/
def cimOut (mode : Nat) : Nat := if mode = 3 then 8 else 4

/-- Most rows of a mode. -/
def cimRows (mode : Nat) : Nat := if mode = 3 then 64 else 256

/-- Most columns of a mode. -/
def cimCols (mode : Nat) : Nat := if mode = 0 then 256 else if mode = 3 then 64 else 128

/-- Lane type code of a mode's inputs. -/
def cimType (mode : Nat) : Nat := if mode = 0 then 0 else if mode = 1 then 6 else if mode = 2 then 7 else 8

/-- Array k of a quad. -/
def Quad.array (x : Quad) (k : Nat) : CimArray := nth {} x.cim k

/-- Array k of a quad replaced. -/
def Quad.setArray (x : Quad) (k : Nat) (a : CimArray) : Quad := { x with cim := setNth x.cim k a }

/-- Arrays selected by a mask, in rising order. -/
def arraysOf (mask : Nat) : List Nat := (List.range 8).filter fun k => decide (bitsAt k 1 mask = 1)

/-- Elements of a byte string. -/
def elements (width : Nat) (bs : Bytes) : List Nat := (chunks width (bs.length / width) bs).map leVal

/-! ## Sums (R147 to R149, R155) -/

/-- Σ x × w by the rule of R147; residues that 04 leaves undefined give a free result. -/
def cimSum (mode q : Nat) (xs ws : List Nat) : Nat :=
  if mode = 0 then
    (satInt 2 ((List.zipWith (fun x w => toInt 8 x * toInt 8 w) xs ws).foldl (· + ·) 0)).1
  else if mode = 3 then
    residue q (xs.foldl (· + ·) 0) (ws.foldl (· + ·) 0) (xs ++ ws) ((List.zipWith (fun x w => x * w) xs ws).foldl (· + ·) 0 : Nat)
  else
    (List.zip xs ws).foldl (fun acc p =>
      (fAddV 3 acc p.1 (fDecode 3 acc) (fMulV (fDecode (cimType mode) p.1) (fDecode (cimType mode) p.2))).1) 0

/-- Outputs added by the rule of R147: REDUCE and ACC. -/
def cimAdd (mode q : Nat) (ys : List Nat) : Nat :=
  if mode = 0 then (satInt 2 ((ys.map (toInt 32)).foldl (· + ·) 0)).1
  else if mode = 3 then residue q (ys.foldl (· + ·) 0) ys.length ys (ys.foldl (· + ·) 0 : Nat)
  else match ys with
    | [] => 0
    | y :: r => r.foldl (fun acc v => (fAdd 3 acc v).1) y

/-- Column c of a row-major matrix. -/
def column (w : List Nat) (rows cols c : Nat) : List Nat := (List.range rows).map fun r => nth 0 w (r * cols + c)

/-- A dot product of one input vector with every column. -/
def cimDot (a : CimArray) (x : List Nat) : List Nat :=
  let w := a.w.map (·.toNat)
  (List.range a.cols).map fun c => cimSum a.mode.toNat a.q.toNat x (column w a.rows a.cols c)

/-- A Hadamard-style product: the input is a matrix as the weights are. -/
def cimHad (a : CimArray) (x : List Nat) : List Nat :=
  let w := a.w.map (·.toNat)
  (List.range a.cols).map fun c => cimSum a.mode.toNat a.q.toNat (column x a.rows a.cols c) (column w a.rows a.cols c)

/-- Benchmark input a (Table 4.12): one in the mode's type. -/
def benchA (mode r : Nat) : Nat := if mode = 1 then 0x38 else if mode = 2 then 0x3C else 1 + 0 * r

/-- Benchmark input b (Table 4.12). -/
def benchB (mode r : Nat) : Nat :=
  if mode = 0 then r % 64 + 1
  else if mode = 1 then 0x38 + 8 * (r % 4)
  else if mode = 2 then 0x3C + 4 * (r % 4)
  else r + 1

/-- Both benchmark outputs of an array. -/
def benchSums (a : CimArray) : List Nat × List Nat :=
  (cimDot a ((List.range a.rows).map (benchA a.mode.toNat)), cimDot a ((List.range a.rows).map (benchB a.mode.toNat)))

/-! ## Failures (R157, R167, R168) -/

/-- An array marked failed, with the fault of its source. -/
def failArray (d : Dev) (n k src failure at_ : Nat) : Dev :=
  let x := d.quad n
  let a := { x.array k with st := .failed, failure := BitVec.ofNat 8 failure, failAt := BitVec.ofNat 8 at_ }
  raiseLasting (d.setQuad n (x.setArray k a)) src n k 0 (be 1 failure ++ be 1 at_) false

/-- The lowest index at which two lists differ. -/
def firstDiff (a b : List Nat) : Option Nat := ((List.range a.length).find? fun i => decide (nth 0 a i ≠ nth 0 b i))

/-- One pass of one array: the lowest unequal column. -/
def benchArray (a : CimArray) : Option Nat :=
  let s := benchSums a
  let d1 := firstDiff s.1 (a.s1.map (·.toNat))
  let d2 := firstDiff s.2 (a.s2.map (·.toNat))
  match d1, d2 with
  | some i, some j => some (min i j)
  | some i, none => some i
  | none, j => j

/-- A benchmark pass over the loaded ones of some arrays (R156, R157). -/
def benchPass (d : Dev) (n : Nat) (ks : List Nat) : Dev :=
  let ks := ks.filter fun k => decide (((d.quad n).array k).st ≠ .unloaded)
  let bad := ks.filterMap fun k => (benchArray ((d.quad n).array k)).map fun c => (k, c)
  if bad.isEmpty then { d with cim := { d.cim with benchPasses := d.cim.benchPasses + 1 } }
  else
    let d := { d with cim := { d.cim with benchFails := d.cim.benchFails + 1 } }
    bad.foldl (fun d b => failArray d n b.1 0x60 1 b.2) d

/-! ## Surveys (R162a to R168) -/

/-- 16 × count times the χ² statistic of the bins (R166): Σ (16 n_b − N)². -/
def chiSum (bins : List Nat) (count : Nat) : Nat := bins.foldl (fun a b => a + (16 * (b : Int) - count).natAbs ^ 2) 0

/-- The χ² statistic of the bins, in 1/65,536 (R166). -/
def chiSquared (bins : List Nat) (count : Nat) : Nat := chiSum bins count * 65536 / (16 * count)

/-- The lowest bit whose count is beyond the limit (R166): FIX16.16 is two's complement, and every count is beyond a
negative limit. -/
def skewBit (d : Dev) (ones : List Nat) (count : Nat) : Option Nat :=
  let sig := toInt 32 (legNat d 0xF020 0x02)
  (List.range 16).find? fun k => decide (sig < 0) || decide (sig.natAbs ^ 2 * count < (2 * (nth 0 ones k : Int) - count).natAbs ^ 2 * 65536 ^ 2)

/-- The close of a survey window (R165 to R167). -/
def closeWindow (d : Dev) (n k : Nat) : Dev :=
  let x := d.quad n
  let a := x.array k
  let chi := chiSquared a.bins a.samples
  let chiOver := decide (toInt 32 (legNat d 0xF020 0x01) * (16 * a.samples : Nat) < (chiSum a.bins a.samples * 65536 : Nat))
  let skew := skewBit d a.ones a.samples
  let suspect := chiOver || skew.isSome
  let run := if suspect then a.run + 1 else 0
  let fails := decide (legNat d 0xF020 0x03 ≤ run) && suspect
  let a := { a with
    bins := List.replicate 16 0
    ones := List.replicate 16 0
    samples := 0
    run := if fails then 0 else run
    chi2 := BitVec.ofNat 32 (min chi (2 ^ 31 - 1))
    suspects := if suspect then a.suspects + 1 else a.suspects }
  let d := { d with cim := { d.cim with surveyWindows := d.cim.surveyWindows + 1, surveySuspect := d.cim.surveySuspect + BitVec.ofNat 32 (bit suspect) } }
  let d := d.setQuad n (x.setArray k a)
  if fails then failArray d n k 0x61 (if chiOver then 2 else 3) (if chiOver then 0 else skew.getD 0) else d

/-- A survey sample credited to an array (R162a, R164, R165). -/
def surveySample (d : Dev) (n k y : Nat) : Dev :=
  let x := d.quad n
  let a := x.array k
  let q := a.q.toNat
  let b := if q = 0 then 0 else min 15 (16 * y / q)
  let a := { a with
    bins := setNth a.bins b (nth 0 a.bins b + 1)
    ones := (List.range 16).map fun i => nth 0 a.ones i + bitsAt i 1 y
    samples := a.samples + 1 }
  let d := d.setQuad n (x.setArray k a)
  if 2 ^ legNat d 0xF020 0x00 ≤ a.samples then closeWindow d n k else d

/-- What every RES36 output, of a column, meets: the range check, and the survey when SURVEY is set (R162a, R168). -/
def checkOutput (d : Dev) (n k col y : Nat) (survey : Bool) : Dev :=
  let d := if ((d.quad n).array k).q.toNat ≤ y then failArray d n k 0x62 4 col else d
  if survey then surveySample d n k y else d

/-! ## LOAD (R141 to R144, R151, R155) -/

/-- The modulus field of a LOAD. -/
def loadQ (desc : Bytes) : Nat := leAt 12 4 desc + leAt 18 1 desc * 2 ^ 32

/-- The check of a LOAD (R144, R146); byte 18 is zero in a mode other than RES36, as bytes 12 to 15 are (log 54). -/
def loadOk (desc : Bytes) : Bool :=
  let mode := leAt 1 1 desc
  let rows := leAt 4 2 desc
  let cols := leAt 6 2 desc
  let size := rows * cols * cimIn mode
  decide (desc.length = 32) && decide (mode ≤ 3) && decide (leAt 2 1 desc ≠ 0) && decide (leAt 3 1 desc = 0) &&
    decide (1 ≤ rows) && decide (rows ≤ cimRows mode) && decide (1 ≤ cols) && decide (cols ≤ cimCols mode) &&
    decide (leAt 19 1 desc = 0) && decide (leAt 8 4 desc % 32 = 0) && decide (leAt 20 4 desc % 32 = 0) &&
    (if mode = 3 then decide (leAt 18 1 desc < 16) && modulusOk (loadQ desc) else decide (loadQ desc = 0)) &&
    (arraysOf (leAt 2 1 desc)).all fun k => decide (bankSpan (leAt 8 4 desc + k * leAt 20 4 desc) size = some .weight)

/-- One array loaded from its image (R143, R155, R165). -/
def loadArray (d : Dev) (n k : Nat) (desc : Bytes) (tag : PTag) (img : Bytes) : Dev :=
  let mode := leAt 1 1 desc
  let x := d.quad n
  let a : CimArray := { st := .loaded, mode := BitVec.ofNat 8 mode, rows := leAt 4 2 desc, cols := leAt 6 2 desc, q := BitVec.ofNat 36 (loadQ desc), w := (elements (cimIn mode) img).map (BitVec.ofNat 64) }
  let s := benchSums a
  let a := { a with s1 := s.1.map (BitVec.ofNat 64), s2 := s.2.map (BitVec.ofNat 64) }
  d.setQuad n { x.setArray k a with cimTag := tabSet 0 x.cimTag k (tabGet 0 x.cimTag k ||| tag) }

/-- CIM_LOAD: every image is read, and an uncorrectable read leaves the arrays unloaded (R151). -/
def cimLoad (d : Dev) (n c : Nat) (cmd : UnitCmd) : Dev :=
  let desc := cmd.desc
  if ¬ loadOk desc then finishHead d n 2 stInvalid 0 c
  else
    let ks := arraysOf (leAt 2 1 desc)
    let size := leAt 4 2 desc * leAt 6 2 desc * cimIn (leAt 1 1 desc)
    let due := c + 16 + (size + 31) / 32
    let tag := ks.foldl (fun t k => t ||| spanTag (d.quad n) (leAt 8 4 desc + k * leAt 20 4 desc) size) cmd.tag
    let d := d.setQuad n (setHead (d.quad n) 2 { cmd with tag := tag })
    let r := ks.foldl (fun (acc : Bool × List (Nat × Bytes) × Dev) k =>
      let g := readQuad acc.2.2 n (leAt 8 4 desc + k * leAt 20 4 desc) size
      (acc.1 || g.2.1, acc.2.1 ++ [(k, g.1)], g.2.2)) (false, [], d)
    if r.1 then
      let x := ks.foldl (fun x k => x.setArray k {}) (r.2.2.quad n)
      finishHead (r.2.2.setQuad n x) n 2 stUncorrectable 0 due
    else finishHead (r.2.1.foldl (fun d kb => loadArray d n kb.1 desc tag kb.2) r.2.2) n 2 stOk 0 due

/-- CIM_LOAD. -/
def execCimLoad (q : QuadAt) (s : State) : Res := unitStep s q 2 (fun b => decide (b.length ≠ 32) || decide (leAt 0 1 b = 0)) cimLoad

/-! ## DOT and HAD (R145 to R149, R152 to R154) -/

/-- Elements of one input vector. -/
def inputCount (had : Bool) (a : CimArray) : Nat := if had then a.rows * a.cols else a.rows

/-- Address of vector v of array k's input. -/
def inputAddr (desc : Bytes) (k v : Nat) : Nat := leAt 8 4 desc + 64 * k * leAt 28 2 desc + v * leAt 20 4 desc

/-- Address of vector v of array k's output. -/
def outputAddr (desc : Bytes) (k v : Nat) : Nat :=
  leAt 12 4 desc + (if bitsAt 1 1 (leAt 3 1 desc) = 1 then 0 else 64 * k * leAt 30 2 desc) + v * leAt 24 4 desc

/-- The check of a DOT or HAD (R146): the first and last vectors bound the rest. -/
def dotOk (x : Quad) (desc : Bytes) (had : Bool) : Bool :=
  let ks := arraysOf (leAt 2 1 desc)
  let flags := leAt 3 1 desc
  let nvec := leAt 16 2 desc
  let a0 := x.array (nth 0 ks 0)
  decide (desc.length = 32) && decide (leAt 2 1 desc ≠ 0) && decide (flags < 8) && decide (1 ≤ nvec) && decide (nvec ≤ 4096) &&
    allZero (slice 18 2 desc) && ks.all (fun k => decide ((x.array k).st ≠ .unloaded)) &&
    (if bitsAt 1 1 flags = 1 then ks.all (fun k => decide ((x.array k).mode = a0.mode) && decide ((x.array k).cols = a0.cols) && decide ((x.array k).q = a0.q)) else true) &&
    ks.all fun k =>
      let a := x.array k
      let i := cimIn a.mode.toNat
      let o := cimOut a.mode.toNat
      decide (leAt 8 4 desc % i = 0) && decide (leAt 20 4 desc % i = 0) && decide (leAt 12 4 desc % o = 0) && decide (leAt 24 4 desc % o = 0) &&
        [0, nvec - 1].all fun v =>
          decide (bankSpan (inputAddr desc k v) (i * inputCount had a) = some .act) && decide (bankSpan (outputAddr desc k v) (o * a.cols) = some .act)

/-- Row pairs of a DOT input that are skipped (R152): both elements zero; an odd last row pairs with a zero. -/
def skipped (mode : Nat) (x : List Nat) : Nat :=
  if mode = 3 then 0
  else
    let zero := fun v => if mode = 0 then decide (v = 0) else decide (v % 128 = 0)
    ((chunks 2 x.length x).filter fun p => p.all zero).length

/-- A DOT or HAD under way: the device, whether an uncorrectable read stopped it, its cycles so far. -/
abbrev DotRun := Dev × Bool × Nat

/-- One output vector written, with ACC, and met by the checks of RES36; a word written in part is read first (16 R630),
and an uncorrectable read stops the command. -/
def writeOutputs (r : DotRun) (n k : Nat) (desc : Bytes) (v : Nat) (ys : List Nat) : DotRun :=
  let a := (r.1.quad n).array k
  let mode := a.mode.toNat
  let o := cimOut mode
  let at_ := outputAddr desc k v
  let old := if bitsAt 0 1 (leAt 3 1 desc) = 1 then readQuad r.1 n at_ (o * ys.length) else ([], false, r.1)
  if old.2.1 then (old.2.2, true, r.2.2)
  else
    let prev := elements o old.1
    let ys := if prev.isEmpty then ys else (List.range ys.length).map fun i => cimAdd mode a.q.toNat [nth 0 prev i, nth 0 ys i]
    let g := storeQuad old.2.2 n at_ ((ys.map (le o)).flatten)
    let d := if mode = 3 then ys.zipIdx.foldl (fun d y => checkOutput d n k y.2 y.1 (decide (bitsAt 2 1 (leAt 3 1 desc) = 1))) g.2 else g.2
    (d, g.1, r.2.2)

/-- One vector through every selected array. -/
def dotVector (n : Nat) (desc : Bytes) (had : Bool) (ks : List Nat) (r : DotRun) (v : Nat) : DotRun :=
  if r.2.1 then r
  else
    let got := ks.foldl (fun (acc : Bool × List (Nat × List Nat × Nat) × Dev) k =>
      let a := (acc.2.2.quad n).array k
      let i := cimIn a.mode.toNat
      let g := readQuad acc.2.2 n (inputAddr desc k v) (i * inputCount had a)
      let x := elements i g.1
      let cyc := (a.rows + 1) / 2 - (if had then 0 else skipped a.mode.toNat x)
      (acc.1 || g.2.1, acc.2.1 ++ [(k, if had then cimHad a x else cimDot a x, cyc)], g.2.2)) (false, [], r.1)
    if got.1 then (got.2.2, true, r.2.2)
    else
      let outs := got.2.1
      let cyc := r.2.2 + (outs.map fun y => y.2.2).foldl max 0
      if bitsAt 1 1 (leAt 3 1 desc) = 1 then
        let k0 := nth 0 ks 0
        let a := (got.2.2.quad n).array k0
        let ys := (List.range a.cols).map fun c => cimAdd a.mode.toNat a.q.toNat (outs.map fun y => nth 0 y.2.1 c)
        writeOutputs (got.2.2, false, cyc) n k0 desc v ys
      else outs.foldl (fun r y => if r.2.1 then r else writeOutputs r n y.1 desc v y.2.1) (got.2.2, false, cyc)

/-- DOT and HAD: check, tags, vectors in order (R145 to R149, R151; 06 Table 6.6). -/
def dotHad (had : Bool) (d : Dev) (n c : Nat) (cmd : UnitCmd) : Dev :=
  let desc := cmd.desc
  let x := d.quad n
  if ¬ dotOk x desc had then finishHead d n 2 stInvalid 0 c
  else
    let ks := arraysOf (leAt 2 1 desc)
    let vs := List.range (leAt 16 2 desc)
    let acc := decide (bitsAt 0 1 (leAt 3 1 desc) = 1)
    let outLen := fun k => cimOut (x.array k).mode.toNat * (x.array k).cols
    let tag := ks.foldl (fun t k => vs.foldl (fun t v =>
      t ||| spanTag x (inputAddr desc k v) (cimIn (x.array k).mode.toNat * inputCount had (x.array k)) |||
        (if acc then spanTag x (outputAddr desc k v) (outLen k) else 0)) (t ||| tabGet 0 x.cimTag k)) cmd.tag
    let x := ks.foldl (fun y k => vs.foldl (fun y v => tagSpan y (outputAddr desc k v) (outLen k) tag) y) x
    let d := d.setQuad n (setHead x 2 { cmd with tag := tag })
    let r := vs.foldl (dotVector n desc had ks) (d, false, 0)
    finishHead r.1 n 2 (if r.2.1 then stUncorrectable else stOk) 0 (c + 16 + r.2.2)

/-- DOT. -/
def execDot (q : QuadAt) (s : State) : Res := unitStep s q 2 (fun b => decide (b.length = 32) && decide (leAt 0 1 b = 1)) (dotHad false)

/-- HAD. -/
def execHad (q : QuadAt) (s : State) : Res := unitStep s q 2 (fun b => decide (b.length = 32) && decide (leAt 0 1 b = 2)) (dotHad true)

/-! ## Benchmarks (R158 to R163) -/

/-- The longest of ceil(ROWS / 2) over some arrays. -/
def longestRows (x : Quad) (ks : List Nat) : Nat := (ks.map fun k => ((x.array k).rows + 1) / 2).foldl max 0

/-- BENCH: a unit-2 command; an op of 4 or more is outside Table 4.10 and completes with INVALID. -/
def benchCommand (d : Dev) (n c : Nat) (cmd : UnitCmd) : Dev :=
  let x := d.quad n
  let ks := arraysOf (leAt 2 1 cmd.desc)
  let ok := decide (leAt 0 1 cmd.desc = 3) && decide (leAt 2 1 cmd.desc ≠ 0) && decide (leAt 3 1 cmd.desc = 0) && allZero (slice 18 2 cmd.desc) &&
    ks.all fun k => decide ((x.array k).st ≠ .unloaded)
  let tag := ks.foldl (fun t k => t ||| tabGet 0 x.cimTag k) cmd.tag
  if ok then finishHead (benchPass (d.setQuad n (setHead x 2 { cmd with tag := tag })) n ks) n 2 stOk 0 (c + 32 + 2 * longestRows x ks)
  else finishHead d n 2 stInvalid 0 c

/-- BENCH. -/
def execBench (q : QuadAt) (s : State) : Res := unitStep s q 2 (fun b => decide (b.length = 32) && decide (3 ≤ leAt 0 1 b)) benchCommand

/-- The latest occurrence of a timed record that began `len` sub-ticks ago or earlier, by the partition's latest beat
opening (03 R112, 07 R309); none before the quad's load. -/
def occurrence (d : Dev) (n : Nat) (t : TimedRec) (len : Nat) : Option Stamp :=
  match quadOwner d n with
  | none => none
  | some (p, _) =>
    let x := d.quad n
    let part := d.partition p
    let origin := after part.opening x.startOffset + BitVec.ofNat 60 (t.tickOff * 4096 + t.sub)
    let span : Int := x.period * 4096
    let k := (stampDiff origin (now d) - len) / span
    let s := origin + BitVec.ofInt 60 (k * span)
    if ¬ part.begun ∨ before s part.loadedAt then none else some s

/-- BENCH_SLOT_PASS (R161): within the slot, with unit 2 holding no command, once in each slot; the pass holds unit 2 for as
long as a BENCH of its arrays takes (Table 4.11). -/
def execBenchSlotPass (q : QuadAt) (record : Nat) (s : State) : Res :=
  let n := q.quad.toNat
  let d := s.dev.at q.e
  let x := d.quad n
  onUnit s (decide (n < quadsFitted s.dev) && decide (record < 64))
    (match x.bench[record]? with
    | none => d
    | some t =>
      match occurrence d n t 0 with
      | none => d
      | some st =>
        if quadLive x ∧ before (now d) (st + BitVec.ofNat 60 t.len) ∧ tabGet 0 x.benchSeen record ≠ st ∧ (unitQueue x 2).isEmpty then
          let ks := (arraysOf t.units.toNat).filter fun k => decide ((x.array k).st ≠ .unloaded)
          benchPass (d.setQuad n { x with benchSeen := tabSet 0 x.benchSeen record st, passUntil := max q.cyc x.cyc + 32 + 2 * longestRows x ks }) n ks
        else d)

/-- Unit 2 had a command queued or running throughout [lo, hi). -/
def busyThrough (x : Quad) (lo hi : Stamp) : Bool :=
  !before x.idleFrom hi || (match x.idleTo with
    | some t => !before lo t
    | none => false)

/-- BENCH_SLOT_MISSED (R163): the slot has closed, and unit 2 was never idle in it. -/
def execBenchSlotMissed (q : QuadAt) (record : Nat) (s : State) : Res :=
  let n := q.quad.toNat
  let d := s.dev.at q.e
  let x := d.quad n
  onUnit s (decide (n < quadsFitted s.dev) && decide (record < 64))
    (match x.bench[record]? with
    | none => d
    | some t =>
      match occurrence d n t t.len with
      | none => d
      | some st =>
        let seen := tabGet 0 x.benchSeen record
        if quadLive x ∧ (seen = 0 ∨ before seen st) ∧ busyThrough x st (st + BitVec.ofNat 60 t.len) then
          let d := d.setQuad n { x with benchSeen := tabSet 0 x.benchSeen record st }
          let d := { d with cim := { d.cim with benchMissed := d.cim.benchMissed + 1 } }
          raiseQuad d 0x63 n 0 0 [] false
        else d)

end Sys2Proof.Machine
end

