-- ==== Sys2Proof/Machine/Hash.lean ====
section
/-! DEFINITION. Keccak-f[1600], SHA3-256 and SHAKE128 (FIPS 202; assumption log 7). -/

namespace Sys2Proof.Machine

/-! ## The permutation, its constants derived as FIPS 202 derives them -/

/-- The feedback register of the round constants one step on: multiplication by x modulo x^8 + x^6 + x^5 + x^4 + 1. -/
def rcStep (r : Nat) : Nat := if r < 128 then 2 * r else Nat.xor (2 * r) 0x171

/-- The constant term of the register over `n` steps. -/
def rcBits : Nat → Nat → List Nat
  | 0, _ => []
  | n + 1, r => r % 2 :: rcBits n (rcStep r)

/-- The constant of a round of seven bits: bit j stands at position 2^j - 1. -/
def rcWord (bits : List Nat) : BitVec 64 := (List.range 7).foldl (fun w j => w ||| BitVec.ofNat 64 (nth 0 bits j * 2 ^ (2 ^ j - 1))) 0

/-- The constants of the 24 rounds. -/
def roundConstants : List (BitVec 64) :=
  let bits := rcBits 168 1
  (List.range 24).map fun i => rcWord (bits.drop (7 * i))

/-- The walk of ρ: from (x, y) to (y, 2x + 3y), the t-th lane on it rotated by (t + 1)(t + 2) / 2. -/
def rhoWalk : Nat → Nat → Nat → Nat → List (Nat × Nat)
  | 0, _, _, _ => []
  | n + 1, t, x, y => (x + 5 * y, (t + 1) * (t + 2) / 2 % 64) :: rhoWalk n (t + 1) y ((2 * x + 3 * y) % 5)

/-- The rotation of each lane, its number x + 5y first; that of lane 0 is none. -/
def laneTurns : List (Nat × Nat) := rhoWalk 24 0 1 0

/-- The rotation of a lane. -/
def laneTurn (i : Nat) : Nat := ((laneTurns.find? fun x => decide (x.1 = i)).map (·.2)).getD 0

/-- A sponge state: 25 lanes, that at (x, y) the one numbered x + 5y. -/
abbrev Sponge := List (BitVec 64)

/-- The lane at (x, y), both modulo 5. -/
def Sponge.at_ (s : Sponge) (x y : Nat) : BitVec 64 := nth 0 s (x % 5 + 5 * (y % 5))

/-- The state whose lanes a function gives. -/
def spongeOf (f : Nat → Nat → BitVec 64) : Sponge := (List.range 25).map fun i => f (i % 5) (i / 5)

/-- Parity of each column. -/
def Sponge.parities (s : Sponge) : List (BitVec 64) := (List.range 5).map fun x => (List.range 5).foldl (fun p y => p ^^^ s.at_ x y) 0

/-- θ. -/
def Sponge.theta (s : Sponge) : Sponge :=
  let p := s.parities
  spongeOf fun x y => nth 0 p ((x + 4) % 5) ^^^ s.at_ x y ^^^ (nth 0 p ((x + 1) % 5)).rotateLeft 1

/-- ρ, then π: the lane at (x, y) comes from (x + 3y, x). -/
def Sponge.rhoPi (s : Sponge) : Sponge := spongeOf fun x y => (s.at_ (x + 3 * y) x).rotateLeft (laneTurn ((x + 3 * y) % 5 + 5 * x))

/-- χ. -/
def Sponge.chi (s : Sponge) : Sponge := spongeOf fun x y => s.at_ x y ^^^ (s.at_ (x + 2) y &&& ~~~(s.at_ (x + 1) y))

/-- One round: θ, ρ, π, χ, and ι, which adds the round's constant to lane 0. -/
def Sponge.round (s : Sponge) (rc : BitVec 64) : Sponge :=
  let t := s.theta.rhoPi.chi
  setNth t 0 (t.at_ 0 0 ^^^ rc)

/-- The permutation. -/
def keccakF (s : Sponge) : Sponge := roundConstants.foldl Sponge.round s

/-! ## The sponge -/

/-- A block of octets added to the state. -/
def keccakAbsorb (s : Sponge) (block : Bytes) : Sponge :=
  keccakF (spongeOf fun x y => s.at_ x y ^^^ BitVec.ofNat 64 (leAt (8 * (x + 5 * y)) 8 block))

/-- A message padded with a domain octet to whole blocks of `rate` octets. -/
def keccakPad (rate : Nat) (dom : Byte) (m : Bytes) : Bytes :=
  let n := rate - m.length % rate
  if n = 1 then m ++ [dom ||| 0x80] else m ++ [dom] ++ zeros (n - 2) ++ [0x80]

/-- The state after a message. -/
def keccakState (rate : Nat) (dom : Byte) (m : Bytes) : Sponge :=
  let p := keccakPad rate dom m
  (chunks rate (p.length / rate) p).foldl keccakAbsorb (List.replicate 25 0)

/-- Octets of a state. -/
def keccakBytes (s : Sponge) : Bytes := (s.map fun w => le 8 w.toNat).flatten

/-- SHA3-256. -/
def sha3_256 (m : Bytes) : Bytes := (keccakBytes (keccakState 136 0x06 m)).take 32

/-- SHAKE128 candidates of 8 octets, little-endian, of one squeezed block. -/
def shakeBlock (s : Sponge) : List Nat := (s.take 21).map (·.toNat)

/-- The k-th value v mod q among candidates v below floor(2^64 / q) × q, over successive blocks; `fuel` bounds the
blocks squeezed (05 R187; assumption log 7). -/
def shakePick (q : Nat) : Nat → Sponge → Nat → Nat
  | 0, _, _ => 0
  | fuel + 1, s, k =>
    let ok := (shakeBlock s).filter fun v => decide (v < 2 ^ 64 / q * q)
    if k < ok.length then ok.getD k 0 % q else shakePick q fuel (keccakF s) (k - ok.length)

/-- a-half residue i of a key limb (05 R187). -/
def expandA (seed : Bytes) (digit chain nlog2 q i : Nat) : Nat :=
  let msg := fit 32 seed ++ le 1 digit ++ le 1 chain ++ le 1 nlog2 ++ le 2 (i / 1024) ++ le 1 (i % 4)
  shakePick q 65536 (keccakState 168 0x1F msg) (i % 1024 / 4)

end Sys2Proof.Machine
end

