-- ==== Sys2Proof/Machine/Cipher.lean ====
section
/-! DEFINITION. The ciphertext units: NTT, automorphism, base extension, key multiply-accumulate and expansion (05 R172
to R189, R204 to R209). A result that 05 calls undefined is a free value (assumption log 10). -/

namespace Sys2Proof.Machine

/-! ## Residue arithmetic -/

/-- b^e mod q over the low `n` bits of e. -/
def powModAux (q : Nat) : Nat → Nat → Nat → Nat → Nat
  | 0, _, _, acc => acc
  | n + 1, b, e, acc => powModAux q n (b * b % q) (e / 2) (if e % 2 = 1 then acc * b % q else acc)

/-- b^e mod q for e below 2^40. -/
def powMod (b e q : Nat) : Nat := powModAux q 40 (b % q) e (1 % q)

/-- The inverse modulo a prime. -/
def invMod (a q : Nat) : Nat := powMod a (q - 2) q

/-- The n low bits of i reversed. -/
def brv : Nat → Nat → Nat
  | 0, _ => 0
  | n + 1, i => (i % 2) * 2 ^ n + brv n (i / 2)

/-- A supported prime's size and form (R172). -/
def primeForm (q nlog2 : Nat) : Bool := decide (2 ^ 29 < q) && decide (q < 2 ^ 36) && decide (q % (2 * 2 ^ nlog2) = 1)

/-- N_LOG2 in range. -/
def nlogOk (n : Nat) : Bool := decide (15 ≤ n) && decide (n ≤ 17)

/-- What 05 needs for a defined NTT result: Q is prime and PSI a primitive 2N-th root of unity modulo it. -/
def rootOk (q psi nlog2 : Nat) : Bool := decide (Nat.Prime q) && decide (powMod psi (2 ^ nlog2) q = q - 1)

/-- A free residue of 36 bits. -/
def freeRes (q a b : Nat) : Nat := Config.freeResidue q a b % 2 ^ 36

/-- The sum Σ x[j] × r^j mod q. -/
def polyEval (q r : Nat) (x : List Nat) : Nat := x.foldr (fun c acc => (c + r * acc) % q) 0

/-- FWD (R175): element i is the polynomial at ψ^(2·brv(i)+1). -/
def nttFwd (q psi n : Nat) (x : List Nat) : List Nat :=
  (List.range (2 ^ n)).map fun i => polyEval q (powMod psi (2 * brv n i + 1) q) x

/-- INV (R175): coefficient j is N^(−1) × Σ a[i] × ψ^(−j(2·brv(i)+1)). -/
def nttInv (q psi n : Nat) (x : List Nat) : List Nat :=
  let ninv := invMod (2 ^ n) q
  let pinv := invMod psi q
  (List.range (2 ^ n)).map fun j =>
    ninv * ((List.range (2 ^ n)).foldl (fun acc i => (acc + nth 0 x i * powMod (powMod pinv (2 * brv n i + 1) q) j q) % q) 0) % q

/-- The transform of one limb, free where 05 leaves it undefined. -/
def nttLimb (inverse : Bool) (q psi n : Nat) (x : List Nat) : List Nat :=
  if rootOk q psi n ∧ x.all (fun v => decide (v < q)) then (if inverse then nttInv q psi n x else nttFwd q psi n x)
  else (List.range (2 ^ n)).map fun i => freeRes q (nth 0 x i) i

/-! ## Descriptors of units 3 and 4 -/

/-- Bytes of a limb: N WIDE residues (R173). -/
def limbBytes (n : Nat) : Nat := 8 * 2 ^ n

/-- Two ranges of `count` limbs overlap. -/
def rangesOverlap (a b stride count bytes : Nat) : Bool :=
  let len := (count - 1) * stride + bytes
  decide (a < b + len) && decide (b < a + len)

/-- The rules of R177 on addresses. -/
def limbsInside (desc : Bytes) : Bool :=
  let n := leAt 1 1 desc
  let count := leAt 2 1 desc
  let stride := leAt 12 4 desc
  let len := (count - 1) * stride + limbBytes n
  decide (leAt 4 4 desc % 64 = 0) && decide (leAt 8 4 desc % 64 = 0) && decide (stride % 64 = 0) &&
    decide (bankSpan (leAt 4 4 desc) len = some .act) && decide (bankSpan (leAt 8 4 desc) len = some .act)

/-- The check of an NTT command (R177). -/
def nttOk (desc : Bytes) : Bool :=
  let n := leAt 1 1 desc
  let count := leAt 2 1 desc
  let src := leAt 4 4 desc
  let dst := leAt 8 4 desc
  decide (desc.length = 32) && decide (leAt 0 1 desc ≤ 1) && nlogOk n && decide (1 ≤ count) && decide (count ≤ 16) && decide (leAt 3 1 desc = 0) &&
    primeForm (leAt 16 8 desc) n && decide (leAt 24 8 desc < leAt 16 8 desc) && limbsInside desc &&
    (decide (src = dst) || !rangesOverlap src dst (leAt 12 4 desc) count (limbBytes n))

/-- A unit that reads limbs and writes limbs: each limb is read, transformed and written in turn; an uncorrectable read
ends it, and limbs already written stand (03 Table 3.9). -/
def limbRun (d : Dev) (n u : Nat) (cmd : UnitCmd) (count src dst stride bytes due : Nat) (f : List Nat → List Nat) : Dev :=
  let x := d.quad n
  let cs := List.range count
  let tag := cs.foldl (fun t c => t ||| spanTag x (src + c * stride) bytes) cmd.tag
  let x := cs.foldl (fun x c => tagSpan x (dst + c * stride) bytes tag) x
  let d := d.setQuad n (setHead x u { cmd with tag := tag })
  let r := cs.foldl (fun (acc : Bool × Dev) c =>
    if acc.1 then acc
    else
      let g := readQuad acc.2 n (src + c * stride) bytes
      if g.2.1 then (true, g.2.2)
      else (false, writeQuad g.2.2 n (dst + c * stride) (((f (elements 8 g.1)).map (le 8)).flatten))) (false, d)
  finishHead r.2 n u (if r.1 then stUncorrectable else stOk) 0 due

/-- FWD and INV (R176 to R178). -/
def nttCommand (d : Dev) (n c : Nat) (cmd : UnitCmd) : Dev :=
  let b := cmd.desc
  if ¬ nttOk b then finishHead d n 3 stInvalid 0 c
  else
    limbRun d n 3 cmd (leAt 2 1 b) (leAt 4 4 b) (leAt 8 4 b) (leAt 12 4 b) (limbBytes (leAt 1 1 b))
      (c + 64 + leAt 2 1 b * (2 ^ leAt 1 1 b / 2) * leAt 1 1 b / 32)
      (nttLimb (decide (leAt 0 1 b = 1)) (leAt 16 8 b) (leAt 24 8 b) (leAt 1 1 b))

/-- FWD. -/
def execFwd (q : QuadAt) (s : State) : Res := unitStep s q 3 (fun b => decide (b.length = 32) && decide (leAt 0 1 b = 0)) nttCommand

/-- INV; an OP outside Table 5.2 completes with INVALID under this row. -/
def execInv (q : QuadAt) (s : State) : Res := unitStep s q 3 (fun b => decide (b.length ≠ 32) || decide (leAt 0 1 b ≠ 0)) nttCommand

/-- R179: output element j is input element k with 2·brv(k) + 1 ≡ (2·brv(j) + 1) × G mod 2N. -/
def autoEval (n g : Nat) (x : List Nat) : List Nat :=
  (List.range (2 ^ n)).map fun j => nth 0 x (brv n (((2 * brv n j + 1) * g % (2 * 2 ^ n) - 1) / 2))

/-- R180: the output at position m takes coefficient i with i × G ≡ m, or its negation with i × G ≡ m + N mod 2N. -/
def autoCoef (n g q : Nat) (x : List Nat) : List Nat :=
  let nn := 2 ^ n
  (List.range nn).foldl (fun out i =>
    let m := i * g % (2 * nn)
    let v := nth 0 x i
    if m < nn then setNth out m v
    else setNth out (m - nn) (if v = 0 then 0 else if v < q then q - v else freeRes q v i)) (List.replicate nn 0)

/-- The check of an automorphism command (R181). -/
def autoOk (desc : Bytes) : Bool :=
  let n := leAt 1 1 desc
  let count := leAt 2 1 desc
  let g := leAt 24 4 desc
  decide (desc.length = 32) && decide (leAt 0 1 desc ≤ 1) && nlogOk n && decide (1 ≤ count) && decide (count ≤ 16) && decide (leAt 3 1 desc = 0) &&
    decide (g % 2 = 1) && decide (g < 2 * 2 ^ n) && allZero (slice 28 4 desc) && limbsInside desc &&
    !rangesOverlap (leAt 4 4 desc) (leAt 8 4 desc) (leAt 12 4 desc) count (limbBytes n)

/-- An automorphism command (R179 to R182). -/
def autoCommand (d : Dev) (n c : Nat) (cmd : UnitCmd) : Dev :=
  let b := cmd.desc
  let nl := leAt 1 1 b
  if ¬ autoOk b then finishHead d n 4 stInvalid 0 c
  else
    limbRun d n 4 cmd (leAt 2 1 b) (leAt 4 4 b) (leAt 8 4 b) (leAt 12 4 b) (limbBytes nl) (c + 64 + leAt 2 1 b * 2 ^ nl / 32)
      (if leAt 0 1 b = 0 then autoEval nl (leAt 24 4 b) else autoCoef nl (leAt 24 4 b) (leAt 16 8 b))

/-- AUTOMORPHISM_EVAL. -/
def execAutomorphismEval (q : QuadAt) (s : State) : Res := unitStep s q 4 (fun b => decide (b.length = 32) && decide (leAt 0 1 b = 0)) autoCommand

/-- AUTOMORPHISM_COEF; an OP outside Table 5.3 completes with INVALID under this row. -/
def execAutomorphismCoef (q : QuadAt) (s : State) : Res := unitStep s q 4 (fun b => decide (b.length ≠ 32) || decide (leAt 0 1 b ≠ 0)) autoCommand

/-! ## BEXT (R183 to R186) -/

/-- The check of a BEXT: Table 5.4, and every range inside the activation bank. -/
def bextOk (desc : Bytes) : Bool :=
  let s := leAt 2 1 desc
  let t := leAt 3 1 desc
  let clen := leAt 16 4 desc
  decide (desc.length = 32) && decide (leAt 0 1 desc = 0) && decide (leAt 1 1 desc = 0) && decide (1 ≤ s) && decide (s ≤ 64) && decide (1 ≤ t) &&
    decide (t ≤ 80) && decide (leAt 12 4 desc % 64 = 0) && decide (clen % 64 = 0) && decide (64 ≤ clen) && decide (clen ≤ 131072) &&
    allZero (slice 28 4 desc) &&
    decide (bankSpan (leAt 4 4 desc) ((s - 1) * leAt 20 4 desc + 8 * clen) = some .act) &&
    decide (bankSpan (leAt 8 4 desc) ((t - 1) * leAt 24 4 desc + 8 * clen) = some .act) &&
    decide (bankSpan (leAt 12 4 desc) (16 * s + 8 * t + 8 * s * t) = some .act)

/-- The constant table is correct for its primes (05 Undefined uses): q̂_i is the product of the other q. -/
def bextTableOk (s t : Nat) (k : List Nat) : Bool :=
  let q := fun i => nth 0 k (2 * i)
  let p := fun j => nth 0 k (2 * s + j)
  let hat := fun i => ((List.range s).filter (· ≠ i)).foldl (fun a l => a * q l) 1
  (List.range s).all fun i =>
    decide (1 < q i) && decide (nth 0 k (2 * i + 1) < q i) && decide (hat i * nth 0 k (2 * i + 1) % q i = 1) &&
      (List.range t).all fun j => decide (1 < p j) && decide (nth 0 k (2 * s + t + i * t + j) = hat i % p j)

/-- One target residue (R185). -/
def bextAt (s t : Nat) (k : List Nat) (xs : List (List Nat)) (ok : Bool) (j n : Nat) : Nat :=
  let q := fun i => nth 0 k (2 * i)
  let p := nth 0 k (2 * s + j)
  let x := fun i => nth 0 (nth [] xs i) n
  if ok ∧ (List.range s).all (fun i => decide (x i < q i)) then
    ((List.range s).foldl (fun a i => a + (x i * nth 0 k (2 * i + 1) % q i) * nth 0 k (2 * s + t + i * t + j)) 0) % p
  else freeRes p (x 0) (n + j)

/-- BEXT. -/
def bextCommand (d : Dev) (n c : Nat) (cmd : UnitCmd) : Dev :=
  let b := cmd.desc
  if ¬ bextOk b then finishHead d n 5 stInvalid 0 c
  else
    let s := leAt 2 1 b
    let t := leAt 3 1 b
    let clen := leAt 16 4 b
    let tlen := 16 * s + 8 * t + 8 * s * t
    let due := c + 64 + (clen * s * (t + 1) + 31) / 32
    let x := d.quad n
    let tag := (List.range s).foldl (fun g i => g ||| spanTag x (leAt 4 4 b + i * leAt 20 4 b) (8 * clen)) (cmd.tag ||| spanTag x (leAt 12 4 b) tlen)
    let x := (List.range t).foldl (fun x j => tagSpan x (leAt 8 4 b + j * leAt 24 4 b) (8 * clen) tag) x
    let d := d.setQuad n (setHead x 5 { cmd with tag := tag })
    let k := readQuad d n (leAt 12 4 b) tlen
    let r := (List.range s).foldl (fun (acc : Bool × List (List Nat) × Dev) i =>
      let g := readQuad acc.2.2 n (leAt 4 4 b + i * leAt 20 4 b) (8 * clen)
      (acc.1 || g.2.1, acc.2.1 ++ [elements 8 g.1], g.2.2)) (k.2.1, [], k.2.2)
    if r.1 then finishHead r.2.2 n 5 stUncorrectable 0 due
    else
      let table := elements 8 k.1
      let ok := bextTableOk s t table
      let d := (List.range t).foldl (fun d j =>
        writeQuad d n (leAt 8 4 b + j * leAt 24 4 b) (((List.range clen).map fun i => le 8 (bextAt s t table r.2.1 ok j i)).flatten)) r.2.2
      finishHead d n 5 stOk 0 due

/-- BEXT; a reserved OP, or one of 5 or more, completes with INVALID under this row (R183). -/
def execBext (q : QuadAt) (s : State) : Res :=
  unitStep s q 5 (fun b => decide (b.length ≠ 32) || decide (leAt 0 1 b ≤ 1) || decide (5 ≤ leAt 0 1 b)) bextCommand

/-! ## KMAC and EXPAND (R190, R204 to R208) -/

/-- A global address in stack memory (03 Table 3.10): page index and offset, when no other bit is set. -/
def stackGlobal (a : Nat) : Option (Nat × Nat) :=
  if a / 2 ^ 62 = 1 ∧ bitsAt 32 30 a = 0 then some (bitsAt 22 10 a, bitsAt 0 22 a) else none

/-- An isolation fault of a partition (07 R274): LOC64 is the beat number (16 Table 16.3). -/
def isolationFault (d : Dev) (p : Nat) : Dev := raisePart d 0xE0 p 0xFFFF ((d.partition p).nextBeat - 1)

/-- Element i of a PACK36 limb (R174). -/
def pack36 (limb : Bytes) (i : Nat) : Nat := bitsAt (36 * (i % 16)) 36 (leAt (72 * (i / 16)) 72 limb)

/-- The descriptor rules of Table 5.8 for a page of degree 2^n. -/
def kmacOk (desc : Bytes) (n limbs : Nat) : Bool :=
  let expand := decide (leAt 0 1 desc = 4)
  let c0 := leAt 24 4 desc
  let clen := leAt 28 4 desc
  decide (leAt 1 1 desc = 0) && decide (leAt 3 1 desc ≤ 1) && decide (leAt 2 1 desc < limbs) && decide (c0 % 1024 = 0) && decide (clen % 1024 = 0) &&
    decide (c0 + clen ≤ 2 ^ n) && decide (bankSpan (leAt 20 4 desc) (8 * clen) = some .act) &&
    (expand || (decide (bankSpan (leAt 4 4 desc) (8 * clen) = some .act) && decide (bankSpan (leAt 16 4 desc) (8 * clen) = some .act)))

/-- The parts of a span of stack memory, cut at page ends: a span that passes the end of a 4 MiB page goes on in the next
page index (log 52). -/
def stackParts (a len : Nat) : List (Nat × Nat) :=
  (List.range ((a % pageBytes + len + pageBytes - 1) / pageBytes)).map fun i =>
    let lo := max a ((a / pageBytes + i) * pageBytes)
    (lo, min (a + len) ((a / pageBytes + i + 1) * pageBytes) - lo)

/-- A span read from a partition's pages; none when it does not own one of them. -/
def readOwned (d : Dev) (p a len : Nat) : Option (Bytes × Bool × Dev) :=
  (stackParts a len).foldl (fun acc x => acc.bind fun r =>
    (pageAddr r.2.2 p (x.1 / pageBytes) (x.1 % pageBytes)).map fun g =>
      let t := readStack r.2.2 g x.2
      (r.1 ++ t.1, r.2.1 || t.2.1, t.2.2)) (some ([], false, d))

/-- The tags of the pages a span touches. -/
def stackTag (d : Dev) (p a len : Nat) : PTag := (stackParts a len).foldl (fun t x => t ||| pageTag d p (x.1 / pageBytes)) 0

/-- One product of KMAC or sum with an accumulator. -/
def kmacAt (q d k acc : Nat) : Nat := residue q d k [d, k, acc] (acc + d * k)

/-- KMAC and EXPAND: they wait while an open fetch entry has their page as DST (R204). The limb is read at the place that
R190 gives it whatever LIMBS says: R205 names no LIMBS above LIMBS_PER_PAGE among its INVALID cases. -/
def kmacCommand (d : Dev) (n c : Nat) (cmd : UnitCmd) : Dev :=
  let b := cmd.desc
  let x := d.quad n
  let expand := decide (leAt 0 1 b = 4)
  let owner := quadOwner d n
  let p := (owner.map (·.1)).getD 0
  let c0 := leAt 24 4 b
  let clen := leAt 28 4 b
  let due := c + 64 + clen / 32
  if x.fetch.any (fun t => decide (t.dst.toNat = leAt 8 8 b)) then d
  else match stackGlobal (leAt 8 8 b) with
    | none => finishHead d n 5 stInvalid 0 c
    | some (page, off) =>
      let a := page * pageBytes + off
      match readOwned d p a 4096 with
      | none => isolationFault (finishHead d n 5 stIsolation 0 c) p
      | some h =>
        let hd := h.1
        let nl := leAt 6 1 hd
        let limbs := leAt 7 1 hd
        let k := leAt 2 1 b
        let limbLen := 9 * 2 ^ nl / 2
        if h.2.1 then finishHead h.2.2 n 5 stUncorrectable 0 due
        else if ¬ (slice 0 4 hd = ascii "ZXKP" ∧ leAt 4 2 hd = 1 ∧ nlogOk nl ∧ kmacOk b nl limbs) then
          finishHead h.2.2 n 5 stInvalid 0 c
        else if leAt 12 4 hd ≠ tenant d p then isolationFault (finishHead h.2.2 n 5 stIsolation 0 c) p
        else
          let q := leAt (80 + 8 * k) 8 hd
          let ka := fun i => expandA (slice 24 32 hd) (leAt 20 1 hd) (leAt (64 + k) 1 hd) nl q i
          let acc := decide (leAt 3 1 b = 1)
          let accA := leAt 20 4 b
          let tag := cmd.tag ||| stackTag d p a 4096 ||| (if expand then 0 else stackTag d p (a + 4096 + k * limbLen) limbLen) |||
            (if expand then 0 else spanTag x (leAt 4 4 b) (8 * clen) ||| (if acc then spanTag x (leAt 16 4 b) (8 * clen) ||| spanTag x accA (8 * clen) else 0))
          let d := h.2.2
          let y := tagSpan (setHead (d.quad n) 5 { cmd with tag := tag }) accA (8 * clen) tag
          let y := if expand then y else tagSpan y (leAt 16 4 b) (8 * clen) tag
          let d := d.setQuad n y
          if expand then
            finishHead (writeQuad d n accA (((List.range clen).map fun i => le 8 (if modulusOk q then ka (c0 + i) else freeRes q i k)).flatten)) n 5 stOk 0 due
          else match readOwned d p (a + 4096 + k * limbLen) limbLen with
          | none => isolationFault (finishHead d n 5 stIsolation 0 c) p
          | some limb =>
            let dg := readQuad limb.2.2 n (leAt 4 4 b) (8 * clen)
            let ob := if acc then readQuad dg.2.2 n (leAt 16 4 b) (8 * clen) else (zeros (8 * clen), false, dg.2.2)
            let oa := if acc then readQuad ob.2.2 n accA (8 * clen) else (zeros (8 * clen), false, ob.2.2)
            if limb.2.1 || dg.2.1 || ob.2.1 || oa.2.1 then finishHead oa.2.2 n 5 stUncorrectable 0 due
            else
              let dv := elements 8 dg.1
              let bv := elements 8 ob.1
              let av := elements 8 oa.1
              let newB := (List.range clen).map fun i => le 8 (kmacAt q (nth 0 dv i) (pack36 limb.1 (c0 + i)) (nth 0 bv i))
              let newA := (List.range clen).map fun i => le 8 (kmacAt q (nth 0 dv i) (ka (c0 + i)) (nth 0 av i))
              finishHead (writeQuad (writeQuad oa.2.2 n (leAt 16 4 b) newB.flatten) n accA newA.flatten) n 5 stOk 0 due

/-- KMAC. -/
def execKmac (q : QuadAt) (s : State) : Res := unitStep s q 5 (fun b => decide (b.length = 32) && decide (leAt 0 1 b = 2)) kmacCommand

/-- EXPAND. -/
def execExpand (q : QuadAt) (s : State) : Res := unitStep s q 5 (fun b => decide (b.length = 32) && decide (leAt 0 1 b = 4)) kmacCommand

end Sys2Proof.Machine
end

