-- ==== Sys2Proof/Machine/Delivery.lean ====
section
/-! DEFINITION. Delivery of messages and the isolation rules between partitions (03 R78 to R84, 07 R271 to R274,
10 R419). -/

namespace Sys2Proof.Machine

/-! ## Isolation (07 R271 to R274) -/

/-- PEERS of a partition lists a partition of a device. -/
def peerListed (d : Dev) (p dev part : Nat) : Bool := decide ((dev, part) ∈ peersOf d p)

/-- This device as the DEV field of a message header gives it: 11 bits (log 22). -/
def devField (d : Dev) : Nat := deviceNumber d % 2048

/-- What the isolation rules say of an access between two partitions of this device: none when it is allowed, else the
partition whose side finds the breach. -/
def localBreach (d : Dev) (a b : Nat) : Option Nat :=
  if a = b then none
  else if ¬ peerListed d a (deviceNumber d) b then some a
  else if ¬ peerListed d b (deviceNumber d) a then some b
  else none

/-- An access that arrives from another device is allowed at this side: the lists and the tenants (R271, R273). -/
def arrivalAllowed (d : Dev) (p : Nat) (src spart : Nat) (ten : BitVec 32) : Bool :=
  decide (p < 64) && peerListed d p src spart && decide (tenant d p = ten.toNat)

/-! ## Message headers (03 Table 3.7) -/

/-- DEV, PART, QUAD and QUEUE of a header. -/
def msgDev (h : Nat) : Nat := bitsAt 53 11 h
/-- PART. -/
def msgPart (h : Nat) : Nat := bitsAt 47 6 h
/-- QUAD. -/
def msgQuad (h : Nat) : Nat := bitsAt 39 8 h
/-- QUEUE. -/
def msgQueue (h : Nat) : Nat := bitsAt 37 2 h

/-- A header as received. -/
def headerOf (dev part quad queue pencil tag : Nat) : Nat :=
  dev % 2048 * 2 ^ 53 + part % 64 * 2 ^ 47 + quad % 256 * 2 ^ 39 + queue % 4 * 2 ^ 37 + pencil * 2 ^ 36 + tag % 2 ^ 32

/-- A message with the sender's own numbers in its header (R80), PENCIL set when it carries a tag (06 Table 6.6). -/
def stampHeader (d : Dev) (p l : Nat) (m : Msg) : Msg :=
  let h := leAt 0 8 m.bytes
  { m with bytes := le 8 (headerOf (devField d) p l (msgQueue h) (bit (decide (m.tag ≠ 0))) h) ++ m.bytes.drop 8 }

/-- The oldest message leaves an outbound buffer. -/
def leaveOutbound (d : Dev) (n : Nat) : Dev :=
  let x := d.quad n
  d.setQuad n { x with outbound := x.outbound.drop 1 }

/-- The message is discarded and the isolation fault raised for a partition (R274). -/
def discardMsg (d : Dev) (n p : Nat) : Dev := isolationFault (leaveOutbound d n) p

/-- MSG credits that a partition holds of a peer: those the peer has given, less those spent (R419). -/
def msgCredits (d : Dev) (p dev part : Nat) : Nat := tabGet 0 d.aksia.msgHeld (p * 2 ^ 24 + dev * 256 + part)

/-- An untagged message for another device: it leaves with a credit to a listed peer (R79, R419). -/
def sendAcross (d : Dev) (n p l : Nat) (m : Msg) : Dev :=
  let h := leAt 0 8 m.bytes
  let dev := msgDev h
  let part := msgPart h
  if ¬ peerListed d p dev part then discardMsg d n p
  else if msgCredits d p dev part = 0 then d
  else
    let key := p * 2 ^ 24 + dev * 256 + part
    let d := leaveOutbound d n
    let d := { d with aksia := { d.aksia with msgHeld := tabSet 0 d.aksia.msgHeld key (tabGet 0 d.aksia.msgHeld key - 1) } }
    sendPacket d .msg (.message (BitVec.ofNat 8 (msgQuad h)) (BitVec.ofNat 2 (msgQueue h))) dev part p 0 (stampHeader d p l m).bytes

/-- A message carries a tag and is addressed outside its partition: it stays in the outbound buffer until its tag is
empty, whether or not its destination is listed (06 R235). -/
def leavesPencilled (d : Dev) (p : Nat) (m : Msg) : Bool :=
  let h := leAt 0 8 m.bytes
  decide (m.tag ≠ 0) && (decide (msgDev h ≠ devField d) || decide (msgPart h ≠ p))

/-- The head of a quad's outbound buffer offered to its destination at the destination's cycle c. A message for a
logical quad that the QUAD_MAP of an allowed partition does not hold is discarded as one addressed elsewhere is (log
52). -/
def deliverFrom (d : Dev) (n c : Nat) : Dev :=
  match (d.quad n).outbound, quadOwner d n with
  | m :: _, some (p, l) =>
    let h := leAt 0 8 m.bytes
    let b := msgPart h
    if leavesPencilled d p m then d
    else if msgDev h ≠ devField d then sendAcross d n p l m
    else match localBreach d p b with
      | some side => discardMsg d n side
      | none =>
        match physQuad d b (msgQuad h) with
          | none => discardMsg d n p
          | some t =>
            match pushMesh (d.quad t) (msgQueue h) c (stampHeader d p l m) with
            | some x => leaveOutbound (d.setQuad t x) n
            | none => d
  | _, _ => d

/-- The first element of a list that satisfies a test, and the list without it. -/
def takeFirst {α : Type} (f : α → Bool) : List α → Option (α × List α)
  | [] => none
  | a :: r => if f a then some (a, r) else (takeFirst f r).map fun x => (x.1, a :: x.2)

/-- The oldest ingress message for a queue offered at cycle c; once pushed its credit returns (R419). -/
def deliverIngress (d : Dev) (p l : Nat) (k : BitVec 2) (c : Nat) : Dev :=
  match takeFirst (fun (i : Ingress) => decide (i.partition = p) && decide (i.quad = l) && decide (i.queue = k)) d.aksia.ingress with
  | none => d
  | some (i, rest) =>
    match physQuad d p l with
    | none => isolationFault { d with aksia := { d.aksia with ingress := rest } } p
    | some t =>
      match pushMesh (d.quad t) k.toNat c i.msg with
      | none => d
      | some x =>
        let d := { (d.setQuad t x) with aksia := { d.aksia with ingress := rest } }
        returnMsgCredit d p i.srcDev.toNat i.srcPart.toNat

/-- The oldest bearing notice for a quad offered at cycle c (06 R246). -/
def deliverNotice (d : Dev) (p l c : Nat) : Dev :=
  match takeFirst (fun (i : Notice) => decide (i.partition = p) && decide (i.quad = l)) d.notices, physQuad d p l with
  | some (i, rest), some t =>
    match pushMesh (d.quad t) i.queue.toNat c i.msg with
    | none => d
    | some x => { (d.setQuad t x) with notices := rest }
  | _, _ => d

/-- MESSAGE_DELIVERY: `cyc` is the destination quad's cycle. -/
def execMessageDelivery (e cyc : Nat) (src : MsgSource) (s : State) : Res :=
  let d := s.dev.at e
  match src with
  | .quad n => onUnit s (decide (n.toNat < quadsFitted s.dev)) (deliverFrom d n.toNat cyc)
  | .ingress p l k => onUnit s (decide (p < 64) && decide (l < 256)) (deliverIngress d p l k cyc)
  | .notice p l => onUnit s (decide (p < 64) && decide (l < 256)) (deliverNotice d p l cyc)

end Sys2Proof.Machine
end

