-- ==== Sys2Proof/Machine/Mover.lean ====
section
/-! DEFINITION. The block mover, unit 0 (03 R102 to R107, 10 R421, R428, 06 Table 6.6). -/

namespace Sys2Proof.Machine

/-! ## Global addresses (Table 3.10) -/

/-- Where a global address points. -/
inductive Place where
  | bad
  | local_ (addr : Nat)
  /-- Linear stack address: page index × 2^22 + offset. -/
  | stack (addr : Nat)
  | remote (dev part quad addr : Nat)
  deriving DecidableEq, Repr

/-- A global address, of which `len` bytes are used; an address of a list need not be a multiple of 64 (R105, R106). -/
def placeOf (g len : Nat) : Place :=
  let sp := g / 2 ^ 62
  if sp = 0 then
    let a := bitsAt 0 22 g
    if bitsAt 22 40 g = 0 ∧ (bankSpan a len = some .dmem ∨ bankSpan a len = some .weight ∨ bankSpan a len = some .act) then .local_ a else .bad
  else if sp = 1 then (if bitsAt 32 30 g = 0 then .stack (bitsAt 0 32 g) else .bad)
  else if sp = 2 then
    let a := bitsAt 0 22 g
    if bitsAt 22 15 g = 0 ∧ (bankSpan a len = some .weight ∨ bankSpan a len = some .act) then
      .remote (bitsAt 51 11 g) (bitsAt 45 6 g) (bitsAt 37 8 g) a
    else .bad
  else .bad

/-- A place further on; past the end of a stack page it goes on in the next page index (log 52). -/
def Place.plus : Place → Nat → Place
  | .bad, _ => .bad
  | .local_ a, n => .local_ (a + n)
  | .stack a, n => .stack (a + n)
  | .remote v p q a, n => .remote v p q (a + n)

/-- One transfer of a command: from a place, or zeros, to a place, of a length. -/
structure Move where
  src : Option Place
  dst : Place
  len : Nat
  deriving DecidableEq, Repr

/-- The address list lies in data memory or the activation bank, aligned (Table 3.11). -/
def listOk (desc : Bytes) : Bool :=
  let a := leAt 24 4 desc
  let n := 8 * leAt 22 2 desc
  decide (a % 8 = 0) && decide (0 < n) && (decide (bankSpan a n = some .dmem) || decide (bankSpan a n = some .act))

/-- The limits that a descriptor itself shows (R105): SRC and DST are looked at where the OP uses them. -/
def descOk (desc : Bytes) : Bool :=
  let len := leAt 16 4 desc
  let op := leAt 20 1 desc
  let n := leAt 22 2 desc
  let wide := decide (op = 1) || decide (op = 2)
  let all := if wide then len * n else len
  let good := fun (g : Nat) => decide (g % 64 = 0) && decide (placeOf g all ≠ .bad)
  decide (desc.length = 32) && decide (op ≤ 3) && decide (leAt 21 1 desc = 0) && allZero (slice 28 4 desc) &&
    decide (len % 64 = 0) && decide (64 ≤ len) && decide (len * n ≤ 4194304) &&
    (if wide then decide (len ≤ 4096) && decide (1 ≤ n) && decide (n ≤ 4096) && listOk desc else decide (len ≤ 4194304) && decide (n = 1)) &&
    (decide (op = 1) || decide (op = 3) || good (leAt 0 8 desc)) && (decide (op = 2) || good (leAt 8 8 desc))

/-- The transfers of a descriptor with its address list (R105, R106); none when it breaks the limits. -/
def movesOf (desc : Bytes) (list : List Nat) : Option (List Move) :=
  let len := leAt 16 4 desc
  let op := leAt 20 1 desc
  let n := leAt 22 2 desc
  let src := leAt 0 8 desc
  let dst := leAt 8 8 desc
  let moves : List Move :=
    if op = 0 then [⟨some (placeOf src len), placeOf dst len, len⟩]
    else if op = 3 then [⟨none, placeOf dst len, len⟩]
    else if op = 1 then list.zipIdx.map fun x => ⟨some (placeOf x.1 len), (placeOf dst (len * n)).plus (len * x.2), len⟩
    else list.zipIdx.map fun x => ⟨some ((placeOf src (len * n)).plus (len * x.2)), placeOf x.1 len, len⟩
  if descOk desc && moves.all (fun m => decide (m.dst ≠ .bad) && decide (m.src ≠ some .bad)) then some moves else none

/-! ## Pieces -/

/-- A command under way: the device, its status so far, bytes moved, the stack bytes written and the replies awaited. -/
structure MoveRun where
  dev : Dev
  status : Nat
  moved : Nat
  wrote : List (Nat × Nat)
  awaits : List (BitVec 16 × Nat × Nat)
  deriving DecidableEq, Repr

/-- A stack write noted, joined to the one before when it follows it. -/
def noteWrote (l : List (Nat × Nat)) (a n : Nat) : List (Nat × Nat) :=
  match l.getLast? with
  | some (b, m) => if b + m = a then l.dropLast ++ [(b, m + n)] else l ++ [(a, n)]
  | none => [(a, n)]

/-- The physical quad of a remote-quad address on this device, or the partition that finds the breach. -/
def localTarget (d : Dev) (p part quad : Nat) : Except Nat Nat :=
  match localBreach d p part with
  | some side => .error side
  | none => match physQuad d part quad with
    | some t => .ok t
    | none => .error p

/-- The end of a write: bytes that stand count as moved, and an uncorrectable word that it read first ends the command
(Table 3.9, 16 R612, R630). -/
def MoveRun.wroteAt (r : MoveRun) (g : Bool × Dev) (len : Nat) : MoveRun :=
  { r with dev := g.2, moved := r.moved + len, status := if g.1 then stUncorrectable else r.status }

/-- Bytes written at a place of this device or sent to another: the tag lands on blocks and pages of the partition, and
bytes sent count once they are acknowledged. -/
def putBytes (r : MoveRun) (n p : Nat) (tag : PTag) (dst : Place) (bs : Bytes) : MoveRun :=
  let d := r.dev
  match dst with
  | .bad => { r with status := stInvalid }
  | .local_ a =>
    let g := storeQuad d n a bs
    r.wroteAt (g.1, g.2.setQuad n (tagSpan (g.2.quad n) a bs.length tag)) bs.length
  | .stack a =>
    match pageAddr d p (a / pageBytes) (a % pageBytes) with
    | none => { r with dev := isolationFault d p, status := stIsolation }
    | some x =>
      let g := storeStack d x bs
      { r.wroteAt (g.1, tagPage g.2 p (a / pageBytes) tag) bs.length with wrote := noteWrote r.wrote a bs.length }
  | .remote v part q a =>
    if v = devField d then
      match localTarget d p part q with
      | .error side => { r with dev := isolationFault d side, status := stIsolation }
      | .ok t =>
        let g := storeQuad d t a bs
        r.wroteAt (g.1, if part = p then g.2.setQuad t (tagSpan (g.2.quad t) a bs.length tag) else g.2) bs.length
    else if ¬ peerListed d p v part then { r with dev := isolationFault d p, status := stIsolation }
    else
      let t := nextReqTag d
      { r with
        dev := sendRequestPacket t.2 (.remoteWrite (BitVec.ofNat 8 q) (BitVec.ofNat 22 a)) v part p t.1 bs
        awaits := r.awaits ++ [(t.1, bs.length, 0)] }

/-- One piece: read where it can be read at once, or a read request for it; `off` is its offset in the command. -/
def movePiece (r : MoveRun) (n p : Nat) (tag : PTag) (src : Option Place) (dst : Place) (off len : Nat) : MoveRun :=
  let d := r.dev
  let got := fun (g : Bytes × Bool × Dev) =>
    if g.2.1 then { r with dev := g.2.2, status := stUncorrectable } else putBytes { r with dev := g.2.2 } n p tag dst g.1
  if r.status ≠ stOk then r
  else match src with
    | none => putBytes r n p tag dst (zeros len)
    | some .bad => { r with status := stInvalid }
    | some (.local_ a) => got (readQuad d n a len)
    | some (.stack a) =>
      match pageAddr d p (a / pageBytes) (a % pageBytes) with
      | none => { r with dev := isolationFault d p, status := stIsolation }
      | some x => got (readStack d x len)
    | some (.remote v part q a) =>
      if v = devField d then
        match localTarget d p part q with
        | .error side => { r with dev := isolationFault d side, status := stIsolation }
        | .ok t => got (if part = p then readQuad d t a len else readForeign d t a len)
      else if ¬ peerListed d p v part then { r with dev := isolationFault d p, status := stIsolation }
      else
        let t := nextReqTag d
        { r with
          dev := sendRequestPacket t.2 (.remoteRead (BitVec.ofNat 8 q) (BitVec.ofNat 22 a) len) v part p t.1 []
          awaits := r.awaits ++ [(t.1, off, len)] }

/-- A place on another device. -/
def Place.far (d : Dev) : Place → Bool
  | .remote v _ _ _ => decide (v ≠ devField d)
  | _ => false

/-- Bytes moved at once: 64 (R107), or a packet's 512 towards another device (10 R416). -/
def pieceSize (d : Dev) (m : Move) : Nat := if m.dst.far d || (m.src.map (·.far d)).getD false then 512 else 64

/-- Bytes left in the stack page of a place. -/
def Place.room : Place → Nat
  | .stack a => pageBytes - a % pageBytes
  | _ => pageBytes

/-- A piece of a transfer, cut where its source or its destination meets the end of a stack page; `fuel` bounds the
cuts, at most one for each of the two. -/
def cutPiece (m : Move) (off len : Nat) : Nat → List (Nat × Nat)
  | 0 => [(off, len)]
  | fuel + 1 =>
    let room := min ((m.src.map fun s => (s.plus off).room).getD pageBytes) (m.dst.plus off).room
    if len ≤ room then [(off, len)] else (off, room) :: cutPiece m (off + room) (len - room) fuel

/-- A transfer, piece by piece in rising order; `base` is its offset in the command. -/
def runMove (r : MoveRun) (n p : Nat) (tag : PTag) (m : Move) (base : Nat) : MoveRun :=
  let z := pieceSize r.dev m
  (List.range ((m.len + z - 1) / z)).foldl (fun r i =>
    (cutPiece m (z * i) (min z (m.len - z * i)) 2).foldl (fun r c =>
      movePiece r n p tag (m.src.map (·.plus c.1)) (m.dst.plus c.1) (base + c.1) c.2) r) r

/-! ## The command -/

/-- Tag of a place's bytes, for places of the partition. -/
def placeTag (d : Dev) (n p : Nat) (pl : Place) (len : Nat) : PTag :=
  match pl with
  | .local_ a => spanTag (d.quad n) a len
  | .stack a => (List.range ((a % pageBytes + len + pageBytes - 1) / pageBytes)).foldl (fun t i => t ||| pageTag d p (a / pageBytes + i)) 0
  | .remote v part q a =>
    if v = devField d ∧ part = p then
      match physQuad d p q with
      | some t => spanTag (d.quad t) a len
      | none => 0
    else 0
  | .bad => 0

/-- A place outside the partition. -/
def Place.outside (d : Dev) (p : Nat) : Place → Bool
  | .remote v part _ _ => !(decide (v = devField d) && decide (part = p))
  | _ => false

/-- A destination in a weight bank, the quad's own or another's. -/
def Place.weight : Place → Bool
  | .local_ a | .remote _ _ _ a => decide (bankOf a = some .weight)
  | _ => false

/-- A descriptor's list of addresses, read as the command runs (R107). -/
def readList (d : Dev) (n : Nat) (desc : Bytes) : List Nat × Bool × Dev :=
  let op := leAt 20 1 desc
  if op = 1 ∨ op = 2 then
    let r := readQuad d n (leAt 24 4 desc) (8 * leAt 22 2 desc)
    (((chunks 8 (leAt 22 2 desc) r.1).map leVal), r.2.1, r.2.2)
  else ([], false, d)

/-- A block-mover command: the descriptor's limits, the list and its addresses, the tag, then every transfer in order. One
that has sent requests to another device waits for their replies; one that is tagged and writes outside its partition
has not started, and holds its tag (06 R232, R235). -/
def moverCommand (d : Dev) (n c : Nat) (cmd : UnitCmd) : Dev :=
  let desc := cmd.desc
  let op := leAt 20 1 desc
  let p := ((quadOwner d n).map (·.1)).getD 0xFF
  if cmd.started then d
  else if ¬ descOk desc then finishHead d n 0 stInvalid 0 c
  else
    let l := readList d n desc
    if l.2.1 then finishHead l.2.2 n 0 stUncorrectable 0 c
    else match movesOf desc l.1 with
      | none => finishHead l.2.2 n 0 stInvalid 0 c
      | some moves =>
        let srcTag := moves.foldl (fun t m => t ||| (m.src.map fun s => placeTag d n p s m.len).getD 0) 0
        let listTag := if op = 1 ∨ op = 2 then spanTag (d.quad n) (leAt 24 4 desc) (8 * leAt 22 2 desc) else 0
        let tag := if moves.all (fun m => m.dst.weight) then srcTag else cmd.tag ||| srcTag ||| listTag
        if tag ≠ 0 ∧ moves.any (fun m => m.dst.outside d p) then d.setQuad n (setHead (d.quad n) 0 { cmd with tag := tag })
        else
          let len := leAt 16 4 desc
          let r := moves.zipIdx.foldl (fun r x => runMove r n p tag x.1 (len * x.2))
            { dev := l.2.2, status := stOk, moved := 0, wrote := [], awaits := [] }
          let waits := if r.status = stOk then r.awaits else []
          let d := r.dev.setQuad n (setHead (r.dev.quad n) 0 { cmd with tag := tag, wrote := r.wrote, awaits := waits, started := true, moved := r.moved })
          if waits.isEmpty then finishHead d n 0 r.status r.moved (c + (r.moved + 63) / 64) else d

/-- A mover command recognised by its OP byte. -/
def isMove (op : Nat) (b : Bytes) : Bool := decide (b.length = 32) && decide (leAt 20 1 b = op)

/-- COPY: a descriptor without bytes is taken here too, and completes with INVALID. -/
def execCopy (q : QuadAt) (s : State) : Res := unitStep s q 0 (fun b => decide (b.length ≠ 32) || isMove 0 b) moverCommand

/-- GATHER. -/
def execGather (q : QuadAt) (s : State) : Res := unitStep s q 0 (isMove 1) moverCommand

/-- SCATTER. -/
def execScatter (q : QuadAt) (s : State) : Res := unitStep s q 0 (isMove 2) moverCommand

/-- ZERO: an OP of 4 or more is outside Table 3.11 and completes with INVALID. -/
def execZero (q : QuadAt) (s : State) : Res := unitStep s q 0 (fun b => decide (b.length = 32) && decide (3 ≤ leAt 20 1 b)) moverCommand

/-! ## Replies from other devices (10 R421, R428) -/

/-- The quads of a partition whose block mover awaits a reply with a tag. -/
def awaiting (d : Dev) (p : Nat) (tag : BitVec 16) : Option (Nat × UnitCmd × (BitVec 16 × Nat × Nat)) :=
  ((d.partition p).quadMap.map (·.toNat)).findSome? fun n =>
    match headCmd (d.quad n) 0 with
    | some c => (c.awaits.find? fun a => decide (a.1 = tag)).map fun a => (n, c, a)
    | none => none

/-- The place of an offset of a command, and how much of its transfer is left there. -/
def destAt (desc : Bytes) (list : List Nat) (off : Nat) : Place :=
  match movesOf desc list with
  | none => .bad
  | some moves =>
    let len := leAt 16 4 desc
    match moves[off / len]? with
    | some m => m.dst.plus (off % len)
    | none => .bad

/-- A reply lands: an acknowledgement, read data, or a refusal that ends the command with ISOLATION; read data that
brings less than was asked for comes from an uncorrectable read (log 35). -/
def moverReply (d : Dev) (p : Nat) (tag : BitVec 16) (refused : Bool) (data : Bytes) : Dev :=
  match awaiting d p tag with
  | none => d
  | some (n, c, a) =>
    let rest := c.awaits.filter fun x => decide (x.1 ≠ tag)
    if refused then finishHead d n 0 stIsolation c.moved 0
    else if data.length < a.2.2 then finishHead d n 0 stUncorrectable c.moved 0
    else
      let d := d.setQuad n (setHead (d.quad n) 0 { c with awaits := rest })
      let r := if a.2.2 = 0 then { dev := d, status := stOk, moved := c.moved + a.2.1, wrote := c.wrote, awaits := rest }
        else putBytes { dev := d, status := stOk, moved := c.moved, wrote := c.wrote, awaits := rest } n p c.tag
          (destAt c.desc (readList d n c.desc).1 a.2.1) (data.take a.2.2)
      let d := r.dev.setQuad n (setHead (r.dev.quad n) 0 { c with awaits := r.awaits, wrote := r.wrote, moved := r.moved })
      if r.status ≠ stOk ∨ r.awaits.isEmpty then finishHead d n 0 r.status r.moved 0 else d

end Sys2Proof.Machine
end

