-- ==== Sys2Proof/Machine/KeyStream.lean ====
section
/-! DEFINITION. Key streaming: fetch tables, requests, retries and landings at the requester, and the vault's service
order and archives (05 R192 to R203, R210 to R214; 10 R420, R421; 14 R546, R548). -/

namespace Sys2Proof.Machine

/-! ## KEY_ROUTE (R192, R194, R199, R200) -/

/-- Vault i of a partition's list; none for 0xFFFF. -/
def vaultAt (d : Dev) (p i : Nat) : Option Nat :=
  let v := beAt (2 * i) 2 (legVal d 0x6081 p)
  if v = 0xFFFF then none else some v

/-- The list's positions in cyclic order after the one asked last. -/
def routeOrder (last : Option Nat) : List Nat :=
  match last with
  | none => [0, 1, 2, 3]
  | some i => [(i + 1) % 4, (i + 2) % 4, (i + 3) % 4, i % 4]

/-- The next vault of a list, skipping vaults asked: a vault that stands at two positions is one vault. -/
def nextVault (d : Dev) (p : Nat) (last : Option Nat) (asked : List Nat) : Option (Nat × Nat) :=
  (routeOrder last).findSome? fun i => (vaultAt d p i).bind fun v => if v ∈ asked then none else some (i, v)

/-! ## The fetch table -/

/-- Base-conversion raise: LOC16 the fetch entry, LOC64 the KEY_ID (16 Table 16.3). -/
def raiseFetch (d : Dev) (s n entry : Nat) (keyId : BitVec 32) : Dev := raiseQuad d s n entry keyId.toNat [] false

/-- A KEY request of an entry sent to a vault under a new tag (R195). -/
def sendRequest (d : Dev) (p i vault : Nat) (t : FetchEntry) : FetchEntry × Dev :=
  let tag := d.key.nextTag
  let d := { d with key := { d.key with nextTag := tag + 1 } }
  let r : KeyReq := { device := BitVec.ofNat 16 (deviceNumber d), partition := BitVec.ofNat 8 p, tenant := BitVec.ofNat 32 (tenant d p), keyId := t.keyId, digit := t.digit, page := t.page, urgency := t.urgency, need := t.need, tag := tag }
  ({ t with tags := t.tags ++ [tag], lastIdx := some i, lastVault := some vault, asked := t.asked ++ [vault] }, sendRequestPacket d (.keyRequest r) vault 0xFF p tag [])

/-- An entry of a quad's fetch table by one of its request tags: its position and itself. -/
def entryOf (x : Quad) (tag : BitVec 16) : Option (Nat × FetchEntry) :=
  x.fetch.zipIdx.findSome? fun t => if tag ∈ t.1.tags then some (t.2, t.1) else none

/-- A fetch-table entry replaced. -/
def setEntry (d : Dev) (n i : Nat) (t : FetchEntry) : Dev :=
  let x := d.quad n
  d.setQuad n { x with fetch := setNth x.fetch i t }

/-- A re-request counted (0x6080.03). -/
def countRerequest (d : Dev) : Dev := { d with key := { d.key with rerequests := d.key.rerequests + 1 } }

/-- An entry asks the next vault, or raises KEY_NO_ROUTE when the list names none (R194, R197, R199). -/
def rerequest (d : Dev) (n p i : Nat) (t : FetchEntry) : Dev :=
  match nextVault d p t.lastIdx [] with
  | some (k, v) =>
    let r := sendRequest d p k v t
    countRerequest (setEntry r.2 n i r.1)
  | none => raiseFetch (setEntry d n i t) 0x9C n i t.keyId

/-! ## KFETCH (Table 5.7) -/

/-- The field rules of Table 5.7. -/
def kfetchOk (b : Bytes) : Bool :=
  decide (leAt 1 1 b ≤ 1) && decide (leAt 2 1 b ≤ 7) && decide (leAt 3 1 b ≤ 31) && decide (leAt 16 8 b < 2 ^ 60) && allZero (slice 24 8 b) &&
    (match stackGlobal (leAt 8 8 b) with
    | some (_, off) => decide (off = 0) || decide (off = 0x200000)
    | none => false)

/-- KFETCH: R192 to R195. With the table full, or an entry of the same DST open, the command has not run. -/
def kfetchCommand (d : Dev) (n c : Nat) (cmd : UnitCmd) : Dev :=
  let b := cmd.desc
  let x := d.quad n
  let p := ((quadOwner d n).map (·.1)).getD 0
  let page := ((stackGlobal (leAt 8 8 b)).map (·.1)).getD 0
  if ¬ kfetchOk b then finishHead d n 5 stInvalid 0 c
  else if (pageAddr d p page 0).isNone then isolationFault (finishHead d n 5 stIsolation 0 c) p
  else match nextVault d p none [] with
    | none => raiseFetch (finishHead d n 5 stInvalid 0 c) 0x9C n 0xFFFF (BitVec.ofNat 32 (leAt 4 4 b))
    | some (i, v) =>
      if 16 ≤ x.fetch.length ∨ x.fetch.any (fun t => decide (t.dst.toNat = leAt 8 8 b)) then d
      else
        let need : Stamp := BitVec.ofNat 60 (leAt 16 8 b)
        let t : FetchEntry := { dst := BitVec.ofNat 64 (leAt 8 8 b), keyId := BitVec.ofNat 32 (leAt 4 4 b), digit := BitVec.ofNat 8 (leAt 2 1 b), page := BitVec.ofNat 8 (leAt 3 1 b), urgency := BitVec.ofNat 8 (leAt 1 1 b), need := need, tags := [], lastIdx := none, asked := [], retryAt := after need (legNat d 0x6080 0x00) }
        let r := sendRequest d p i v t
        let y := r.2.quad n
        finishHead (r.2.setQuad n { y with fetch := y.fetch ++ [r.1] }) n 5 stOk 0 c

/-- KFETCH. -/
def execKfetch (q : QuadAt) (s : State) : Res := unitStep s q 5 (fun b => decide (b.length = 32) && decide (leAt 0 1 b = 3)) kfetchCommand

/-! ## Landings, retries and NACKs -/

/-- The handed parts of a page that a landing takes. -/
def dropHandedPage (d : Dev) (tag : BitVec 16) : Dev :=
  { d with handed := d.handed.filter fun h => match h with
    | .keyPage t _ _ _ => decide (t ≠ tag)
    | _ => true }

/-- A landing at or after NEED is late, whatever the page's header says (R198). -/
def judgeLanding (d : Dev) (n i : Nat) (t : FetchEntry) : Dev :=
  if reached d t.need then raiseFetch { d with key := { d.key with pagesLate := d.key.pagesLate + 1 } } 0x98 n i t.keyId else d

/-- KEY_PAGE_LANDING (R196 to R198): the page is written in full; one whose header differs keeps the entry open. -/
def keyPageLanding (d : Dev) (n : Nat) (tag : BitVec 16) (page : Bytes) : Dev :=
  match entryOf (d.quad n) tag, quadOwner d n with
  | some (i, t), some (p, _) =>
    match stackGlobal t.dst.toNat with
    | none => d
    | some (pg, off) =>
      let d := writePage d p pg off page
      let hit := decide (leAt 8 4 page = t.keyId.toNat) && decide (leAt 20 1 page = t.digit.toNat) && decide (leAt 22 1 page = t.page.toNat) &&
        decide (leAt 12 4 page = tenant d p)
      let d := judgeLanding d n i t
      if hit then
        let x := d.quad n
        let d := d.setQuad n { x with fetch := x.fetch.eraseIdx i }
        { d with key := { d.key with pagesLanded := d.key.pagesLanded + 1 } }
      else rerequest (raiseFetch d 0x9A n i t.keyId) n p i t
  | _, _ => d

/-- KEY_PAGE_LANDING: a delivery for a closed entry is discarded. -/
def execKeyPageLanding (q : QuadAt) (tag : BitVec 16) (page : Bytes) (s : State) : Res :=
  let d := dropHandedPage (s.dev.at q.e) tag
  onUnit s (decide (q.quad.toNat < quadsFitted s.dev)) (keyPageLanding d q.quad.toNat tag page)

/-- KEY_RETRY (R199): due at NEED + KEY_RETRY_TICKS and every KEY_RETRY_TICKS after it. -/
def execKeyRetry (q : QuadAt) (tag : BitVec 16) (s : State) : Res :=
  let n := q.quad.toNat
  let d := s.dev.at q.e
  onUnit s (decide (n < quadsFitted s.dev))
    (match entryOf (d.quad n) tag, quadOwner d n with
    | some (i, t), some (p, _) =>
      if reached d t.retryAt then
        let t := { t with retryAt := after t.retryAt (legNat d 0x6080 0x00), asked := [] }
        let found := (nextVault d p t.lastIdx []).isSome
        rerequest (if found then raiseFetch d 0x99 n i t.keyId else d) n p i t
      else d
    | _, _ => d)

/-- KEY_NACK (R200): a NACK for an open entry asks the next vault not yet asked since the KFETCH or the latest retry. -/
def keyNack (d : Dev) (n : Nat) (tag : BitVec 16) : Dev :=
  match entryOf (d.quad n) tag, quadOwner d n with
  | some (i, t), some (p, _) =>
    let d := { d with key := { d.key with nacks := d.key.nacks + 1 } }
    let d := raiseFetch d 0x9B n i t.keyId
    match nextVault d p t.lastIdx t.asked with
    | some (k, v) =>
      let r := sendRequest d p k v t
      countRerequest (setEntry r.2 n i r.1)
    | none => if (nextVault d p t.lastIdx []).isNone then raiseFetch d 0x9C n i t.keyId else d
  | _, _ => d

/-- KEY_NACK. -/
def execKeyNack (q : QuadAt) (tag : BitVec 16) (s : State) : Res :=
  let d := s.dev.at q.e
  let d := { d with handed := d.handed.filter (· ≠ .keyNack tag) }
  onUnit s (decide (q.quad.toNat < quadsFitted s.dev)) (keyNack d q.quad.toNat tag)

/-! ## KEY credits at the requester (10 R420) -/

/-- Bytes a tick that a partition's KEY rate allows: its share of the payload of Table 10.1 in 125 µs. -/
def keyRate (d : Dev) (p : Nat) : Nat :=
  (if d.part.grade = 3 then 1200000000 else 600000000) * legNat d (0x6100 + p) 0x01 / 256

/-- A partition has an open entry that last asked a vault. -/
def fetchingFrom (d : Dev) (p : Nat) (vault : Nat) : Bool :=
  (d.partition p).quadMap.any fun q => (d.quad q.toNat).fetch.any fun t => decide (t.lastVault = some vault)

/-- KEY_CREDIT_SEND: one credit of 4 KiB, at the partition's KEY rate, at most 64 unspent. -/
def execKeyCreditSend (e : Nat) (partition : Nat) (vault : BitVec 16) (s : State) : Res :=
  let d := s.dev.at e
  let p := partition
  let a := d.aksia
  let key := p * 2 ^ 16 + vault.toNat
  let unspent := tabGet 0 a.keyCredits key
  let sent := tabGet 0 a.keySentNow p
  onUnit s (decide (p < 64))
    (if fetchingFrom d p vault.toNat ∧ unspent + 4096 ≤ 64 * 4096 ∧ sent + 4096 ≤ keyRate d p then
      let d := { d with aksia := { a with keyCredits := tabSet 0 a.keyCredits key (unspent + 4096), keySentNow := tabSet 0 a.keySentNow p (sent + 4096) } }
      sendPacket d .resp (.keyCredit 1) vault.toNat 0xFF p 0 []
    else d)

/-! ## The vault (R210 to R214, 10 R421) -/

/-- A HALT or a CUT stands, or a STACK sweep runs: every KEY request is answered with a NACK (16 R617, R618, 17 R646). -/
def vaultHalted (d : Dev) : Bool :=
  d.faults.halted || (d.faults.sources.any fun x => decide (4 ≤ x.2.applied.toNat)) ||
    (decide (d.start.sweep.st = 1) && decide (d.start.sweep.kind = 2))

/-- Physical stack address of key page i of an archive. -/
def archiveAddr (k : VaultKey) (i : Nat) : Nat := nth 0 k.pages (i / 2) * pageBytes + i % 2 * 0x200000

/-- The address of a page of a loaded key: KEY_ID and tenant match, DIGIT and PAGE are those of its header (R212). -/
def vaultPage (d : Dev) (keyId tenant : BitVec 32) (digit page : Byte) : Option Nat :=
  d.key.keys.findSome? fun k =>
    if k.2.st = 2 ∧ k.2.keyId = keyId ∧ k.2.tenant = tenant then
      (List.range k.2.count).findSome? fun i =>
        let a := archiveAddr k.2 i
        if memByte d.stackMem (a + 20) = digit ∧ memByte d.stackMem (a + 22) = page then some a else none
    else none

/-- A NACK to a requester. -/
def sendNack (d : Dev) (device : BitVec 16) (partition : Byte) (tag : BitVec 16) : Dev :=
  sendPacket d .resp .keyNack device.toNat partition.toNat 0xFF tag []

/-- KEY_REQUEST_RECEIVED (R212, 10 R421): a request is held, or answered with a NACK when no loaded key serves it, the
table of 4,096 is full, or the device is halted. -/
def keyRequestReceived (d : Dev) (r : KeyReq) : Dev :=
  if vaultHalted d || (vaultPage d r.keyId r.tenant r.digit r.page).isNone || decide (4096 ≤ d.key.requests.length) then
    sendNack d r.device r.partition r.tag
  else
    let v : VaultReq := { device := r.device, partition := r.partition, tenant := r.tenant, keyId := r.keyId, digit := r.digit, page := r.page, urgency := r.urgency, need := r.need, tag := r.tag }
    { d with key := { d.key with requests := d.key.requests ++ [v] } }

/-- KEY_REQUEST_RECEIVED. -/
def execKeyRequestReceived (e : Nat) (r : KeyReq) (s : State) : Res :=
  let d := s.dev.at e
  .next (s.withDev (keyRequestReceived { d with handed := d.handed.filter (· ≠ .keyRequest r) } r))

/-- Request a is served before request b, which landed before it or at once with it (R210). -/
def servedBefore (a b : VaultReq) : Bool :=
  if a.urgency ≠ b.urgency then decide (a.urgency.toNat < b.urgency.toNat) else before a.need b.need

/-- Insertion in service order, after those that are served no later. -/
def insertReq (x : VaultReq) : List VaultReq → List VaultReq
  | [] => [x]
  | a :: r => if servedBefore x a then x :: a :: r else a :: insertReq x r

/-- The requests in service order. -/
def serviceOrder (l : List VaultReq) : List VaultReq := l.foldl (fun acc x => insertReq x acc) []

/-- Key of a requester's credits. -/
def creditKey (r : VaultReq) : Nat := r.device.toNat * 256 + r.partition.toNat

/-- Bytes of stack memory to be sent: what an uncorrectable read gives is a free value (log 2). -/
def stackBytes (d : Dev) (a len : Nat) : Bytes × Dev :=
  let r := readStack d a len
  if r.2.1 then (le len (drawFree r.2.2).1, (drawFree r.2.2).2) else (r.1, r.2.2)

/-- Bytes of a page sent in packets of at most 512 (R214). -/
def sendPageBytes (d : Dev) (r : VaultReq) (bs : Bytes) (last : Bool) : Dev :=
  let ps := packets bs
  ps.zipIdx.foldl (fun d x =>
    sendPacket d .key (.keyPage (r.sent + x.1.1) (last && decide (x.2 + 1 = ps.length))) r.device.toNat r.partition.toNat 0xFF r.tag x.1.2) d

/-- VAULT_PAGE_SEND (R210 to R214): the first request in service order whose requester has credits gets as many 4 KiB
of its page as they allow; one whose key is no longer loaded gets a NACK. -/
def vaultPageSend (d : Dev) : Dev :=
  match (serviceOrder d.key.requests).find? fun r =>
    decide (0 < tabGet 0 d.key.credits (creditKey r)) || vaultHalted d || (vaultPage d r.keyId r.tenant r.digit r.page).isNone with
  | none => d
  | some r =>
    let rest := d.key.requests.erase r
    match (if vaultHalted d then none else vaultPage d r.keyId r.tenant r.digit r.page) with
    | none => sendNack { d with key := { d.key with requests := rest } } r.device r.partition r.tag
    | some a =>
      let nl := (memByte d.stackMem (a + 6)).toNat
      let size := 4096 + (memByte d.stackMem (a + 7)).toNat * (9 * 2 ^ nl / 2)
      let left := (size - r.sent + 4095) / 4096
      let n := min (tabGet 0 d.key.credits (creditKey r)) left
      let len := min (4096 * n) (size - r.sent)
      let done := decide (size ≤ r.sent + len)
      let b := stackBytes d (a + r.sent) len
      let d := sendPageBytes b.2 r b.1 done
      let k := d.key
      { d with key := { k with
          credits := tabSet 0 k.credits (creditKey r) (tabGet 0 k.credits (creditKey r) - n)
          requests := if done then rest else k.requests.map fun x => if x = r then { r with sent := r.sent + len } else x
          pagesServed := if done then k.pagesServed + 1 else k.pagesServed } }

/-- VAULT_PAGE_SEND. -/
def execVaultPageSend (e : Nat) (s : State) : Res := .next (s.withDev (vaultPageSend (s.dev.at e)))

/-! ## Archives (14 R546, R548; 05 Table 5.10) -/

/-- An object by its ID. -/
def objectOf (d : Dev) (id : Nat) : Option Object := d.cad.objects.find? fun o => decide (o.id.toNat = id)

/-- Object 0, or a sealed object of a kind (R548). A damaged object has been sealed and stays readable (R566). -/
def objectUsable (d : Dev) (id : Nat) (kind : Byte) : Bool :=
  decide (id = 0) || (match objectOf d id with
    | some o => decide (o.kind = kind) && decide (o.st ≠ .writing)
    | none => false)

/-- VAULT_KEY entry n. -/
def vaultKeyOf (d : Dev) (n : Nat) : VaultKey := tabGet {} d.key.keys n

/-- VAULT_KEY entry n replaced. -/
def setVaultKey (d : Dev) (n : Nat) (k : VaultKey) : Dev :=
  bumpChange { d with key := { d.key with keys := tabSet {} d.key.keys n k } } (legKey 0x6082 n)

/-- A written VAULT_KEY: all zero unloads; otherwise loading begins, with pages from the free pool, or fails for want of
them. -/
def writeVaultKey (d : Dev) (n : Nat) (value : Bytes) : Dev :=
  let v := fit 16 (value.take 16)
  let d := setVaultKey d n {}
  if allZero v then d
  else
    let count := match objectOf d (beAt 8 8 v) with
      | some o => (o.size - 4096) / 0x200000
      | none => 0
    let need := (count + 1) / 2
    let free := pagesFree d
    let k : VaultKey := { keyId := BitVec.ofNat 32 (beAt 0 4 v), tenant := BitVec.ofNat 32 (beAt 4 4 v), object := BitVec.ofNat 64 (beAt 8 8 v) }
    if free.length < need ∨ beAt 8 8 v = 0 then setVaultKey d n { k with st := 3 }
    else setVaultKey d n { k with st := 1, pages := free.take need, count := count }

/-- VAULT_KEY: a write naming an object that is not a sealed key archive is a conflict and changes nothing (R548). -/
def execVaultKey (e : Nat) (entry : Nat) (value : Bytes) (s : State) : Res :=
  let d := s.dev.at e
  let v := fit 16 (value.take 16)
  onUnit s (decide (entry < 256))
    (if objectUsable d (beAt 8 8 v) 4 ∧ value.length ≤ 17 then bumpChange (writeVaultKey d entry value) (legKey 0x6082 entry) else d)

/-- Bytes of a stored object from an offset, lost codewords as zero (14 R566), and whether one was lost. -/
def objectBytes (o : Object) (off len : Nat) : Bytes × Bool :=
  let lost := o.lost.filter fun w => decide (w * 4096 < off + len) && decide (off < (w + 1) * 4096)
  (lost.foldl (fun b w =>
    let lo := max (w * 4096) off - off
    let hi := min ((w + 1) * 4096) (off + len) - off
    patch lo (zeros (hi - lo)) b) (fit len (slice off len o.bytes)), !lost.isEmpty)

/-- VAULT_KEY_LOAD_COMPLETE (14 R546). -/
def vaultLoadComplete (d : Dev) (n : Nat) : Dev :=
  let k := vaultKeyOf d n
  if k.st ≠ 1 then d
  else match objectOf d k.object.toNat with
    | none => setVaultKey d n { k with st := 3, pages := [], count := 0 }
    | some o =>
      let page := fun i => objectBytes o (4096 + i * 0x200000) 0x200000
      let ok := (List.range k.count).all fun i =>
        let b := (page i).1
        decide (slice 0 4 b = ascii "ZXKP") && decide (leAt 8 4 b = k.keyId.toNat) && decide (leAt 12 4 b = k.tenant.toNat) && !(page i).2
      if ok then
        let d := k.pages.foldl zeroPage d
        let d := (List.range k.count).foldl (fun d i => writeStack d (archiveAddr k i) (page i).1) d
        setVaultKey d n { k with st := 2 }
      else setVaultKey d n { k with st := 3, pages := [], count := 0 }

/-- VAULT_KEY_LOAD_COMPLETE. -/
def execVaultKeyLoadComplete (e : Nat) (entry : Nat) (s : State) : Res :=
  onUnit s (decide (entry < 256)) (vaultLoadComplete (s.dev.at e) entry)

end Sys2Proof.Machine
end

