-- ==== Sys2Proof/Machine/Store.lean ====
section
/-! DEFINITION. The upstream store and the frames that enter it: queries and results (09 R360, R383 to R389; 06 R228,
Table 6.5). -/

namespace Sys2Proof.Machine

/-- Store bytes an item occupies: its frame with the tag, rounded up to a multiple of 64 (R387). -/
def itemBytes (frame : Bytes) : Nat := (frame.length + 16 + 63) / 64 * 64

/-- Free bytes of a partition's store (0x5410+p.07). -/
def storeFree (d : Dev) (p : Nat) : Nat :=
  let x := d.ptx p
  x.storePages.length * pageBytes - (x.items.map fun i => itemBytes i.frame).foldl (· + ·) 0

/-- A frame header (Table 9.1). -/
def frameHeader (type stream fseq len sessions turns stamp marks form tenant emitter : Nat) : Bytes :=
  be 2 0x5A46 ++ be 1 1 ++ be 1 type ++ be 4 stream ++ be 4 fseq ++ be 4 len ++ be 8 sessions ++ be 8 turns ++ be 8 stamp ++ be 1 marks ++
    be 1 0 ++ be 1 0 ++ be 1 form ++ be 4 tenant ++ be 2 emitter ++ zeros 14

/-- STREAM_ID of a strip. -/
def streamId (d : Dev) (s : Nat) : Nat := legNat d (0x4000 + s) 0x20

/-- Bytes of a partition's page to be sent or copied; what an uncorrectable read gives is a free value (log 2). -/
def pageBytesOf (d : Dev) (p page off len : Nat) : Bytes × Dev :=
  match pageAddr d p page off with
  | some a => stackBytes d a len
  | none => (zeros len, d)

/-- The next item to enter takes the next place in the order of entry (R393). -/
def countEntry (d : Dev) : Dev := { d with sched := { d.sched with nextSeq := d.sched.nextSeq + 1 } }

/-- A query enters the store when it has room (R386, R388); none when it has not. -/
def enterQuery (d : Dev) (p s entry : Nat) (b : BearingEntry) : Option Dev :=
  let pt := b.plan
  let qlen := beAt 32 4 pt
  let body := pageBytesOf d p (beAt 24 4 pt) (beAt 28 4 pt) qlen
  let fields := be 4 b.bseq.toNat ++ be 1 b.point ++ slice 2 1 pt ++ slice 5 1 pt ++ slice 6 1 pt ++ slice 14 2 pt ++ be 8 b.present.toNat ++ be 8 b.openAt.toNat
  let frame := frameHeader 9 (streamId d s) b.bseq.toNat (26 + qlen) 0 0 (now d).toNat 0 0 (tenant d p) (deviceNumber d) ++ fields ++ body.1
  if storeFree d p < itemBytes frame then none
  else
    let x := body.2.ptx p
    let it : Item := { cls := .query, partition := p, strip := s, entered := now d, seq := d.sched.nextSeq, frame := frame, deadline := none, windowAt := 0, replay := false, entry := entry, sealed := none, placed := 0, fragment := [], fragHead := 0, passedOver := false }
    some (countEntry (body.2.setPtx p { x with items := x.items ++ [it] }))

/-- Byte address of emit record n in the emit page (R383). -/
def emitRecord (d : Dev) (p n : Nat) : Bytes × Dev := pageBytesOf d p (legNat d (0x5410 + p) 0x00) (64 * n) 64

/-- VALID of an emit record written. -/
def writeValid (d : Dev) (p n v : Nat) : Dev := writePage d p (legNat d (0x5410 + p) 0x00) (64 * n) (le 1 v)

/-- Table 9.5, for a record of a partition. -/
def emitOk (d : Dev) (p : Nat) (r : Bytes) : Bool :=
  let form := leAt 2 1 r
  let len := leAt 12 4 r
  decide (((d.strip (leAt 1 1 r)).partition).toNat = p) && decide (form ≤ 1) && decide (leAt 3 1 r = 0) && decide (leAt 8 4 r % 64 = 0) &&
    decide (64 ≤ len) && decide (len ≤ 4194304) && decide (form = 0 ∨ len % 128 = 0) && decide (leAt 8 4 r + len ≤ 4194304) &&
    decide (leAt 4 4 r < (d.partition p).pages.length) && allZero (slice 32 32 r)

/-- A record refused (R384). -/
def refuseRecord (d : Dev) (p n : Nat) : Dev :=
  let x := d.ptx p
  writeValid (d.setPtx p { x with emitRefused := x.emitRefused + 1 }) p n 3

/-- One record taken, or refused when it breaks Table 9.5 (R384); the refusal of a pencilled record waits until its page
is not (06 R235). -/
def takeRecord (d : Dev) (p n : Nat) : Dev :=
  let r := emitRecord d p n
  let d := r.2
  let ok := emitOk d p r.1
  if leAt 0 1 r.1 ≠ 1 then d
  else if ok ∨ pageTag d p (legNat d (0x5410 + p) 0x00) ≠ 0 then
    let x := d.ptx p
    let t : TakenRec := { recNo := n, strip := leAt 1 1 r.1, form := BitVec.ofNat 8 (leAt 2 1 r.1), srcPage := leAt 4 4 r.1, srcOff := leAt 8 4 r.1, length := leAt 12 4 r.1, sessions := BitVec.ofNat 64 (leAt 16 8 r.1), turns := BitVec.ofNat 64 (leAt 24 8 r.1), refuse := !ok }
    d.setPtx p { x with taken := x.taken ++ [t] }
  else refuseRecord d p n

/-- The emit records whose byte 0 a command wrote, in rising number (R384). -/
def takenBy (page : Nat) (wrote : List (Nat × Nat)) : List Nat :=
  (List.range 4096).filter fun n => wrote.any fun w => decide (w.1 ≤ page * pageBytes + 64 * n) && decide (page * pageBytes + 64 * n < w.1 + w.2)

/-- A completed block-mover command takes the records it wrote. -/
def takeWritten (d : Dev) (p : Nat) (c : UnitCmd) : Dev :=
  let page := legNat d (0x5410 + p) 0x00
  if page = 0xFFFF ∨ c.wrote.isEmpty then d else (takenBy page c.wrote).foldl (fun d n => takeRecord d p n) d

/-! ## Completion of unit commands (03 R97, 07 R314) -/

/-- A completion message (Table 3.9). -/
def completionMsg (d : Dev) (p l u : Nat) (c : UnitCmd) (st : Byte) (moved : Nat) : Msg :=
  let q := bitsAt 16 2 c.spec.toNat
  { bytes := le 8 (headerOf (devField d) p l q (bit (decide (c.tag ≠ 0))) (bitsAt 0 16 c.spec.toNat)) ++ le 1 u ++ le 1 st.toNat ++ zeros 2 ++ le 4 (if u = 0 then moved else 0) ++ zeros 48, tag := c.tag }

/-- UNIT_COMMAND_COMPLETE: the unit's oldest command, its work done, completes; a completion message that the queue
refuses is offered again (R84, R97). -/
def completeCommand (d : Dev) (n u c : Nat) : Dev :=
  let x := d.quad n
  match unitQueue x u with
  | cmd :: rest =>
    match cmd.done with
    | some (st, moved) =>
      if c < cmd.due then d
      else
        let o := quadOwner d n
        let p := (o.map (·.1)).getD 0
        let msg := completionMsg d p ((o.map (·.2)).getD 0) u cmd st moved
        let y := setUnitQueue x u rest
        let y := if bitsAt 18 1 cmd.spec.toNat = 1 then pushDone y u (bitsAt 16 2 cmd.spec.toNat) c msg else some y
        match y with
        | none => d.setQuad n (setUnitQueue x u ({ cmd with offered := true } :: rest))
        | some y =>
          let d := quadProgress (d.setQuad n ({ y with unitDone := max y.unitDone (c + 1) }.idleSince x (now d))) n
          if u = 0 then takeWritten d p cmd else d
    | none => d
  | [] => d

/-- UNIT_COMMAND_COMPLETE. -/
def execUnitCommandComplete (q : QuadAt) (unit : Nat) (s : State) : Res :=
  let n := q.quad.toNat
  let d := s.dev.at q.e
  onUnit s (decide (n < quadsFitted s.dev) && decide (unit < 6)) (if quadLive (d.quad n) then completeCommand d n unit q.cyc else d)

end Sys2Proof.Machine
end

