-- ==== Sys2Proof/Machine/Bearings.lean ====
section
/-! DEFINITION. Bearings: opens, queries, answers, ink, erase, rerun and pause, and the gazetteer (06 R218 to R254). -/

namespace Sys2Proof.Machine

/-! ## Values (Table 6.3, Table 6.5, R225); VALUES are kept in record-block order, U16 and U64 little-endian -/

/-- KIND of a point. -/
def ptKind (pt : Bytes) : Nat := beAt 2 1 pt
/-- TOPK of a point. -/
def ptTopk (pt : Bytes) : Nat := beAt 5 1 pt
/-- LIMIT of a point. -/
def ptLimit (pt : Bytes) : Nat := beAt 14 2 pt
/-- STRIP of a point. -/
def ptStrip (pt : Bytes) : Nat := beAt 1 1 pt

/-- Session s is present. -/
def presentBit (m : BitVec 64) (s : Nat) : Bool := m.getLsbD s

/-- The sessions. -/
def sessionNos : List Nat := List.range 64

/-- Session s's values: TOPK indices of a ROUTE, the count of a COUNT, its bit of an EXIT. -/
def sessionValues (pt : Bytes) (v : Bytes) (s : Nat) : List Nat :=
  match ptKind pt with
  | 0 => (slice (s * ptTopk pt) (ptTopk pt) v).map (·.toNat)
  | 1 => [leAt (2 * s) 2 v]
  | _ => [bitsAt s 1 (leAt 0 8 v)]

/-- The expansion of DECLARED (R225). -/
def expandDeclared (pt : Bytes) (present : BitVec 64) : Bytes :=
  match ptKind pt with
  | 0 => fit 256 ((sessionNos.map fun s => if presentBit present s then slice 36 (ptTopk pt) pt else zeros (ptTopk pt)).flatten)
  | 1 => fit 256 ((sessionNos.map fun s => le 2 (if presentBit present s then beAt 36 2 pt else 0)).flatten)
  | _ => fit 256 (le 8 (beAt 36 8 pt &&& present.toNat))

/-- A ROUTE mask of some indices (R226). -/
def routeMask (l : List Nat) : Bytes :=
  (List.range 32).map fun i => BitVec.ofNat 8 ((List.range 8).foldl (fun a b => a + if 8 * i + b ∈ l then 2 ^ b else 0) 0)

/-- The prediction of DECLARED (Table 6.3). -/
def predDeclared (pt : Bytes) (present : BitVec 64) : Bytes :=
  if beAt 3 1 pt = 0 then expandDeclared pt present
  else match ptKind pt with
    | 0 => fit 256 (routeMask ((slice 36 (ptTopk pt) pt).map (·.toNat)))
    | 1 => fit 256 (le 2 (beAt 36 2 pt))
    | _ => fit 256 (le 8 (beAt 36 8 pt))

/-- The prediction of CARRIED from the last key-holder answer with its present mask (Table 6.3). -/
def predCarried (pt carried : Bytes) : Bytes :=
  let v := carried.take 256
  let was := BitVec.ofNat 64 (leAt 256 8 carried)
  let vals := ((sessionNos.filter (presentBit was)).map (sessionValues pt v)).flatten
  if beAt 3 1 pt = 0 then v
  else match ptKind pt with
    | 0 => fit 256 (routeMask vals)
    | 1 => fit 256 (le 2 (vals.foldl max 0))
    | _ => zeros 256

/-- An answer matches a prediction over the present sessions (Table 6.3). -/
def matchesPred (pt pred v : Bytes) (present : BitVec 64) : Bool :=
  let ss := sessionNos.filter (presentBit present)
  if beAt 3 1 pt = 0 then ss.all fun s => decide (sessionValues pt pred s = sessionValues pt v s)
  else match ptKind pt with
    | 0 => ss.all fun s => (sessionValues pt v s).all fun i => decide (bitsAt i 1 (leAt 0 32 pred) = 1)
    | 1 => ss.all fun s => (sessionValues pt v s).all fun c => decide (c ≤ leAt 0 2 pred)
    | _ => ss.all fun s => decide (bitsAt s 1 (leAt 0 8 pred) = 0) || decide (bitsAt s 1 (leAt 0 8 v) = 1)

/-- A list rises strictly. -/
def rising : List Nat → Bool
  | a :: b :: r => decide (a < b) && rising (b :: r)
  | _ => true

/-- VALUES of the wire in record-block order. -/
def toRecordOrder (kind : Nat) (wire : Bytes) : Bytes :=
  match kind with
  | 0 => wire
  | 1 => ((chunks 2 128 wire).map List.reverse).flatten
  | _ => (wire.take 8).reverse ++ wire.drop 8

/-- VALUES keep Table 6.5 for a point and the present sessions; absent sessions and every other byte are zero. -/
def valuesOk (pt v : Bytes) (present : BitVec 64) : Bool :=
  (sessionNos.all fun s =>
    let x := sessionValues pt v s
    if presentBit present s then
      match ptKind pt with
      | 0 => rising x && x.all fun i => decide (i < ptLimit pt)
      | 1 => x.all fun c => decide (c ≤ ptLimit pt)
      | _ => true
    else x.all (· == 0)) &&
    (match ptKind pt with
    | 0 => allZero (v.drop (64 * ptTopk pt))
    | 1 => allZero (v.drop 128)
    | _ => allZero (v.drop 8))

/-! ## The table -/

/-- Entry i of a partition's table. -/
def entryAt (d : Dev) (p i : Nat) : Option BearingEntry := tabGet none (d.partition p).table i

/-- Entry i replaced; none frees it. -/
def putEntry (d : Dev) (p i : Nat) (b : Option BearingEntry) : Dev :=
  let x := d.partition p
  d.setPartition p { x with table := tabSet none x.table i b, wdSkip := x.wdSkip || b.isSome }

/-- Outstanding entries of a strip. -/
def entriesOf (d : Dev) (p s : Nat) : List (Nat × BearingEntry) :=
  (List.range 16).filterMap fun i => match entryAt d p i with
    | some b => if b.strip = s then some (i, b) else none
    | none => none

/-- BSEQ a is older than b. -/
def olderSeq (a b : BitVec 32) : Bool := decide (a ≠ b) && decide ((b - a).toNat < 2 ^ 31)

/-- The quads of a partition. -/
def quadsOf (d : Dev) (p : Nat) : List Nat := (d.partition p).quadMap.map (·.toNat)

/-- Every quad of a partition changed. -/
def eachQuad (d : Dev) (p : Nat) (f : Quad → Quad) : Dev := (quadsOf d p).foldl (fun d n => d.setQuad n (f (d.quad n))) d

/-- BSEQ locator of a raise: LOC16 the strip, LOC64 the BSEQ (16 Table 16.3). -/
def raiseBearing (d : Dev) (s p strip : Nat) (bseq : BitVec 32) : Dev := raisePart d s p strip bseq.toNat

/-- The device-wide counters changed. -/
def Dev.updBearing (d : Dev) (f : BearingCount → BearingCount) : Dev := { d with bearing := f d.bearing }

/-! ## Tags (R232, R238, R239) -/

/-- A table of tags with some bits removed. -/
def untagTab (m : PTag) (t : Tab PTag) : Tab PTag := t.filterMap fun x => if x.2 &&& ~~~m = 0 then none else some (x.1, x.2 &&& ~~~m)

/-- Some bits removed from every tag of a quad (R238). -/
def untagQuad (m : PTag) (x : Quad) : Quad :=
  { x with
    tags := untagTab m x.tags
    coreTag := x.coreTag &&& ~~~m
    laneTag := x.laneTag &&& ~~~m
    cimTag := untagTab m x.cimTag
    sb := x.sb.map fun t => { t with tag := t.tag &&& ~~~m }
    outbound := x.outbound.map fun t => { t with tag := t.tag &&& ~~~m }
    inq := x.inq.map fun i => { i with msgs := i.msgs.map fun t => { t with tag := t.tag &&& ~~~m } }
    units := x.units.map fun l => l.map fun c => { c with tag := c.tag &&& ~~~m } }

/-- Some bits removed from every tag of a partition. -/
def untag (d : Dev) (p : Nat) (m : PTag) : Dev :=
  let d := eachQuad d p (untagQuad m)
  let x := d.partition p
  d.setPartition p { x with pageTags := untagTab m x.pageTags }

/-- A CIM array that reads as zero. -/
def zeroArray (a : CimArray) : CimArray :=
  { a with w := a.w.map fun _ => 0, s1 := a.s1.map fun _ => 0, s2 := a.s2.map fun _ => 0 }

/-- What an erase does to a quad (R239 steps 1 to 3). -/
def eraseQuad (d : Dev) (n : Nat) (m : PTag) : Dev :=
  let hit := fun (t : PTag) => decide (t &&& m ≠ 0)
  let d := ((d.quad n).tags.filter fun b => hit b.2).foldl (fun d b => zeroQuad d n (b.1 * 4096) ((b.1 + 1) * 4096)) d
  let x := d.quad n
  let lanes : Lanes := if hit x.laneTag then { x.lanes with v := [], q := [], m1 := 0, m2 := 0, m3 := 0 } else x.lanes
  d.setQuad n <| Quad.idleSince (x := x) (t := now d)
    { x with
      tags := x.tags.filter fun b => !hit b.2
      lanes := lanes
      laneTag := if hit x.laneTag then 0 else x.laneTag
      cim := x.cim.zipIdx.map fun a => if hit (tabGet 0 x.cimTag a.2) then zeroArray a.1 else a.1
      cimTag := x.cimTag.filter fun b => !hit b.2
      coreTag := x.coreTag &&& ~~~m
      sb := x.sb.filter fun t => !hit t.tag
      outbound := x.outbound.filter fun t => !hit t.tag
      inq := x.inq.map fun i => { i with msgs := i.msgs.filter fun t => !hit t.tag }
      units := x.units.map fun l => l.filter fun c => !hit c.tag }

/-- The source bytes of a taken record, and the record, carry a tag (R235). -/
def takenTag (d : Dev) (p : Nat) (t : TakenRec) : PTag := pageTag d p t.srcPage ||| pageTag d p (legNat d (0x5410 + p) 0x00)

/-- An erase of some bits (R239 steps 1 to 3): held results with such a tag are discarded. -/
def erase (d : Dev) (p : Nat) (m : PTag) : Dev :=
  let x := d.ptx p
  let d := d.setPtx p { x with taken := x.taken.filter fun t => decide (takenTag d p t &&& m = 0) }
  let d := (quadsOf d p).foldl (fun d n => eraseQuad d n m) d
  let pages := (d.partition p).pageTags.filter fun t => decide (t.2 &&& m ≠ 0)
  let d := pages.foldl (fun d t => match pageAddr d p t.1 0 with
    | some a => zeroStack d a (a + pageBytes)
    | none => d) d
  let x := d.partition p
  d.setPartition p { x with pageTags := x.pageTags.filter fun t => decide (t.2 &&& m = 0) }

/-- Bit of an entry. -/
def entryBit (i : Nat) : PTag := BitVec.ofNat 16 (2 ^ i)

/-! ## Notices and record blocks (R238, R246, Table 6.2, Table 6.7) -/

/-- SHIFT of a beat of a strip. -/
def shiftOf (d : Dev) (s beat : Nat) : Nat := (((d.strip s).beats.find? fun b => decide (b.beat = beat)).map (·.shift)).getD 0

/-- The beats of a strip changed. -/
def updBeat (d : Dev) (s beat : Nat) (f : BeatRec → BeatRec) : Dev :=
  let x := d.strip s
  d.setStrip s { x with beats := x.beats.map fun b => if b.beat = beat then f b else b }

/-- A beat of a strip whose points may still open, or that has a bearing outstanding, is kept (R221, R240). -/
def beatStays (d : Dev) (p s : Nat) (t : BeatRec) : Bool :=
  t.plan.any (fun x => decide (x.1 ∉ t.opened)) || (entriesOf d p s).any fun x => decide (x.2.beat = t.beat)

/-- The active points of a strip in the plan in force. -/
def planOf (d : Dev) (p s : Nat) : Tab Bytes := (d.partition p).plan.filter fun x => decide (beAt 0 1 x.2 = 1) && decide (ptStrip x.2 = s)

/-- A notice queued for every quad of the partition, in logical order. -/
def notice (d : Dev) (p kind i flags : Nat) (b : BearingEntry) : Dev :=
  let body := le 1 kind ++ le 1 b.point ++ le 1 i ++ le 1 flags ++ le 4 b.bseq.toNat ++ le 8 (now d).toNat ++ le 8 (shiftOf d b.strip b.beat) ++ zeros 32
  let q := beAt 7 1 b.plan
  let l := (List.range (d.partition p).quadMap.length).map fun l =>
    ({ partition := p, quad := l, queue := BitVec.ofNat 2 q, msg := { bytes := le 8 (headerOf (devField d) p l q 0 (beAt 20 4 b.plan)) ++ body, tag := 0 } } : Notice)
  { d with notices := d.notices ++ l }

/-- Bytes written into the record block of a point at an offset; they keep the block's tag. -/
def writeRecord (d : Dev) (p : Nat) (pt : Bytes) (off : Nat) (bs : Bytes) : Dev :=
  match physQuad d p (beAt 12 2 pt) with
  | some n => writeQuad d n (beAt 16 4 pt + off) bs
  | none => d

/-- ANSWER, STATUS, FLAGS and RESOLVED of a resolution, with PRED too for a rerun. -/
def writeResolved (d : Dev) (p : Nat) (b : BearingEntry) (v : Bytes) (status : Nat) : Dev :=
  let d := if status = 2 then writeRecord d p b.plan 0 v else d
  let d := writeRecord d p b.plan 256 v
  let d := writeRecord d p b.plan 516 (le 1 status ++ le 1 (bit b.defaulted))
  writeRecord d p b.plan 528 (le 8 (now d).toNat)

/-- The two newest stamps at which a bearing of a strip resolved with DEFAULTED (R244). -/
def noteDefaulted (d : Dev) (s : Nat) : Dev :=
  let x := d.strip s
  let d := d.updBearing fun c => { c with defaults := c.defaults + 1 }
  if x.defaultedAt.head? = some (now d) then d else d.setStrip s { x with defaultedAt := (now d :: x.defaultedAt).take 2 }

/-! ## Gazetteer counts (R250) -/

/-- A key holder's ROUTE answer counts each index of each present session. -/
def countRoute (d : Dev) (p : Nat) (b : BearingEntry) (v : Bytes) : Dev :=
  let x := d.partition p
  if ptKind b.plan ≠ 0 ∨ x.gaz.page = 0xFFFFFFFF then d
  else
    let layer := beAt 6 1 b.plan
    let counts := (sessionNos.filter (presentBit b.present)).foldl (fun c s =>
      (sessionValues b.plan v s).foldl (fun c i => tabSet 0 c (layer * 256 + i) (min 4294967295 (tabGet 0 c (layer * 256 + i) + 1))) c) x.gaz.counts
    d.setPartition p { x with gaz := { x.gaz with counts := counts } }

/-- A key holder's answer is carried for the point and counted (R226, R250). -/
def noteAnswer (d : Dev) (p : Nat) (b : BearingEntry) (v : Bytes) : Dev :=
  if b.defaulted then noteDefaulted d b.strip
  else
    let x := d.strip b.strip
    countRoute (d.setStrip b.strip { x with carried := tabSet [] x.carried b.point (v ++ le 8 b.present.toNat) }) p b v

/-! ## Resolution (R237 to R242) -/

/-- INK (R238). -/
def inkEntry (d : Dev) (p i : Nat) (b : BearingEntry) (v : Bytes) : Dev :=
  let d := writeResolved d p b v 1
  let d := putEntry (untag d p (entryBit i)) p i none
  let d := noteAnswer (d.updBearing fun c => { c with inked := c.inked + 1 }) p b v
  notice d p 0 i (bit b.defaulted) b

/-- The erase set of an entry: itself and every younger entry of its strip (R239). -/
def eraseSet (d : Dev) (p : Nat) (b : BearingEntry) : List (Nat × BearingEntry) :=
  (entriesOf d p b.strip).filter fun x => !olderSeq x.2.bseq b.bseq

/-- Steps 1 to 3 of R239 for an erase set; the younger entries' points may open again (R240). -/
def eraseEntries (d : Dev) (p i : Nat) (l : List (Nat × BearingEntry)) : Dev :=
  let d := erase d p (l.foldl (fun m x => m ||| entryBit x.1) 0)
  l.foldl (fun d x =>
    let d := putEntry d p x.1 none
    if x.1 = i then d
    else updBeat d x.2.strip x.2.beat fun t => { t with opened := t.opened.filter (· ≠ x.2.point) }) d

/-- Steps 4 to 6 of R239. -/
def rerunEnd (d : Dev) (p i : Nat) (b : BearingEntry) (v : Bytes) : Dev :=
  let d := writeResolved d p b v 2
  let d := updBeat d b.strip b.beat fun t => { t with shift := t.shift + (stampDiff b.openAt (now d)).toNat }
  let d := noteAnswer (d.updBearing fun c => { c with reruns := c.reruns + 1 }) p b v
  notice (putEntry d p i none) p 1 i (bit b.defaulted) b

/-- A bearing with its answer resolves: a paused one by steps 4 to 6 (R242), a match by ink, any other by rerun. -/
def resolve (d : Dev) (p i : Nat) (b : BearingEntry) (v : Bytes) : Dev :=
  if b.st = .paused then rerunEnd d p i b v
  else if matchesPred b.plan b.pred v b.present then inkEntry d p i b v
  else rerunEnd (eraseEntries d p i (eraseSet d p b)) p i b v

/-- The answer of a bearing: it waits ANSWERED, or stays PAUSED, until it resolves. -/
def landAnswer (d : Dev) (p i : Nat) (b : BearingEntry) (v : Bytes) (defaulted : Bool) : Dev :=
  putEntry d p i (some { b with answer := some v, defaulted := defaulted, st := if b.st = .paused then .paused else .answered })

/-- A HELD query whose page's tag is empty is accepted, or times out for want of room (R228, R388). -/
def acceptQuery (d : Dev) (p i : Nat) (b : BearingEntry) : Dev :=
  match enterQuery d p b.strip i b with
  | some d => putEntry d p i (some { b with st := if b.st = .paused then .paused else .sent, queryAt := some (now d) })
  | none => landAnswer (raiseBearing d 0xB5 p b.strip b.bseq) p i { b with queryAt := some (now d) } (expandDeclared b.plan b.present) true

/-- An entry whose query is held and can be sent; a bearing paused while its query was held still sends it. -/
def sendable (d : Dev) (p : Nat) (b : BearingEntry) : Bool :=
  (decide (b.st = .held) || decide (b.st = .paused)) && b.queryAt.isNone && b.answer.isNone && !b.dropped && decide (pageTag d p (beAt 24 4 b.plan) = 0)

/-- The oldest entry of its strip. -/
def oldestOfStrip (d : Dev) (p : Nat) (b : BearingEntry) : Bool := (entriesOf d p b.strip).all fun x => !olderSeq x.2.bseq b.bseq

/-- Entries of a partition in the order in which they opened. -/
def byOpen (d : Dev) (p : Nat) : List (Nat × BearingEntry) :=
  sortBy (fun x => x.2.openAt.toNat) ((List.range 16).filterMap fun i => (entryAt d p i).map fun b => (i, b))

/-- What can proceed now proceeds: resolutions in BSEQ order of each strip, then held queries in their order; `fuel`
bounds the rounds, each of which frees an entry or sends a query. -/
def settle (d : Dev) (p : Nat) : Nat → Dev
  | 0 => d
  | fuel + 1 =>
    let l := byOpen d p
    match l.find? fun x => x.2.answer.isSome && oldestOfStrip d p x.2 with
    | some (i, b) => settle (resolve d p i b (b.answer.getD [])) p fuel
    | none =>
      match l.find? fun x => sendable d p x.2 with
      | some (i, b) => settle (acceptQuery d p i b) p fuel
      | none => d

/-- Everything of a partition's table that can proceed. -/
def settleAll (d : Dev) (p : Nat) : Dev := settle d p 64

/-! ## Opens (R219 to R228) -/

/-- The planned open of a point in a beat, without SHIFT. -/
def plannedAt (pt : Bytes) (opening : Stamp) : Stamp := opening + BitVec.ofNat 60 (beAt 8 2 pt * 4096 + beAt 10 2 pt)

/-- A point is held back by a paused bearing of the same strip and beat (R240). -/
def heldBack (d : Dev) (p s point beat : Nat) (at_ : Stamp) (opening : Stamp) : Bool :=
  (entriesOf d p s).any fun x => decide (x.2.st = .paused) && decide (x.2.beat = beat) &&
    (let o := plannedAt x.2.plan opening
    before o at_ || (decide (o = at_) && decide (x.2.point < point)))

/-- PRED of an open, and the device after reading a sheet's (R226, R227). -/
def predOf (d : Dev) (p s point : Nat) (pt : Bytes) (present : BitVec 64) : Bytes × Dev :=
  match beAt 4 1 pt with
  | 0 => (predDeclared pt present, d)
  | 1 => (match tabGet [] (d.strip s).carried point with
    | [] => predDeclared pt present
    | c => predCarried pt c, d)
  | _ => match physQuad d p (beAt 12 2 pt) with
    | none => (zeros 256, d)
    | some n =>
      let r := readQuad d n (beAt 16 4 pt) 256
      if r.2.1 then (le 256 (drawFree r.2.2).1, (drawFree r.2.2).2) else (r.1, r.2.2)

/-- An open that takes no entry (R224): PRED and ANSWER are the expansion of DECLARED, with the DEFAULTED flag. The ENTRY
of its notice is a free value. -/
def openOverflow (d : Dev) (p : Nat) (b : BearingEntry) : Dev :=
  let v := expandDeclared b.plan b.present
  let f := drawFree d
  let d := writeRecord f.2 p b.plan 0 (v ++ v ++ le 4 b.bseq.toNat ++ le 1 1 ++ le 1 1 ++ zeros 2 ++ le 8 b.openAt.toNat ++ le 8 (now d).toNat)
  let d := noteDefaulted (d.updBearing fun c => { c with inked := c.inked + 1 }) b.strip
  let d := raiseBearing d 0xE9 p b.strip b.bseq
  notice d p 0 (f.1 % 256) 1 b

/-- An open that takes entry i (R222, R223, R228). -/
def openEntry (d : Dev) (p i : Nat) (b : BearingEntry) : Dev :=
  let r := predOf d p b.strip b.point b.plan b.present
  let b := { b with pred := r.1 }
  let d := if beAt 4 1 b.plan = 2 then r.2 else writeRecord r.2 p b.plan 0 r.1
  let d := writeRecord d p b.plan 256 (zeros 256 ++ le 4 b.bseq.toNat ++ zeros 4 ++ le 8 b.openAt.toNat ++ zeros 8)
  let d := match physQuad d p (beAt 12 2 b.plan) with
    | some n => d.setQuad n (tagSpan (d.quad n) (beAt 16 4 b.plan) 4096 (entryBit i))
    | none => d
  settleAll (putEntry d p i (some b)) p

/-- A point that is due opens. -/
def openPoint (d : Dev) (p point : Nat) (pt : Bytes) (beat : Nat) : Dev :=
  let s := ptStrip pt
  let x := d.strip s
  let b : BearingEntry := { st := .held, point := point, strip := s, bseq := x.bseq, beat := beat, openAt := now d, queryAt := none, present := x.present, answer := none, defaulted := false, pred := [], plan := pt }
  let d := d.setStrip s { x with bseq := x.bseq + 1 }
  let d := updBeat d s beat fun t => { t with opened := t.opened ++ [point] }
  let d := d.updBearing fun c => { c with opened := c.opened + 1 }
  match (List.range 16).find? fun i => (entryAt d p i).isNone with
  | some i => if 4 ≤ (entriesOf d p s).length then openOverflow d p b else openEntry d p i b
  | none => openOverflow d p b

/-- The open of a point in a beat, with its SHIFT (R220). -/
def pointStamp (t : BeatRec) (pt : Bytes) : Stamp := plannedAt pt t.opening + BitVec.ofNat 60 t.shift

/-- A point of a strip's beat that has not opened and is not held back. -/
def pointWaits (d : Dev) (p s : Nat) (t : BeatRec) (x : Nat × Bytes) : Bool :=
  decide (x.1 ∉ t.opened) && !heldBack d p s x.1 t.beat (plannedAt x.2 t.opening) t.opening

/-- A lower point of the partition that waits to open at the same stamp opens first (R220). -/
def lowerWaits (d : Dev) (p point : Nat) (at_ : Stamp) : Bool :=
  (stripsOf d p).any fun s => (d.strip s).beats.any fun t => t.plan.any fun x =>
    decide (x.1 < point) && decide (pointStamp t x.2 = at_) && pointWaits d p s t x

/-- The strip and the beat in which a point of a partition may open. -/
def pointBeat (d : Dev) (p point beat : Nat) : Option (Nat × BeatRec × Bytes) :=
  (stripsOf d p).findSome? fun s => (d.strip s).beats.findSome? fun t =>
    match tabGet [] t.plan point with
    | [] => none
    | pt => if t.beat = beat then some (s, t, pt) else none

/-- POINT_OPEN: the point was active as the beat opened, its open by R220 has come, it waits, and no lower point of the
same stamp does. -/
def execPointOpen (e : Nat) (partition point beat : Nat) (s : State) : Res :=
  let d := s.dev.at e
  let p := partition
  onUnit s (decide (p < 64) && decide (point < 64))
    (if (d.partition p).st = .running ∨ (d.partition p).st = .replaying then
      match pointBeat d p point beat with
      | none => d
      | some (strip, t, pt) =>
        if pointWaits d p strip t (point, pt) ∧ reached d (pointStamp t pt) ∧ ¬ lowerWaits d p point (pointStamp t pt) then
          openPoint d p point pt beat
        else d
    else d)

/-! ## Windows (R241, R243) -/

/-- The pencil budget of an entry has closed: it is paused and its erase set erased (R241). -/
def pauseEntry (d : Dev) (p i : Nat) (b : BearingEntry) : Dev :=
  let l := eraseSet d p b
  let gone := decide (b.st = .held) && decide (pageTag d p (beAt 24 4 b.plan) &&& l.foldl (fun m x => m ||| entryBit x.1) 0 ≠ 0)
  let d := eraseEntries d p i l
  let b := { b with st := .paused, dropped := gone }
  let d := putEntry d p i (some b)
  let d := writeRecord d p b.plan 516 (le 1 3)
  let d := raiseBearing (d.updBearing fun c => { c with pauses := c.pauses + 1 }) 0xEB p b.strip b.bseq
  notice d p 2 i 0 b

/-- The budget of entry i is due. -/
def budgetDue (d : Dev) (p : Nat) (b : BearingEntry) : Bool :=
  decide (b.st ≠ .paused) && reached d (after b.openAt (d.partition p).pencilBudget.toNat)

/-- The timeout of an entry is due. -/
def timeoutDue (d : Dev) (b : BearingEntry) : Bool :=
  b.answer.isNone && (match b.queryAt with
    | some q => decide (b.st ≠ .held) && reached d (after q 400)
    | none => false)

/-- BEARING_TIMEOUT's effect on an entry (R243). -/
def timeoutEntry (d : Dev) (p i : Nat) (b : BearingEntry) : Dev :=
  landAnswer (raiseBearing d 0xE8 p b.strip b.bseq) p i b (expandDeclared b.plan b.present) true

/-- The windows of an entry that have closed take their effect, the budget before the timeout. -/
def expireEntry (d : Dev) (p i : Nat) : Dev :=
  let d := match entryAt d p i with
    | some b => if budgetDue d p b then pauseEntry d p i b else d
    | none => d
  match entryAt d p i with
  | some b => if timeoutDue d b then timeoutEntry d p i b else d
  | none => d

/-- PENCIL_BUDGET: the window has closed with the bearing unresolved. -/
def execPencilBudget (e : Nat) (partition entry : Nat) (s : State) : Res :=
  let d := s.dev.at e
  onUnit s (decide (partition < 64) && decide (entry < 16))
    (match entryAt d partition entry with
    | some b => if budgetDue d partition b then settleAll (pauseEntry d partition entry b) partition else d
    | none => d)

/-- BEARING_TIMEOUT: 400 ticks have passed since the query without an answer. -/
def execBearingTimeout (e : Nat) (partition entry : Nat) (s : State) : Res :=
  let d := s.dev.at e
  onUnit s (decide (partition < 64) && decide (entry < 16))
    (match entryAt d partition entry with
    | some b => if timeoutDue d b then settleAll (timeoutEntry d partition entry b) partition else d
    | none => d)

/-! ## Answers (R230, R231, R237) -/

/-- A stray answer. -/
def strayAnswer (d : Dev) (p s : Nat) (bseq : BitVec 32) : Dev :=
  raiseBearing (d.updBearing fun c => { c with strays := c.strays + 1 }) 0xEC p s bseq

/-- An authenticated answer lands: 264 octets of Table 6.5 for a strip of the partition. -/
def answerLands (d : Dev) (p s : Nat) (octets : Bytes) : Dev :=
  let bseq : BitVec 32 := BitVec.ofNat 32 (beAt 0 4 octets)
  let pick := fun (d : Dev) => (entriesOf d p s).find? fun x => decide (x.2.bseq = bseq)
  let d := match pick d with
    | some (i, _) => expireEntry d p i
    | none => d
  match pick d with
  | none => settleAll (strayAnswer d p s bseq) p
  | some (i, b) =>
    if b.answer.isSome then settleAll (strayAnswer d p s bseq) p
    else
      let v := toRecordOrder (ptKind b.plan) (fit 256 (octets.drop 8))
      let ok := decide (beAt 4 1 octets = b.point) && decide (beAt 5 1 octets = ptKind b.plan) && decide (beAt 6 1 octets = ptTopk b.plan) &&
        decide (beAt 7 1 octets = 0) && valuesOk b.plan v b.present
      if ok then settleAll (landAnswer d p i b v false) p
      else
        let d := raiseBearing (d.updBearing fun c => { c with malformed := c.malformed + 1 }) 0xEA p s bseq
        settleAll (landAnswer d p i b (expandDeclared b.plan b.present) true) p

/-- BEARING_ANSWER: the oldest answer that has landed for the partition. -/
def execBearingAnswer (e : Nat) (partition : Nat) (s : State) : Res :=
  let d := s.dev.at e
  let x := d.ptx partition
  onUnit s (decide (partition < 64))
    (match x.answers with
    | [] => d
    | (strip, octets, _) :: rest => answerLands (d.setPtx partition { x with answers := rest }) partition strip octets)

/-! ## Gazetteer (R248 to R254) -/

/-- A partition's gazetteer changed. -/
def updGaz (d : Dev) (p : Nat) (f : Gaz → Gaz) : Dev :=
  let x := d.partition p
  d.setPartition p { x with gaz := f x.gaz }

/-- Bytes written into the gazetteer page. -/
def writeGaz (d : Dev) (p off : Nat) (bs : Bytes) : Dev := writePage d p (d.partition p).gaz.page.toNat off bs

/-- A count interval ends for one partition (R251): the counts and their stamps are written, and restart. -/
def gazInterval (d : Dev) (p : Nat) (edge : Stamp) : Dev :=
  let g := (d.partition p).gaz
  if g.page = 0xFFFFFFFF ∨ g.countStart = edge then d
  else
    let d := writeGaz d p 16 (le 8 g.countStart.toNat ++ le 8 edge.toNat)
    let d := writeGaz d p 0x30000 (((List.range 4096).map fun i => le 4 (tabGet 0 g.counts i)).flatten)
    updGaz d p fun g => { g with counts := [], countStart := edge }

/-- GAZ_COUNT_INTERVAL: the present tick is a multiple of 2^GAZ_REVISION_LOG2, or the edge stepped over one (02 R54); the
interval ends at that multiple. -/
def execGazCountInterval (e : Nat) (s : State) : Res :=
  let d := s.dev.at e
  let t := d.grat.tick.toNat
  let end_ : TickNo := BitVec.ofNat 48 (t - t % 2 ^ legNat d 0x4800 0x00)
  let edge := stampOf end_ 0
  .next (s.withDev
    (if d.grat.everLocked ∧ dueNow d end_ then (d.parts.map (·.1)).foldl (fun d p => gazInterval d p edge) d else d))

/-- GAZ_PAGE set (R249): header, both slots and the counts start anew. -/
def setGazPage (d : Dev) (p : Nat) (page : BitVec 32) : Dev :=
  let d := updGaz d p fun _ => { page := page, countStart := now d }
  if page = 0xFFFFFFFF then d
  else
    let d := writeGaz d p 0 (ascii "ZXGZ" ++ zeros 28)
    writeGaz d p 0x10000 (zeros 0x20000)

/-- GAZ_PAGE. -/
def execGazPage (e : Nat) (partition : Nat) (page : BitVec 32) (s : State) : Res :=
  let d := s.dev.at e
  onUnit s (decide (partition < 64)) (bumpChange (setGazPage d partition page) (legKey (0x4810 + partition) 0x00))

/-- Epoch in force. -/
def gazEpoch (g : Gaz) : BitVec 16 := if g.current = 0 then g.epoch0 else g.epoch1

/-- A committed image becomes the next epoch, in force at once (R252). -/
def putGazNext (d : Dev) (p : Nat) (image : Bytes) : Dev :=
  let g := (d.partition p).gaz
  let slot := 1 - g.current.toNat
  let ep := gazEpoch g + 1
  let d := writeGaz d p (0x10000 * (1 + slot)) image
  let d := updGaz d p fun g => { g with current := BitVec.ofNat 1 slot, unretired := true, epoch0 := if slot = 0 then ep else g.epoch0, epoch1 := if slot = 1 then ep else g.epoch1 }
  let g := (d.partition p).gaz
  writeGaz d p 4 (le 2 slot ++ le 2 g.epoch0.toNat ++ le 2 g.epoch1.toNat)

/-- GAZ_NEXT: a conflict while the slot not in force holds an unretired epoch; a partition without a gazetteer has no slot
to write. -/
def execGazNext (e : Nat) (partition : Nat) (image : Bytes) (s : State) : Res :=
  let d := s.dev.at e
  let g := (d.partition partition).gaz
  onUnit s (decide (partition < 64))
    (if image.length = 0x10000 ∧ g.page ≠ 0xFFFFFFFF ∧ ¬ g.unretired then
      bumpChange (putGazNext d partition image) (legKey (0x4810 + partition) 0x01)
    else d)

/-- The strips of a partition open a beat under the epoch in force; the older epoch is retired when every strip has
(R253, R254). -/
def gazBeat (d : Dev) (p : Nat) (strips : List Nat) : Dev :=
  let g := (d.partition p).gaz
  if g.page = 0xFFFFFFFF then d
  else
    let ep := gazEpoch g
    let d := updGaz d p fun g => { g with stripEpoch := strips.foldl (fun t s => tabSet none t s (some ep)) g.stripEpoch }
    let g := (d.partition p).gaz
    if g.unretired ∧ strips.all (fun s => decide (tabGet none g.stripEpoch s = some ep)) then
      let old := if g.current = 0 then g.epoch1 else g.epoch0
      writeGaz (updGaz d p fun g => { g with unretired := false, retired := old }) p 10 (le 2 old.toNat)
    else d

end Sys2Proof.Machine
end

