-- ==== Sys2Proof/Machine/Rolls.lean ====
section
/-! DEFINITION. Strips placed and closed, sessions aborted, and the application of rolling writes partition by partition
(07 R278 to R280, R288 to R291; 13 R529 to R534). -/

namespace Sys2Proof.Machine

/-- A partition changed. -/
def updPart (d : Dev) (p : Nat) (f : Partition → Partition) : Dev := d.setPartition p (f (d.partition p))

/-- A strip changed. -/
def updStrip (d : Dev) (s : Nat) (f : Strip → Strip) : Dev := d.setStrip s (f (d.strip s))

/-- A strip's transport state changed. -/
def updStx (d : Dev) (s : Nat) (f : StripTx → StripTx) : Dev := d.setStx s (f (d.stx s))

/-- A partition's own Legend entry. -/
def partNat (d : Dev) (p sub : Nat) : Nat := legNat d (0x3000 + p) sub

/-- A strip's own Legend entry. -/
def stripNat (d : Dev) (s sub : Nat) : Nat := legNat d (0x4000 + s) sub

/-- The partition's beats open: Table 7.1, RUNNING or REPLAYING. -/
def partLive (x : Partition) : Bool := decide (x.st = .running) || decide (x.st = .replaying)

/-! ## Strip states (R280) -/

/-- The state of a primary strip from its partition's; a PLACED strip waits for its first opening. -/
def stripFollow (p : PartState) (s : StripState) : StripState :=
  match s, p with
  | .shadow, _ | .closing, _ | .free, _ => s
  | _, .stopped => .stopped
  | _, .handedOver => .handedOver
  | _, .loading | _, .free => .placed
  | .placed, _ => .placed
  | _, .running => .running
  | _, _ => .recovering

/-- The record of a strip dropped from a checkpoint. -/
def Ckpt.without (c : Ckpt) (s : Nat) : Ckpt := { c with strips := c.strips.filter fun x => decide (x.strip ≠ s) }

/-- What stays of a freed strip's session slots: which were aborted, for the results that enter later (R290). -/
def Session.afterFree (t : Session) : Session :=
  if t.st = .aborted then { st := .aborted, abortAt := t.abortAt, abortOrd := t.abortOrd } else {}

/-- A strip context emptied: no frames, no sessions, no part in its partition's checkpoints; its counters and sequences
are kept, and what its last results still ask for: the aborted slots and the DEFAULTED stamps (R279, R290, 06 R244, log
25). -/
def freeStrip (d : Dev) (s : Nat) : Dev :=
  let d := updPart d (d.strip s).partition.toNat fun x => { x with ckpt0 := x.ckpt0.map (·.without s), ckpt1 := x.ckpt1.map (·.without s), base := x.base.map (·.without s) }
  let d := updStrip d s fun x => { x with st := .free, partition := 0xFF, present := 0, sessions := tabMap {} Session.afterFree x.sessions, beats := [], carried := [] }
  updStx d s fun x => { x with asm := none, discarding := none, ring := [], claims := List.range 16, slip := [], fedNow := none, fedPrev := none, fedReplay := none, fedReplayPrev := none, fedUpTo := none, feeds := [], landedOnce := false }

/-- Frames held back on entering STOPPED or HANDED_OVER (R280). -/
def dropFrames (d : Dev) (s : Nat) : Dev :=
  updStx d s fun x => { x with asm := none, discarding := none, slip := [], tokens := stripNat d s 0x27 }

/-! ## Sessions aborted (R288 to R291) -/

/-- Session slot n of a strip. -/
def sessionOf (x : Strip) (n : Nat) : Session := tabGet {} x.sessions n

/-- Session slot n of a strip replaced. -/
def Strip.setSession (x : Strip) (n : Nat) (t : Session) : Strip := { x with sessions := tabSet {} x.sessions n t }

/-- ABORT_STATUS of a slot. -/
def Strip.setStatus (x : Strip) (n : Nat) (v : Byte) : Strip := { x with abortStatus := setNth x.abortStatus n v }

/-- A slot holds a session: one in force, or one that has ended with a turn pending (R284). -/
def Session.holds (t : Session) : Bool := decide (t.st = .active) || t.ctx.isSome

/-- One slot's session aborted at a stamp and ordinal sub-tick (R288 to R291): the mask in force loses it from the next
opening; one aborted before stays as it is. -/
def abortSlot (stamp : Stamp) (ord : Nat) (x : Strip) (n : Nat) : Strip :=
  let t := sessionOf x n
  if ¬ t.holds then x.setStatus n 0
  else if t.st = .aborted then x.setStatus n 1
  else if t.turns.isEmpty ∧ t.doneAt.isSome then x.setStatus n 2
  else (x.setSession n { t with st := .aborted, abortAt := stamp, abortOrd := ord, cleared := false }).setStatus n 1

/-- Every session of a strip aborted (R279): slots without one keep their status. -/
def abortAll (stamp : Stamp) (ord : Nat) (x : Strip) : Strip :=
  ((List.range 64).filter fun n => (sessionOf x n).holds).foldl (abortSlot stamp ord) x

/-- Slots named by a mask. -/
def slotsOf (m : BitVec 64) : List Nat := (List.range 64).filter fun n => m.getLsbD n

/-! ## Placing and closing (R278 to R280) -/

/-- A FREE strip placed in a partition: ring and slip buffer empty, policer full, BSEQ from 0 (R278, R365, 06 R222). A
shadow lands its peer's frames (R301). -/
def placeStrip (d : Dev) (s p : Nat) : Dev :=
  let d := updStrip (freeStrip d s) s fun x => { x with sessions := [] }
  let st := if stripNat d s 0x03 = 1 then StripState.shadow else stripFollow (d.partition p).st .placed
  let d := updStrip d s fun x => { x with st := st, partition := BitVec.ofNat 8 p, bseq := 0 }
  updStx d s fun x => { x with tokens := stripNat d s 0x27 }

/-- A strip closes: every session is aborted at this stamp, and no frame is taken from now on (R279). In a partition
that opens no beats it is free at once (log 25). -/
def closeStrip (d : Dev) (s : Nat) : Dev :=
  let d := updStrip d s fun x => { abortAll (now d) (ordinal d) x with present := 0 }
  if partLive (d.partition (d.strip s).partition.toNat) then dropFrames (updStrip d s fun x => { x with st := .closing }) s
  else freeStrip d s

/-! ## Rolling entries (13 R509, R529) -/

/-- PENCIL_BUDGET, bearing points, and a strip's PARTITION are rolling (06 Table 6.9, 07 Table 7.7). -/
def isRolling (key : Nat) : Bool :=
  decide (key = 0x490000) || (decide (0x494000 ≤ key) && decide (key < 0x498000)) || (decide (0x400000 ≤ key) && decide (key < 0x410000) && decide (key % 256 = 1))

/-- The rolling entries that a transaction staged. -/
def rollingOf (t : Txn) : List Staged := t.staged.filter fun x => isRolling x.key

/-- The partitions a rolling write affects (R529). -/
def rollTargets (d : Dev) (x : Staged) : List Nat :=
  let idx := x.key / 256
  let named := fun (p : Nat) => if p < 64 ∧ (d.partition p).st ≠ .free then [p] else []
  if idx = 0x4900 then (List.range 64).filter fun p => decide ((d.partition p).st ≠ .free)
  else if idx < 0x4100 then named (if beVal x.value = 0xFF then (d.strip (idx - 0x4000)).partition.toNat else beVal x.value)
  else named (idx - 0x4940)

/-- A rolling value takes effect in a partition. -/
def rollPut (d : Dev) (p key : Nat) (v : Bytes) : Dev :=
  let idx := key / 256
  if idx = 0x4900 then updPart d p fun x => { x with pencilBudget := BitVec.ofNat 16 (beVal v) }
  else if idx = 0x4940 + p then updPart d p fun x => { x with plan := tabSet [] x.plan (key % 256) (if allZero v then [] else v) }
  else if 0x4000 ≤ idx ∧ idx < 0x4100 then
    let x := d.strip (idx - 0x4000)
    if beVal v = p then (if x.st = .free then placeStrip d (idx - 0x4000) p else d)
    else if x.partition.toNat = p ∧ x.st ≠ .closing then closeStrip d (idx - 0x4000)
    else d
  else d

/-! ## Transactions that roll (13 R529 to R534) -/

/-- State codes of 13 Table 13.7. -/
def txnCode : TxnState → Nat
  | .free => 0
  | .open_ => 1
  | .pending => 2
  | .committing => 3
  | .committed => 4
  | .rollingBack => 5
  | .rolledBack => 6
  | .failed => 7

/-- Octets staged (R523). -/
def stagedBytes (t : Txn) : Nat := (t.staged.map fun x => x.value.length).foldl (· + ·) 0

/-- A transaction record (13 Table 13.10). -/
def txnBytes (t : Txn) : Bytes :=
  be 1 (txnCode t.st) ++ be 1 t.owner.toNat ++ zeros 2 ++ be 4 t.number.toNat ++ be 2 t.staged.length ++ zeros 2 ++ be 4 (stagedBytes t) ++ be 2 t.n ++ be 2 t.m ++ zeros 4 ++
    be 8 t.beginAt.toNat ++ be 8 t.t0.toNat ++ be 8 t.endAt.toNat ++ be 2 t.failIndex.toNat ++ be 1 t.failSub.toNat ++ be 1 t.reason.toNat ++ zeros 12

/-- A transaction reaches a final state, which the subscribers of TXN are told (R536, Table 13.9). -/
def endTxn (d : Dev) (r : Nat) (st : TxnState) : Dev :=
  let t := { d.txn r with st := st, endAt := now d, endOrd := ordinal d }
  let d := d.setTxn r t
  let d := if st = .committed then { d with ez := { d.ez with commits := d.ez.commits + 1 } } else d
  txnEvent d (txnCode st) t.failIndex.toNat t.failSub.toNat ((txnBytes t).take 32)

/-- A transaction whose applications or reverts are all made ends (R531, R534). -/
def settleTxn (d : Dev) (r : Nat) : Dev :=
  let t := d.txn r
  if t.st = .committing ∧ t.todo.isEmpty then endTxn d r .committed
  else if t.st = .rollingBack ∧ t.applied.isEmpty ∧ t.reverted then endTxn d r .rolledBack
  else d

/-- One partition applies a transaction's rolling writes. -/
def applyTxn (d : Dev) (r p : Nat) : Dev :=
  let d := (rollingOf (d.txn r)).foldl (fun d x => rollPut d p x.key x.value) d
  let t := d.txn r
  settleTxn (d.setTxn r { t with n := t.n + 1, todo := t.todo.filter (· ≠ p), applied := p :: t.applied }) r

/-- One partition reverts them. -/
def revertTxn (d : Dev) (r p : Nat) : Dev :=
  let d := ((d.txn r).before.filter fun x => isRolling x.1).foldl (fun d x => rollPut d p x.1 x.2) d
  let t := d.txn r
  d.setTxn r { t with n := t.n - 1, applied := t.applied.filter (· ≠ p), revertAt := now d }

/-- Reverts due in partitions that open no beats follow each other at once; `fuel` bounds their number. -/
def chainReverts (d : Dev) (r : Nat) : Nat → Dev
  | 0 => settleTxn d r
  | fuel + 1 =>
    let t := d.txn r
    match t.applied with
    | p :: _ => if t.st = .rollingBack ∧ ¬ partLive (d.partition p) then chainReverts (revertTxn d r p) r fuel else settleTxn d r
    | [] => settleTxn d r

/-- Transaction records in the order of their COMMITs. -/
def txnOrder (d : Dev) : List Nat := sortBy (fun r => (d.txn r).commitOrder) (List.range 16)

/-- The rolling writes due in a partition: at its beat opening `at_`, or at once when it opens no beats (R529, R534). -/
def rollsDue (d : Dev) (p : Nat) (at_ : Option Stamp) : Dev :=
  (txnOrder d).foldl (fun d r =>
    let t := d.txn r
    if t.st = .committing ∧ p ∈ t.todo then applyTxn d r p
    else if t.st = .rollingBack ∧ t.applied.head? = some p then
      match at_ with
      | some o => if before t.revertAt o then chainReverts (revertTxn d r p) r 64 else d
      | none => chainReverts d r 64
    else d) d

/-! ## Roll-back (13 R533 to R535) -/

/-- A roll-back that takes effect counts (R535). -/
def countRollback (d : Dev) : Dev := { d with ez := { d.ez with rollbacks := d.ez.rollbacks + 1 } }

/-- An OPEN or PENDING transaction discards its staged writes (R533); reason 4 when it was idle (R525). -/
def discardTxn (d : Dev) (r : Nat) (reason : Byte) : Dev :=
  endTxn (countRollback (d.setTxn r { d.txn r with staged := [], reason := reason })) r .rolledBack

/-- Strips that a transaction placed in partitions which now never apply it are free again (R534). -/
def unplace (d : Dev) (t : Txn) : Dev :=
  (rollingOf t).foldl (fun d x =>
    let s := x.key / 256 - 0x4000
    if x.key / 256 < 0x4100 ∧ beVal x.value ∈ t.todo ∧ (d.strip s).st = .placed ∧ (d.strip s).partition.toNat = beVal x.value then freeStrip d s else d) d

/-- A COMMITTING transaction begins to roll back: its rolling entries read their values before T, partitions that have
not applied never do, and reverts that wait for no beat opening follow at once (R534). -/
def unrollTxn (d : Dev) (r : Nat) : Dev :=
  let t := d.txn r
  let d := unplace d t
  let d := (t.before.filter fun x => isRolling x.1).foldl (fun d x => ownChange d (x.1 / 256) (x.1 % 256) x.2) d
  chainReverts (countRollback (d.setTxn r { d.txn r with st := .rollingBack, todo := [], rollAt := now d, revertAt := now d, reverted := false })) r 64

/-- A transaction rolled back in the state it is in; one that is complete stands. -/
def rollbackTxn (d : Dev) (r : Nat) : Dev :=
  match (d.txn r).st with
  | .open_ | .pending => discardTxn d r 0
  | .committing => unrollTxn d r
  | _ => d

end Sys2Proof.Machine
end

