-- ==== Sys2Proof/Machine/Contour.lean ====
section
/-! DEFINITION. The contour loops: each quad's target clock and voltage, load hints, droop, calibration holes, guarding
and thermal throttling (15 R596 to R604). The voltage recorded is the loop's target; its slew takes no time here
(assumption log 40). -/

namespace Sys2Proof.Machine

/-- A contour loop changed. -/
def updContour (d : Dev) (q : Nat) (f : Contour → Contour) : Dev := d.setContour q (f (d.contour q))

/-- A quad holds a sheet. -/
def sheetOn (x : Quad) : Bool := decide (x.st = .loaded) || decide (x.st = .running) || decide (x.st = .trapped)

/-! ## Clock and voltage (R596 to R599) -/

/-- A value rounded up to 5 mV. -/
def up5 (n : Nat) : Nat := (n + 4) / 5 * 5

/-- V_cal at a clock: a curve point, or the two about it interpolated linearly and rounded up to 5 mV; none when it
exceeds 850 mV (17 R640). -/
def vcal (curve : List (BitVec 16)) (mhz : Nat) : Option Nat :=
  let i := (mhz - 900) / 100
  let r := (mhz - 900) % 100
  let a := (nth 0xFFFF curve i).toNat
  let b := (nth 0xFFFF curve (i + 1)).toNat
  if a = 0xFFFF then none
  else if r = 0 then some a
  else if b = 0xFFFF then none
  else some (up5 ((a * (100 - r) + b * r + 99) / 100))

/-- The target clock before CONTOUR_LIMIT (R597). -/
def wantedMhz (x : Quad) (c : Contour) : Nat :=
  if c.throttled then 900 else if c.guarded then 1600 else if sheetOn x then x.clockMhz else 900

/-- LEVEL in force: a quad without hints or sheet uses 15; a lead gives the higher of two levels (R599, R600). -/
def levelOf (x : Quad) (c : Contour) : Nat :=
  if sheetOn x ∧ ¬ x.hints.isEmpty then max c.level.toNat ((c.leadLevel.map (·.toNat)).getD 0) else 15

/-- The voltage a loop adds to V_cal. -/
def aboveCal (d : Dev) (x : Quad) (c : Contour) : Nat := levelOf x c * legNat d 0x8800 0x01 + (if c.guarded then 25 else 0)

/-- The highest clock, in steps of 25 MHz down from `mhz`, whose target is within 850 mV, with that target (R598); at 900
MHz nothing lower is left, and the target is held at 850 mV (assumption log 40). -/
def fitClock (curve : List (BitVec 16)) (add extra mhz : Nat) : Nat → Nat × Nat
  | 0 => (mhz, 850)
  | fuel + 1 =>
    let v := (vcal curve mhz).map fun v => up5 (v + add) + extra
    match v with
    | some v => if v ≤ 850 then (mhz, v) else if mhz < 925 then (900, 850) else fitClock curve add extra (mhz - 25) fuel
    | none => if mhz < 925 then (900, 850) else fitClock curve add extra (mhz - 25) fuel

/-- The target of a die's rail: the highest among its quads (R596). -/
def railTarget (d : Dev) (die : Nat) : Nat :=
  (d.contours.map fun c => if c.1 / 64 = die ∧ c.2.powered then c.2.voltageMv else 0).foldl max 0

/-- A change of a rail's target is written over AVSBus (18 R654). -/
def writeRail (before : Nat) (die : Nat) (d : Dev) : Dev :=
  let v := railTarget d die
  if v = before ∨ v = 0 then d else d.emit (.avs die v)

/-- A quad's loop sets its clock and voltage anew; CONTOUR_LIMIT is raised when the clock begins to be lowered (R598). -/
def refreshContour (d : Dev) (q : Nat) : Dev :=
  let c := d.contour q
  if c.powered then
    let x := d.quad q
    let want := wantedMhz x c
    let fit := fitClock (tabGet [] d.start.curves q) (aboveCal d x c) c.extraMv want 40
    let limited := decide (fit.1 < want)
    let mhz := if c.halved then fit.1 / 2 else fit.1
    let d := writeRail (railTarget d (q / 64)) (q / 64) (d.setContour q { c with clockMhz := mhz, voltageMv := fit.2, limited := limited })
    if limited ∧ ¬ c.limited then raiseQuad d 0x22 q mhz 0 [] false else d
  else d

/-- Every powered loop set anew: a commit of LEVEL_MV. -/
def refreshContours (d : Dev) : Dev := (d.contours.map (·.1)).foldl refreshContour d

/-- The end of a sheet load counts as the end of a hole, and the quad's hints begin afresh (R602). -/
def contourLoaded (d : Dev) (q : Nat) : Dev :=
  refreshContour (updContour d q fun c => { c with level := 15, leadLevel := none, extraMv := 0, halved := false, holeEnd := now d }) q

/-- A loop powered: its quad reset, its contour at V_cal(900) (Table 15.6; 17 Table 17.1). -/
def powerContour (d : Dev) (q : Nat) : Dev := refreshContour (d.setContour q { powered := true, holeEnd := now d, droops := (d.contour q).droops }) q

/-- Contour state of a quad (Table 15.9). -/
def contourCode (c : Contour) : Nat :=
  if ¬ c.powered then 0 else if c.throttled then 4 else if c.guarded then 3 else if c.halved ∨ c.extraMv ≠ 0 then 2 else 1

/-- A raise of a contour source: LOC16 the quad's clock in MHz (16 Table 16.3). -/
def raiseContour (d : Dev) (s q : Nat) : Dev := raiseQuad d s q (d.contour q).clockMhz 0 [] false

/-- A command on a powered, fitted quad's loop. -/
def contourRow (q : QuadAt) (s : State) (f : Dev → Nat → Dev) : Res :=
  let n := q.quad.toNat
  let d := s.dev.at q.e
  onUnit s (decide (n < quadsFitted s.dev)) (if (d.contour n).powered then f d n else d)

/-! ## Hints (R112, R599, R600) -/

/-- Start of a timed record within the sheet's period, in sub-ticks. -/
def recStart (r : TimedRec) : Nat := r.tickOff * 4096 + r.sub

/-- The present place in the sheet's period, in sub-ticks: offsets count from the partition's beat opening plus
START_OFFSET (R112, R603), and before it backwards from there (log 52); none before the first beat. -/
def sheetPhase (d : Dev) (q : Nat) : Option Nat :=
  match quadOwner d q with
  | some (p, _) =>
    let x := d.quad q
    let y := d.partition p
    if sheetOn x ∧ y.begun ∧ 0 < x.period then
      some (stampDiff (after y.opening x.startOffset) (now d) % ((x.period * 4096 : Nat) : Int)).toNat
    else none
  | none => none

/-- The hint record whose interval holds a place in the period. -/
def hintAt (x : Quad) (phase : Nat) : Option Nat :=
  let l := (List.range x.hints.length).filter fun i => match x.hints[i]? with
    | some r => decide (recStart r ≤ phase)
    | none => false
  match l.getLast? with
  | some i => some i
  | none => if x.hints.isEmpty then none else some (x.hints.length - 1)

/-- HINT_CHANGE: at the hint its LEVEL is in force and a droop's gain ends; at the lead only a rise begins. -/
def hintChange (rcd : Nat) (lead : Bool) (d : Dev) (q : Nat) : Dev :=
  let x := d.quad q
  match sheetPhase d q, x.hints[rcd]? with
  | some phase, some r =>
    let place := if lead then (phase + legNat d 0x8800 0x00) % (x.period * 4096) else phase
    if hintAt x place = some rcd then
      let level := BitVec.ofNat 8 r.level
      if lead then refreshContour (updContour d q fun c => { c with leadLevel := some level }) q
      else refreshContour (updContour d q fun c => { c with level := level, leadLevel := none, extraMv := 0 }) q
    else d
  | _, _ => d

/-- HINT_CHANGE. -/
def execHintChange (q : QuadAt) (record : Nat) (lead : Bool) (s : State) : Res := contourRow q s (hintChange record lead)

/-! ## Droop (R601) -/

/-- DROOP: the clock halves and the target gains 5 mV. -/
def droopAt (cyc : Nat) (d : Dev) (q : Nat) : Dev :=
  let d := updContour d q fun c => { c with halved := true, extraMv := c.extraMv + 5, droops := c.droops + 1, droopCyc := cyc }
  let d := { d with dormant := { d.dormant with droops := d.dormant.droops + 1 } }
  raiseContour (refreshContour d q) 0x21 q

/-- DROOP: a margin below DROOP_TRIP_MV. -/
def execDroop (q : DroopAt) (s : State) : Res :=
  contourRow q.quad s fun d n => if q.marginMv < legNat d 0x8800 0x03 then droopAt q.quad.cyc d n else d

/-- DROOP_RECOVERY: 256 cycles without droop. -/
def execDroopRecovery (q : QuadAt) (s : State) : Res :=
  contourRow q s fun d n =>
    if (d.contour n).halved ∧ (d.contour n).droopCyc + 256 ≤ q.cyc then refreshContour (updContour d n fun c => { c with halved := false }) n else d

/-! ## Holes and guarding (R602) -/

/-- The sensors are zeroed at the end of a used hole. -/
def zeroSensors (d : Dev) (q : Nat) (at_ : Stamp) : Dev :=
  refreshContour (updContour d q fun c => { c with holeEnd := at_, guarded := false }) q

/-- CALIBRATION_HOLE_END: a hole in which the core retired nothing and no unit was busy is used (03 R114). A quad without
a sheet uses a hole of its own every 1,024 ticks. -/
def holeEnds (rcd : Nat) (d : Dev) (q : Nat) : Dev :=
  let x := d.quad q
  let c := d.contour q
  if ¬ sheetOn x then
    if reached d (after c.holeEnd 1024) then zeroSensors d q (now d) else d
  else
    match sheetPhase d q, x.holes[rcd]? with
    | some phase, some r =>
      let period := x.period * 4096
      let since := (phase + period - (recStart r + r.len) % period) % period
      let endAt := now d - BitVec.ofNat 60 since
      let startAt := endAt - BitVec.ofNat 60 r.len
      let idle := x.units.all (·.isEmpty)
      if since < 4096 ∧ before c.holeEnd endAt ∧ before c.lastBusy startAt ∧ idle then zeroSensors d q endAt else d
    | _, _ => d

/-- CALIBRATION_HOLE_END. -/
def execCalibrationHoleEnd (q : QuadAt) (record : Nat) (s : State) : Res := contourRow q s (holeEnds record)

/-- HOLE_STARVATION: 2^14 ticks from the end of the last hole without a used one (02 Table 2.2). -/
def execHoleStarvation (q : QuadAt) (s : State) : Res :=
  contourRow q s fun d n =>
    let c := d.contour n
    if sheetOn (d.quad n) ∧ ¬ c.guarded ∧ reached d (after c.holeEnd 16384) then
      raiseContour (refreshContour (updContour d n fun c => { c with guarded := true }) n) 0x20 n
    else d

/-! ## Temperature (R604) -/

/-- THERMAL_TRIP's cause lasts until every quad is below TEMP_THROTTLE_C (Table 15.10). -/
def endThermalTrip (d : Dev) : Dev :=
  if (d.fault 0x24).cause ∧ d.contours.all (fun c => decide (c.2.tempC < legNat d 0x8800 0x04)) then d.setCause 0x24 false else d

/-- THERMAL_SAMPLE: throttled at or above TEMP_THROTTLE_C until 5 °C below it; THERMAL_TRIP is raised when the temperature
reaches TEMP_TRIP_C. -/
def thermal (tempC : Int) (d : Dev) (q : Nat) : Dev :=
  let c := d.contour q
  let limit : Int := legNat d 0x8800 0x04
  let hot := decide (limit ≤ tempC) || (c.throttled && decide (limit - 5 ≤ tempC))
  let d := refreshContour (updContour d q fun c => { c with tempC := tempC, throttled := hot }) q
  let d := if hot ∧ ¬ c.throttled then raiseContour d 0x23 q else d
  let d := if 120 ≤ tempC ∧ c.tempC < 120 then (raiseContour d 0x24 q).setCause 0x24 true else d
  endThermalTrip d

/-- THERMAL_SAMPLE. -/
def execThermalSample (q : QuadAt) (tempC : Int) (s : State) : Res := contourRow q s (thermal tempC)

end Sys2Proof.Machine
end

