-- ==== Sys2Proof/Machine/Sheets.lean ====
section
/-! DEFINITION. Sheet containers: the loader's checks and a quad after a load (03 R108 to R113, R668; 04 R159, R160). -/

namespace Sys2Proof.Machine

/-- A section-table entry with its body (03 Table 3.13). -/
structure SheetSection where
  type : Nat
  flags : Nat
  off : Nat
  len : Nat
  addr : Nat
  body : Bytes
  deriving DecidableEq, Repr

/-- Section i of a container. -/
def sheetSection (b : Bytes) (i : Nat) : SheetSection :=
  let o := 128 + 16 * i
  let off := leAt (o + 4) 4 b
  let len := leAt (o + 8) 4 b
  { type := leAt o 2 b, flags := leAt (o + 2) 2 b, off := off, len := len, addr := leAt (o + 12) 4 b, body := slice off len b }

/-- The sections of a container. -/
def sheetSections (b : Bytes) : List SheetSection := (List.range (leAt 26 2 b)).map (sheetSection b)

/-- First quad address of a section's target memory, its size and the multiple its fields take; none when not loaded. -/
def sectionTarget (type : Nat) : Option (Nat × Nat × Nat) :=
  if type = 1 then some (0, 0x8000, 4)
  else if type = 2 then some (0x10000, 0x8000, 1)
  else if type = 3 then some (0x200000, 0x180000, 1)
  else if type = 4 then some (0x100000, 0xC0000, 32)
  else none

/-- A section entry inside Table 3.13 and its body inside the container. -/
def sectionOk (size : Nat) (t : SheetSection) : Bool :=
  decide (1 ≤ t.type) && decide (t.type ≤ 8) && decide (t.flags = 0) && decide (t.off + t.len ≤ size) &&
    (match sectionTarget t.type with
    | some (_, limit, m) => decide (t.addr + t.len ≤ limit) && decide (t.addr % m = 0) && decide (t.len % m = 0)
    | none => true)

/-- Two loaded sections share a byte of one memory. -/
def sectionsClash (a b : SheetSection) : Bool :=
  decide (a.type = b.type) && (sectionTarget a.type).isSome && decide (0 < a.len) && decide (0 < b.len) && decide (a.addr < b.addr + b.len) && decide (b.addr < a.addr + a.len)

/-- No two of a list are related. -/
def noPair {α : Type} (f : α → α → Bool) : List α → Bool
  | [] => true
  | a :: r => !(r.any (f a)) && noPair f r

/-- Start of a timed record in sub-ticks. -/
def TimedRec.start (t : TimedRec) : Nat := t.tickOff * 4096 + t.sub

/-- Records of 8 bytes. -/
def records8 (b : Bytes) : List Bytes := chunks 8 (b.length / 8) (b.take (b.length / 8 * 8))

/-- A record of a HINTS section (R111). -/
def hintRec (r : Bytes) : TimedRec := { tickOff := leAt 0 2 r, sub := leAt 2 2 r, len := 0, level := leAt 4 1 r, units := nth 0 r 5 }

/-- A record of a HOLES section (R113). -/
def holeRec (r : Bytes) : TimedRec := { tickOff := leAt 0 2 r, sub := leAt 2 2 r, len := leAt 4 2 r, level := 0, units := 0 }

/-- A record of a BENCH section (04 R159). -/
def benchRec (r : Bytes) : TimedRec := { tickOff := leAt 0 2 r, sub := leAt 2 2 r, len := leAt 4 2 r, level := 0, units := nth 0 r 6 }

/-- Starts strictly rising. -/
def startsRise : List TimedRec → Bool
  | a :: b :: r => decide (a.start < b.start) && startsRise (b :: r)
  | _ => true

/-- Each record ends before the next starts, and the last before the first starts again a period later (R668). -/
def noOverlap (period : Nat) (l : List TimedRec) : Bool :=
  let ends := (l.drop 1).map (·.start) ++ ((l.take 1).map fun a => a.start + period * 4096)
  (List.zip l ends).all fun x => decide (x.1.start + x.1.len ≤ x.2)

/-- The rules of a HINTS section (R111). -/
def hintsOk (period : Nat) (b : Bytes) : Bool :=
  let rs := records8 b
  decide (b.length % 8 = 0) && decide (1 ≤ rs.length) && decide (rs.length ≤ 4096) && startsRise (rs.map hintRec) &&
    rs.all fun r => decide (leAt 0 2 r < period) && decide (leAt 2 2 r < 4096) && decide (leAt 4 1 r ≤ 15) && decide (leAt 5 1 r < 64) && allZero (slice 6 2 r)

/-- The rules of a HOLES section (R113, R668). -/
def holesOk (period : Nat) (b : Bytes) : Bool :=
  let rs := records8 b
  decide (b.length % 8 = 0) && decide (1 ≤ rs.length) && decide (rs.length ≤ 256) && startsRise (rs.map holeRec) && noOverlap period (rs.map holeRec) &&
    rs.all fun r => decide (leAt 0 2 r < period) && decide (leAt 2 2 r < 4096) && decide (132 ≤ leAt 4 2 r) && allZero (slice 6 2 r)

/-- One BENCH record judged after those accepted (04 R160). -/
def benchAccept (period : Nat) (acc : List TimedRec) (r : Bytes) : Bool :=
  let t := benchRec r
  decide (t.tickOff < period) && decide (t.sub < 4096) && decide (16 ≤ t.len) && decide (leAt 7 1 r = 0) && decide (acc.length < 64) &&
    (match acc.getLast? with
    | some a => decide (a.start < t.start) && decide (a.start + a.len ≤ t.start)
    | none => true) &&
    decide (t.start + t.len ≤ ((acc.head?.map (·.start)).getD t.start) + period * 4096)

/-- The BENCH records accepted and the number not run (04 R160). -/
def benchJudge (period : Nat) (bodies : List Bytes) : List TimedRec × Nat :=
  bodies.foldl (fun acc b =>
    let r := (records8 b).foldl (fun (a : List TimedRec × Nat) r => if benchAccept period a.1 r then (a.1 ++ [benchRec r], a.2) else (a.1, a.2 + 1)) acc
    (r.1, r.2 + bit (decide (b.length % 8 ≠ 0)))) ([], 0)

/-- Bodies of the sections of a type, in table order. -/
def bodiesOf (ts : List SheetSection) (type : Nat) : List Bytes := (ts.filter fun t => decide (t.type = type)).map (·.body)

/-- R109: the container may be loaded into logical quad l of this device. -/
def sheetOk (d : Dev) (b : Bytes) (l : Nat) : Bool :=
  let ts := sheetSections b
  let n := leAt 26 2 b
  let period := leAt 34 2 b
  let entry := leAt 28 4 b
  let header := decide (128 ≤ b.length) && decide (slice 0 4 b = ascii "ZXSH") && decide (leAt 4 2 b = 1) && decide (leAt 6 2 b = 128) && decide (leAt 20 1 b < 8) &&
    decide (leAt 21 1 b = 0) && decide (leAt 22 2 b < leAt 24 2 b) && decide (1 ≤ leAt 24 2 b) && decide (leAt 24 2 b ≤ 256) && decide (1 ≤ n) && decide (n ≤ 16) &&
    decide (entry % 4 = 0) && decide (entry < 0x8000) && decide (1 ≤ period) && decide (period ≤ 640) && decide (leAt 32 2 b < period) &&
    decide (900 ≤ leAt 36 2 b) && decide (leAt 36 2 b ≤ 1800) && allZero (slice 38 2 b) && allZero (slice 72 56 b)
  let hints := bodiesOf ts 5
  let holes := bodiesOf ts 6
  header && decide (128 + 16 * n ≤ b.length) && decide (bitsAt (d.part.grade.toNat - 1) 1 (leAt 20 1 b) = 1) && decide (leAt 22 2 b = l) &&
    ts.all (sectionOk b.length) && noPair sectionsClash ts &&
    ts.any (fun t => decide (t.type = 1) && decide (t.addr ≤ entry) && decide (entry < t.addr + t.len)) &&
    hints.all (hintsOk period) && holes.all (holesOk period) &&
    decide (slice 40 32 b = sha3_256 (b.drop 128))

/-- A quad after the load of an accepted container (R110, 04 R120): slot 0 is armed on the tick START_OFFSET after the
first beat's opening, which `armFirst` names once it is known. -/
def loadedQuad (old : Quad) (b : Bytes) : Quad :=
  let ts := sheetSections b
  let mem := ts.foldl (fun m t => match sectionTarget t.type with
    | some (base, _, _) => memWrite m (base + t.addr) t.body
    | none => m) []
  let entry : Word := BitVec.ofNat 32 (leAt 28 4 b)
  let slot0 : Slot := { st := .armed, entry := entry, resume := entry }
  { mem := mem, rejected := old.rejected, st := .loaded, slots := slot0 :: List.replicate 7 {}, sheetId := BitVec.ofNat 64 (leAt 8 8 b),
    startOffset := leAt 32 2 b, period := leAt 34 2 b, clockMhz := leAt 36 2 b,
    hints := sortBy TimedRec.start ((bodiesOf ts 5).map fun x => (records8 x).map hintRec).flatten,
    holes := sortBy TimedRec.start ((bodiesOf ts 6).map fun x => (records8 x).map holeRec).flatten,
    bench := (benchJudge (leAt 34 2 b) (bodiesOf ts 7)).1 }

/-- A quad as it stands with no sheet loaded: what it counts and its causes are kept. -/
def unloadedQuad (x : Quad) : Quad := { rejected := x.rejected, causes := x.causes, st := if x.st = .failed then .failed else .unloaded }

/-- A container loaded into a physical quad as logical quad l, or rejected (R109): whether it was accepted. -/
def loadSheet (d : Dev) (n l : Nat) (b : Bytes) : Bool × Dev :=
  let x := d.quad n
  if sheetOk d b l then
    let skipped := (benchJudge (leAt 34 2 b) (bodiesOf (sheetSections b) 7)).2
    let d := contourLoaded (d.setQuad n (loadedQuad x b)) n
    (true, { d with cim := { d.cim with benchSkipped := d.cim.benchSkipped + BitVec.ofNat 32 skipped } })
  else
    let y := unloadedQuad x
    let d := refreshContour (d.setQuad n { y with rejected := y.rejected + 1 }) n
    (false, raiseQuad d 0xF9 n 0 (leAt 8 8 b) [] false)

/-- Slot 0 of a freshly loaded quad waits for the tick START_OFFSET after the opening of its partition's first beat
(R110, 07 R309). -/
def armFirst (opening : Stamp) (x : Quad) : Quad :=
  let target : Word := (stampTick (after opening x.startOffset)).setWidth 32
  let arm := fun (t : Slot) =>
    if t.st = .armed ∧ t.trig = none then { t with trig := some (.tick target), st := if x.startOffset = 0 then .ready else .armed } else t
  { x with slots := (x.slots.take 1).map arm ++ x.slots.drop 1 }

end Sys2Proof.Machine
end

