-- ==== Sys2Proof/Machine/Partitions.lean ====
section
/-! DEFINITION. Partitions: loading, halt, spares, restart, stop, checkpoints and mirrors, aborts and the stall watchdog
(07 R256 to R317). Beat openings are in Machine/Beats.lean. -/

namespace Sys2Proof.Machine

/-- The strips of a partition after it entered a state. A CLOSING strip of a partition that opens no more beats is
free (log 25). -/
def syncStrips (d : Dev) (p : Nat) : Dev :=
  let ps := (d.partition p).st
  (stripsOf d p).foldl (fun d s =>
    let x := d.strip s
    let off := decide (ps = .stopped) || decide (ps = .handedOver)
    if x.st = .closing then (if off then freeStrip d s else d)
    else
      let d := updStrip d s fun x => { x with st := stripFollow ps x.st }
      if off ∧ x.st ≠ .shadow then dropFrames d s else d) d

/-- A partition enters a state, its strips with it; one that opens no beats applies the rolling writes due in it. -/
def enterState (d : Dev) (p : Nat) (st : PartState) : Dev :=
  let d := syncStrips (updPart d p fun x => { x with st := st }) p
  if partLive (d.partition p) then d else rollsDue d p none

/-- FREE is a partition without quads and pages, STOPPED one with them (Table 7.1); one that leaves FREE takes the
device-wide rolling values in force (13 R529). -/
def settleFree (d : Dev) (p : Nat) : Dev :=
  let x := d.partition p
  let empty := x.quadMap.isEmpty && x.pages.isEmpty
  if (x.st = .free ∧ ¬ empty) then enterState (updPart d p fun x => { x with pencilBudget := BitVec.ofNat 16 (legNat d 0x4900 0x00) }) p .stopped
  else if x.st = .stopped ∧ empty then enterState d p .free
  else d

/-- Unmapped quads read SPARE when SPARES lists them (R275), UNLOADED otherwise. -/
def syncSpares (d : Dev) : Dev :=
  let listed := sparesListed d
  (d.quads.map (·.1) ++ listed).foldl (fun d q =>
    let x := d.quad q
    if (x.st = .unloaded ∨ x.st = .spare) then
      d.setQuad q { x with st := if q ∈ listed ∧ (quadOwner d q).isNone then .spare else .unloaded }
    else d) d

/-! ## Halt (R304) -/

/-- A quad halted: cores and units stopped, commands, tasks, messages and fetch-table entries discarded. -/
def haltQuad (x : Quad) : Quad :=
  { x with
    st := if x.st = .trapped ∨ x.st = .failed then x.st else .unloaded
    slots := List.replicate 8 {}, sb := [], outbound := [], inq := List.replicate 4 {}, units := List.replicate 6 [], fetch := [] }

/-- A message of the ingress area discarded; its credit returns (10 R419). -/
def dropIngress (d : Dev) (p : Nat) : Dev :=
  let gone := d.aksia.ingress.filter fun i => decide (i.partition = p)
  let d := { d with aksia := { d.aksia with ingress := d.aksia.ingress.filter fun i => decide (i.partition ≠ p) } }
  gone.foldl (fun d i => returnMsgCredit d p i.srcDev.toNat i.srcPart.toNat) d

/-- The halt of a partition into a state. Pencilled work is lost: what carries a tag is erased (Table 7.5); quads whose
raise marks them failed are marked; a checkpoint being written goes on (R296). -/
def haltPartition (d : Dev) (p : Nat) (st : PartState) : Dev :=
  let d := erase d p 0xFFFF
  let d := (quadsOf d p).foldl refreshContour (eachQuad d p haltQuad)
  let d := dropIngress { d with notices := d.notices.filter fun n => decide (n.partition ≠ p) } p
  let x := d.ptx p
  let d := d.setPtx p { x with taken := [] }
  let d := (d.partition p).failing.foldl failQuad d
  let d := updPart d p fun x => { x with table := [], pageTags := [], loaded := [], haltAt := now d, haltDue := none, failing := [], lost := 0 }
  let d := (stripsOf d p).foldl (fun d s => updStrip d s fun x => { x with beats := [] }) d
  enterState d p st

/-! ## Stop (R269) -/

/-- RUN as the ZX4 itself changes it: it counts when it alters (13 R524). -/
def setPartRun (d : Dev) (p : Nat) (v : Bool) : Dev :=
  if (d.partition p).run = v then d else bumpChange (updPart d p fun x => { x with run := v }) (legKey (0x3000 + p) 0x0B)

/-- Sheet-copy pages returned to the free pool. -/
def returnCopies (d : Dev) (p : Nat) : Dev :=
  let d := (d.partition p).sheetCopy.foldl zeroPage d
  updPart d p fun x => { x with sheetCopy := [], containers := [] }

/-- A partition halts, its quads are unloaded, its sheet-copy pages returned: STOPPED, and RUN reads 0. -/
def stopPartition (d : Dev) (p : Nat) : Dev :=
  let d := haltPartition d p .stopped
  let d := returnCopies (eachQuad d p unloadedQuad) p
  let d := updPart (setPartRun d p false) p fun x => { x with stopping := false, begun := false, remaps := [], takenOver := false, base := none, basePages := [] }
  settleFree d p

/-! ## Spares (R305) -/

/-- Logical quads of a partition whose physical quad is failed, in rising order. -/
def failedLogical (d : Dev) (p : Nat) : List Nat :=
  let m := (d.partition p).quadMap
  (List.range m.length).filter fun l => decide ((d.quad (nth 0 m l).toNat).st = .failed)

/-- Sources whose cause lasts until the quad itself is reloaded (03 Table 3.15): a spare in its place does not end it. -/
def outlastsSpare (s : Nat) : Bool := decide (s = 0x44) || decide (s = 0xF8)

/-- One failed logical quad mapped to the lowest free spare, when there is one. -/
def mapOne (d : Dev) (p l : Nat) : Dev :=
  let x := d.partition p
  let old := nth 0 x.quadMap l
  match sparesFree d with
  | [] => d
  | n :: _ =>
    let x := d.quad old.toNat
    let d := d.setQuad old.toNat { x with causes := x.causes.filter outlastsSpare }
    let d := d.setQuad n { d.quad n with st := .unloaded }
    updPart (bumpChange d (legKey (0x3000 + p) 0x02)) p fun x => { x with quadMap := setNth x.quadMap l (BitVec.ofNat 16 n), mappedAt := now d, remaps := (x.remaps.filter fun r => decide (r.1 ≠ old)) ++ [(old, some (BitVec.ofNat 16 n))] }

/-- No beat of the partition has opened since LOADING, and it has taken nothing over: there is no state to restore, and a
recovery loads it again towards its first beat (log 24). -/
def neverBegan (x : Partition) : Bool := !x.begun && !x.takenOver

/-- Failed quads mapped to spares; with none free the partition waits, and SPARES_EXHAUSTED is raised. -/
def mapSpares (d : Dev) (p : Nat) : Dev :=
  let d := (failedLogical d p).foldl (fun d l => mapOne d p l) d
  let left := failedLogical d p
  if left.isEmpty then enterState d p (if neverBegan (d.partition p) then .loading else .recovering)
  else
    let x := d.partition p
    let d := updPart d p fun x => { x with remaps := left.foldl (fun r l =>
      let q := nth 0 x.quadMap l
      if r.any (fun y => decide (y.1 = q)) then r else r ++ [(q, none)]) x.remaps }
    let d := if x.st = .waitingSpare then d else raisePart d 0xE3 p 0xFFFF (x.nextBeat - 1)
    enterState d p .waitingSpare

/-- Partitions that wait for a spare go on at the commit that adds one. -/
def retryWaiting (d : Dev) : Dev :=
  (d.parts.map (·.1)).foldl (fun d p => if (d.partition p).st = .waitingSpare then mapSpares d p else d) d

/-- The recovery of a partition begins: halt, then spares (R302 to R305, R312). The source of a recovery in progress
stays (log 26). -/
def recover (d : Dev) (p : Nat) (source : Byte) : Dev :=
  let x := d.partition p
  let fresh := partLive x || decide (x.st = .loading)
  let d := haltPartition d p .recovering
  let d := if fresh then updPart d p fun x => { x with cause := source, remaps := [], mappedAt := x.haltAt } else d
  mapSpares d p

/-- PARTITION_HALT: due one sub-tick after the raise. -/
def execPartitionHalt (e : Nat) (partition : Nat) (s : State) : Res :=
  let d := s.dev.at e
  let x := d.partition partition
  onUnit s (decide (partition < 64))
    (match x.haltDue with
    | some (t, source) =>
      if reached d (t + 1) then
        (if recovers x then recover d partition source
        else updPart d partition fun x => { x with haltDue := none })
      else d
    | none => d)

/-! ## Loading (R264 to R266) -/

/-- The containers of a SHEETS object in logical order; none when the object is not one (14 Table 14.3). -/
def containersOf (d : Dev) (object : Nat) : Option (List Bytes) :=
  match objectOf d object with
  | none => none
  | some o =>
    if o.kind ≠ 2 ∨ o.st = .writing then none
    else
      let n := (objectBytes o 0 4).1
      some ((List.range (leVal n)).map fun i =>
        let t := (objectBytes o (16 + 16 * i) 16).1
        (objectBytes o (leAt 0 8 t) (leAt 8 4 t)).1)

/-- Pages that copies of containers take, packed end to end (log 27). -/
def copyPages (cs : List Bytes) : Nat := ((cs.map (·.length)).foldl (· + ·) 0 + pageBytes - 1) / pageBytes

/-- Octets written over a list of pages from a linear offset. -/
def writeSpan (d : Dev) (pages : List Nat) (off : Nat) (bs : Bytes) : Dev :=
  let head := pageBytes - off % pageBytes
  let ps := (0, bs.take head) :: ((chunks pageBytes bs.length (bs.drop head)).zipIdx.map fun x => (head + x.2 * pageBytes, x.1))
  ps.foldl (fun d x => if x.2.isEmpty then d else writeStack d (nth 0 pages ((off + x.1) / pageBytes) * pageBytes + (off + x.1) % pageBytes) x.2) d

/-- Octets read over a list of pages from a linear offset. -/
def readSpan (d : Dev) (pages : List Nat) (off len : Nat) : Bytes × Dev :=
  let n := (off % pageBytes + len + pageBytes - 1) / pageBytes
  (List.range n).foldl (fun acc i =>
    let lo := if i = 0 then off else (off / pageBytes + i) * pageBytes
    let hi := min (off + len) ((off / pageBytes + i + 1) * pageBytes)
    let r := stackBytes acc.2 (nth 0 pages (lo / pageBytes) * pageBytes + lo % pageBytes) (hi - lo)
    (acc.1 ++ r.1, r.2)) ([], d)

/-- Offsets at which containers stand. -/
def offsetsOf (cs : List Bytes) : List (Nat × Nat) := (cs.foldl (fun (acc : List (Nat × Nat) × Nat) c => (acc.1 ++ [(acc.2, c.length)], acc.2 + c.length)) ([], 0)).1

/-- Loading can begin: quads, as many containers, and pages for the copies (R265). -/
def loadReady (d : Dev) (p : Nat) : Option (List Bytes) :=
  let x := d.partition p
  match containersOf d (partNat d p 0x0A) with
  | some cs => if x.quadMap ≠ [] ∧ cs.length = x.quadMap.length ∧ copyPages cs ≤ (pagesFree d).length + x.sheetCopy.length then some cs else none
  | none => none

/-- The containers are copied into sheet-copy pages and the partition enters a state in which its quads are loaded. -/
def beginLoad (d : Dev) (p : Nat) (cs : List Bytes) (st : PartState) : Dev :=
  let d := returnCopies d p
  let pages := (pagesFree d).take (copyPages cs)
  let d := pages.foldl zeroPage d
  let d := (List.zip (offsetsOf cs) cs).foldl (fun d x => writeSpan d pages x.1.1 x.2) d
  let d := updPart d p fun x => { x with sheetCopy := pages, containers := offsetsOf cs, loaded := [], begun := false, stopping := false, ckpt0 := none, ckpt1 := none, base := none, basePages := [], remaps := [] }
  enterState d p st

/-- RUN = 1 in STOPPED: LOADING; a load that cannot begin leaves the partition STOPPED with RUN 0. -/
def startRun (d : Dev) (p : Nat) : Dev :=
  match loadReady d p with
  | some cs => beginLoad (updPart d p fun x => { x with run := true }) p cs .loading
  | none => setPartRun d p false

/-- SHEET_LOAD: one quad of a LOADING or RECOVERING partition is loaded from its sheet-copy pages; a rejected container
returns the partition to STOPPED. A failed quad takes no sheet (log 24). -/
def loadLogical (d : Dev) (p l : Nat) : Dev :=
  let x := d.partition p
  match x.containers[l]?, physQuad d p l with
  | some (off, len), some n =>
    if (d.quad n).st = .failed then d
    else
    let r := readSpan d x.sheetCopy off len
    let y := loadSheet r.2 n l r.1
    if y.1 then updPart y.2 p fun x => { x with loaded := x.loaded ++ [l], loadedAt := now d } else stopPartition y.2 p
  | _, _ => d

/-- SHEET_LOAD. -/
def execSheetLoad (e : Nat) (partition logical : Nat) (s : State) : Res :=
  let d := s.dev.at e
  let x := d.partition partition
  onUnit s (decide (partition < 64) && decide (logical < 256))
    (if (x.st = .loading ∨ x.st = .recovering) ∧ logical ∉ x.loaded then loadLogical d partition logical else d)

/-- Every logical quad is loaded. -/
def allLoaded (x : Partition) : Bool := (List.range x.quadMap.length).all fun l => decide (l ∈ x.loaded)

/-! ## RUN and HANDOVER (R264, R265, R269, R313; 16 R617, R618) -/

/-- A source's status records an applied severity of 4 or 5 (16 R618). -/
def runBlocked (d : Dev) : Bool := d.faults.sources.any fun x => x.2.set && decide (4 ≤ x.2.applied.toNat)

/-- A commit of RUN = 1 is a conflict (R265, 16 R618, 17 R644). -/
def runConflict (d : Dev) (p : Nat) : Bool :=
  let x := d.partition p
  runBlocked d || decide (d.start.stage ≠ .ready) || x.quadMap.isEmpty || (x.st = .stopped && (loadReady d p).isNone)

/-- RUN = 0 in force (R269). -/
def stopRun (d : Dev) (p : Nat) : Dev :=
  let x := d.partition p
  let d := updPart d p fun x => { x with run := false }
  match x.st with
  | .running | .replaying => updPart d p fun x => { x with stopping := true }
  | .loading | .recovering | .waitingSpare | .handedOver => stopPartition d p
  | _ => d

/-- RUN written. -/
def putRun (d : Dev) (p : Nat) (v : Bool) : Dev :=
  if ¬ v then stopRun d p
  else
    let d := updPart d p fun x => { x with run := true, stopping := false }
    if (d.partition p).st = .stopped then startRun d p else d

/-- A partition is handed over to its buddy (R313): the next heartbeats carry it in HANDOVER. -/
def handOver (d : Dev) (p : Nat) : Dev :=
  let buddy := partNat d p 0x09
  let d := haltPartition d p .handedOver
  let b := tabGet {} d.aksia.buddies buddy
  if buddy = 0xFFFF then d
  else { d with aksia := { d.aksia with buddies := tabSet {} d.aksia.buddies buddy { b with handover := b.handover ||| BitVec.ofNat 64 (2 ^ p) } } }

/-- HANDOVER written, in any state (R313). -/
def putHandover (d : Dev) (p : Nat) : Dev := handOver (updPart d p fun x => { x with stopping := false }) p

/-! ## Sessions and aborts (R281 to R291) -/

/-- Session contexts in use. -/
def contextsUsed (d : Dev) : List Nat := (d.strips.map fun s => s.2.sessions.filterMap fun x => x.2.ctx).flatten

/-- Session contexts of a partition. -/
def contextsOf (d : Dev) (p : Nat) : Nat := ((stripsOf d p).map fun s => ((d.strip s).sessions.filter fun x => x.2.ctx.isSome).length).foldl (· + ·) 0

/-- The lowest free context. -/
def freeContext (d : Dev) : Option Nat :=
  let used := contextsUsed d
  (List.range 4096).find? fun c => decide (c ∉ used)

/-- ABORT (R288). -/
def abortStrip (d : Dev) (s : Nat) (mask : BitVec 64) : Dev := updStrip d s fun x => (slotsOf mask).foldl (abortSlot (now d) (ordinal d)) x

/-! ## Checkpoints (R294 to R300) -/

/-- Contents of a physical page, read for a copy. -/
def grabPage (d : Dev) (page : Nat) : Mem × Dev :=
  let r := checkStackWords d (injected d.stackInj (fun _ => 8) (page * pageBytes) pageBytes)
  if r.1 then (memWrite [] 0 (le pageBytes (drawFree r.2).1), (drawFree r.2).2)
  else ((d.stackMem.filter fun c => decide (page * pageBytes ≤ c.1) && decide (c.1 < (page + 1) * pageBytes)).map fun c => (c.1 - page * pageBytes, c.2), r.2)

/-- Contents put into a physical page. -/
def putPage (d : Dev) (page : Nat) (m : Mem) : Dev :=
  let d := zeroPage d page
  { d with stackMem := m.foldl (fun t c => tabSet 0 t (page * pageBytes + c.1) c.2) d.stackMem }

/-- Page index of a partition as a physical page. -/
def physPage (d : Dev) (p i : Nat) : Option Nat := (d.partition p).pages[i]?

/-- Contents of a state page for a checkpoint: a tagged page is recorded as zero (R295, 06 R235). -/
def grabState (d : Dev) (p i : Nat) : Mem × Dev :=
  match physPage d p i with
  | some n => if pageTag d p i = 0 then grabPage d n else ([], d)
  | none => ([], d)

/-- State pages, and the pages of a checkpoint slot. -/
def statePages (d : Dev) (p : Nat) : List Nat := (List.range (partNat d p 0x05)).map (· + partNat d p 0x04)

/-- Pages of checkpoint slot k. -/
def slotPages (d : Dev) (p k : Nat) : List Nat := (List.range (partNat d p 0x05)).map (· + partNat d p 0x06 + k * partNat d p 0x05)

/-- What a checkpoint records of a strip. -/
def ckptStrip (d : Dev) (s : Nat) : CkptStrip :=
  let x := d.strip s
  { strip := s, beat := x.beat, rseq := x.rseq, present := x.present, sessions := x.sessions, abortStatus := x.abortStatus }

/-- Strips a checkpoint records. -/
def ckptStrips (d : Dev) (p : Nat) : List CkptStrip :=
  ((stripsOf d p).filter fun s => decide ((d.strip s).st ≠ .closing) && decide ((d.strip s).st ≠ .shadow)).map (ckptStrip d)

/-- The newest complete checkpoint, with its slot (R296). -/
def newestCkpt (x : Partition) : Option (Nat × Ckpt) :=
  match x.ckpt0.filter (·.complete), x.ckpt1.filter (·.complete) with
  | some a, some b => if before a.instant b.instant then some (1, b) else some (0, a)
  | some a, none => some (0, a)
  | none, some b => some (1, b)
  | none, none => none

/-- At a checkpoint instant, taken or not, a mirror still unacknowledged is abandoned (R297, R300). -/
def abandonMirror (d : Dev) (p k : Nat) : Dev :=
  if (d.partition p).mirrorSent.isSome then
    raisePart (updPart d p fun x => { x with mirrorSent := none, mirrorFail := true }) 0xE4 p 0xFFFF k
  else d

/-- The checkpoint of a beat that opens: its pages are copied into the slot that does not hold the newest complete one. -/
def takeCheckpoint (d : Dev) (p k : Nat) (instant : Stamp) : Dev :=
  let slot := match newestCkpt (d.partition p) with
    | some (i, _) => 1 - i
    | none => 0
  let d := (List.zip (statePages d p) (slotPages d p slot)).foldl (fun d x =>
    let g := grabState d p x.1
    match physPage g.2 p x.2 with
    | some n => putPage g.2 n g.1
    | none => g.2) d
  let c : Ckpt := { instant := instant, beat := k, complete := false, strips := ckptStrips d p }
  updPart d p fun x => if slot = 0 then { x with ckpt0 := some c } else { x with ckpt1 := some c }

/-- Session states by their codes in SESSIONS byte 7 (Table 7.7). -/
def sessCode : SessState → Nat
  | .absent => 0
  | .active => 1
  | .refused => 2
  | .aborted => 3

/-- The session state of a code. -/
def sessOf : Nat → SessState
  | 1 => .active
  | 2 => .refused
  | 3 => .aborted
  | _ => .absent

/-- A session slot as a mirror carries it. -/
def mirrorSession (t : Session) : MirrorSession :=
  { startBeat := t.startBeat, state := sessCode t.st, context := t.ctx.isSome, cleared := t.cleared, turns := t.turns, doneAt := t.doneAt, abortAt := t.abortAt }

/-- A session slot of a mirror; its context is given by the device that restores it. -/
def unmirrorSession (m : MirrorSession) : Session :=
  { startBeat := m.startBeat, st := sessOf m.state, cleared := m.cleared, turns := m.turns, doneAt := m.doneAt, abortAt := m.abortAt }

/-- A checkpoint strip as a mirror carries it. -/
def mirrorStrip (c : CkptStrip) : MirrorStrip :=
  { strip := c.strip, beat := c.beat, rseq := c.rseq, present := c.present, abortStatus := c.abortStatus
    sessions := c.sessions.map fun t => (t.1, mirrorSession t.2) }

/-- The checkpoint of a slot sent to the buddy (R299). -/
def sendMirror (d : Dev) (p slot : Nat) (c : Ckpt) : Dev :=
  let buddy := partNat d p 0x09
  if buddy = 0xFFFF then d
  else
    let r := (slotPages d p slot).foldl (fun (acc : Bytes × Dev) i =>
      let g := pageBytesOf acc.2 p i 0 pageBytes
      (acc.1 ++ g.1, g.2)) ([], d)
    let strips := c.strips.map mirrorStrip
    let parts := if r.1.isEmpty then [(0, [])] else packets r.1
    let d := parts.foldl (fun d x =>
      sendRequestPacket d (.mirrorWrite c.beat (partNat d p 0x07) x.1 (if x.1 = 0 then strips else [])) buddy 0xFF p 0 x.2) r.2
    updPart d p fun x => { x with mirrorSent := some c.beat }

/-- CHECKPOINT_COMPLETE: the last page of the checkpoint being written is written. -/
def completeCkpt (d : Dev) (p : Nat) : Dev :=
  let x := d.partition p
  let go := fun (slot : Nat) (c : Ckpt) =>
    let c := { c with complete := true }
    let d := updPart d p fun x => if slot = 0 then { x with ckpt0 := some c } else { x with ckpt1 := some c }
    let d := c.strips.foldl (fun d t => updStrip d t.strip fun y => { y with ckptBeat := c.beat }) d
    sendMirror d p slot c
  match x.ckpt0, x.ckpt1 with
  | some c, _ => if ¬ c.complete then go 0 c else match x.ckpt1 with
    | some b => if ¬ b.complete then go 1 b else d
    | none => d
  | none, some b => if ¬ b.complete then go 1 b else d
  | none, none => d

/-- CHECKPOINT_COMPLETE. -/
def execCheckpointComplete (e : Nat) (partition : Nat) (s : State) : Res :=
  onUnit s (decide (partition < 64)) (completeCkpt (s.dev.at e) partition)

/-- The partition that holds mirrors of a device's partition. -/
def holderOf (d : Dev) (device : BitVec 16) (partition : Byte) : Option Nat :=
  (List.range 64).find? fun p => decide (partNat d p 0x13 = device.toNat * 65536 + partition.toNat)

/-- A mirrored strip as a checkpoint strip. -/
def unmirrorStrip (m : MirrorStrip) : CkptStrip :=
  { strip := m.strip, beat := m.beat, rseq := m.rseq, present := m.present, abortStatus := m.abortStatus
    sessions := m.sessions.foldl (fun t x => tabSet {} t x.1 (unmirrorSession x.2)) [] }

/-- Handed parts of a mirror removed. -/
def dropHandedMirror (d : Dev) (device : BitVec 16) (partition : Byte) (beat : Nat) : Dev :=
  { d with handed := d.handed.filter fun h => match h with
    | .mirror dv pt _ b _ _ _ => !(decide (dv = device) && decide (pt = partition) && decide (b = beat))
    | _ => true }

/-- MIRROR_WRITE (R299): the checkpoint is written into the holder's mirror slot that does not hold the newest, and is
acknowledged. -/
def mirrorWrite (d : Dev) (device : BitVec 16) (partition : Byte) (ten : BitVec 32) (beat phase : Nat) (strips : List MirrorStrip) (pages : Bytes) : Dev :=
  match holderOf d device partition with
  | none => d
  | some h =>
    let x := d.partition h
    let n := (pages.length + pageBytes - 1) / pageBytes
    let slot := match x.mirrors with
      | m :: _ => 1 - m.slot
      | [] => 0
    let first := partNat d h 0x14 + slot * n
    if (List.range n).any (fun i => (physPage d h (first + i)).isNone) then d
    else
      let d := (List.range n).foldl (fun d i => writePage d h (first + i) 0 (fit pageBytes (slice (i * pageBytes) pageBytes pages))) d
      let m : Mirror := { beat := beat, slot := slot, phase := phase, tenant := ten, pages := n, strips := strips.map unmirrorStrip }
      let d := updPart d h fun x => { x with mirrors := m :: x.mirrors.take 1 }
      sendPacket d .resp (.mirrorAck beat) device.toNat partition.toNat h 0 []

/-- MIRROR_WRITE. -/
def execMirrorWrite (e : Nat) (device : BitVec 16) (partition : Byte) (ten : BitVec 32) (beat phase : Nat) (strips : List MirrorStrip) (pages : Bytes) (s : State) : Res :=
  let d := s.dev.at e
  .next (s.withDev (mirrorWrite (dropHandedMirror d device partition beat) device partition ten beat phase strips pages))

/-- MIRROR_ACK: the mirror sent last is acknowledged. -/
def mirrorAcked (d : Dev) (p beat : Nat) : Dev :=
  if (d.partition p).mirrorSent = some beat then
    let d := updPart d p fun x => { x with mirrorSent := none, mirrorFail := false }
    (stripsOf d p).foldl (fun d s => updStrip d s fun y => { y with mirrorBeat := beat }) d
  else d

/-- MIRROR_ACK. -/
def execMirrorAck (e : Nat) (partition : Nat) (beat : Nat) (s : State) : Res :=
  let d := s.dev.at e
  let d := { d with handed := d.handed.filter fun h => match h with
    | .mirrorAck _ pt b => !(decide (pt.toNat = partition) && decide (b = beat))
    | _ => true }
  onUnit s (decide (partition < 64)) (mirrorAcked d partition beat)

/-! ## Restart (R306, R307, R311) -/

/-- A recorded session restored: its context, or the lowest free one when another session has taken it; with none free
the slot is refused (log 29). -/
def restoreSession (d : Dev) (s : Nat) (x : Nat × Session) : Dev :=
  let put := fun (d : Dev) (t : Session) => updStrip d s fun y => y.setSession x.1 t
  let t := x.2
  if t.ctx.isNone ∧ t.st ≠ .active ∧ t.turns = [] then put d t
  else
    let same := match t.ctx with
      | some c => if c ∈ contextsUsed d then none else some c
      | none => none
    match same, freeContext d with
    | some c, _ => put d { t with ctx := some c }
    | none, some c => put d { t with ctx := some c }
    | none, none => put d { t with ctx := none, st := .refused, turns := [] }

/-- The strip state of a checkpoint restored, for the strips that the partition still runs: BSEQ and HIGH_SEQ are not. -/
def restoreStrips (d : Dev) (p : Nat) (strips : List CkptStrip) : Dev :=
  let strips := strips.filter fun c => decide ((d.strip c.strip).partition.toNat = p) && decide ((d.strip c.strip).st = .recovering)
  let d := strips.foldl (fun d c => updStrip d c.strip fun x => { x with beat := c.beat, rseq := c.rseq, present := c.present, abortStatus := c.abortStatus, sessions := [], beats := [] }) d
  strips.foldl (fun d c => c.sessions.foldl (fun d t => restoreSession d c.strip t) d) d

/-- Pages put into the state pages. -/
def restorePages (d : Dev) (p : Nat) (src : List Nat) : Dev :=
  (List.zip src (statePages d p)).foldl (fun d x =>
    let g := match physPage d p x.1 with
      | some n => grabPage d n
      | none => ([], d)
    match physPage g.2 p x.2 with
    | some n => putPage g.2 n g.1
    | none => g.2) d

/-- What the partition restarts from: beat, strips, and the device with the state pages restored: the newest complete
checkpoint, the mirror taken over, or the state at its first opening (log 23). -/
def restoreFrom (d : Dev) (p : Nat) : Nat × List CkptStrip × Dev :=
  let x := d.partition p
  match newestCkpt x, x.mirrors, x.takenOver with
  | some (slot, c), _, _ => (c.beat, c.strips, restorePages d p (slotPages d p slot))
  | none, m :: _, true => (m.beat, m.strips, restorePages d p ((List.range m.pages).map (· + partNat d p 0x14 + m.slot * m.pages)))
  | none, _, _ =>
    let c := x.base.getD { instant := 0, beat := x.firstBeat, complete := true, strips := [] }
    let d := (statePages d p).foldl (fun d i => match physPage d p i with
      | some n => putPage d n ((x.basePages.filter fun b => decide (b.1 / pageBytes = i)).map fun b => (b.1 % pageBytes, b.2))
      | none => d) d
    (c.beat, c.strips, d)

/-- LAST_RECOVERY (Table 7.6). -/
def recoveryRecord (x : Partition) (restart : Stamp) (beat : Nat) : Bytes :=
  let pairs := (x.remaps.take 8).map fun r => be 2 r.1.toNat ++ be 2 ((r.2.map (·.toNat)).getD 0xFFFF)
  be 1 x.cause.toNat ++ zeros 1 ++ be 1 (min 255 x.remaps.length) ++ be 1 (min 255 x.lost) ++ zeros 4 ++ be 8 x.haltAt.toNat ++ be 8 restart.toNat ++ be 8 beat ++
    pairs.flatten ++ List.replicate (4 * (8 - pairs.length)) 0xFF

/-- The first tick edge at or after a stamp. -/
def edgeAfter (s : Stamp) : Stamp := if stampSub s = 0 then s else after (stampOf (stampTick s) 0) 1

/-- Earliest restart of a RECOVERING partition (R307, 10 R444): 8 ticks after the halt, the last spare mapping and, for a
takeover, the last load. -/
def restartDue (x : Partition) : Stamp :=
  let base := if before x.haltAt x.mappedAt then x.mappedAt else x.haltAt
  edgeAfter (after (if x.takenOver ∧ ¬ x.begun then later base x.loadedAt else base) 8)

/-- The strips of a mirror in this device's numbers: the holder's strips whose PEER names them (10 R444). -/
def peerStrips (d : Dev) (p : Nat) (strips : List CkptStrip) : List CkptStrip :=
  if (d.partition p).takenOver ∧ (newestCkpt (d.partition p)).isNone then
    strips.filterMap fun c => ((stripsOf d p).find? fun s => decide (stripNat d s 0x04 = partNat d p 0x13 / 65536 * 65536 + c.strip)).map fun s => { c with strip := s }
  else strips

end Sys2Proof.Machine
end

