-- ==== Sys2Proof/Machine/Faults.lean ====
section
/-! DEFINITION. The fault collector's own operations: causes, clears, severities, injections, the halt of the device and
the fault log (16 R614 to R630). Raising is in Machine/Raise.lean. -/

namespace Sys2Proof.Machine

/-- The fault collector changed. -/
def updFaults (d : Dev) (f : Faults → Faults) : Dev := { d with faults := f d.faults }

/-- Source s exists (R611). -/
def sourceKnown (s : Nat) : Bool := (defaultSeverity s).isSome

/-! ## Causes (the tables of fault sources of the chapters) -/

/-- Some quad has a source's lasting cause (03 Table 3.15, 04 Table 4.15). -/
def quadCause (d : Dev) (s : Nat) : Bool := d.quads.any fun q => decide (s ∈ q.2.causes)

/-- The cause of a source is present (R620). -/
def causePresent (d : Dev) (s : Nat) : Bool :=
  (d.fault s).cause ||
    (if s = 0x20 then d.contours.any fun c => c.2.guarded
    else if s = 0x22 then d.contours.any fun c => c.2.limited
    else if s = 0x23 then d.contours.any fun c => c.2.throttled
    else if s = 0x41 ∨ s = 0x43 ∨ s = 0x44 ∨ s = 0x60 ∨ s = 0x61 ∨ s = 0x62 ∨ s = 0xF8 then quadCause d s
    else if s = 0x80 then d.aksia.ports.any fun p => p.2.fell
    else if s = 0x81 then d.aksia.ports.any fun p => p.2.linkFell
    else if s = 0x82 then d.aksia.ports.any fun p => p.2.miscabled
    else if s = 0xAB then d.eth.p0.fell || d.eth.p1.fell || d.eth.p2.fell
    else if s = 0xC5 then d.sec.ezithOpen
    else if s = 0xE1 then d.parts.any fun p => decide (p.2.cause = 0xE1)
    else if s = 0xE3 then d.parts.any fun p => decide (p.2.st = .waitingSpare)
    else if s = 0xE4 then d.parts.any fun p => p.2.mirrorFail
    else if s = 0xF2 then d.ez.subs.any fun x => x.2.lostFlag && decide (256 ≤ x.2.queue.length)
    else false)

/-- STATUS (Table 16.7). -/
def statusByte (d : Dev) (s : Nat) : Nat :=
  let x := d.fault s
  bit x.set + 2 * bit (causePresent d s) + 16 * x.applied.toNat

/-! ## Clearing (R622, R623) -/

/-- A clear of one source takes when its status is set, its cause gone and it was not raised at this stamp (R622, R665).
The latch empties with the status of the source it holds; a halted device is halted until no HALT or CUT stands. -/
def clearOne (d : Dev) (s : Nat) : Dev :=
  let x := d.fault s
  if x.set ∧ ¬ causePresent d s ∧ ¬ (x.lastStamp = now d ∧ x.lastOrd = ordinal d) then
    let d := d.setFault s { x with set := false, applied := 0 }
    let d := updFaults d fun f => if f.first = some (BitVec.ofNat 8 s) then { f with first := none, firstStamp := 0, firstOrd := 0, overflow := false } else f
    if runBlocked d then d else updFaults d fun f => { f with halted := false }
  else d

/-- A value of CLEAR in range: a source, or 0x0100. -/
def clearOk (v : Nat) : Bool := decide (v = 0x100) || (decide (v < 0x100) && sourceKnown v)

/-- A write of CLEAR in range. -/
def clearWrite (d : Dev) (v : Nat) : Dev :=
  if v = 0x100 then (List.range 256).foldl clearOne d else clearOne d v

/-! ## Severities (R590, R614) -/

/-- A value that SEVERITY of source s may take. -/
def severityOk (s v : Nat) : Bool := sourceKnown s && decide (v ≤ if s ≤ 7 then 3 else 5)

/-! ## Injection (R629) -/

/-- A record within Table 16.5. -/
def injectOk (d : Dev) (r : Bytes) : Bool :=
  let target := beAt 0 1 r
  let bits := beAt 1 1 r
  let unit := beAt 2 2 r
  let addr := beAt 4 8 r
  let count := beAt 12 4 r
  if target = 1 then
    decide (1 ≤ bits) && decide (bits ≤ 3) && decide (unit < quadsFitted d) && decide (bankOf addr = some .weight) && decide (addr % 32 = 0) && decide (count = 0)
  else if target = 2 then
    decide (1 ≤ bits) && decide (bits ≤ 2) && decide (unit < quadsFitted d) && decide (bankOf addr = some .act) && decide (addr % 8 = 0) && decide (count = 0)
  else if target = 3 then
    decide (1 ≤ bits) && decide (bits ≤ 2) && decide (unit < stacksFitted d) && decide (addr < 2 ^ 28) && decide (addr % 8 = 0) && decide (count = 0)
  else if target = 4 then
    decide (bits = 0) && decide (unit < portsFitted d) && decide (addr = 0) && decide (1 ≤ count) && decide (count ≤ 1024)
  else false

/-- An injection in range: check bits inverted in one word, or the next frames of a port. -/
def injectWrite (d : Dev) (r : Bytes) : Dev :=
  let bits := beAt 1 1 r
  let unit := beAt 2 2 r
  let addr := beAt 4 8 r
  let d := updFaults d fun f => { f with injections := f.injections + 1 }
  if beAt 0 1 r = 3 then { d with stackInj := tabSet 0 d.stackInj (unit * 2 ^ 28 + addr) bits }
  else if beAt 0 1 r = 4 then
    let x := d.port unit
    d.setPort unit { x with badCrc := max x.badCrc (beAt 12 4 r) }
  else
    let x := d.quad unit
    d.setQuad unit { x with inj := tabSet 0 x.inj addr bits }

/-! ## HALT (R617) -/

/-- One partition of a halting device: handed over, or halted and stopped with RUN 0. -/
def haltOne (d : Dev) (p : Nat) : Dev :=
  let x := d.partition p
  match x.st with
  | .free | .stopped => d
  | .running | .replaying | .recovering | .waitingSpare => if partNat d p 0x09 ≠ 0xFFFF then putHandover d p else stopPartition d p
  | .loading | .handedOver => stopPartition d p

/-- The device halts. -/
def haltAll (d : Dev) : Dev :=
  let d := updFaults d fun f => { f with haltDue := none, halted := true }
  (List.range 64).foldl haltOne d

/-- DEVICE_HALT: one sub-tick after the raise; while stamps are held no sub-tick passes, and it acts at its command. -/
def execDeviceHalt (e : Nat) (s : State) : Res :=
  let d := s.dev.at e
  .next (s.withDev (match d.faults.haltDue with
    | some (t, _) => if reached d (t + 1) ∨ held d then haltAll d else d
    | none => d))

/-! ## The fault log (R626, R627) -/

/-- Buffered records programmed into both copies, a ring of 262,144; none before MOUNT, and none outside the journal's
steps after EWARN (14 R572). -/
def programLog (d : Dev) : Dev :=
  updFaults d fun f =>
    let l := f.log ++ f.buffer
    { f with log := l.drop (l.length - 262144), buffer := [] }

/-- FAULT_LOG_PROGRAM. -/
def execFaultLogProgram (e : Nat) (s : State) : Res :=
  let d := s.dev.at e
  .next (s.withDev (if d.cad.mounted ∧ ¬ d.cad.stopping then programLog d else d))

end Sys2Proof.Machine
end

