-- ==== Sys2Proof/Machine/Aes.lean ====
section
/-! DEFINITION. AES in the modes the ZX4 uses: AES-256-CMAC and GMAC of the symmetric engine and the KDF (12 R483, 09
R361), AES-128-CMAC and counter mode of the PON terminal (08 R324, R343). The standards are outside the spec: log 7. -/

namespace Sys2Proof.Machine

/-! ## The block cipher (FIPS 197) -/

/-- Multiplication by x in GF(2^8). -/
def xtime (b : Byte) : Byte := (b <<< 1) ^^^ (if b.getLsbD 7 then 0x1B else 0)

/-- Product in GF(2^8); `n` bits of b are still to be taken. -/
def gmul : Nat → Byte → Byte → Byte
  | 0, _, _ => 0
  | n + 1, a, b => (if b.getLsbD 0 then a else 0) ^^^ gmul n (xtime a) (b >>> 1)

/-- Product of two bytes. -/
def gprod (a b : Byte) : Byte := gmul 8 a b

/-- The inverse, as the 254th power; 0 for 0. -/
def ginv (b : Byte) : Byte :=
  let b2 := gprod b b
  let b4 := gprod b2 b2
  let b8 := gprod b4 b4
  let b16 := gprod b8 b8
  let b32 := gprod b16 b16
  let b64 := gprod b32 b32
  let b128 := gprod b64 b64
  gprod b128 (gprod b64 (gprod b32 (gprod b16 (gprod b8 (gprod b4 b2)))))

/-- SubBytes of one byte. -/
def sbox (b : Byte) : Byte :=
  let i := ginv b
  i ^^^ i.rotateLeft 1 ^^^ i.rotateLeft 2 ^^^ i.rotateLeft 3 ^^^ i.rotateLeft 4 ^^^ 0x63

/-- Round constant of the n-th key-schedule step, from 1. -/
def rcon (n : Nat) : Byte := (List.range (n - 1)).foldl (fun b _ => xtime b) 1

/-- The next word of the key schedule: `ws` newest first. -/
def nextWord (nk i : Nat) (ws : List Bytes) : Bytes :=
  let prev := nth [] ws 0
  let old := nth [] ws (nk - 1)
  let t :=
    if i % nk = 0 then
      let r := (prev.drop 1 ++ prev.take 1).map sbox
      xorBytes r [rcon (i / nk), 0, 0, 0]
    else if nk = 8 ∧ i % nk = 4 then prev.map sbox
    else prev
  xorBytes old t

/-- The round keys of a key of 16 or 32 octets. -/
def expandKey (key : Bytes) : List Bytes :=
  let nk := key.length / 4
  let first := (chunks 4 nk key).reverse
  let ws := (List.range (4 * (nk + 7) - nk)).foldl (fun ws i => nextWord nk (nk + i) ws :: ws) first
  (chunks 4 (nk + 7) ws.reverse).map List.flatten

/-- ShiftRows of a state in column order. -/
def shiftRows (s : Bytes) : Bytes := (List.range 16).map fun i => nth 0 s ((i + 4 * (i % 4)) % 16)

/-- MixColumns of one column. -/
def mixColumn (c : Bytes) : Bytes :=
  (List.range 4).map fun i =>
    xtime (nth 0 c i) ^^^ (xtime (nth 0 c ((i + 1) % 4)) ^^^ nth 0 c ((i + 1) % 4)) ^^^ nth 0 c ((i + 2) % 4) ^^^ nth 0 c ((i + 3) % 4)

/-- AES of one block. -/
def aesBlock (key block : Bytes) : Bytes :=
  match expandKey key with
  | [] => block
  | k0 :: rest =>
    let s := xorBytes block k0
    let mid := rest.dropLast.foldl (fun s k => xorBytes (((chunks 4 4 (shiftRows (s.map sbox))).map mixColumn).flatten) k) s
    match rest.getLast? with
    | some k => xorBytes (shiftRows (mid.map sbox)) k
    | none => mid

/-! ## CMAC (SP 800-38B) -/

/-- Doubling of a 128-bit block. -/
def cmacDouble (b : Bytes) : Bytes :=
  let v := beVal b
  be 16 (if bitsAt 127 1 v = 1 then (2 * v) % 2 ^ 128 ^^^ 0x87 else 2 * v)

/-- The AES-CMAC of a message. -/
def aesCmac (key msg : Bytes) : Bytes :=
  let k1 := cmacDouble (aesBlock key (zeros 16))
  let k2 := cmacDouble k1
  let full := (msg.length - 1) / 16
  let head := msg.take (16 * full)
  let last := msg.drop (16 * full)
  let m := if last.length = 16 then xorBytes last k1 else xorBytes (fit 16 (last ++ [0x80])) k2
  let c := (chunks 16 full head).foldl (fun c b => aesBlock key (xorBytes c b)) (zeros 16)
  aesBlock key (xorBytes c m)

/-! ## GMAC (SP 800-38D) -/

/-- Product in GF(2^128) of GCM; bit 127 is the coefficient of x^0. -/
def ghashMul : Nat → Nat → Nat → Nat → Nat
  | 0, _, _, z => z
  | n + 1, x, v, z =>
    let z := if bitsAt n 1 x = 1 then z ^^^ v else z
    ghashMul n x (if v % 2 = 1 then v / 2 ^^^ (0xE1 * 2 ^ 120) else v / 2) z

/-- The GMAC of a message under a 12-octet IV. -/
def gmac (key iv msg : Bytes) : Bytes :=
  let h := beVal (aesBlock key (zeros 16))
  let n := (msg.length + 15) / 16
  let blocks := (chunks 16 n msg).map (fit 16) ++ [be 8 (8 * msg.length) ++ zeros 8]
  let y := blocks.foldl (fun y b => ghashMul 128 (y ^^^ beVal b) h 0) 0
  xorBytes (be 16 y) (aesBlock key (iv ++ be 4 1))

/-! ## Counter mode (SP 800-38A) -/

/-- A payload under a first counter block, which counts up modulo 2^128. -/
def aesCtr (key : Bytes) (counter : Nat) (payload : Bytes) : Bytes :=
  (((chunks 16 payload.length payload).zipIdx).map fun b =>
    xorBytes b.1 (aesBlock key (be 16 ((counter + b.2) % 2 ^ 128)))).flatten

end Sys2Proof.Machine
end

