-- ==== Sys2Proof/Machine/Security.lean ====
section
/-! DEFINITION. The big-number and symmetric engines: job records, key agreement, key slots and their checks, boot
images and fuses (12 R466 to R502). -/

namespace Sys2Proof.Machine

/-- The device's security part changed. -/
def Dev.updSec (d : Dev) (f : Sec → Sec) : Dev := { d with sec := f d.sec }

/-! ## Key slots and checks (R487 to R493) -/

/-- Use bits of Table 12.4. -/
def useDown : Nat := 0
/-- UP. -/
def useUp : Nat := 1
/-- ANSWER. -/
def useAnswer : Nat := 2
/-- EZITH. -/
def useEzith : Nat := 3

/-- A slot holds a key with a use and a tenant (R491). -/
def slotUsable (d : Dev) (n use ten : Nat) : Bool :=
  let k := d.keySlot n
  decide (n < 128) && k.cur.isSome && decide (bitsAt use 1 k.uses.toNat = 1) && decide (k.tenant.toNat = ten)

/-- The generations acceptable now (R488, R492). -/
def acceptable (d : Dev) (n : Nat) : List Bytes :=
  let k := d.keySlot n
  k.cur.toList ++ (match k.prev with
    | some (key, end_) => if reached d end_ then [] else [key]
    | none => [])

/-- The generations a check takes when its first byte arrives: none when the slot is unusable (R491, R492). -/
def checkKeys (d : Dev) (n use ten : Nat) : List Bytes := if slotUsable d n use ten then acceptable d n else []

/-- KEY_SLOT_UNUSABLE for a slot. -/
def raiseSlot (d : Dev) (n : Nat) : Dev := raiseDev d 0xC3 n 0

/-- The tag of a frame (09 R361): AUTH 0 is CMAC, AUTH 1 GMAC with its IV from the header. -/
def frameTag (auth : Nat) (key bytes : Bytes) : Bytes :=
  if auth = 1 then gmac key (slice 4 8 bytes ++ slice 3 1 bytes ++ slice 40 1 bytes ++ slice 48 2 bytes) bytes else aesCmac key bytes

/-- The first install of an EZITH key ends EZITH_OPEN; the transactions opened in that state are rolled back, and a
COMMITTED one stands (R497, 13 R516). -/
def closeEzith (d : Dev) : Dev :=
  if d.sec.ezithOpen then
    (List.range 16).foldl (fun d r => if (d.txn r).owner = 0xFF then rollbackTxn d r else d) (d.updSec fun s => { s with ezithOpen := false })
  else d

/-- A key installed in a slot (R488): the former current generation stays acceptable for KEY_OVERLAP_TICKS, and the
slot's kept SEQ is 0 without a reply (13 R517). -/
def installKey (d : Dev) (n : Nat) (key : Bytes) (uses : Byte) (ten check : BitVec 32) : Dev :=
  let k := d.keySlot n
  let overlap := legNat d 0x7000 0x09
  let prev := if overlap = 0 then none else k.cur.map fun c => (c, after (now d) overlap)
  let d := d.setKeySlot n { cur := some key, prev := prev, uses := uses, tenant := ten, installs := k.installs + 1, check := check, installAt := now d }
  let d := { d with ez := { d.ez with kept := tabSet none d.ez.kept n (some { seq := 0, reply := [] }) } }
  if bitsAt useEzith 1 uses.toNat = 1 then closeEzith d else d

/-- KEY_OVERLAP_END (R488). -/
def execKeyOverlapEnd (e : Nat) (slot : Nat) (s : State) : Res :=
  let d := s.dev.at e
  let k := d.keySlot slot
  onUnit s (decide (slot < 128))
    (match k.prev with
    | some (_, end_) => if reached d end_ then d.setKeySlot slot { k with prev := none } else d
    | none => d)

/-- Checks in progress under a slot lose their copies of its key (R489). -/
def dropChecks (n : Nat) (a : Option Assembly) : Option Assembly :=
  a.map fun x => if x.keySlot.toNat = n then { x with keys := [] } else x

/-- A slot erased (R489): only its count of installs is kept. -/
def eraseSlot (d : Dev) (n : Nat) : Dev :=
  let d := d.setKeySlot n { installs := (d.keySlot n).installs }
  { d with
    stripTx := d.stripTx.map fun x => (x.1, { x.2 with asm := dropChecks n x.2.asm })
    partTx := d.partTx.map fun x => (x.1, { x.2 with answerAsm := x.2.answerAsm.map fun a => (a.1, dropChecks n a.2) }) }

/-! ## Jobs (R466 to R480) -/

/-- CLASS of an operation (Table 12.1); none for an OP not in the table. -/
def jobClass (op : Nat) : Option Nat :=
  if op = 0x01 ∨ op = 0x02 then some 0
  else if op = 0x03 ∨ op = 0x04 ∨ op = 0x05 then some 1
  else if op = 0x10 ∨ op = 0x11 then some 2
  else none

/-- Bytes of an operation's fixed fields; an RSA job's depend on its BITS. -/
def fixedBytes (op : Nat) (input : Bytes) : Nat :=
  if op = 0x01 then 96
  else if op = 0x02 then 128
  else if op = 0x03 then 192
  else if op = 0x04 then
    let bits := beAt 0 2 input
    if bits = 2048 ∨ bits = 3072 ∨ bits = 4096 then 8 + bits / 4 else 8
  else if op = 0x05 then 5261
  else if op = 0x10 then 1240
  else 32

/-- A record that may be written (Table 12.3). -/
def jobWritable (j : Job) : Bool :=
  match j.st with
  | .queued | .running | .suspended => false
  | _ => true

/-- A job that ends FAILED: it has no output; BN_JOB_FAILED is raised. -/
def failJob (d : Dev) (n result : Nat) : Dev :=
  let j := d.job n
  raiseDev (d.setJob n { j with st := .failed, result := BitVec.ofNat 8 result, ended := now d, output := [], outLen := 0 }) 0xC2 n 0

/-- A submission (R472, R473): a record that is not writable, or an IN_LEN out of range, changes nothing. -/
def submitJob (d : Dev) (n op : Nat) (input : Bytes) : Dev :=
  let old := d.job n
  if ¬ jobWritable old ∨ input.length < 1 ∨ 10176 < input.length then d
  else
    let order := d.sec.submissions + 1
    let j : Job := { op := BitVec.ofNat 8 op, st := .queued, cls := BitVec.ofNat 8 ((jobClass op).getD 0), inLen := input.length, input := input, submitted := now d, order := order, aborting := old.aborting }
    let d := (d.setJob n j).updSec fun s => { s with submissions := order }
    if (jobClass op).isNone ∨ input.length < fixedBytes op input then failJob d n 3 else d

/-- A record freed and zeroed (R472); the engine keeps running a job aborted in it until its yield station. -/
def freeJob (d : Dev) (n : Nat) : Dev :=
  let j := d.job n
  if jobWritable j then d.setJob n { aborting := j.aborting } else d

/-- The record of the job on the engine: running, or aborted and not yet stopped (R480). -/
def engineJob (d : Dev) : Option Nat :=
  (List.range 16).find? fun n => decide ((d.job n).st = .running) || (d.job n).aborting

/-- Job a is started before job b (R474). -/
def startsBefore (a b : Job) : Bool :=
  if a.cls ≠ b.cls then decide (a.cls.toNat < b.cls.toNat)
  else if a.st ≠ b.st then decide (a.st = .suspended)
  else if a.submitted ≠ b.submitted then before a.submitted b.submitted
  else decide (a.order < b.order)

/-- The job that a free engine starts (R474). -/
def nextJob (d : Dev) : Option Nat :=
  let waiting := (List.range 16).filter fun n => decide ((d.job n).st = .queued) || decide ((d.job n).st = .suspended)
  waiting.foldl (fun best n => match best with
    | none => some n
    | some m => if startsBefore (d.job n) (d.job m) then some n else some m) none

/-- The FIPS 203 check of an ML-KEM-768 encapsulation key: every 12-bit coefficient below 3,329. -/
def encapKeyOk (ek : Bytes) : Bool :=
  (chunks 3 384 (ek.take 1152)).all fun b => decide (leVal b % 4096 < 3329) && decide (leVal b / 4096 < 3329)

/-- The field rules met at a job's start (R473, R482). -/
def jobInputOk (op : Nat) (b : Bytes) : Bool :=
  if op = 0x04 then
    let bits := beAt 0 2 b
    (decide (bits = 2048) || decide (bits = 3072) || decide (bits = 4096)) && decide (beAt 2 1 b ≤ 1) && decide (beAt 3 1 b ≤ 1) &&
      decide (beAt 4 4 b % 2 = 1) && decide (3 ≤ beAt 4 4 b)
  else if op = 0x10 then
    let kind := beAt 1 1 b
    let uses := beAt 2 1 b
    decide (b.length = 1240) && decide (beAt 0 1 b < 128) && decide (kind ≤ 2) && decide (uses ≠ 0) && decide (uses < 16) && decide (beAt 3 1 b = 0) &&
      (if bitsAt useEzith 1 uses = 1 then decide (beAt 4 4 b = 0) else decide (beAt 4 4 b ≠ 0)) &&
      (if kind = 1 then allZero (slice 24 32 b) else true) && (if kind = 0 then allZero (slice 56 1184 b) else encapKeyOk (slice 56 1184 b))
  else if op = 0x11 then decide (b.length = 32)
  else true

/-- Suspending a job and resuming it each take 0.5 µs (R476), in clock units. -/
def halfUs (d : Dev) : Int := nominalT d / 250

/-- Run time of the operations whose duration Table 12.1 fixes, in ns. -/
def jobNs (op : Nat) : Nat :=
  if op = 0x01 then 70000 else if op = 0x02 then 90000 else if op = 0x03 then 220000 else if op = 0x05 then 120000 else 0

/-- A job has run for as long as its operation takes: a completion before that is none (R466, R469). -/
def jobRunOver (d : Dev) (j : Job) : Bool := decide ((jobNs j.op.toNat * nominalT d : Int) ≤ (j.ran + (clockNow d - j.runsFrom)) * 125000)

/-- A running job suspended. -/
def suspendJob (d : Dev) (n : Nat) : Dev :=
  let j := d.job n
  (d.setJob n { j with st := .suspended, ran := j.ran + max 0 (clockNow d - j.runsFrom) }).updSec fun x => { x with engineFree := clockNow d + halfUs d }

/-- JOB_START: in dormant, from ENTERING to the end of WAKING, the engine starts no job (R477, 15 R606). -/
def startJob (d : Dev) : Dev :=
  if d.dormant.st ≠ .running ∨ (engineJob d).isSome ∨ clockNow d < d.sec.engineFree then d
  else match nextJob d with
    | none => d
    | some n =>
      let j := d.job n
      if j.st = .suspended then d.setJob n { j with st := .running, runsFrom := clockNow d + halfUs d }
      else
        let d := d.setJob n { j with st := .running, started := now d, runsFrom := clockNow d, ran := 0 }
        if jobInputOk j.op.toNat j.input then d else failJob d n 3

/-- JOB_START. -/
def execJobStart (e : Nat) (s : State) : Res := .next (s.withDev (startJob (s.dev.at e)))

/-- YIELD_STATION (R475, R477, R480): an aborted job stops; a running one is suspended for a queued job of a lower
class, or in dormant. -/
def yieldStation (d : Dev) : Dev :=
  match engineJob d with
  | none => d
  | some n =>
    let j := d.job n
    if j.aborting then d.setJob n { j with aborting := false }
    else
      let lower := (List.range 16).any fun m => decide ((d.job m).st = .queued) && decide ((d.job m).cls.toNat < j.cls.toNat)
      if lower ∨ d.dormant.st ≠ .running then suspendJob d n else d

/-- YIELD_STATION. -/
def execYieldStation (e : Nat) (s : State) : Res := .next (s.withDev (yieldStation (s.dev.at e)))

/-- A verify job's outcome (R467). -/
def verifyJob (op : Nat) (b : Bytes) : Bool :=
  if op = 0x01 then Config.ed25519Verify (slice 0 32 b) (b.drop 96) (slice 32 64 b)
  else if op = 0x02 then Config.p256Verify (slice 0 64 b) (Config.sha256 (b.drop 128)) (slice 64 64 b)
  else if op = 0x03 then Config.p384Verify (slice 0 96 b) (Config.sha384 (b.drop 192)) (slice 96 96 b)
  else if op = 0x04 then
    let n := beAt 0 2 b / 8
    let m := b.drop (8 + 2 * n)
    Config.rsaVerify (slice 0 8 b) (slice 8 n b) (if beAt 3 1 b = 0 then Config.sha256 m else Config.sha384 m) (slice (8 + n) n b)
  else Config.mldsa65Verify (slice 0 1952 b) (b.drop 5261) (slice 1952 3309 b)

/-- The KDF of R483: the slot key and its CHECK. -/
def deriveKey (transcript z : Bytes) (slot uses : Byte) (ten : Nat) : Bytes × Bytes × Bytes :=
  let h := sha3_256 transcript
  let kdk := sha3_256 (ascii "ZX4-AGREE" ++ z ++ h)
  let ctx := [slot] ++ be 4 ten ++ [uses]
  let k := fun i => aesCmac kdk (be 4 i ++ ascii "ZX4 SLOT" ++ [0] ++ ctx ++ be 4 256)
  let key := k 1 ++ k 2
  (h, key, (aesCmac key (zeros 16)).take 4)

/-- The base point of X25519. -/
def x25519Base : Bytes := fit 32 [9]

/-- An AGREE job completes (R482 to R485): its ephemeral secrets and its nonce are drawn from the entropy source. -/
def completeAgree (d : Dev) (n : Nat) : Dev :=
  let j := d.job n
  let b := j.input
  let kind := beAt 1 1 b
  let r1 := drawEntropy d
  let r2 := drawEntropy r1.2
  let r3 := drawEntropy r2.2
  let d := r3.2
  let xs := fit 32 (Config.x25519 r1.1 (slice 24 32 b))
  if kind ≠ 1 ∧ allZero xs then failJob d n 3
  else
    let xdev := if kind = 1 then zeros 32 else fit 32 (Config.x25519 r1.1 x25519Base)
    let kem := Config.mlkemEncap (slice 56 1184 b) r2.1
    let ct := if kind = 0 then zeros 1088 else fit 1088 kem.1
    let head := xdev ++ ct ++ r3.1.take 16
    let z := (if kind = 1 then [] else xs) ++ (if kind = 0 then [] else fit 32 kem.2)
    let uses := nth 0 b 2
    let k := deriveKey (b ++ head) z (nth 0 b 0) uses (beAt 4 4 b)
    let signed := ascii "ZX4 AGREE" ++ k.1
    let out := head ++ k.2.2 ++ zeros 4 ++ fit 64 (Config.identityEd25519 signed) ++ fit 3309 (Config.identityMldsa65 signed)
    let d := installKey d (beAt 0 1 b) k.2.1 uses (BitVec.ofNat 32 (beAt 4 4 b)) (BitVec.ofNat 32 (beVal k.2.2))
    d.setJob n { j with st := .done, result := 0, ended := now d, output := out, outLen := 4517 }

/-- An ATTEST job completes (Table 12.5). -/
def completeAttest (d : Dev) (n : Nat) : Dev :=
  let j := d.job n
  let body := be 8 d.part.uniqueId.toNat ++ be 4 d.part.firmware.toNat ++ be 1 d.sec.imageVersion.toNat ++ zeros 3 ++ be 8 j.started.toNat ++ j.input
  let signed := ascii "ZX4 ATTEST" ++ body
  let out := body ++ fit 64 (Config.identityEd25519 signed) ++ fit 3309 (Config.identityMldsa65 signed)
  d.setJob n { j with st := .done, result := 0, ended := now d, output := out, outLen := 3429 }

/-- A job's outcome at its completion; `retry` says that a class-2 job met the limit of signing iterations (R468). -/
def finishJob (d : Dev) (n : Nat) (retry : Bool) : Dev :=
  let j := d.job n
  if j.cls = 2 ∧ retry then failJob d n 4
  else if j.op = 0x10 then completeAgree d n
  else if j.op = 0x11 then completeAttest d n
  else d.setJob n { j with st := .done, result := if verifyJob j.op.toNat j.input then 1 else 2, ended := now d, outLen := 0 }

/-- JOB_COMPLETE, once the job has run its time: of an aborted job the outcome stands only at the abort's own stamp (R479, R480). -/
def completeJob (d : Dev) (retry : Bool) : Dev :=
  match engineJob d with
  | none => d
  | some n =>
    let j := d.job n
    if ¬ jobRunOver d j then d
    else if j.aborting then
      let d := d.setJob n { j with aborting := false }
      if j.st = .aborted ∧ j.ended = now d ∧ j.abortOrd = ordinal d then
        let d := finishJob d n retry
        d.setJob n { d.job n with st := .abortLate }
      else d
    else finishJob d n retry

/-- JOB_COMPLETE. -/
def execJobComplete (e : Nat) (retry : Bool) (s : State) : Res := .next (s.withDev (completeJob (s.dev.at e) retry))

/-- An abort of a record's job (R478 to R480). -/
def abortJob (d : Dev) (n : Nat) : Dev :=
  let j := d.job n
  match j.st with
  | .free | .aborted | .abortLate => d
  | .done | .failed => d.setJob n { j with st := .abortLate }
  | .running => d.setJob n { j with st := .aborted, ended := now d, abortOrd := ordinal d, output := [], outLen := 0, aborting := true }
  | .queued | .suspended => d.setJob n { j with st := .aborted, ended := now d, output := [], outLen := 0 }

/-! ## Fuses (R498, R502) -/

/-- The write of RAISE_FLOOR is accepted. -/
def raiseFloorOk (f : Fuses) (d : Dev) (v : Byte) : Bool := decide (v.toNat = d.sec.imageVersion.toNat) && decide (f.floor.toNat < v.toNat)

/-- The floor burnt to a value. -/
def burnFloor (f : Fuses) (d : Dev) (v : Byte) : Fuses := if raiseFloorOk f d v then { f with floor := BitVec.ofNat 6 v.toNat } else f

/-- The write of REVOKE_KEYSET is accepted. -/
def revokeOk (d : Dev) (v : Byte) : Bool := decide (v.toNat < 4) && decide (v.toNat ≠ d.sec.keyset.toNat)

/-- A key set revoked. -/
def burnRevoke (f : Fuses) (d : Dev) (v : Byte) : Fuses :=
  if revokeOk d v then { f with revoked := f.revoked ||| BitVec.ofNat 4 (2 ^ v.toNat) } else f

/-! ## Boot images (R499, R500) -/

/-- The fused hash of a key set. -/
def keysetHash (f : Fuses) (n : Nat) : BitVec 256 := if n = 0 then f.hash0 else if n = 1 then f.hash1 else if n = 2 then f.hash2 else f.hash3

/-- The LAST_REJECT codes of the checks of R499 that an image fails, in the order of the checks. -/
def imageFailures (f : Fuses) (img : Bytes) : List Nat :=
  let len := beAt 12 4 img
  let set := beAt 6 1 img
  let header := decide (slice 0 4 img = ascii "ZXBI") && decide (beAt 4 2 img = 1) && decide (set ≤ 3) && decide (beAt 7 1 img ≤ 63) &&
    decide (1 ≤ len) && decide (len ≤ 0x04000000) && allZero (slice 48 16 img) && allZero (slice 5517 2675 img) && decide (8192 + len ≤ img.length)
  let signed := img.take 2112
  let ml := Config.mldsa65Verify (slice 64 1952 img) signed (slice 2112 3309 img)
  let ec := Config.p384Verify (slice 2016 96 img) (Config.sha384 signed) (slice 5421 96 img)
  (if header then [] else [1]) ++
    (if bitsAt set 1 f.revoked.toNat = 0 ∧ beVal (sha3_256 (slice 64 2048 img)) = (keysetHash f set).toNat then [] else [2]) ++
    (if f.floor.toNat ≤ beAt 7 1 img then [] else [3]) ++
    (if slice 16 32 img = sha3_256 (slice 8192 len img) then [] else [4]) ++
    (if ml && ec then [] else if ec then [5] else if ml then [6] else [7])

/-- A rejected image is counted and raised (R500). -/
def rejectImage (d : Dev) (codes : List Nat) : Dev :=
  let d := d.updSec fun s => { s with bootRejects := s.bootRejects + 1, lastReject := BitVec.ofNat 8 (nth 0 codes 0) }
  raiseDev d (if codes = [3] then 0xC1 else 0xC0) 0 0

end Sys2Proof.Machine
end

