-- ==== Sys2Proof/Machine/Landing.lean ====
section
/-! DEFINITION. Downstream transport: segments, policing, assembly, checks, landing, answers, and the feeding of beats
(09 R360 to R382). -/

namespace Sys2Proof.Machine

/-! ## Segments and headers (Tables 9.1 to 9.3) -/

/-- Longest segment of the mode (0x5400). -/
def segMax (d : Dev) : Nat := if ethMode d then legNat d 0x5400 0x01 else legNat d 0x5400 0x00

/-- A segment with its header as Table 9.3 gives it; what differs is no segment (assumption log 30). -/
def segmentOk (d : Dev) (b : Bytes) : Bool :=
  let n := beAt 12 2 b
  decide (16 ≤ b.length) && decide (beAt 0 2 b = 0x5A53) && decide (beAt 3 1 b ≤ 1) && decide (1 ≤ n) && decide (n ≤ segMax d) && decide (beAt 14 2 b = 0) && decide (b.length = 16 + n)

/-- LAST. -/
def segLast (b : Bytes) : Bool := decide (beAt 3 1 b = 1)
/-- FSEQ. -/
def segFseq (b : Bytes) : BitVec 32 := BitVec.ofNat 32 (beAt 4 4 b)
/-- OFFSET. -/
def segOffset (b : Bytes) : Nat := beAt 8 4 b

/-- PAYLOAD_LEN of a frame. -/
def payloadLen (b : Bytes) : Nat := beAt 12 4 b

/-- N_LOG2, LIMBS and PAYLOAD_LEN agree with Table 9.2. -/
def payloadOk (b : Bytes) : Bool :=
  let type := beAt 3 1 b
  let n := beAt 41 1 b
  let limbs := beAt 42 1 b
  let len := payloadLen b
  if type = 1 then
    decide (15 ≤ n) && decide (n ≤ 17) && decide (1 ≤ limbs) && decide (limbs ≤ (if n = 15 then 15 else if n = 16 then 7 else 3)) && decide (len = limbs * 9 * 2 ^ n / 2)
  else if type = 2 then decide (n = 0) && decide (limbs = 0) && decide (64 ≤ len) && decide (len ≤ 4194240) && decide (len % 64 = 0)
  else if type = 3 then decide (n = 0) && decide (limbs = 0) && decide (len = 264)
  else false

/-- The tag received agrees with the tag under a generation held. -/
def tagOk (a : Assembly) : Bool :=
  let body := a.buf.take (a.buf.length - 16)
  a.keys.any fun k => decide (frameTag a.auth.toNat k body = a.buf.drop (a.buf.length - 16))

/-- The header checks of R369 but for STREAM_ID. -/
def headerOk (d : Dev) (p : Nat) (types : List Nat) (b : Bytes) : Bool :=
  decide (beAt 0 2 b = 0x5A46) && decide (beAt 2 1 b = 1) && decide (beAt 3 1 b ∈ types) && decide (beAt 44 4 b = tenant d p) && payloadOk b &&
    decide (b.length = 64 + payloadLen b + 16)

/-- Checks now in progress (12 R494, R495). -/
def checksOpen (d : Dev) : Nat :=
  (d.stripTx.filter fun x => x.2.asm.isSome).length + ((d.partTx.map fun x => (x.2.answerAsm.filter fun a => a.2.isSome).length).foldl (· + ·) 0)

/-- The copy of the generations a check takes at its first byte (12 R491, R492, R495): an unusable slot, or no context,
leaves it none. -/
def openCheck (d : Dev) (slot use ten : Nat) : List Bytes × Dev :=
  if 2048 ≤ checksOpen d then ([], raiseDev d 0xC4 slot 0)
  else if slotUsable d slot use ten then (checkKeys d slot use ten, d)
  else ([], raiseSlot d slot)

/-! ## Ring slots (R366, R367, R371) -/

/-- Transport raise: LOC16 the strip, LOC64 the frame's FSEQ. -/
def raiseFrame (d : Dev) (src s : Nat) (fseq : BitVec 32) : Dev :=
  let p := (d.strip s).partition.toNat
  if p < 64 then raisePart d src p s fseq.toNat else raise d { src := src, loc16 := s, loc64 := fseq.toNat }

/-- A ring slot is held (R366). -/
def slotHeld (x : StripTx) (n : Nat) : Bool :=
  decide ((x.asm.map (·.slot)) = some n) || decide (n ∈ x.slip) || decide (x.fedNow = some n) || decide (x.fedPrev = some n) ||
    decide (x.fedReplay = some n) || decide (x.fedReplayPrev = some n)

/-- The least recently claimed slot that is not held. -/
def claimable (x : StripTx) : Nat := (x.claims.find? fun n => !slotHeld x n).getD 0

/-- Zero over every byte of a slot. -/
def zeroSlot (d : Dev) (s n : Nat) : Dev :=
  match physPage d (d.strip s).partition.toNat (stripNat d s 0x23 + n) with
  | some pg => zeroPage d pg
  | none => d

/-- WIDE residues of a PACK36 string: whole groups of 16 (05 R173, R174). -/
def unpack36 (b : Bytes) : Bytes := ((List.range (b.length / 72 * 16)).map fun i => le 8 (pack36 b i)).flatten

/-- The image of a frame's octets in its slot, as far as they have arrived: pieces by slot offset. -/
def slotImage (b : Bytes) : List (Nat × Bytes) :=
  let n := beAt 41 1 b
  let body := slice 64 (payloadLen b) b
  let limb := 9 * 2 ^ n / 2
  if b.length < 64 ∨ ¬ payloadOk b then [(0, b.take 64)]
  else if beAt 3 1 b = 1 then (0, b.take 64) :: (List.range (beAt 42 1 b)).map fun i => (64 + i * 8 * 2 ^ n, unpack36 (slice (i * limb) limb body))
  else [(0, b.take 64), (64, body)]

/-- The frame's octets received so far, written into its slot. -/
def writeSlot (d : Dev) (s n : Nat) (b : Bytes) : Dev :=
  let p := (d.strip s).partition.toNat
  (slotImage b).foldl (fun d x => if x.2.isEmpty then d else writePage d p (stripNat d s 0x23 + n) x.1 x.2) d

/-- A frame that is not landed: its slot is zeroed and not held. -/
def dropFrame (d : Dev) (s : Nat) : Dev :=
  match (d.stx s).asm with
  | none => d
  | some a => zeroSlot (updStx d s fun x => { x with asm := none, ring := tabSet none x.ring a.slot none }) s a.slot

/-- The frame being assembled is incomplete (R368). -/
def incompleteFrame (d : Dev) (s : Nat) : Dev :=
  match (d.stx s).asm with
  | none => d
  | some a => raiseFrame (updStx (dropFrame d s) s fun x => { x with incomplete := x.incomplete + 1 }) 0xB1 s a.fseq

/-! ## Landing (R369 to R373) -/

/-- The oldest frames beyond a depth leave the slip buffer (R373, R382); `fuel` bounds their number. -/
def trimSlip (d : Dev) (s depth : Nat) : Nat → Dev
  | 0 => d
  | fuel + 1 =>
    let x := d.stx s
    match x.slip with
    | [] => d
    | n :: rest =>
      if x.slip.length ≤ depth then d
      else
        let f := (tabGet none x.ring n).map (·.fseq)
        trimSlip (raiseFrame (d.setStx s { x with slip := rest, slipDrops := x.slipDrops + 1 }) 0xB4 s (f.getD 0)) s depth fuel

/-- The frame whose LAST segment has arrived is checked, and lands or is zeroed. -/
def finishFrame (d : Dev) (s : Nat) : Dev :=
  match (d.stx s).asm with
  | none => d
  | some a =>
    let p := (d.strip s).partition.toNat
    let x := d.stx s
    let fseq : BitVec 32 := BitVec.ofNat 32 (beAt 8 4 a.buf)
    if ¬ (tagOk a && headerOk d p [1, 2] a.buf && decide (beAt 4 4 a.buf = streamId d s)) then
      raiseFrame (updStx (dropFrame d s) s fun x => { x with authFails := x.authFails + 1 }) 0xB0 s a.fseq
    else if x.landedOnce ∧ ¬ olderSeq x.highFseq fseq then
      raiseFrame (updStx (dropFrame d s) s fun x => { x with stale := x.stale + 1 }) 0xB7 s fseq
    else
      let depth := stripNat d s 0x26
      let d := trimSlip d s (depth - 1) 16
      let r : RingSlot := { fseq := fseq, sessions := BitVec.ofNat 64 (beAt 16 8 a.buf), turns := BitVec.ofNat 64 (beAt 24 8 a.buf), landed := now d }
      updStx d s fun x => { x with asm := none, ring := tabSet none x.ring a.slot (some r), slip := x.slip ++ [a.slot], landedOnce := true, framesLanded := x.framesLanded + 1, highFseq := fseq }

/-- The octets of a segment joined to the frame being assembled. -/
def takeSegment (d : Dev) (s : Nat) (b : Bytes) : Dev :=
  match (d.stx s).asm with
  | none => d
  | some a =>
    let buf := a.buf ++ b.drop 16
    let d := updStx d s fun x => { x with asm := some { a with buf := buf, lastAt := now d } }
    if 16 ≤ buf.length ∧ 64 + payloadLen buf + 16 < buf.length then incompleteFrame d s
    else
      let d := writeSlot d s a.slot (buf.take (64 + payloadLen buf))
      if segLast b then finishFrame d s else d

/-- A segment with OFFSET 0 that passes the policer starts a frame in a claimed slot. -/
def startFrame (d : Dev) (s : Nat) (b : Bytes) : Dev :=
  let x := d.stx s
  let slot := claimable x
  let key := stripNat d s 0x22
  let c := openCheck d key useDown (tenant d (d.strip s).partition.toNat)
  let a : Assembly := { slot := slot, type := nth 0 b 2, fseq := segFseq b, buf := [], auth := BitVec.ofNat 8 (stripNat d s 0x21), keySlot := BitVec.ofNat 8 key, keys := c.1, lastAt := now d }
  takeSegment (updStx c.2 s fun x => { x with tokens := x.tokens - 1, discarding := none, asm := some a, claims := x.claims.filter (· ≠ slot) ++ [slot], ring := tabSet none x.ring slot none }) s b

/-- Frames reach a strip in these states (R374). -/
def takesFrames (x : Strip) : Bool :=
  match x.st with
  | .placed | .running | .recovering | .shadow => true
  | _ => false

/-- A segment of a strip (R365 to R374). -/
def stripSegment (d : Dev) (s : Nat) (b : Bytes) : Dev :=
  if ¬ takesFrames (d.strip s) ∨ ¬ segmentOk d b then d
  else if segOffset b = 0 then
    let d := incompleteFrame d s
    let x := d.stx s
    if x.tokens = 0 then
      raiseFrame (d.setStx s { x with discarding := if segLast b then none else some (segFseq b), policed := x.policed + 1 }) 0xB2 s (segFseq b)
    else startFrame d s b
  else
    let x := d.stx s
    match x.asm with
    | none => if x.discarding = some (segFseq b) ∧ segLast b then d.setStx s { x with discarding := none } else d
    | some a => if segOffset b = a.buf.length then takeSegment d s b else incompleteFrame d s

/-- SEGMENT_RECEIVED. -/
def execSegmentReceived (e : Nat) (strip : Nat) (sdu : Bytes) (s : State) : Res :=
  let d := s.dev.at e
  onUnit s (decide (strip < 256)) (stripSegment { d with handed := d.handed.erase (.segment strip sdu) } strip sdu)

/-! ## Answers (R376, R377) -/

/-- The strip of a partition that a STREAM_ID names. -/
def strandOf (d : Dev) (p stream : Nat) : Option Nat := (stripsOf d p).find? fun s => decide (streamId d s = stream)

/-- The answer being assembled on a port. -/
def answerOf (d : Dev) (p port : Nat) : Option Assembly := tabGet none (d.ptx p).answerAsm port

/-- The answer being assembled on a port replaced. -/
def setAnswer (d : Dev) (p port : Nat) (a : Option Assembly) : Dev :=
  let x := d.ptx p
  d.setPtx p { x with answerAsm := tabSet none x.answerAsm port a }

/-- A failed or incomplete answer is counted in the strip it names, and raised. -/
def answerFails (d : Dev) (p src : Nat) (a : Assembly) (f : StripTx → StripTx) : Dev :=
  match strandOf d p (beAt 4 4 a.buf) with
  | some s => raisePart (updStx d s f) src p s a.fseq.toNat
  | none => raisePart d src p 0xFFFF a.fseq.toNat

/-- The answer being assembled is incomplete (R368, R376). -/
def incompleteAnswer (d : Dev) (p port : Nat) : Dev :=
  match answerOf d p port with
  | none => d
  | some a => answerFails (setAnswer d p port none) p 0xB1 a fun x => { x with incomplete := x.incomplete + 1 }

/-- An answer whose LAST segment has arrived: stamped, or discarded. -/
def finishAnswer (d : Dev) (p port : Nat) : Dev :=
  match answerOf d p port with
  | none => d
  | some a =>
    let d := setAnswer d p port none
    match strandOf d p (beAt 4 4 a.buf), tagOk a && headerOk d p [3] a.buf with
    | some s, true =>
      let x := d.ptx p
      d.setPtx p { x with answers := x.answers ++ [(s, slice 64 264 a.buf, now d)] }
    | _, _ => answerFails d p 0xB0 a fun x => { x with authFails := x.authFails + 1 }

/-- The octets of a segment joined to the answer being assembled. -/
def takeAnswer (d : Dev) (p port : Nat) (b : Bytes) : Dev :=
  match answerOf d p port with
  | none => d
  | some a =>
    let buf := a.buf ++ b.drop 16
    let d := setAnswer d p port (some { a with buf := buf, lastAt := now d })
    if 16 ≤ buf.length ∧ 64 + payloadLen buf + 16 < buf.length then incompleteAnswer d p port
    else if segLast b then finishAnswer d p port else d

/-- An answer begins: its check takes AUTH of the strip that STREAM_ID names. -/
def startAnswer (d : Dev) (p port : Nat) (b : Bytes) : Dev :=
  let slot := legNat d (0x5410 + p) 0x06
  let auth := match strandOf d p (beAt 4 4 (b.drop 16)) with
    | some s => stripNat d s 0x21
    | none => 0
  let c := openCheck d slot useAnswer (tenant d p)
  takeAnswer (setAnswer c.2 p port (some { slot := 16, type := nth 0 b 2, fseq := segFseq b, buf := [], auth := BitVec.ofNat 8 auth, keySlot := BitVec.ofNat 8 slot, keys := c.1, lastAt := now d })) p port b

/-- A segment on an ANSWER binding. -/
def answerSegment (d : Dev) (p port : Nat) (b : Bytes) : Dev :=
  if ¬ segmentOk d b then d
  else if segOffset b = 0 then
    let d := incompleteAnswer d p port
    let x := d.ptx p
    if legNat d 0x5400 0x03 ≤ x.answersNow then
      raisePart (d.setPtx p { x with answersPoliced := x.answersPoliced + 1, answerSkip := tabSet none x.answerSkip port (some (segFseq b)) }) 0xB6 p 0xFFFF (segFseq b).toNat
    else startAnswer (d.setPtx p { x with answersNow := x.answersNow + 1, answerSkip := tabSet none x.answerSkip port none }) p port b
  else match answerOf d p port with
    | none => d
    | some a => if segOffset b = a.buf.length then takeAnswer d p port b else incompleteAnswer d p port

/-- ANSWER_SEGMENT. -/
def execAnswerSegment (e : Nat) (partition port : Nat) (sdu : Bytes) (s : State) : Res :=
  let d := s.dev.at e
  onUnit s (decide (partition < 64)) (answerSegment { d with handed := d.handed.erase (.answer partition port sdu) } partition port sdu)

/-- ASSEMBLY_TIMEOUT (R368): no segment for ASSEMBLY_TICKS. -/
def execAssemblyTimeout (e : Nat) (target : AsmTarget) (s : State) : Res :=
  let d := s.dev.at e
  let due := fun (a : Option Assembly) => match a with
    | some x => reached d (after x.lastAt (legNat d 0x5400 0x04))
    | none => false
  match target with
  | .strip n => onUnit s (decide (n < 256)) (if due (d.stx n).asm then incompleteFrame d n else d)
  | .answer p port => onUnit s (decide (p < 64)) (if due (answerOf d p port) then incompleteAnswer d p port else d)

/-! ## Feeding beats (R378 to R381) -/

/-- A feed record (Table 9.4). -/
def feedBytes (f : Feed) : Bytes :=
  le 8 f.beat ++ le 1 f.kind.toNat ++ le 1 f.slot ++ zeros 2 ++ le 4 f.fseq.toNat ++ le 8 f.present.toNat ++ le 8 f.eot.toNat ++ le 8 f.landed.toNat ++ zeros 24

/-- The beats that a restart of a partition could begin at: of its newest checkpoint, or of its first opening, and of the
mirrors it holds (07 R306). -/
def restartBeats (x : Partition) : List Nat :=
  (match newestCkpt x with
  | some (_, c) => [c.beat]
  | none => (x.base.map (·.beat)).toList) ++ x.mirrors.map (·.beat)

/-- The feed of a beat is kept while a replay may need it, or the beat after it (R380, R381). -/
def feedStays (x : Partition) (newest k : Nat) : Bool := decide (newest ≤ k + 32) || (restartBeats x).any fun c => decide (c ≤ k + 1)

/-- What fed a beat kept, and its feed record written (R379); a newer beat keeps its place among the 32 records (log 23). -/
def putFeed (d : Dev) (s : Nat) (f : Feed) : Dev :=
  let p := (d.strip s).partition.toNat
  let taken := (d.stx s).feeds.any fun x => decide (f.beat < x.1) && decide (x.1 % 32 = f.beat % 32)
  let d := updStx d s fun x => { x with feeds := (tabSet none x.feeds f.beat (some f)).filter fun y => feedStays (d.partition p) f.beat y.1 }
  if taken then d else writePage d p (stripNat d s 0x24) (stripNat d s 0x25 + 64 * (f.beat % 32)) (feedBytes f)

/-- What fed a beat. -/
def feedOf (d : Dev) (s k : Nat) : Option Feed := tabGet none (d.stx s).feeds k

/-- A VOID feed of a beat (R380). -/
def voidFeed (d : Dev) (s k : Nat) : Feed :=
  { beat := k, kind := 2, slot := 0xFF, fseq := 0, present := ((if k = 0 then none else feedOf d s (k - 1)).map (·.present)).getD 0, eot := 0, landed := 0 }

/-- The feed of a slot. -/
def slotFeed (x : StripTx) (k n : Nat) (fresh : Bool) : Feed :=
  match tabGet none x.ring n with
  | some r => { beat := k, kind := if fresh then 0 else 1, slot := n, fseq := r.fseq, present := r.sessions, eot := if fresh then r.turns else 0, landed := r.landed }
  | none => { beat := k, kind := 2, slot := 0xFF, fseq := 0, present := 0, eot := 0, landed := 0 }

/-- The oldest frames of the slip buffer that the opening of beat k can feed: a frame that landed at the opening's own
stamp, or since, feeds a later beat (R378, 02 Table 2.7). -/
def landedBy (d : Dev) (s k : Nat) : List Nat :=
  let o := beatStamp d (d.strip s).partition.toNat k
  (d.stx s).slip.takeWhile fun n => match tabGet none (d.stx s).ring n with
    | some r => before r.landed o || before (now d) r.landed
    | none => true

/-- The real opening of beat k of a strip feeds it, once (R365, R378). -/
def feedReal (d : Dev) (s k : Nat) : Dev :=
  if (feedOf d s k).isSome then d
  else
    let d := updStx d s fun x => { x with tokens := min (stripNat d s 0x27) (x.tokens + 1), fedUpTo := some k }
    let x := d.stx s
    match if (landedBy d s k).isEmpty then [] else x.slip, x.fedNow with
    | n :: rest, _ => putFeed (d.setStx s { x with slip := rest, fedPrev := x.fedNow, fedNow := some n }) s (slotFeed x k n true)
    | [], some n =>
      let f := slotFeed x k n false
      raiseFrame (putFeed (d.setStx s { x with slipRepeats := x.slipRepeats + 1, fedPrev := x.fedNow }) s f) 0xB3 s f.fseq
    | [], none => putFeed d s (voidFeed d s k)

/-- The slot that feeds the replayed beat; the one before it is held with it (R366). -/
def replaySlot (d : Dev) (s : Nat) (slot : Option Nat) : Dev := updStx d s fun x => { x with fedReplayPrev := x.fedReplay, fedReplay := slot }

/-- The feed of a replayed beat (R310, R381): what fed it, while the frame is still in its slot, else VOID. A frame lost is
counted and raised; a strip that was not fed then is fed VOID, and the record says so (R379). -/
def feedReplay (d : Dev) (p s k : Nat) : Feed × Dev :=
  match feedOf d s k with
  | none =>
    let v := voidFeed d s k
    (v, putFeed (replaySlot d s none) s v)
  | some f =>
    if f.kind = 2 then (f, replaySlot d s none)
    else if (tabGet none (d.stx s).ring f.slot).map (·.fseq) = some f.fseq then (f, replaySlot d s (some f.slot))
    else
      let v := voidFeed d s k
      let d := putFeed (replaySlot d s none) s v
      let d := updStrip d s fun x => { x with framesLost := x.framesLost + 1 }
      let d := updPart d p fun x => { x with lost := x.lost + 1, lastRecovery := setNth x.lastRecovery 3 (BitVec.ofNat 8 (min 255 (x.lost + 1))) }
      (v, raisePart d 0xE5 p s k)

end Sys2Proof.Machine
end

