-- ==== Sys2Proof/Machine/Sentry.lean ====
section
/-! DEFINITION. The sentry: measurements, the pass-device thermal model, starts, trips, back-off, EWARN_N, PG_N and the
service outputs (15 R575 to R595, 17 R632, 18 R650). Times are microseconds of its own clock; one tick is 125 µs. -/

namespace Sys2Proof.Machine

/-- A sentry setting. -/
def senNat (d : Dev) (sub : Nat) : Nat := legNat d 0x8000 sub

/-- The sentry changed. -/
def updSen (d : Dev) (f : Sentry → Sentry) : Dev := { d with sentry := f d.sentry }

/-- The stamp the sentry gives: the graticule's when it is running, otherwise its own uptime in µs (R589). -/
def sentryStamp (d : Dev) : BitVec 64 := if d.grat.everLocked then (now d).setWidth 64 else BitVec.ofNat 64 d.sentry.us

/-- A raise of a sentry source: LOC64 its stamp (16 Table 16.3). -/
def raiseSentry (d : Dev) (s : Nat) : Dev := raiseDev d s 0 (sentryStamp d).toNat

/-! ## Loss of power (17 R632, 14 Table 14.6) -/

/-- A block whose retirement was not programmed is good again. -/
def unretired (t : Tab Channel) : JournalRec → Tab Channel
  | .retire c b =>
    let x := tabGet {} t c
    tabSet {} t c { x with parcels := tabSet {} x.parcels b { tabGet {} x.parcels b with good := true } }
  | _ => t

/-- What the flash keeps: sealed objects, and the parcels of those and of the SLC areas. Pending journal records, objects
being written and port states are lost; a bad block whose record was not programmed is not known as bad (R571). -/
def keptFlash (c : Cad) : Cad :=
  let kept := c.objects.filter fun o => decide (o.st ≠ .writing)
  let owned := fun (i : BitVec 64) => decide (i = 0) || decide (2 ^ 63 ≤ i.toNat) || kept.any fun o => decide (o.id = i)
  { objects := kept
    channels := c.journal.foldl unretired (tabMap {} (fun x => { x with parcels := tabMap {} (fun b => { b with owner := b.owner.filter owned }) x.parcels, lost := 0 }) c.channels)
    writeSeq := c.writeSeq
    blockBytes := c.blockBytes
    cleanStop := c.cleanStop }

/-- The Legend values the VSB domain holds: the sentry's settings (assumption log 38). -/
def keptLegend (t : Tab (Option Bytes)) : Tab (Option Bytes) := t.filter fun x => decide (x.1 / 256 = 0x8000)

/-- The main domain loses power: only the VSB domain and the flash keep their contents (R632). -/
def powerLoss (d : Dev) : Dev :=
  { part := d.part
    sentry := d.sentry
    cad := keptFlash d.cad
    faults := { log := d.faults.log }
    start := { bootNext := d.start.bootNext }
    legend := keptLegend d.legend
    wire := d.wire
    free := d.free
    entropy := d.entropy }

/-! ## Starts and trips (R581 to R585, R588, R589) -/

/-- GATE is off: in OFF and BACKOFF, and while SENTRY_FET_SHORT holds it off (Table 15.2, R591). -/
def gateOff (x : Sentry) : Bool := decide (x.st = .off) || decide (x.st = .backoff) || x.fetShort

/-- VIN within [UV_MV, OV_MV]. -/
def vinInRange (d : Dev) (mv : Nat) : Bool := decide (senNat d 0x08 ≤ mv) && decide (mv ≤ senNat d 0x09)

/-- A trip or failed start of a source: the record, BACKOFF, GATE and PG_N off (R584, R588, R589). A trip or cut holds
EWARN_N; a failed start leaves it. -/
def cutOff (d : Dev) (src : Byte) (ewarn : Bool) : Dev :=
  let stamp := sentryStamp d
  updSen (powerLoss d) fun x => { x with
    st := .backoff, stateUs := 0, pg := false, ewarn := x.ewarn || ewarn, ewarnHeld := x.ewarnHeld || ewarn,
    n := min 255 (x.n + 1), trips := ({ source := src, stamp := stamp } :: x.trips).take 8, unreported := min 8 (x.unreported + 1),
    cut := none, cutDue := false, overUs := 0, limitUs := 0, nearUs := 0, shortUs := 0 }

/-- A trip. -/
def trip (d : Dev) (src : Byte) : Dev := cutOff d src true

/-- A start fails. -/
def failStart (d : Dev) (src : Byte) : Dev := cutOff d src false

/-- STARTING is entered with the inrush settings in force (Legend entries). -/
def startSentry (d : Dev) : Dev :=
  let i : Inrush := { mode := senNat d 0x01, limitMa := senNat d 0x03, powerW := senNat d 0x04, timerMs := senNat d 0x05 }
  updSen d fun x => { x with st := .starting, stateUs := 0, limitUs := 0, nearUs := 0, overUs := 0, gateRose := false, inrush := i, restarts := x.restarts + 1 }

/-- The trips no boot has reported are raised, oldest first, at no higher severity than NOTIFY (R589, 16 R619). -/
def reportTrips (d : Dev) : Dev :=
  let l := (d.sentry.trips.take d.sentry.unreported).reverse
  let d := updSen d fun x => { x with unreported := 0 }
  l.foldl (fun d t => raise d { src := t.source.toNat, loc64 := t.stamp.toNat, boot := some (t.stamp.setWidth 60) }) d

/-- Back-off after n consecutive trips or failed starts, in µs (R588). -/
def backoffUs (n : Nat) : Nat := min (2 ^ (n - 1)) 60 * 1000000

/-! ## The thermal model (R578 to R580) -/

/-- Tj in 1/65,536 °C (R578). -/
def junction (x : Sentry) : Int := x.anchor + x.deltaT / 16777216

/-- The pass device is hot (R580). -/
def isHot (d : Dev) : Bool := decide ((senNat d 0x0D : Int) * 65536 ≤ junction d.sentry + d.sentry.margin)

/-- ΔT one µs later: a first-order lag of TAU_MS towards RTH_JC_MCW × P_fet, in 2^−40 °C (R578; assumption log 38). -/
def lag (d : Dev) (deltaT pfetUw : Int) : Int :=
  let target := (senNat d 0x0E : Int) * pfetUw * 1099511627776 / 1000000000
  deltaT + (target - deltaT) / ((senNat d 0x0F : Int) * 1000)

/-! ## Pins (R593 to R595, 18 R650) -/

/-- HIGHEST: the highest applied severity among set statuses (16 Table 16.6). -/
def highestSet (d : Dev) : Nat := (d.faults.sources.map fun x => if x.2.set then x.2.applied.toNat else 0).foldl max 0

/-- The levels of SVC_READY, SVC_FAULT and SVC_DORMANT: low before MOUNT (18 R650). -/
def svcLevels (d : Dev) : List Bool :=
  match d.start.stage with
  | .sentry | .rails | .rom => [false, false, false]
  | _ =>
    [decide (d.start.stage = .ready) && decide (d.dormant.st = .running), decide (2 ≤ highestSet d),
      decide (d.dormant.st = .dormant)]

/-- Pin i (0 PG_N, 1 EWARN_N, 2 to 4 the service outputs) is in contention (R593). -/
def contends (d : Dev) (m : Sample) (i : Nat) : Bool :=
  !nth false d.sentry.hiz i &&
    (if i = 0 then d.sentry.pg && !m.pgLow
    else if i = 1 then d.sentry.ewarn && !m.ewarnLow
    else decide (nth false (svcLevels d) (i - 2) ≠ nth false m.svcHigh (i - 2)))

/-- Contention counted per pin for one more µs. -/
def countContention (d : Dev) (m : Sample) : Tab Nat :=
  (List.range 5).foldl (fun t i => tabSet 0 t i (if contends d m i then tabGet 0 t i + 1 else 0)) d.sentry.contUs

/-- The fault source of a pin. -/
def pinSource (pin : Nat) : Nat := if pin < 2 then 0x0A else 0x0B

/-! ## The 1 µs sample (R575, R584, R586) -/

/-- A count of consecutive µs. -/
def countUs (b : Bool) (n : Nat) : Nat := if b then n + 1 else 0

/-- The current limit that applies in a start (Table 15.3). -/
def startLimit (i : Inrush) (vin vout : Nat) : Nat :=
  if i.mode = 0 ∧ vout < vin then min i.limitMa (i.powerW * 1000000 / (vin - vout)) else i.limitMa

/-- Input current of a sample in mA: the sense voltage divided by SHUNT_UOHM (Table 15.1). -/
def sampleMa (d : Dev) (m : Sample) : Int := m.senseUv * 1000 / senNat d 0x0C

/-- Measurements, counts and the thermal model of one µs. -/
def measure (d : Dev) (m : Sample) : Dev :=
  let ma := sampleMa d m
  let uv := senNat d 0x08
  let ov := senNat d 0x09
  let ew := senNat d 0x0A
  let il := senNat d 0x02
  let mw := (m.vinMv * ma / 1000).toNat
  let dt := lag d d.sentry.deltaT (((m.vinMv : Int) - m.voutMv) * ma)
  let cont := countContention d m
  let x := d.sentry
  { d with sentry := { x with
    us := x.us + 1, stateUs := x.stateUs + 1
    vinMv := m.vinMv, voutMv := m.voutMv, gateMv := m.gateMv, iinMa := ma
    energyNj := x.energyNj + mw, edgeSamples := x.edgeSamples + 1
    deltaT := dt
    inRangeUs := countUs (decide (uv ≤ m.vinMv) && decide (m.vinMv ≤ ov)) x.inRangeUs
    ovUs := countUs (decide (ov < m.vinMv)) x.ovUs
    uvUs := countUs (decide (m.vinMv < uv)) x.uvUs
    ewarnUs := countUs (decide (m.vinMv < ew)) x.ewarnUs
    ewarnOkUs := countUs (decide (ew + 1000 ≤ m.vinMv)) x.ewarnOkUs
    overUs := countUs (decide (x.st = .on) && decide ((il : Int) < ma)) x.overUs
    limitUs := if x.st = .starting ∧ (startLimit x.inrush m.vinMv m.voutMv : Int) ≤ ma then x.limitUs + 1 else x.limitUs
    nearUs := countUs (decide (x.st = .starting) && decide (m.vinMv ≤ m.voutMv + 500)) x.nearUs
    gateRose := x.gateRose || (decide (x.st = .starting) && decide (2000 ≤ m.gateMv))
    shortUs := countUs (gateOff x && decide (10000 < m.voutMv)) x.shortUs
    contUs := cont
    extPg := m.pgLow && !x.pg
    extEwarn := m.ewarnLow && !x.ewarn } }

/-- PG_N is asserted 1 ms after entry to ON, and stage SENTRY is finished (Table 15.2, 17 Table 17.1). -/
def powerGood (d : Dev) : Dev :=
  if d.sentry.st = .on ∧ 1000 ≤ d.sentry.stateUs ∧ ¬ d.sentry.pg then
    let d := updSen d fun x => { x with pg := true }
    if d.start.stage = .sentry then { d with start := { d.start with stage := .rails } } else d
  else d

/-- One µs of a controlled cut; at the end of its lead it acts as a trip (R585). -/
def runCut (d : Dev) : Dev :=
  match d.sentry.cut with
  | some n => if n ≤ 1 then trip d d.sentry.cutSource else updSen d fun x => { x with cut := some (n - 1) }
  | none => d

/-- SENTRY_FET_SHORT's cause is gone: VOUT is below 10 V with GATE off, or STATE is ON (Table 15.10). -/
def endFetShort (d : Dev) : Dev :=
  let x := d.sentry
  if (d.fault 0x07).cause ∧ (x.st = .on ∨ (gateOff x ∧ x.voutMv < 10000)) then (updSen d fun x => { x with fetShort := false }).setCause 0x07 false else d

/-- What the sentry judges in the sample itself: a short circuit and a hot pass device (Table 15.4, R583), and 60 s ON,
after which n is 0 (R588). -/
def judgeSample (d : Dev) : Dev :=
  let x := d.sentry
  match x.st with
  | .on =>
    if (senNat d 0x07 : Int) < x.iinMa then trip d 0x03
    else if isHot d then trip d 0x05
    else
      let d := if 60000000 ≤ x.stateUs ∧ x.n ≠ 0 then updSen d fun x => { x with n := 0 } else d
      runCut (powerGood d)
  | .starting => if isHot d then failStart d 0x05 else d
  | _ => d

/-- SENTRY_SAMPLE: one µs of the sentry. -/
def execSentrySample (e : Nat) (m : Sample) (s : State) : Res :=
  .next (s.withDev (judgeSample (endFetShort (measure (s.dev.at e) m))))

/-- A sentry command that acts only when it is due. -/
def sentryRow (e : Nat) (s : State) (due : Dev → Bool) (f : Dev → Dev) : Res :=
  let d := s.dev.at e
  .next (s.withDev (if due d then f d else d))

/-- VIN_QUALIFIED (Table 15.2). -/
def execVinQualified (e : Nat) (s : State) : Res :=
  sentryRow e s (fun d => decide (d.sentry.st = .off) && decide (10000 ≤ d.sentry.inRangeUs)) startSentry

/-- VOUT is within 0.5 V of VIN and GATE at least VIN + 10 V (R581). -/
def startDone (x : Sentry) : Bool :=
  decide (x.vinMv ≤ x.voutMv + 500) && decide (x.voutMv ≤ x.vinMv + 500) && decide ((x.vinMv : Int) + 10000 ≤ x.voutMv + x.gateMv)

/-- START_COMPLETE (R581): ON, and EWARN_N is negated (R586). -/
def execStartComplete (e : Nat) (s : State) : Res :=
  sentryRow e s (fun d => decide (d.sentry.st = .starting) && !d.sentry.fetShort && startDone d.sentry)
    fun d => updSen d fun x => { x with st := .on, stateUs := 0, ewarn := false, ewarnHeld := false, overUs := 0 }

/-- SENTRY_INRUSH_FAIL (Table 15.3). -/
def execSentryInrushFail (e : Nat) (s : State) : Res :=
  sentryRow e s (fun d =>
    let x := d.sentry
    decide (x.st = .starting) && !(decide (x.inrush.mode = 0) && startDone x) &&
      decide (x.inrush.timerMs * 1000 ≤ if x.inrush.mode = 0 then x.stateUs else x.limitUs))
    fun d => failStart d 0x04

/-- SENTRY_GATE_STUCK (R583). -/
def execSentryGateStuck (e : Nat) (s : State) : Res :=
  sentryRow e s (fun d =>
    let x := d.sentry
    decide (x.st = .starting) && ((!x.gateRose && decide (1000 ≤ x.stateUs)) ||
      (decide (2000 ≤ x.nearUs) && decide (x.voutMv + x.gateMv < (x.vinMv : Int) + 10000))))
    fun d => failStart d 0x06

/-- SENTRY_OVERCURRENT (Table 15.4). -/
def execSentryOvercurrent (e : Nat) (s : State) : Res :=
  sentryRow e s (fun d => decide (d.sentry.st = .on) && decide (senNat d 0x06 ≤ d.sentry.overUs)) fun d => trip d 0x02

/-- SENTRY_OV (Table 15.4). -/
def execSentryOv (e : Nat) (s : State) : Res :=
  sentryRow e s (fun d => decide (d.sentry.st = .on) && decide (20 ≤ d.sentry.ovUs)) fun d => trip d 0x01

/-- SENTRY_UV (Table 15.4). -/
def execSentryUv (e : Nat) (s : State) : Res :=
  sentryRow e s (fun d => decide (d.sentry.st = .on) && decide (20 ≤ d.sentry.uvUs)) fun d => trip d 0x00

/-- A TSNS reading in 1/65,536 °C, none for an open or shorted diode (R579). The margin grows by 1 °C at each whole second
since the last valid reading, up to 60 °C. -/
def readTsns (d : Dev) (r : Option Int) : Dev :=
  match r with
  | some t =>
    if -40 * 65536 ≤ t ∧ t ≤ 150 * 65536 then
      (updSen d fun x => { x with anchor := t, margin := 0, tsns := t, validAt := some x.us }).setCause 0x08 false
    else invalid d
  | none => invalid d
where
  /-- A reading that is not valid. -/
  invalid (d : Dev) : Dev :=
    let d := updSen d fun x => { x with margin := match x.validAt with
      | some v => min 60 ((x.us - v) / 1000000 : Nat) * 65536
      | none => 60 * 65536 }
    (raiseSentry d 0x08).setCause 0x08 true

/-- TSNS_READING. -/
def execTsnsReading (e : Nat) (reading : Option Int) (s : State) : Res := .next (s.withDev (readTsns (s.dev.at e) reading))

/-- CONTROLLED_CUT (R585): EWARN_N at once, and EWARN_LEAD_TICKS of 125 µs before the cut; a cut under way keeps its lead. -/
def execControlledCut (e : Nat) (s : State) : Res :=
  sentryRow e s (fun d => d.sentry.cutDue) fun d =>
    if d.sentry.st = .on ∧ d.sentry.cut.isNone then updSen d fun x => { x with cutDue := false, ewarn := true, ewarnHeld := true, cut := some (senNat d 0x0B * 125) }
    else updSen d fun x => { x with cutDue := false }

/-- EWARN_INPUT (R586). -/
def execEwarnInput (e : Nat) (s : State) : Res :=
  sentryRow e s (fun d => decide (d.sentry.st = .on) && !d.sentry.ewarn && decide (20 ≤ d.sentry.ewarnUs)) fun d =>
    (raiseSentry (updSen d fun x => { x with ewarn := true }) 0x09).setCause 0x09 true

/-- EWARN_NEGATE (R586): the cadastre's work resumes and its clean stop is superseded (14 R572). -/
def execEwarnNegate (e : Nat) (s : State) : Res :=
  sentryRow e s (fun d => d.sentry.ewarn && !d.sentry.ewarnHeld && decide (10000 ≤ d.sentry.ewarnOkUs)) fun d =>
    let d := (updSen d fun x => { x with ewarn := false }).setCause 0x09 false
    if d.cad.stopping then { d with cad := { d.cad with stopping := false, cleanStop := false } } else d

/-- SENTRY_BACKOFF_END (R588, Table 15.2). -/
def execSentryBackoffEnd (e : Nat) (s : State) : Res :=
  sentryRow e s (fun d => decide (d.sentry.st = .backoff) && decide (backoffUs d.sentry.n ≤ d.sentry.stateUs)) fun d =>
    if vinInRange d d.sentry.vinMv then startSentry d else updSen d fun x => { x with st := .off, stateUs := 0 }

/-- SENTRY_FET_SHORT (R591). -/
def execSentryFetShort (e : Nat) (s : State) : Res :=
  sentryRow e s (fun d => gateOff d.sentry && !d.sentry.fetShort && decide (10000 ≤ d.sentry.shortUs)) fun d =>
    (raiseSentry (updSen d fun x => { x with fetShort := true }) 0x07).setCause 0x07 true

/-- PIN_CONTENTION (R594). -/
def execPinContention (e : Nat) (pin : Nat) (s : State) : Res :=
  let d := s.dev.at e
  let x := d.sentry
  onUnit s (decide (pin < 5))
    (if ¬ nth false x.hiz pin ∧ 10000 ≤ tabGet 0 x.contUs pin then
      let d := updSen d fun x => { x with hiz := setNth x.hiz pin true, testUs := tabSet 0 x.testUs pin x.us, contUs := tabSet 0 x.contUs pin 0 }
      (raiseSentry d (pinSource pin)).setCause (pinSource pin) true
    else d)

/-- PIN_TEST (R594): each second; the first test without contention ends high impedance, and the cause with the last
such pin of its source. -/
def execPinTest (e : Nat) (pin : Nat) (contention : Bool) (s : State) : Res :=
  let d := s.dev.at e
  let x := d.sentry
  onUnit s (decide (pin < 5))
    (if nth false x.hiz pin ∧ tabGet 0 x.testUs pin + 1000000 ≤ x.us then
      if contention then updSen d fun x => { x with testUs := tabSet 0 x.testUs pin x.us }
      else
        let d := updSen d fun x => { x with hiz := setNth x.hiz pin false, testUs := tabSet 0 x.testUs pin 0 }
        if (List.range 5).any (fun i => decide (pinSource i = pinSource pin) && nth false d.sentry.hiz i) then d
        else d.setCause (pinSource pin) false
    else d)

/-! ## Power-on (18 R650) -/

/-- The VSB domain rises: only the flash and the energy total, which counts from the first power-on (15 R576), keep their
contents; start-up begins at SENTRY and the sentry is OFF. -/
def powerOn (d : Dev) : Dev :=
  { powerLoss d with sentry := { energyNj := d.sentry.energyNj, edgeNj := d.sentry.energyNj }, start := {}, legend := [] }

/-- POWER_ON. -/
def execPowerOn (s : State) : Res := .next (s.withDev (powerOn s.dev))

end Sys2Proof.Machine
end

