-- ==== Sys2Proof/Machine/Cadastre.lean ====
section
/-! DEFINITION. The cadastre: attachment, areas and parcels, objects and object ports, the journal, reading, the patrol,
and the stop at EWARN (14 R539 to R574). Programs and erases take no time of their own: an operation ends at its
completion command (assumption log 41). -/

namespace Sys2Proof.Machine

/-- The cadastre changed. -/
def updCad (d : Dev) (f : Cad → Cad) : Dev := { d with cad := f d.cad }

/-- A cadastre setting. -/
def cadNat (d : Dev) (sub : Nat) : Nat := legNat d 0x7800 sub

/-- A raise of a cadastre source: LOC16 a channel, LOC64 an object (16 Table 16.3). -/
def raiseCad (d : Dev) (s channel object : Nat) : Dev := raiseDev d s channel object

/-- The fault log's object (Table 14.2). -/
def logObject : Nat := 0x8000000000000010

/-- The object of boot area a. -/
def bootObject (a : Nat) : Nat := 0x8000000000000000 + a

/-! ## Channels and parcels (R541, R543, R560 to R565) -/

/-- Channel c. -/
def channelOf (d : Dev) (c : Nat) : Channel := tabGet {} d.cad.channels c

/-- A channel changed. -/
def updChannel (d : Dev) (c : Nat) (f : Channel → Channel) : Dev :=
  updCad d fun x => { x with channels := tabSet {} x.channels c (f (tabGet {} x.channels c)) }

/-- Parcel b of a channel. -/
def parcelOf (d : Dev) (c b : Nat) : Parcel := tabGet {} (channelOf d c).parcels b

/-- A parcel changed. -/
def updParcel (d : Dev) (c b : Nat) (f : Parcel → Parcel) : Dev :=
  updChannel d c fun x => { x with parcels := tabSet {} x.parcels b (f (tabGet {} x.parcels b)) }

/-- Attached channels, in order. -/
def channelsOn (d : Dev) : List Nat := (d.cad.channels.filter fun c => decide (c.2.targets ≠ 0)).map (·.1)

/-- Bad parcels of a channel. -/
def badParcels (x : Channel) : Nat := (x.parcels.filter fun b => !b.2.good).length

/-- An owner in the SLC areas: a boot area, the map and journal, the fault log. -/
def slcOwner (o : BitVec 64) : Bool := decide (o = 0) || decide (2 ^ 63 ≤ o.toNat)

/-- Parcels of a channel that are good and belong to no SLC area: its part of the object area. -/
def areaParcels (x : Channel) : Nat := x.blocks - (x.parcels.filter fun b => !b.2.good || b.2.owner.any slcOwner).length

/-- Free good parcels of a channel. -/
def freeParcels (x : Channel) : Nat := x.blocks - (x.parcels.filter fun b => !b.2.good || b.2.owner.isSome).length

/-- CAPACITY: object-area octets. -/
def capacity (d : Dev) : Nat := (d.cad.channels.map fun c => areaParcels c.2).foldl (· + ·) 0 * d.cad.blockBytes

/-- Parcels that n octets of an object take on the i-th of k channels: pages go round robin in channel order (R560). -/
def parcelsAt (blockBytes k i n : Nat) : Nat :=
  let pages := (n + 16383) / 16384
  let here := (pages + k - 1 - i) / max 1 k
  let perBlock := max 1 (blockBytes / 16384)
  (here + perBlock - 1) / perBlock

/-- Parcels that n octets of an object take in all. -/
def parcelsFor (d : Dev) (n : Nat) : Nat :=
  let k := (channelsOn d).length
  ((List.range k).map fun i => parcelsAt d.cad.blockBytes k i n).foldl (· + ·) 0

/-- Parcels that hold an object's pages. -/
def parcelsOf (d : Dev) (id : BitVec 64) : Nat :=
  (d.cad.channels.map fun c => (c.2.parcels.filter fun b => decide (b.2.owner = some id)).length).foldl (· + ·) 0

/-- Parcels reserved by objects being written and not yet taken (R551). -/
def reservedParcels (d : Dev) : Nat :=
  ((d.cad.objects.filter fun o => decide (o.st = .writing) && !slcOwner o.id).map fun o => parcelsFor d o.size - parcelsOf d o.id).foldl (· + ·) 0

/-- FREE: unreserved free octets. -/
def freeBytes (d : Dev) : Nat :=
  ((d.cad.channels.map fun c => freeParcels c.2).foldl (· + ·) 0 - reservedParcels d) * d.cad.blockBytes

/-- The line of R565. -/
def reserveLine (d : Dev) : Nat := capacity d * cadNat d 0x04 / 1000

/-- CAD_LOW_SPACE raised when FREE reaches the reserve; its cause is gone above it (R565, Table 14.9). -/
def spaceCheck (d : Dev) : Dev :=
  let low := d.cad.mounted && decide (freeBytes d ≤ reserveLine d)
  if low = (d.fault 0xD3).cause then d
  else if low then (raiseCad d 0xD3 0 0).setCause 0xD3 true
  else d.setCause 0xD3 false

/-- Erase counts of the good parcels of a channel's object area: pairs of block and count, in block order. -/
def eraseCounts (x : Channel) : List (Nat × Nat) :=
  (List.range x.blocks).filterMap fun b =>
    let p := tabGet {} x.parcels b
    if p.good ∧ ¬ p.owner.any slcOwner then some (b, p.erases) else none

/-- The pair with the least count, the first of equals. -/
def leastErased {α : Type} (l : List (α × Nat)) : Option (α × Nat) :=
  l.foldl (fun m x => match m with
    | none => some x
    | some y => if x.2 < y.2 then some x else some y) none

/-- The pair with the highest count, the first of equals. -/
def mostErased {α : Type} (l : List (α × Nat)) : Option (α × Nat) :=
  l.foldl (fun m x => match m with
    | none => some x
    | some y => if y.2 < x.2 then some x else some y) none

/-- Free blocks of a channel's object area with their counts. -/
def freeCounts (x : Channel) : List (Nat × Nat) := (eraseCounts x).filter fun b => (tabGet {} x.parcels b.1).owner.isNone

/-- A block already the source or the target of a pending move. -/
def moving (d : Dev) (c b : Nat) : Bool :=
  d.cad.journal.any fun r => match r with
    | .move c1 old c2 new _ => (decide (c1 = c) && decide (old = b)) || (decide (c2 = c) && decide (new = b))
    | _ => false

/-- Free blocks of a channel that no pending move has claimed. -/
def freeBlocks (d : Dev) (c : Nat) : List (Nat × Nat) := (freeCounts (channelOf d c)).filter fun b => !moving d c b.1

/-- Erase counts of the good parcels of the object area, by channel and block. -/
def allCounts (d : Dev) : List ((Nat × Nat) × Nat) :=
  (d.cad.channels.map fun c => (eraseCounts c.2).map fun b => ((c.1, b.1), b.2)).flatten

/-- A record of a map change waits to be programmed (R571). -/
def record (d : Dev) (r : JournalRec) : Dev := updCad d fun x => { x with journal := x.journal ++ [r] }

/-- A parcel erased and given to an object; at ENDURANCE it raises CAD_WEAR (R564). -/
def takeParcel (d : Dev) (c b : Nat) (id : BitVec 64) : Dev :=
  let d := record (updParcel d c b fun p => { p with erases := p.erases + 1, owner := some id, oldest := now d, pages := [] }) (.alloc c b)
  if d.cad.endurance.toNat = (parcelOf d c b).erases ∧ ¬ slcOwner id then raiseCad d 0xD4 c id.toNat else d

/-- A new parcel on a channel: the free good one with the lowest erase count, then the lowest address (R561). -/
def newParcel (d : Dev) (c : Nat) (id : BitVec 64) : Dev :=
  match leastErased (freeBlocks d c) with
  | some (b, _) => takeParcel d c b id
  | none => d

/-- Octets in pages. -/
def pagesIn (n : Nat) : Nat := (n + 16383) / 16384

/-- Pages of an object that are programmed. -/
def pagesOf (d : Dev) (id : BitVec 64) : Nat :=
  (d.cad.channels.map fun c => ((c.2.parcels.filter fun b => decide (b.2.owner = some id)).map fun b => b.2.pages.length).foldl (· + ·) 0).foldl (· + ·) 0

/-- The open parcel of an object on a channel: one with room for a page. -/
def openParcel (d : Dev) (c : Nat) (id : BitVec 64) : Option Nat :=
  ((channelOf d c).parcels.find? fun b => decide (b.2.owner = some id) && b.2.good && decide (b.2.pages.length < max 1 (d.cad.blockBytes / 16384))).map (·.1)

/-- Pages written with the next write sequences. -/
def numbered (d : Dev) (l : List Page) : List Page := l.zipIdx.map fun p => { p.1 with seq := d.cad.writeSeq + BitVec.ofNat 48 p.2 }

/-- Pages programmed into a parcel, behind those that it holds (R542). -/
def writePages (d : Dev) (c b : Nat) (l : List Page) : Dev :=
  let new := numbered d l
  updCad (updParcel d c b fun p => { p with pages := p.pages ++ new }) fun x => { x with writeSeq := x.writeSeq + BitVec.ofNat 48 l.length }

/-- Page k of an object programmed into its open parcel on the channel whose turn it is (R560). -/
def programPage (d : Dev) (id : BitVec 64) (k : Nat) : Dev :=
  let cs := channelsOn d
  let c := nth 0 cs (k % max 1 cs.length)
  let d := if (openParcel d c id).isSome then d else newParcel d c id
  match openParcel d c id with
  | some b => writePages d c b [{ offset := k * 16384, seq := 0 }]
  | none => d

/-- The first n pages of an object, those not yet programmed (R560). -/
def programObject (d : Dev) (id : BitVec 64) (n : Nat) : Dev :=
  let k := pagesOf d id
  (List.range (n - k)).foldl (fun d i => programPage d id (k + i)) d

/-- An object's parcels are free. -/
def freeObject (d : Dev) (id : BitVec 64) : Dev :=
  updCad d fun x => { x with channels := tabMap {} (fun c => { c with parcels := tabMap {} (fun b => if b.owner = some id ∧ ¬ slcOwner id then { b with owner := none, oldest := 0 } else b) c.parcels }) x.channels }

/-- An object leaves the map and its parcels are free. -/
def dropObject (d : Dev) (id : BitVec 64) : Dev :=
  spaceCheck (freeObject (updCad d fun x => { x with objects := x.objects.filter fun o => decide (o.id ≠ id) }) id)

/-- An object changed. -/
def updObject (d : Dev) (id : BitVec 64) (f : Object → Object) : Dev :=
  updCad d fun x => { x with objects := x.objects.map fun o => if o.id = id then f o else o }

/-! ## Object ports (R549 to R559) -/

/-- An object port changed. -/
def updObjPort (d : Dev) (n : Nat) (f : ObjPort → ObjPort) : Dev := d.setObjPort n (f (d.objPort n))

/-- An object is in use (R549). -/
def inUse (d : Dev) (id : Nat) : Bool :=
  ((List.range 64).any fun p => decide (partNat d p 0x0A = id)) ||
  (d.key.keys.any fun k => decide (k.2.object.toNat = id) && (decide (k.2.st = 1) || decide (k.2.st = 2))) ||
  (d.cad.ports.any fun x => decide (x.2.object.toNat = id) && (decide (x.2.st = .reading) || (decide (x.2.st = .busy) && decide (x.2.lastOp = 6)))) ||
  (decide (id = bootObject d.start.bootArea.toNat) && decide (3 ≤ match d.start.stage with
    | .sentry | .rails | .rom => 0
    | _ => 3))

/-- A port's operation ends in a state with a result (R559). -/
def endPort (d : Dev) (n : Nat) (st : PortSt) (result : Byte) : Dev :=
  updObjPort d n fun x => { x with st := st, result := result, endAt := now d, endOrd := ordinal d }

/-- A port takes an operation on an object. -/
def beginPort (d : Dev) (n : Nat) (op : Byte) (id : BitVec 64) (st : PortSt) : Dev :=
  updObjPort d n fun _ => { st := st, lastOp := op, object := id }

/-- A port's operation fails at once. -/
def refusePort (d : Dev) (n : Nat) (op : Byte) (id : BitVec 64) (result : Byte) : Dev := endPort (beginPort d n op id .failed) n .failed result

/-- The IDs that a kind may have (Table 14.2). -/
def idInRange (kind id : Nat) : Bool :=
  if kind = 1 then decide (id = bootObject 0) || decide (id = bootObject 1) else decide (1 ≤ id) && decide (id < 2 ^ 63)

/-- A new object, being written, in the map in the order of the IDs. -/
def addObject (d : Dev) (id : BitVec 64) (kind : Byte) (size : Nat) : Dev :=
  updCad d fun x => { x with objects := insertBy (fun o => o.id.toNat) { id := id, kind := kind, st := .writing, size := size, sealAt := 0, digest := 0, bytes := [], lost := [] } x.objects }

/-- Space for an object above the reserve (R565). -/
def hasSpace (d : Dev) (size : Nat) : Bool := decide (reserveLine d + parcelsFor d size * d.cad.blockBytes ≤ freeBytes d)

/-- The blocks of a boot area erased. -/
def eraseArea (d : Dev) (id : BitVec 64) : Dev :=
  updCad d fun x => { x with channels := tabMap {} (fun c => { c with parcels := tabMap {} (fun b => if b.owner = some id then { b with erases := b.erases + 1 } else b) c.parcels }) x.channels }

/-- CREATE (R551, R552). A boot area is erased, and its former object is gone. -/
def createObject (d : Dev) (n : Nat) (kind : Byte) (id : BitVec 64) (size : Nat) : Dev :=
  if kind = 1 then
    if inUse d id.toNat then refusePort d n 1 id 7
    else if 96 * 1048576 < size then refusePort d n 1 id 2
    else
      let d := updCad d fun x => { x with objects := x.objects.filter fun o => decide (o.id ≠ id) }
      let d := if d.cad.stopping then updCad d fun x => { x with eraseOwed := x.eraseOwed ++ [id] } else eraseArea d id
      record (beginPort (addObject d id 1 size) n 1 id .writing) (.create id)
  else if (objectOf d id.toNat).isSome then refusePort d n 1 id 1
  else if ¬ hasSpace d size then spaceCheck (refusePort d n 1 id 2)
  else record (spaceCheck (beginPort (addObject d id kind size) n 1 id .writing)) (.create id)

/-- The layout that a seal checks (R545, Table 14.2). -/
def layoutOk (o : Object) : Bool :=
  if o.kind = 2 then
    let n := leAt 0 4 o.bytes
    decide (1 ≤ n) && decide (n ≤ 256) && decide (16 + 16 * n ≤ o.size) &&
      (List.range n).all fun i => decide (leAt (16 + 16 * i) 8 o.bytes + leAt (24 + 16 * i) 4 o.bytes ≤ o.size)
  else if o.kind = 4 then decide (4096 < o.size) && decide ((o.size - 4096) % 0x200000 = 0)
  else true

/-- The result a seal will have: POS, DIGEST and Table 14.2 in that order (R555). -/
def sealOutcome (f : Fuses) (pos : Nat) (digest : Bytes) (o : Object) : Byte :=
  if pos ≠ o.size then 4
  else if sha3_256 o.bytes ≠ digest then 3
  else if o.kind = 1 then (if (imageFailures f o.bytes).isEmpty then 0 else 5)
  else if layoutOk o then 0 else 4

/-- SEAL: the buffer is programmed, unless EWARN stops programs, and the checks are made; the seal's journal record is the
operation's end (R555, R571). A refused image counts and raises (12 R500). -/
def sealObject (f : Fuses) (d : Dev) (n : Nat) (digest : Bytes) : Dev :=
  let x := d.objPort n
  match objectOf d x.object.toNat with
  | none => d
  | some o =>
    let out := sealOutcome f x.pos digest o
    let waits := d.cad.stopping
    let d := if slcOwner o.id ∨ waits then d else programObject d o.id (pagesIn x.pos)
    let d := updObjPort d n fun x => { x with st := .busy, lastOp := 2, outcome := out, buffered := if waits then x.buffered else 0, digest := BitVec.ofNat 256 (beVal digest) }
    if out = 5 then rejectImage d (imageFailures f o.bytes)
    else if out = 0 then updCad d fun c => { c with closing := c.closing ++ [n] }
    else d

/-- OPEN: a sealed or damaged object, or the fault log as it stands (R551, 16 R628). -/
def openObject (d : Dev) (n : Nat) (id : BitVec 64) : Dev :=
  if id.toNat = logObject then updObjPort (beginPort d n 3 id .reading) n fun x => { x with snapshot := d.faults.log.flatten }
  else match objectOf d id.toNat with
    | some o => if o.st = .writing then refusePort d n 3 id 8 else beginPort d n 3 id .reading
    | none => refusePort d n 3 id 8

/-- DELETE (R556, 16 R628). -/
def deleteObject (d : Dev) (n : Nat) (id : BitVec 64) : Dev :=
  if id.toNat = logObject then refusePort d n 5 id 7
  else match objectOf d id.toNat with
    | some o =>
      if o.st = .writing then refusePort d n 5 id 8
      else if inUse d id.toNat then refusePort d n 5 id 7
      else record (beginPort d n 5 id .busy) (.delete n)
    | none => refusePort d n 5 id 8

/-- LOAD: the object's octets and the partition's pages are judged at once (R557). -/
def loadObject (d : Dev) (n : Nat) (id : BitVec 64) (p page off len : Nat) : Dev :=
  match objectOf d id.toNat with
  | some o =>
    if o.st = .writing then refusePort d n 6 id 8
    else if o.size < off + len ∨ (d.partition p).pages.length * pageBytes < page * pageBytes + len then refusePort d n 6 id 10
    else updObjPort (beginPort d n 6 id .busy) n fun x => { x with partition := BitVec.ofNat 8 p, page := page, offset := off, length := len }
  | none => refusePort d n 6 id 8

/-- ARCHIVE: a new CKPT object for the partition's newest complete checkpoint (R547, R557). -/
def archiveCkpt (d : Dev) (n : Nat) (id : BitVec 64) (p : Nat) : Dev :=
  let size := 4096 + partNat d p 0x05 * pageBytes
  if (objectOf d id.toNat).isSome then refusePort d n 7 id 1
  else match newestCkpt (d.partition p) with
    | none => refusePort d n 7 id 8
    | some (_, c) =>
      if ¬ hasSpace d size then spaceCheck (refusePort d n 7 id 2)
      else
        let d := record (spaceCheck (addObject d id 5 size)) (.create id)
        updCad (updObjPort (beginPort d n 7 id .busy) n fun x => { x with partition := BitVec.ofNat 8 p, ckptBeat := c.beat }) fun y => { y with closing := y.closing ++ [n] }

/-- A port's operation leaves the journal's work. -/
def dropRecord (d : Dev) (n : Nat) : Dev :=
  updCad d fun c => { c with journal := c.journal.filter fun r => decide (r ≠ .delete n), closing := c.closing.filter fun m => decide (m ≠ n) }

/-- The parcels of an object: channel and block. -/
def ownParcels (d : Dev) (id : BitVec 64) : List (Nat × Nat) :=
  (d.cad.channels.map fun c => (c.2.parcels.filter fun b => decide (b.2.owner = some id)).map fun b => (c.1, b.1)).flatten

/-- The octets that an aborted LOAD has written, a number of them that is a free value, stand (R558). -/
def partLoad (d : Dev) (x : ObjPort) : Dev :=
  match objectOf d x.object.toNat with
  | some o =>
    let f := drawFree d
    writeSpan f.2 (f.2.partition x.partition.toNat).pages (x.page * pageBytes) ((objectBytes o x.offset x.length).1.take (f.1 % (x.length + 1)))
  | none => d

/-- ABORT of a BUSY port: the operation stops, and what it would have changed is discarded (R558). -/
def abortBusy (d : Dev) (n : Nat) : Dev :=
  let x := d.objPort n
  let drops := decide (x.lastOp = 2) || decide (x.lastOp = 7)
  let kept := if drops then (objectOf d x.object.toNat).map fun o => (o, ownParcels d o.id) else none
  let d := dropRecord d n
  let d := if drops then dropObject d x.object else if x.lastOp = 6 then partLoad d x else d
  endPort (updObjPort d n fun y => { y with lastOp := 8, undone := some (x.lastOp, kept) }) n .aborted 0

/-- ABORT (R558): one that meets an operation complete at its own stamp finds it so. -/
def abortPort (d : Dev) (n : Nat) : Dev :=
  let x := d.objPort n
  match x.st with
  | .writing => endPort (updObjPort (dropObject d x.object) n fun x => { x with lastOp := 8 }) n .aborted 0
  | .reading => endPort (updObjPort d n fun x => { x with lastOp := 8, snapshot := [] }) n .aborted 0
  | .busy => abortBusy d n
  | .done | .failed => updObjPort d n fun x => { x with st := .abortLate }
  | _ => d

/-- The states in which a new operation is accepted (R550). -/
def portIdle (x : ObjPort) : Bool :=
  match x.st with
  | .writing | .reading | .busy => false
  | _ => true

/-- A PORT_CONTROL value accepted by port n in its state (Table 14.4, R550). -/
def portControlOk (d : Dev) (n : Nat) (v : Bytes) : Bool :=
  let x := d.objPort n
  let op := beAt 0 1 v
  let id := beAt 8 8 v
  let plain := decide (beAt 3 1 v = 0)
  plain && (if op = 1 then portIdle x && idInRange (beAt 1 1 v) id && decide (beAt 1 1 v ≠ 5) && decide (beAt 1 1 v ≠ 6) && decide (1 ≤ beAt 1 1 v) && decide (beAt 1 1 v ≤ 7)
    else if op = 2 then decide (x.st = .writing)
    else if op = 3 ∨ op = 5 then portIdle x
    else if op = 4 then decide (x.st = .reading)
    else if op = 6 then portIdle x && decide (beAt 2 1 v < 64) && decide (beAt 16 8 v % 64 = 0) && decide (beAt 24 8 v % 64 = 0)
    else if op = 7 then portIdle x && decide (beAt 2 1 v < 64) && idInRange 5 id
    else if op = 8 then !portIdle x || ((decide (x.st = .done) || decide (x.st = .failed)) && decide (x.endAt = now d) && decide (x.endOrd = ordinal d) &&
      (decide (x.lastOp = 2) || decide (5 ≤ x.lastOp.toNat)))
    else false)

/-- An accepted write of PORT_CONTROL. -/
def portControl (f : Fuses) (d : Dev) (n : Nat) (v : Bytes) : Dev :=
  let op := beAt 0 1 v
  let id := BitVec.ofNat 64 (beAt 8 8 v)
  if op = 1 then createObject d n (BitVec.ofNat 8 (beAt 1 1 v)) id (beAt 16 8 v)
  else if op = 2 then sealObject f d n (slice 32 32 v)
  else if op = 3 then openObject d n id
  else if op = 4 then endPort (updObjPort d n fun x => { x with lastOp := 4, snapshot := [] }) n .idle 0
  else if op = 5 then deleteObject d n id
  else if op = 6 then loadObject d n id (beAt 2 1 v) (beAt 4 4 v) (beAt 16 8 v) (beAt 24 8 v)
  else if op = 7 then archiveCkpt d n id (beAt 2 1 v)
  else abortPort d n

/-! ## Bytes through a port (R553, R554) -/

/-- Octets of the object that a port reads. -/
def readingSize (d : Dev) (x : ObjPort) : Nat :=
  if x.object.toNat = logObject then x.snapshot.length else ((objectOf d x.object.toNat).map (·.size)).getD 0

/-- PORT_DATA as it reads: in READING the octets from PORT_POS, at most 1,024 (R554). -/
def portDataRead (d : Dev) (n : Nat) : Bytes :=
  let x := d.objPort n
  if x.st = .reading then
    let len := min 1024 (readingSize d x - x.pos)
    if x.object.toNat = logObject then slice x.pos len x.snapshot
    else match objectOf d x.object.toNat with
      | some o => (objectBytes o x.pos len).1
      | none => []
  else []

/-- A write of PORT_DATA in range (R553). -/
def portDataOk (d : Dev) (n off : Nat) (data : Bytes) : Bool :=
  let x := d.objPort n
  decide (x.st = .writing) && decide (off = 0) && decide (1 ≤ data.length) && decide (data.length ≤ 1024) &&
    decide (x.pos + data.length ≤ ((objectOf d x.object.toNat).map (·.size)).getD 0)

/-- The port's write buffer of 4 MiB has room; without it PORT_DATA is locked (R553). -/
def bufferRoom (d : Dev) (n len : Nat) : Bool := decide ((d.objPort n).buffered + len ≤ pageBytes)

/-- An accepted write of PORT_DATA. -/
def portDataWrite (d : Dev) (n : Nat) (data : Bytes) : Dev :=
  let x := d.objPort n
  updObjPort (updObject d x.object fun o => { o with bytes := o.bytes ++ data }) n fun x => { x with pos := x.pos + data.length, buffered := x.buffered + data.length }

/-- A write of PORT_POS in range (R554). -/
def portPosOk (d : Dev) (n v : Nat) : Bool := decide ((d.objPort n).st = .reading) && decide (v ≤ readingSize d (d.objPort n))

/-- The whole pages of a port's buffer programmed, at a SEAL its rest too (R553, R555). -/
def drainPort (d : Dev) (n : Nat) : Dev :=
  let x := d.objPort n
  let left := if x.st = .busy then 0 else x.pos % 16384
  if x.buffered ≤ left ∨ (x.st ≠ .writing ∧ x.st ≠ .busy) then d
  else updObjPort (if slcOwner x.object then d else programObject d x.object (pagesIn (x.pos - left))) n fun x => { x with buffered := left }

/-- The target that holds a block of a channel: its first block and the one after its last. -/
def targetSpan (x : Channel) (b : Nat) : Nat × Nat :=
  (x.sizes.foldl (fun (r : Nat × Option (Nat × Nat)) n => (r.1 + n, if r.2.isNone ∧ r.1 ≤ b ∧ b < r.1 + n then some (r.1, r.1 + n) else r.2)) (0, none)).2.getD (0, x.blocks)

/-- Where the pages of a block are rewritten: in the object area a new parcel of its channel (R561), in an SLC area the next
good free block of the same target (R543). -/
def rewriteTarget (d : Dev) (c b : Nat) (id : BitVec 64) : Option Nat :=
  if slcOwner id then
    let t := targetSpan (channelOf d c) b
    let free := ((freeBlocks d c).map (·.1)).filter fun n => decide (t.1 ≤ n) && decide (n < t.2)
    (free.find? fun n => decide (b < n)).or free.head?
  else (leastErased (freeBlocks d c)).map (·.1)

/-- The pages of a bad block written to a new parcel, which takes its place (R543, R563). They wait while EWARN stops
programs or no block is free. -/
def replaceBad (d : Dev) (c b : Nat) : Dev :=
  let p := parcelOf d c b
  match p.owner with
  | none => d
  | some id =>
    match (if d.cad.stopping then none else rewriteTarget d c b id) with
    | none => updCad d fun x => { x with owed := x.owed ++ [(c, b)] }
    | some n => writePages (takeParcel (updParcel d c b fun p => { p with owner := none }) c n id) c n p.pages

/-- At a tick edge the buffers of the ports are programmed and what is owed is done, unless EWARN stops programs (R553,
R572; log 41). -/
def drainBuffers (d : Dev) : Dev :=
  if d.cad.stopping then d
  else
    let d := (d.cad.ports.map (·.1)).foldl drainPort d
    let owed := d.cad.owed
    let areas := d.cad.eraseOwed
    let d := areas.foldl eraseArea (updCad d fun x => { x with owed := [], eraseOwed := [] })
    owed.foldl (fun d x => replaceBad d x.1 x.2) d

/-! ## Completion (R555 to R559, R571) -/

/-- The seal record programmed: the object is sealed, for ever. -/
def finishSeal (d : Dev) (n : Nat) : Dev :=
  let x := d.objPort n
  endPort (updObject d x.object fun o => { o with st := .sealed, sealAt := now d, digest := x.digest }) n .done 0

/-- The header and pages of an archived checkpoint (R547). -/
def ckptObject (d : Dev) (p beat : Nat) (slot : Nat) : Bytes × Dev :=
  let header := ascii "ZXCK" ++ be 1 p ++ zeros 1 ++ be 2 (partNat d p 0x05) ++ be 4 (tenant d p) ++ zeros 4 ++ be 8 beat ++ be 2 (deviceNumber d)
  (slotPages d p slot).foldl (fun acc page =>
    let r := readPage acc.2 p page 0 pageBytes
    (acc.1 ++ r.1, r.2.2)) (fit 4096 header, d)

/-- An archive complete, or overtaken by a newer checkpoint in its slot. -/
def finishArchive (d : Dev) (n : Nat) : Dev :=
  let x := d.objPort n
  let p := x.partition.toNat
  let y := d.partition p
  let here := fun (c : Option Ckpt) => c.any fun c => decide (c.beat = x.ckptBeat) && c.complete
  if here y.ckpt0 ∨ here y.ckpt1 then
    let r := ckptObject d p x.ckptBeat (if here y.ckpt0 then 0 else 1)
    let d := programObject (updObject r.2 x.object fun o => { o with bytes := r.1, st := .sealed, sealAt := now d, digest := BitVec.ofNat 256 (beVal (sha3_256 r.1)) }) x.object (pagesIn r.1.length)
    endPort d n .done 0
  else endPort (dropObject d x.object) n .failed 9

/-- A load complete: lost codewords are given as zero and counted (R557, R566). -/
def finishLoad (d : Dev) (n : Nat) : Dev :=
  let x := d.objPort n
  match objectOf d x.object.toNat with
  | some o =>
    let r := objectBytes o x.offset x.length
    let lost := (o.lost.filter fun w => decide (w * 4096 < x.offset + x.length) && decide (x.offset < (w + 1) * 4096)).length
    let d := writeSpan d (d.partition x.partition.toNat).pages (x.page * pageBytes) r.1
    endPort (updObjPort d n fun x => { x with lost := BitVec.ofNat 32 lost }) n .done (if r.2 then 6 else 0)
  | none => endPort d n .failed 8

/-- A port's operation has run to its end. -/
def finishOp (d : Dev) (n : Nat) : Dev :=
  let x := d.objPort n
  let d := dropRecord d n
  if x.outcome ≠ 0 then endPort (dropObject d x.object) n .failed x.outcome
  else if x.lastOp = 2 then finishSeal d n
  else if x.lastOp = 5 then endPort (dropObject d x.object) n .done 0
  else if x.lastOp = 6 then finishLoad d n
  else finishArchive d n

/-- What an ABORT discarded stands again. -/
def restoreKept (d : Dev) : Option (Object × List (Nat × Nat)) → Dev
  | none => d
  | some (o, bs) =>
    let d := updCad d fun x => { x with objects := insertBy (fun o => o.id.toNat) o x.objects }
    bs.foldl (fun d b => updParcel d b.1 b.2 fun p => { p with owner := some o.id }) d

/-- A relocation or refresh takes effect: the new parcel holds the data, the old one is free (R569, R571). -/
def finishMove (d : Dev) (c old c2 new : Nat) (refresh : Bool) : Dev :=
  let p := parcelOf d c old
  let d := updParcel d c old fun p => { p with owner := none, oldest := 0 }
  let d := writePages (updParcel d c2 new fun q => { q with owner := p.owner, oldest := now d, pages := [] }) c2 new p.pages
  spaceCheck (updCad d fun x => if refresh then { x with refreshes := x.refreshes + 1 } else { x with relocations := x.relocations + 1 })

/-- The port that runs a DELETE. -/
def deleting (d : Dev) (n : Nat) : Bool := decide ((d.objPort n).st = .busy) && decide ((d.objPort n).lastOp = 5)

/-- The oldest pending journal record is programmed in both copies, and its change takes effect (R571). -/
def programPending (d : Dev) : Dev :=
  match d.cad.journal with
  | [] => d
  | r :: rest =>
    let d := updCad d fun c => { c with journal := rest, cleanStop := false }
    match r with
    | .delete n => if deleting d n then finishOp d n else d
    | .move c old c2 new refresh => finishMove d c old c2 new refresh
    | .create _ | .alloc _ _ | .retire _ _ => d

/-- The next record programmed: the oldest pending one; with none pending, the seal that ends the oldest SEAL or ARCHIVE,
unless EWARN has stopped its programs (R571, R572). -/
def programRecord (d : Dev) : Dev :=
  match d.cad.journal, d.cad.closing with
  | _ :: _, _ => programPending d
  | [], n :: _ => if d.cad.stopping then d else finishOp (updCad d fun c => { c with cleanStop := false }) n
  | [], [] => d

/-- Pending records programmed one after another. -/
def programRecords (d : Dev) : Nat → Dev
  | 0 => d
  | n + 1 => programRecords (programPending d) n

/-- The records that stand before the one that ends a port's operation are programmed. -/
def settlePort (d : Dev) (n : Nat) : Dev := programRecords d (d.cad.journal.takeWhile fun r => decide (r ≠ .delete n)).length

/-- The operation of a BUSY port completes (R555 to R557): of a SEAL, DELETE or ARCHIVE its journal record is programmed, after
those that were pending before it. One that was aborted at this very stamp was complete: its outcome stands, and the port
reads ABORT_LATE (R558). -/
def finishPort (d : Dev) (n : Nat) : Dev :=
  let x := d.objPort n
  match x.st, x.undone with
  | .busy, _ =>
    if x.outcome ≠ 0 ∨ x.lastOp = 6 then finishOp d n
    else if x.lastOp ≠ 5 ∧ d.cad.stopping then d
    else finishOp (updCad (settlePort d n) fun c => { c with cleanStop := false }) n
  | .aborted, some (op, kept) =>
    if x.endAt = now d ∧ x.endOrd = ordinal d then
      let d := finishOp (updObjPort (restoreKept d kept) n fun x => { x with lastOp := op, undone := none }) n
      updObjPort d n fun x => { x with st := .abortLate, lastOp := 8 }
    else d
  | _, _ => d

/-- PORT_OPERATION_COMPLETE. -/
def execPortOperationComplete (e : Nat) (port : Nat) (s : State) : Res :=
  onUnit s (decide (port < 8)) (finishPort (s.dev.at e) port)

/-- JOURNAL_RECORD_PROGRAMMED. -/
def execJournalRecordProgrammed (e : Nat) (s : State) : Res := .next (s.withDev (programRecord (s.dev.at e)))

/-! ## The patrol, wear and bad blocks (R561 to R564, R568 to R570) -/

/-- Ticks of an hour of graticule time. -/
def hourTicks : Nat := 28800000

/-- A move of a parcel's data into a block waits for its journal record; the block is erased now. -/
def startMove (d : Dev) (c old c2 new : Nat) (refresh : Bool) : Dev :=
  let d := updParcel d c2 new fun p => { p with erases := p.erases + 1, pages := [] }
  let slc := (parcelOf d c old).owner.any slcOwner
  let d := if d.cad.endurance.toNat = (parcelOf d c2 new).erases ∧ ¬ slc then raiseCad d 0xD4 c2 (((parcelOf d c old).owner.map (·.toNat)).getD 0) else d
  record d (.move c old c2 new refresh)

/-- One page read by the patrol: a parcel that needs it is refreshed; `last` ends a pass (R568 to R570). -/
def patrol (d : Dev) (c b bits : Nat) (retried last : Bool) : Dev :=
  let p := parcelOf d c b
  let d := updCad d fun x => { x with
    corrected := if bits ≠ 0 ∧ ¬ retried then x.corrected + 1 else x.corrected
    retried := if retried then x.retried + 1 else x.retried }
  let old := before (after p.oldest (cadNat d 0x0B * hourTicks)) (now d)
  let due := (decide (cadNat d 0x0A < bits) || retried || old) && !moving d c b && !d.cad.stopping
  let d := if due then (match p.owner.bind (rewriteTarget d c b) with
    | some n => startMove d c b c n true
    | none => d) else d
  if last then (updCad d fun x => { x with patrolLast := now d, patrolStart := now d }).setCause 0xD5 false else d

/-- PATROL_READ: after the first LOCKED state, and not in dormant (R568). -/
def execPatrolRead (e : Nat) (channel block : Nat) (bits : Nat) (retried last : Bool) (s : State) : Res :=
  let d := s.dev.at e
  onUnit s (decide (channel < 8))
    (if d.cad.mounted ∧ d.grat.everLocked ∧ d.dormant.st = .running ∧ block < (channelOf d channel).blocks then patrol d channel block bits retried last else d)

/-- A patrol pass that is not complete within PATROL_HOURS (R570). -/
def patrolLate (d : Dev) : Dev :=
  if d.cad.mounted ∧ d.cad.patrolStart ≠ 0 ∧ ¬ (d.fault 0xD5).cause ∧ reached d (after d.cad.patrolStart (cadNat d 0x09 * hourTicks)) then
    (raiseCad d 0xD5 0 0).setCause 0xD5 true
  else d

/-- The parcel that wear relocation moves: one that holds data and has the lowest erase count of all good parcels, when the
highest is beyond it by more than WEAR_SPREAD (R562). -/
def wornLeast (d : Dev) : Option (Nat × Nat) :=
  let counts := allCounts d
  match leastErased counts, mostErased counts with
  | some lo, some hi =>
    if lo.2 + cadNat d 0x05 < hi.2 then
      (counts.find? fun x => decide (x.2 = lo.2) && (parcelOf d x.1.1 x.1.2).owner.isSome && !moving d x.1.1 x.1.2).map (·.1)
    else none
  | _, _ => none

/-- The free parcel with the highest erase count. -/
def wornMost (d : Dev) : Option (Nat × Nat) :=
  (mostErased ((allCounts d).filter fun x => (parcelOf d x.1.1 x.1.2).owner.isNone && !moving d x.1.1 x.1.2)).map (·.1)

/-- WEAR_RELOCATION of a parcel on a channel (R562). -/
def relocate (d : Dev) (c : Nat) : Dev :=
  match wornLeast d, wornMost d with
  | some old, some new => if old.1 = c ∧ ¬ d.cad.stopping then startMove d old.1 old.2 new.1 new.2 false else d
  | _, _ => d

/-- WEAR_RELOCATION. -/
def execWearRelocation (e : Nat) (channel : Nat) (s : State) : Res :=
  let d := s.dev.at e
  onUnit s (decide (channel < 8)) (if d.cad.mounted ∧ d.dormant.st = .running then relocate d channel else d)

/-- PROGRAM_FAILURE (R543, R563): the block is bad; its pages and the page that failed go to a new parcel, in an SLC
area to the next good free block of the target. -/
def programFailure (d : Dev) (c b : Nat) : Dev :=
  let o := (parcelOf d c b).owner
  let d := record (updParcel d c b fun p => { p with good := false }) (.retire c b)
  spaceCheck (raiseCad (replaceBad d c b) 0xD2 c ((o.map (·.toNat)).getD 0))

/-- PROGRAM_FAILURE. -/
def execProgramFailure (e : Nat) (channel block : Nat) (s : State) : Res :=
  let d := s.dev.at e
  onUnit s (decide (channel < 8))
    (if d.cad.mounted ∧ block < (channelOf d channel).blocks ∧ (parcelOf d channel block).good then programFailure d channel block else d)

/-- CODEWORD_READ_RETRY (R566): recovered, or lost with its object damaged. -/
def codewordRetry (d : Dev) (c : Nat) (id : BitVec 64) (w : Nat) (recovered : Bool) : Dev :=
  if recovered then updCad d fun x => { x with retried := x.retried + 1 }
  else
    let d := updChannel (updCad d fun x => { x with lost := x.lost + 1 }) c fun x => { x with lost := x.lost + 1 }
    let d := updObject d id fun o => { o with lost := if w ∈ o.lost then o.lost else o.lost ++ [w], st := if o.st = .writing then .writing else .damaged }
    raiseCad d 0xD1 c id.toNat

/-- CODEWORD_READ_RETRY. -/
def execCodewordReadRetry (e : Nat) (channel : Nat) (object : BitVec 64) (codeword : Nat) (recovered : Bool) (s : State) : Res :=
  let d := s.dev.at e
  onUnit s (decide (channel < 8)) (if (objectOf d object.toNat).isSome then codewordRetry d channel object codeword recovered else d)

/-- EWARN_STOP (R572): no further program or erase outside the journal; every pending record, the fault records raised so
far and a clean-stop record are programmed. -/
def ewarnStop (d : Dev) : Dev :=
  let d := programLog (programRecords d d.cad.journal.length)
  updCad d fun c => { c with stopping := true, cleanStop := true }

/-- EWARN_STOP. -/
def execEwarnStop (e : Nat) (s : State) : Res :=
  let d := s.dev.at e
  .next (s.withDev (if d.sentry.ewarn ∧ d.cad.mounted ∧ ¬ d.cad.stopping then ewarnStop d else d))

/-! ## Mount (R541, R543, R563, R573) -/

/-- The targets judged in order of channel and target: those attached, those excluded (R541). -/
def judgeTargets (ts : List Target) : List Target × List Target :=
  let sorted : List Target := sortBy (fun t => t.channel * 4 + t.target) ts
  let model := ((sorted.find? fun t => decide (t.channel = 0) && decide (t.target = 0)).map (·.params)).getD []
  let r := sorted.foldl (fun (acc : List Target × List Target × Nat) (t : Target) =>
    if t.answers ∧ t.params = model ∧ acc.2.2 + t.bytes ≤ 8 * 2 ^ 40 then (acc.1 ++ [t], acc.2.1, acc.2.2 + t.bytes)
    else (acc.1, acc.2.1 ++ [t], acc.2.2)) ([], [], 0)
  (r.1, r.2.1)

/-- The parcels of a channel at its first mount: the factory's bad blocks (R563), and the SLC areas of channels 0 and 1 in
the lowest good blocks of target 0 (R543). An SLC block holds a third of a TLC block (assumption log 41). -/
def firstParcels (c blockBytes : Nat) (ts : List Target) : Tab Parcel :=
  let r := ts.foldl (fun (acc : Tab Parcel × Nat) t =>
    (t.factoryBad.foldl (fun m b => if b < t.blocks then tabSet {} m (acc.2 + b) { good := false, factory := true } else m) acc.1, acc.2 + t.blocks)) (([] : Tab Parcel), 0)
  if 1 < c then r.1
  else
    let slc := max 1 (blockBytes / 3)
    let need := fun (n : Nat) => (n * 1048576 + slc - 1) / slc
    let good := (List.range ((ts.head?.map (·.blocks)).getD 0)).filter fun b => (tabGet {} r.1 b).good
    let owners := List.replicate (need 96) (BitVec.ofNat 64 (bootObject c)) ++ List.replicate (need 256) 0 ++ List.replicate (need 16) (BitVec.ofNat 64 logObject)
    (good.zip owners).foldl (fun m x => tabSet {} m x.1 { owner := some x.2 }) r.1

/-- The cadastre mounts: targets attached, the journal replayed, an unsafe stop counted, buffered fault records
programmed (R541, R573, 17 Table 17.1). Objects left unfinished were discarded with the power (Table 14.6). -/
def mountCad (d : Dev) (targets : List Target) : Dev :=
  let j := judgeTargets targets
  let d := j.2.foldl (fun d t => raiseCad d 0xD0 t.channel 0) d
  let d := d.setCause 0xD0 (!j.2.isEmpty)
  let block := ((j.1.head?.map fun t => t.bytes / max 1 t.blocks)).getD 0
  let d := updCad d fun c => { c with blockBytes := block, endurance := (j.1.head?.map (·.endurance)).getD 0, onfiMts := BitVec.ofNat 16 (min 1600 ((j.1.head?.map (·.mts.toNat)).getD 0)) }
  let d := (List.range 8).foldl (fun d c =>
    let ts := j.1.filter fun t => decide (t.channel = c)
    let blocks := (ts.map (·.blocks)).foldl (· + ·) 0
    updChannel d c fun x => { x with targets := ts.length, blocks := blocks, sizes := ts.map (·.blocks), parcels := if x.parcels.isEmpty then firstParcels c block ts else x.parcels }) d
  let unsafe_ := !d.cad.cleanStop
  let d := updCad d fun c => { c with mounted := true, cleanStop := false, unsafeStops := if unsafe_ then c.unsafeStops + 1 else c.unsafeStops }
  let d := if unsafe_ then raiseCad d 0xD6 0 0 else d
  spaceCheck (programLog d)

end Sys2Proof.Machine
end

