-- ==== Sys2Proof/Machine/Beats.lean ====
section
/-! DEFINITION. Beat openings, sessions starting and ending, restart and replay, and the stall watchdog (07 R267, R268,
R281 to R286, R294, R306 to R317). -/

namespace Sys2Proof.Machine

/-! ## Sessions at an opening (R281 to R286) -/

/-- A session's slot falls empty; its context is freed once no turn is pending (R284). -/
def endSession (t : Session) : Session := { t with st := .absent, ctx := if t.turns.isEmpty then none else t.ctx, doneAt := none }

/-- A start refused (R283). -/
def refuseSession (d : Dev) (p s k n : Nat) : Dev :=
  let d := updStrip d s fun x => x.setSession n { sessionOf x n with st := .refused }
  raisePart d 0xE6 p s k

/-- A session starts, in the context the slot still holds or in the lowest free one within the quota (R282, R283). -/
def startSession (d : Dev) (p s k n : Nat) : Dev :=
  let t := sessionOf (d.strip s) n
  let put := fun (c : Nat) => updStrip d s fun x => x.setSession n { ctx := some c, startBeat := BitVec.ofNat 32 k, st := .active, turns := t.turns }
  match t.ctx with
  | some c => put c
  | none =>
    if partNat d p 0x0D ≤ contextsOf d p then refuseSession d p s k n
    else match freeContext d with
      | some c => put c
      | none => refuseSession d p s k n

/-- One slot at the opening of beat k, its bit in the frame that feeds the beat given. -/
def slotAtOpening (d : Dev) (p s k : Nat) (n : Nat) (bit_ : Bool) : Dev :=
  let t := sessionOf (d.strip s) n
  let put := fun (t : Session) => updStrip d s fun x => x.setSession n t
  match t.st, bit_ with
  | .active, true => d
  | .active, false => put (endSession t)
  | .aborted, true => if t.cleared then startSession d p s k n else put { t with ctx := if t.turns.isEmpty then none else t.ctx }
  | .aborted, false => put { t with cleared := true, ctx := if t.turns.isEmpty then none else t.ctx }
  | .absent, true | .refused, true => startSession d p s k n
  | .absent, false => d
  | .refused, false => put { t with st := .absent }

/-- The sessions in force. -/
def activeMask (x : Strip) : BitVec 64 :=
  (List.range 64).foldl (fun m n => if (sessionOf x n).st = .active then m ||| BitVec.ofNat 64 (2 ^ n) else m) 0

/-- End-of-turn marks open turns of the sessions in force (R285). -/
def openTurns (x : Strip) (eot : BitVec 64) (opening : Stamp) : Strip :=
  (slotsOf (eot &&& x.present)).foldl (fun x n => x.setSession n { sessionOf x n with turns := (sessionOf x n).turns ++ [opening] }) x

/-- A strip at the opening of beat k, fed by f, at stamp o: sessions end and start, turns open, the beat's points may
open (R281 to R286, 06 R221). -/
def stripOpens (d : Dev) (p s k : Nat) (o : Stamp) (f : Feed) : Dev :=
  let d := (List.range 64).foldl (fun d n => slotAtOpening d p s k n (f.present.getLsbD n)) d
  updStrip d s fun x =>
    let x := { x with present := activeMask x, beat := k, beats := { beat := k, opening := o, shift := 0, opened := [], plan := planOf d p s } :: x.beats.filter (beatStays d p s) }
    openTurns x f.eot (beatStamp d p k)

/-! ## Real feeds (R365, R378, R381) -/

/-- The newest beat of a partition whose real opening has come. -/
def realBeat (d : Dev) (p : Nat) : Option Nat :=
  let phase := partNat d p 0x07
  if d.grat.tick.toNat < phase then none else some ((d.grat.tick.toNat - phase) / 640)

/-- The newest real opening of a partition is that of the present tick, or of one that its edge stepped over (02 R54). -/
def atRealOpening (d : Dev) (p : Nat) : Bool :=
  match realBeat d p with
  | some k => dueNow d (BitVec.ofNat 48 (640 * k + partNat d p 0x07))
  | none => false

/-- A RECOVERING or SHADOW strip is fed at every real opening that has come (R375, R381). -/
def feedOwed (d : Dev) (p s : Nat) : Dev :=
  match realBeat d p, (d.stx s).fedUpTo with
  | some k, some j => (List.range (k - j)).foldl (fun d i => feedReal d s (j + 1 + i)) d
  | some k, none => if atRealOpening d p then feedReal d s k else d
  | none, _ => d

/-- The strips that are fed by real openings alone. -/
def feedOwedAll (d : Dev) (p : Nat) : Dev :=
  (stripsOf d p).foldl (fun d s => if (d.strip s).st = .recovering ∨ (d.strip s).st = .shadow then feedOwed d p s else d) d

/-! ## The opening -/

/-- A CLOSING strip is FREE from the opening that follows its close (R279). -/
def freeClosing (d : Dev) (p : Nat) : Dev :=
  (stripsOf d p).foldl (fun d s => if (d.strip s).st = .closing then freeStrip d s else d) d

/-- A strip that starts is added, as it stands, to the checkpoints already taken (assumption log 23). -/
def noteStart (d : Dev) (p s : Nat) : Dev :=
  let c := ckptStrip d s
  let add := fun (k : Ckpt) => { (k.without s) with strips := (k.without s).strips ++ [c] }
  updPart d p fun x => { x with ckpt0 := x.ckpt0.map add, ckpt1 := x.ckpt1.map add, base := x.base.map add }

/-- PLACED strips start at this opening; at a replayed one the real openings that have come are not theirs. -/
def startPlaced (d : Dev) (p : Nat) : Dev :=
  (stripsOf d p).foldl (fun d s =>
    if (d.strip s).st = .placed then
      let live := decide ((d.partition p).st = .running)
      let d := updStrip (noteStart d p s) s fun x => { x with st := if live then .running else .recovering }
      if live then d else updStx d s fun x => { x with fedUpTo := realBeat d p }
    else d) d

/-- The feed of beat k: real at a real opening, else that of the replay. -/
def feedFor (d : Dev) (p s k : Nat) (real : Bool) : Feed × Dev :=
  if real then
    let d := feedReal d s k
    ((feedOf d s k).getD (voidFeed d s k), updStx d s fun x => { x with fedReplayPrev := x.fedReplay, fedReplay := none })
  else feedReplay d p s k

/-- Beat k of a live partition opens at stamp o. Closing strips fall free; rolling writes take effect; the checkpoint of
the instant is taken before anything the opening changes; strips are fed and open the beat. -/
def openBeat (d : Dev) (p k : Nat) (o : Stamp) : Dev :=
  let real := decide (o = beatStamp d p k)
  let d := freeClosing d p
  let d := if real ∧ (d.partition p).st = .replaying then enterState d p .running else d
  let d := if k % 8 = 0 then abandonMirror d p k else d
  let d := if k % 8 = 0 ∧ (d.partition p).st = .running then takeCheckpoint d p k o else d
  let d := rollsDue d p (some o)
  let d := startPlaced d p
  let d := updPart d p fun x => { x with opening := o, nextBeat := k + 1, begun := true }
  let run := (stripsOf d p).filter fun s => decide ((d.strip s).st = .running) || decide ((d.strip s).st = .recovering)
  let d := run.foldl (fun d s =>
    let f := feedFor d p s k real
    stripOpens f.2 p s k o f.1) d
  gazBeat d p run

/-- Stamp at which a live partition's next beat opens (R268, R308). -/
def nextOpening (d : Dev) (p : Nat) : Stamp :=
  let x := d.partition p
  let real := beatStamp d p x.nextBeat
  if x.st = .replaying then later real (after x.opening (partNat d p 0x0C)) else real

/-- State pages at the first opening, by page number × 2^22 + offset (log 23). -/
def basePages (d : Dev) (p : Nat) : Tab Byte × Dev :=
  (statePages d p).foldl (fun acc i =>
    match physPage acc.2 p i with
    | some n => let g := grabPage acc.2 n; (g.1.foldl (fun t c => tabSet 0 t (i * pageBytes + c.1) c.2) acc.1, g.2)
    | none => acc) ([], d)

/-- The first beat of a LOADING partition (R267): its sheets' first tasks are armed from its opening. -/
def firstBeat (d : Dev) (p k : Nat) : Dev :=
  let o := beatStamp d p k
  let b := basePages d p
  let c : Ckpt := { instant := o, beat := k, complete := true, strips := ckptStrips d p }
  let d := updPart b.2 p fun x => { x with firstBeat := k, base := some c, basePages := b.1, wdBase := o, wdClosed := false, cause := 0 }
  let d := eachQuad (enterState d p .running) p (armFirst o)
  openBeat d p k o

/-- A LOADING partition's first beat opens now: every quad loaded at least 8 ticks ago, the graticule LOCKED, and the
tick one of its beat openings. -/
def firstDue (d : Dev) (p : Nat) : Option Nat :=
  let x := d.partition p
  match realBeat d p with
  | some k => if x.st = .loading ∧ allLoaded x ∧ x.quadMap ≠ [] ∧ gratReported d = .locked ∧ atRealOpening d p ∧ ¬ before (beatStamp d p k) (after x.loadedAt 8) then some k else none
  | none => none

/-- The checkpoint instants of a partition that waits or recovers pass in real time: a mirror of an earlier one is
abandoned (R297, R300). -/
def passInstants (d : Dev) (p : Nat) : Dev :=
  let x := d.partition p
  match realBeat d p, x.mirrorSent with
  | some k, some b => if (x.st = .recovering ∨ x.st = .waitingSpare) ∧ b < k / 8 * 8 then abandonMirror d p (k / 8 * 8) else d
  | _, _ => d

/-- BEAT_OPENING: strips owed a real feed get it; then the partition's next beat opens when it is due, or the partition
stops at it (R269). -/
def beatOpening (d : Dev) (p : Nat) : Dev :=
  let d := passInstants (feedOwedAll d p) p
  let x := d.partition p
  if partLive x then
    if reached d (nextOpening d p) then (if x.stopping then stopPartition d p else openBeat d p x.nextBeat (nextOpening d p)) else d
  else match firstDue d p with
    | some k => firstBeat d p k
    | none => d

/-- BEAT_OPENING. -/
def execBeatOpening (e : Nat) (partition : Nat) (s : State) : Res :=
  let d := s.dev.at e
  onUnit s (decide (partition < 64)) (if d.grat.everLocked then beatOpening d partition else d)

/-! ## Restart (R306, R307, R311) -/

/-- The edge at which a RECOVERING partition restarts. -/
def restartAt (x : Partition) : Stamp := later (restartDue x) (edgeAfter x.loadedAt)

/-- A partition restarts: pages and strips restored, PARTITION_RELOCATED raised, and the checkpoint's beat opens. -/
def restart (d : Dev) (p : Nat) (o : Stamp) : Dev :=
  let r := restoreFrom (completeCkpt d p) p
  let c := r.1
  let d := restoreStrips r.2.2 p (peerStrips r.2.2 p r.2.1)
  let d := updPart d p fun x => { x with
    lastRecovery := recoveryRecord x o c, recoveries := x.recoveries + 1, cause := 0, remaps := [], nextBeat := c, wdBase := o, wdClosed := false, begun := true }
  let d := eachQuad (enterState d p .replaying) p (armFirst o)
  openBeat (raisePart d 0xE2 p 0xFFFF c) p c o

/-- PARTITION_RESTART. -/
def execPartitionRestart (e : Nat) (partition : Nat) (s : State) : Res :=
  let d := s.dev.at e
  let x := d.partition partition
  onUnit s (decide (partition < 64))
    (if x.st = .recovering ∧ x.haltDue.isNone ∧ allLoaded x ∧ reached d (restartAt x) then
      (if x.stopping then stopPartition d partition else restart d partition (restartAt x))
    else d)

/-! ## Stall watchdog (R314 to R317) -/

/-- A quad has work pending (R315). -/
def quadPending (x : Quad) : Bool :=
  (x.slots.any fun t => match t.st, t.wait with
    | .ready, _ | .running, _ => true
    | .waiting, some (.queue _ _) => true
    | .armed, _ => match t.trig with
      | some (.queue j _) => !(x.queue j.toNat).msgs.isEmpty
      | _ => false
    | _, _ => false) || (x.units.any fun l => !l.isEmpty) || !x.outbound.isEmpty

/-- The base-conversion unit waits for an open entry of its fetch table (05 R193, R201, R204). -/
def waitsFetch (x : Quad) : Bool :=
  match unitQueue x 5 with
  | c :: _ => c.done.isNone && (x.fetch.any (fun t => decide (t.dst.toNat = leAt 8 8 c.desc)) || (decide (leAt 0 1 c.desc = 3) && decide (16 ≤ x.fetch.length)))
  | [] => false

/-- A tick does not count towards a partition's window (R317, 05 R201, 06 R245). -/
def uncounted (d : Dev) (p : Nat) : Bool :=
  let x := d.partition p
  !partLive x || (x.table.any fun b => b.2.isSome) || ((d.ptx p).taken.any fun t => decide (takenTag d p t ≠ 0)) || ((quadsOf d p).any fun n => waitsFetch (d.quad n))

/-- STALL_WATCHDOG: the window closes, in a tick that counts; with work pending PARTITION_STALL is raised (R316, R317). -/
def stallWatchdog (d : Dev) (p : Nat) : Dev :=
  let x := d.partition p
  if partLive x ∧ ¬ x.wdClosed ∧ reached d (after x.wdBase 16) ∧ ¬ x.wdSkip ∧ ¬ uncounted d p then
    let pending := (quadsOf d p).any fun n => quadPending (d.quad n)
    let d := updPart d p fun x => { x with wdClosed := true, stalls := if pending then x.stalls + 1 else x.stalls, cause := if pending then 0xE1 else x.cause }
    if pending then raisePart d 0xE1 p 0xFFFF (x.nextBeat - 1) else d
  else d

/-- STALL_WATCHDOG. -/
def execStallWatchdog (e : Nat) (partition : Nat) (s : State) : Res :=
  onUnit s (decide (partition < 64)) (stallWatchdog (s.dev.at e) partition)

end Sys2Proof.Machine
end

