-- ==== Sys2Proof/Machine/EthBase.lean ====
section
/-! DEFINITION. What the Ethernet ports send: tags, addresses, checksums, ARP, the transmit queue (11 R449 to R455,
09 R407). Formats of ARP, IPv4, UDP and IGMPv3 are those of their standards (assumption log 31). -/

namespace Sys2Proof.Machine

/-- An entry of port n (0x5810 + n). -/
def ethNat (d : Dev) (n sub : Nat) : Nat := legNat d (0x5810 + n) sub

/-- MAC_ADDR of port n. -/
def portMac (d : Dev) (n : Nat) : BitVec 48 := if n = 0 then d.part.mac0 else if n = 1 then d.part.mac1 else d.part.mac2

/-- A port changed. -/
def updEth (d : Dev) (n : Nat) (f : EthPort → EthPort) : Dev := d.setEthPort n (f (d.ethPort n))

/-- A MAC address as octets. -/
def macBytes (m : BitVec 48) : Bytes := be 6 m.toNat

/-- The broadcast address. -/
def macBroadcast : BitVec 48 := 0xFFFFFFFFFFFF#48

/-- What a frame carries, for PCP_MAP (R450). -/
inductive EthUse where
  | first | ezith | other
  deriving DecidableEq, Repr

/-- PCP of a use. -/
def pcpOf (d : Dev) (n : Nat) (u : EthUse) : Nat :=
  let m := ethNat d n 0x09
  match u with
  | .first => bitsAt 0 3 m
  | .ezith => bitsAt 4 3 m
  | .other => bitsAt 8 3 m

/-- The tags of Table 11.1 as sent. -/
def ethTags (d : Dev) (n : Nat) (u : EthUse) : Bytes :=
  let tci := fun vid => be 2 (pcpOf d n u * 8192 + vid)
  match ethNat d n 0x06 with
  | 0 => []
  | 1 => be 2 0x8100 ++ tci (ethNat d n 0x08)
  | _ => be 2 0x88A8 ++ tci (ethNat d n 0x07) ++ be 2 0x8100 ++ tci (ethNat d n 0x08)

/-- A frame of port n. -/
def ethFrame (d : Dev) (n : Nat) (u : EthUse) (dst : BitVec 48) (type : Nat) (body : Bytes) : Bytes :=
  macBytes dst ++ macBytes (portMac d n) ++ ethTags d n u ++ be 2 type ++ body

/-- Octets moved on the management port in the present tick (R456). -/
def countMgmt (d : Dev) (n bytes : Nat) : Dev :=
  if n ≠ 0 then d
  else
    let m := d.eth.mgmt
    let h := match m.history with
      | x :: r => (x + bytes) :: r
      | [] => [bytes]
    { d with eth := { d.eth with mgmt := { m with history := h } } }

/-- A frame leaves. -/
def ethEmit (d : Dev) (n : Nat) (frame : Bytes) : Dev :=
  (countMgmt (updEth d n fun x => { x with txFrames := x.txFrames + 1 }) n frame.length).emit (.eth n frame)

/-- Octets in a transmit queue. -/
def txBytes (x : EthPort) : Nat := (x.txq.map fun f => f.2.length).foldl (· + ·) 0

/-- A discard counted under a cause of RX_DISCARDS: 0 FCS, 1 MTU, 2 TAG, 3 OTHER, 4 IPV4, 5 L4, 6 TXFULL. -/
def countDiscard (d : Dev) (n cause : Nat) : Dev :=
  updEth d n fun x => { x with discards := setNth x.discards cause (nth 0 x.discards cause + 1) }

/-- A frame waits in the transmit queue of 256 KiB, or is discarded (R455). -/
def ethQueue (d : Dev) (n : Nat) (hop : Option (BitVec 32)) (frame : Bytes) : Dev :=
  if 262144 < txBytes (d.ethPort n) + frame.length then countDiscard d n 6
  else updEth d n fun x => { x with txq := x.txq ++ [(hop, frame)] }

/-- A frame sent, or queued while the link is down. -/
def ethSend (d : Dev) (n : Nat) (frame : Bytes) : Dev :=
  if (d.ethPort n).link then ethEmit d n frame else ethQueue d n none frame

/-! ## Checksums (R452) -/

/-- One's-complement sum of 16-bit words, an odd octet filled with zero. -/
def onesSum (bs : Bytes) : Nat := (chunks 2 bs.length bs).foldl (fun a w => a + beVal (fit 2 w)) 0

/-- A sum folded to 16 bits. -/
def foldSum (n : Nat) : Nat :=
  let a := n % 65536 + n / 65536
  let b := a % 65536 + a / 65536
  b % 65536 + b / 65536

/-- The Internet checksum of octets. -/
def checksum (bs : Bytes) : Nat := 65535 - foldSum (onesSum bs)

/-- The pseudo-header of a protocol over IPv4. -/
def pseudoHeader (src dst : BitVec 32) (proto len : Nat) : Bytes := be 4 src.toNat ++ be 4 dst.toNat ++ be 1 0 ++ be 1 proto ++ be 2 len

/-- An IPv4 datagram: no fragment, its header checksum filled in. -/
def ipv4 (src dst : BitVec 32) (proto ttl : Nat) (options body : Bytes) : Bytes :=
  let h := be 1 (0x45 + options.length / 4) ++ be 1 0 ++ be 2 (20 + options.length + body.length) ++ be 2 0 ++ be 2 0x4000 ++ be 1 ttl ++ be 1 proto ++ be 2 0 ++ be 4 src.toNat ++ be 4 dst.toNat ++ options
  patch 10 (be 2 (checksum h)) h ++ body

/-- A UDP datagram; a checksum of 0 is sent as 0xFFFF. -/
def udp (src dst : BitVec 32) (sport dport : Nat) (body : Bytes) : Bytes :=
  let h := be 2 sport ++ be 2 dport ++ be 2 (8 + body.length) ++ be 2 0
  let c := checksum (pseudoHeader src dst 17 (8 + body.length) ++ h ++ body)
  patch 6 (be 2 (if c = 0 then 65535 else c)) h ++ body

/-! ## Next hops and ARP (R453) -/

/-- IPV4_ADDR of port n. -/
def portIp (d : Dev) (n : Nat) : BitVec 32 := BitVec.ofNat 32 (ethNat d n 0x03)

/-- A multicast IPv4 address. -/
def isMulticast (ip : BitVec 32) : Bool := decide (ip.toNat / 2 ^ 28 = 14)

/-- The MAC address of a multicast group. -/
def groupMac (ip : BitVec 32) : BitVec 48 := BitVec.ofNat 48 (0x01005E000000 + ip.toNat % 2 ^ 23)

/-- The next hop of a unicast destination. -/
def hopOf (d : Dev) (n : Nat) (ip : BitVec 32) : BitVec 32 :=
  let k := 2 ^ (32 - ethNat d n 0x04)
  if ip.toNat / k = (portIp d n).toNat / k then ip else BitVec.ofNat 32 (ethNat d n 0x05)

/-- The ARP entry of an address. -/
def arpOf (x : EthPort) (ip : BitVec 32) : Option Arp := x.arp.find? fun a => decide (a.ip = ip)

/-- The MAC address of a resolved hop. -/
def arpMac (d : Dev) (n : Nat) (ip : BitVec 32) : Option (BitVec 48) := (arpOf (d.ethPort n) ip).bind (·.mac)

/-- The destination address of a datagram; none while its next hop is unresolved. -/
def macTo (d : Dev) (n : Nat) (ip : BitVec 32) : Option (BitVec 48) :=
  if isMulticast ip then some (groupMac ip) else arpMac d n (hopOf d n ip)

/-- An ARP packet: operation 1 request, 2 reply. -/
def arpBody (d : Dev) (n op : Nat) (mac : BitVec 48) (ip : BitVec 32) : Bytes :=
  be 2 1 ++ be 2 0x0800 ++ be 1 6 ++ be 1 4 ++ be 2 op ++ macBytes (portMac d n) ++ be 4 (portIp d n).toNat ++ macBytes mac ++ be 4 ip.toNat

/-- An ARP request for an address, its entry stamped. -/
def sendArp (d : Dev) (n : Nat) (ip : BitVec 32) : Dev :=
  let d := updEth d n fun x => { x with arp := match arpOf x ip with
    | some _ => x.arp.map fun a => if a.ip = ip then { a with at_ := now d } else a
    | none => x.arp ++ [{ ip := ip, mac := none, at_ := now d }] }
  ethSend d n (ethFrame d n .other macBroadcast 0x0806 (arpBody d n 1 0 ip))

/-- A hop that is needed and has no entry is asked for at once. -/
def wantHop (d : Dev) (n : Nat) (ip : BitVec 32) : Dev :=
  if (arpOf (d.ethPort n) ip).isSome then d else sendArp d n ip

/-- An IPv4 datagram that is no session segment: sent, or queued until its next hop is resolved. -/
def sendIp (d : Dev) (n : Nat) (u : EthUse) (dst : BitVec 32) (datagram : Bytes) : Dev :=
  match macTo d n dst with
  | some m => ethSend d n (ethFrame d n u m 0x0800 datagram)
  | none => wantHop (ethQueue d n (some (hopOf d n dst)) (ethFrame d n u 0 0x0800 datagram)) n (hopOf d n dst)

/-- The frames that can leave a queue leave it in order: the link up, the hop resolved. -/
def flushQueue (d : Dev) (n : Nat) : Dev :=
  let q := (d.ethPort n).txq
  let d := updEth d n fun x => { x with txq := [] }
  q.foldl (fun d f => match f.1 with
    | none => ethSend d n f.2
    | some ip => match arpMac d n ip with
      | some m => ethSend d n (patch 0 (macBytes m) f.2)
      | none => updEth d n fun x => { x with txq := x.txq ++ [f] }) d

/-! ## Group membership (09 R407) -/

/-- An IGMPv3 report of one group record without sources: 2 mode is exclude, 3 change to include, 4 change to exclude. -/
def igmpReport (d : Dev) (n record : Nat) (group : BitVec 32) : Dev :=
  let body := be 1 0x22 ++ zeros 3 ++ be 2 0 ++ be 2 1 ++ be 1 record ++ zeros 1 ++ be 2 0 ++ be 4 group.toNat
  let body := patch 2 (be 2 (checksum body)) body
  let dst : BitVec 32 := 0xE0000016
  sendIp d n .other dst (ipv4 (portIp d n) dst 2 1 (be 4 0x94040000) body)

end Sys2Proof.Machine
end

