-- ==== Sys2Proof/Machine/Upstream.lean ====
section
/-! DEFINITION. Results entering the upstream scheduler, its classes, weighted fair queueing, shapers, the filling of
allocations, and Ethernet-mode datagrams (09 R383 to R409). -/

namespace Sys2Proof.Machine

/-! ## Bindings (08 R341, R342; 09 R390, R392, R406) -/

/-- The XGEM bindings that are set, by number, as listed (0x5020, 0x5021). -/
def ponBindings (d : Dev) : List (Nat × Bytes) :=
  d.legend.filterMap fun x => if 0x502000 ≤ x.1 ∧ x.1 < 0x502200 then x.2.map fun v => (x.1 - 0x502000, v) else none

/-- The UDP bindings that are set (0x5460, 0x5461). -/
def udpBindings (d : Dev) : List (Nat × Bytes) :=
  d.legend.filterMap fun x => if 0x546000 ≤ x.1 ∧ x.1 < 0x546200 then x.2.map fun v => (x.1 - 0x546000, v) else none

/-- The Alloc-ID of an XGEM port: an OMCI-created port associated with a T-CONT (08 R342). -/
def allocOfPort (d : Dev) (port : Nat) : Option Nat :=
  match d.pon.gemPorts.findSome? fun x => x.2.filter fun g => decide (g.portId = port) with
  | some g => (d.pon.tconts.find? fun t => decide (t.1 = g.tcont)).map fun t => t.2.toNat
  | none => none

/-- Where an upstream item goes: its scheduling point, an Alloc-ID or 0x10000 + local port, the XGEM or UDP port, and the
destination address. -/
structure UpRoute where
  point : Nat
  port : Nat
  address : BitVec 32
  deriving DecidableEq, Repr

/-- The UP binding of a partition with a class. -/
def upBinding (d : Dev) (p cls : Nat) : Option UpRoute :=
  if ethMode d then
    (udpBindings d).findSome? fun b =>
      if beAt 6 1 b.2 = 5 ∧ beAt 7 1 b.2 = p ∧ beAt 8 1 b.2 = cls then some { point := 0x10000 + beAt 9 1 b.2, port := beAt 4 2 b.2, address := BitVec.ofNat 32 (beAt 0 4 b.2) } else none
  else
    (ponBindings d).findSome? fun b =>
      if beAt 2 1 b.2 = 5 ∧ beAt 3 1 b.2 = p ∧ beAt 4 1 b.2 = cls then (allocOfPort d (beAt 0 2 b.2)).map fun a => { point := a, port := beAt 0 2 b.2, address := 0 } else none

/-- The route of a query: the binding of class 0, or that of class 2 when there is none of class 0. -/
def queryRoute (d : Dev) (p : Nat) : Option UpRoute :=
  let has0 := if ethMode d then (udpBindings d).any fun b => decide (beAt 6 1 b.2 = 5) && decide (beAt 7 1 b.2 = p) && decide (beAt 8 1 b.2 = 0)
    else (ponBindings d).any fun b => decide (beAt 2 1 b.2 = 5) && decide (beAt 3 1 b.2 = p) && decide (beAt 4 1 b.2 = 0)
  upBinding d p (if has0 then 0 else 2)

/-- The route of an item. -/
def itemRoute (d : Dev) (it : Item) : Option UpRoute := if it.cls = .query then queryRoute d it.partition else upBinding d it.partition 2

/-- The route of management traffic: the EZITH binding. -/
def mgmtRoute (d : Dev) : Option UpRoute :=
  if ethMode d then none
  else (ponBindings d).findSome? fun b => if beAt 2 1 b.2 = 4 then (allocOfPort d (beAt 0 2 b.2)).map fun a => { point := a, port := beAt 0 2 b.2, address := 0 } else none

/-! ## Results enter (R385, R387, R292, R293, R290) -/

/-- WIDE residues packed: each 128 octets into 72 (05 R174). -/
def packWide (b : Bytes) : Bytes :=
  ((chunks 128 b.length b).map fun g => le 72 ((List.range 16).foldl (fun a i => a + leAt (8 * i) 8 g % 2 ^ 36 * 2 ^ (36 * i)) 0)).flatten

/-- What a result does to one of its turns' slots: the oldest pending turn completes; its opening is given. -/
def popTurn (stamp : Stamp) (x : Strip) (n : Nat) : Option Stamp × Strip :=
  let t := sessionOf x n
  match t.turns with
  | [] => (none, x)
  | o :: rest =>
    let t := { t with turns := rest, doneAt := some stamp, ctx := if rest.isEmpty ∧ t.st ≠ .active then none else t.ctx }
    (some o, x.setSession n t)

/-- An abort stamped when the turn completes finds it complete (R289); `ord` is the ordinal sub-tick (02 R664). -/
def lateAborts (stamp : Stamp) (ord : Nat) (x : Strip) (turns : BitVec 64) : Strip :=
  (slotsOf turns).foldl (fun x n =>
    let t := sessionOf x n
    if t.st = .aborted ∧ t.abortAt = stamp ∧ t.abortOrd = ord ∧ t.turns ≠ [] then (x.setSession n { t with st := .active }).setStatus n 2 else x) x

/-- The slots of a strip aborted before a stamp and ordinal sub-tick: a result that enters then loses them (R290). -/
def abortedMask (stamp : Stamp) (ord : Nat) (x : Strip) : BitVec 64 :=
  (List.range 64).foldl (fun m n =>
    let t := sessionOf x n
    if t.st = .aborted ∧ stampOrdBefore t.abortAt t.abortOrd stamp ord then m ||| BitVec.ofNat 64 (2 ^ n) else m) 0

/-- The openings of the turns a result completes, and the strip after it. -/
def completeTurns (stamp : Stamp) (x : Strip) (turns : BitVec 64) : List Stamp × Strip :=
  (slotsOf turns).foldl (fun acc n =>
    let r := popTurn stamp acc.2 n
    (acc.1 ++ r.1.toList, r.2)) ([], x)

/-- The earliest of some stamps. -/
def earliest : List Stamp → Option Stamp
  | [] => none
  | a :: r => match earliest r with
    | none => some a
    | some b => some (if before b a then b else a)

/-- A result enters an empty queue: its start tag becomes V (R394). -/
def wakeQueue (d : Dev) (p : Nat) : Dev :=
  match upBinding d p 2 with
  | none => d
  | some r =>
    let k := r.point * 64 + p
    if (d.ptx p).items.any fun i => decide (i.cls = .result) then d
    else { d with sched := { d.sched with queues := tabSet {} d.sched.queues k { start := tabGet 0 d.sched.vtime r.point, active := true } } }

/-- The first taken record of a partition enters, or is discarded as a repeat of a replay. -/
def enterResult (d : Dev) (p : Nat) (t : TakenRec) (rest : List TakenRec) : Dev :=
  let b := pageBytesOf d p t.srcPage t.srcOff t.length
  let d := b.2
  let body := if t.form = 1 then packWide b.1 else b.1
  let x := d.strip t.strip
  let again := x.entered && !olderSeq x.highSeq x.rseq
  let need := itemBytes (zeros 64 ++ body)
  if ¬ again ∧ storeFree d p < need + legNat d (0x5410 + p) 0x02 then d
  else
    let y := d.ptx p
    let d := writeValid (d.setPtx p { y with taken := rest }) p t.recNo 2
    let late := lateAborts (now d) (ordinal d) (d.strip t.strip) t.turns
    let x := late
    let keep := ~~~ abortedMask (now d) (ordinal d) x
    let done := completeTurns (now d) x t.turns
    let x := { done.2 with rseq := done.2.rseq + 1 }
    if again then d.setStrip t.strip { x with replaySuppressed := x.replaySuppressed + 1 }
    else
      let live := slotsOf (t.turns &&& keep)
      let opens := (completeTurns (now d) late (t.turns &&& keep)).1
      let first := earliest opens
      let rseq := x.rseq - 1
      let frame := frameHeader 8 (streamId d t.strip) rseq.toNat body.length (t.sessions &&& keep).toNat (t.turns &&& keep).toNat 0 0 t.form.toNat (tenant d p) (deviceNumber d) ++ body
      let w := tabGet {} d.aksia.watches p
      let it : Item := { cls := .result, partition := p, strip := t.strip, entered := now d, seq := d.sched.nextSeq, frame := frame,
                         deadline := first.map fun o => after o (stripNat d t.strip 0x02), windowAt := first.getD (now d),
                         replay := (d.partition p).takenOver && before (beatStamp d p x.beat) w.takeoverAt,
                         entry := 0, sealed := none, placed := 0, fragment := [], fragHead := 0, passedOver := false }
      let d := wakeQueue ((countEntry d).setStrip t.strip { x with highSeq := rseq, entered := true, turns := x.turns + BitVec.ofNat 64 (min live.length opens.length) }) p
      let y := d.ptx p
      d.setPtx p { y with items := y.items ++ [it] }

/-- ITEM_ENTRY: the oldest record taken, once nothing of it is held (R385); a pencilled record that breaks Table 9.5 is
refused then (06 R235). -/
def itemEntry (d : Dev) (p : Nat) : Dev :=
  match (d.ptx p).taken with
  | [] => d
  | t :: rest =>
    if t.refuse then
      if pageTag d p (legNat d (0x5410 + p) 0x00) ≠ 0 then d else refuseRecord (d.setPtx p { d.ptx p with taken := rest }) p t.recNo
    else if takenTag d p t ≠ 0 then d
    else enterResult d p t rest

/-- ITEM_ENTRY. -/
def execItemEntry (e : Nat) (partition : Nat) (s : State) : Res :=
  onUnit s (decide (partition < 64)) (itemEntry (s.dev.at e) partition)

/-! ## Commit to a transmission (R402, R403) -/

/-- The slot of a partition's upstream tags is usable (R403). -/
def upUsable (d : Dev) (p : Nat) : Bool := slotUsable d (legNat d (0x5410 + p) 0x05) useUp (tenant d p)

/-- A result's bearing resolved with DEFAULTED in [E, stamp) (06 R244). -/
def markDefaulted (d : Dev) (it : Item) (stamp : Stamp) : Bool :=
  it.deadline.isSome && (d.strip it.strip).defaultedAt.any fun t => !before t it.windowAt && before t stamp

/-- An item committed: a result's STAMP and MARKS are written, the tag is computed (R361, R402); LATE counts (07 R287). -/
def commitItem (d : Dev) (it : Item) : Item × Dev :=
  let slot := legNat d (0x5410 + it.partition) 0x05
  let key := ((d.keySlot slot).cur).getD []
  let auth := stripNat d it.strip 0x21
  let stamp := now d
  let close := fun (f : Bytes) => { it with sealed := some (f ++ frameTag auth key f) }
  if it.cls = .query then (close it.frame, d)
  else
    let late := match it.deadline with
      | some t => reached d t
      | none => false
    let marks := bit late + 2 * bit (markDefaulted d it stamp) + 4 * bit it.replay
    let d := if late then raisePart (updStrip d it.strip fun x => { x with lateTurns := x.lateTurns + 1 }) 0xE7 it.partition it.strip (d.strip it.strip).beat else d
    (close (patch 40 (be 1 marks) (patch 32 (be 8 stamp.toNat) it.frame)), d)

/-- Items of a point that an unusable slot passes over raise once (R403). -/
def passOver (d : Dev) (point : Nat) : Dev :=
  (d.partTx.map (·.1)).foldl (fun d p =>
    if upUsable d p then d
    else
      let hit := fun (i : Item) => i.sealed.isNone && !i.passedOver && decide ((itemRoute d i).map (·.point) = some point)
      let n := ((d.ptx p).items.filter hit).length
      let x := d.ptx p
      let d' := d.setPtx p { x with items := x.items.map fun i => if hit i then { i with passedOver := true } else i }
      (List.range n).foldl (fun d _ => raiseSlot d (legNat d (0x5410 + p) 0x05)) d') d

/-! ## Choosing segments (R390 to R399) -/

/-- What is chosen next at a point. -/
inductive Chosen where
  | mgmt
  | item (p i : Nat)
  deriving DecidableEq, Repr

/-- Item i of a partition's store. -/
def itemAt (d : Dev) (p i : Nat) : Option Item := (d.ptx p).items[i]?

/-- An item may send at a point: its partition's slot is usable (R403). -/
def sendsAt (d : Dev) (point p : Nat) (it : Item) : Bool :=
  upUsable d p && decide ((itemRoute d it).map (·.point) = some point)

/-- The first item of a class of a partition that may send at a point. -/
def firstOf (d : Dev) (point p : Nat) (cls : UpClass) : Option (Nat × Item) :=
  match (d.ptx p).items.zipIdx.find? fun x => decide (x.1.cls = cls) with
  | some (it, i) => if sendsAt d point p it then some (i, it) else none
  | none => none

/-- The query that goes next: the first to enter. -/
def nextQuery (d : Dev) (point : Nat) : Option Chosen :=
  let l := d.partTx.filterMap fun x => (firstOf d point x.1 .query).map fun i => (x.1, i)
  (sortBy (fun x => x.2.2.seq) l).head?.map fun x => .item x.1 x.2.1

/-- Octets of an item's frame with its tag. -/
def frameLen (it : Item) : Nat := if it.cls = .mgmt then it.frame.length else it.frame.length + 16

/-- SDU length of an item's next segment (R395). -/
def nextLen (d : Dev) (it : Item) : Nat :=
  if it.cls = .mgmt then it.frame.length else 16 + min (segMax d) (frameLen it - it.placed)

/-- Shaper h (R397). -/
def shaperOf (d : Dev) (h : Nat) : Shaper := tabGet {} d.sched.shapers h

/-- A partition's shaper permits a segment (R398). -/
def shaperAllows (d : Dev) (p len : Nat) : Bool :=
  let h := legNat d (0x5410 + p) 0x04
  decide (h = 0xFF) || decide (len ≤ (shaperOf d h).tokens)

/-- Tokens taken for a segment. -/
def takeTokens (d : Dev) (p len : Nat) : Dev :=
  let h := legNat d (0x5410 + p) 0x04
  if h = 0xFF then d
  else
    let x := shaperOf d h
    { d with sched := { d.sched with shapers := tabSet {} d.sched.shapers h { x with tokens := x.tokens - len } } }

/-- Result queue of a partition at a point. -/
def queueAt (d : Dev) (point p : Nat) : WfqQueue := tabGet {} d.sched.queues (point * 64 + p)

/-- Result queue replaced. -/
def setQueueAt (d : Dev) (point p : Nat) (q : WfqQueue) : Dev :=
  { d with sched := { d.sched with queues := tabSet {} d.sched.queues (point * 64 + p) q } }

/-- The partitions with a result at a point. -/
def queuesAt (d : Dev) (point : Nat) : List Nat :=
  (d.partTx.map (·.1)).filter fun p => ((d.ptx p).items.any fun i => decide (i.cls = .result)) && decide ((upBinding d p 2).map (·.point) = some point)

/-- Queues that hold items and were empty when last looked at start at V; emptied ones rest (R394). -/
def activate (d : Dev) (point : Nat) : Dev :=
  let full := queuesAt d point
  let d := full.foldl (fun d p => if (queueAt d point p).active then d else setQueueAt d point p { start := tabGet 0 d.sched.vtime point, active := true }) d
  (List.range 64).foldl (fun d p => if (queueAt d point p).active ∧ p ∉ full then setQueueAt d point p { queueAt d point p with active := false } else d) d

/-- Finish tag of a queue's next segment (R395). -/
def finishTag (d : Dev) (point p len : Nat) : Nat :=
  let w := max 1 (legNat d (0x5410 + p) 0x03)
  (queueAt d point p).start.toNat + (len * 65536 + w - 1) / w

/-- The result that goes next, and the device with its tags moved on (R395). -/
def nextResult (d : Dev) (point : Nat) : Option Chosen × Dev :=
  let d := activate d point
  let l := (queuesAt d point).filterMap fun p => match firstOf d point p .result with
    | some (i, it) => let len := nextLen d it; if shaperAllows d p len then some (p, i, finishTag d point p len) else none
    | none => none
  match sortBy (fun (x : Nat × Nat × Nat) => x.2.2) l with
  | [] => (none, d)
  | (p, i, f) :: _ =>
    let s := (queueAt d point p).start
    let d := setQueueAt d point p { start := BitVec.ofNat 64 f, active := true }
    (some (.item p i), { d with sched := { d.sched with vtime := tabSet 0 d.sched.vtime point s } })

/-- The next segment's item at a point (R393). -/
def chooseNext (d : Dev) (point : Nat) : Option Chosen × Dev :=
  match nextQuery d point with
  | some c => (some c, d)
  | none => if (mgmtRoute d).map (·.point) = some point ∧ d.sched.mgmt ≠ [] then (some .mgmt, d) else nextResult d point

/-! ## Placing (R363, R389, R404) -/

/-- A segment header (Table 9.3). -/
def segHeader (frame : Bytes) (off len : Nat) (last : Bool) : Bytes :=
  be 2 0x5A53 ++ slice 3 1 frame ++ be 1 (bit last) ++ slice 8 4 frame ++ be 4 off ++ be 2 len ++ be 2 0

/-- The SDU of an item's next segment, and the item with it placed. -/
def cutSegment (d : Dev) (it : Item) : Bytes × Item :=
  if it.cls = .mgmt then (it.frame, { it with placed := it.frame.length })
  else
    let f := it.sealed.getD []
    let n := min (segMax d) (f.length - it.placed)
    (segHeader f it.placed n (decide (it.placed + n = f.length)) ++ slice it.placed n f, { it with placed := it.placed + n })

/-- An item put back after a segment: it leaves the store when its last octet has been placed (R389). -/
def putItem (d : Dev) (c : Chosen) (it : Item) : Dev :=
  let done := decide (it.placed = frameLen it) && it.fragment.isEmpty
  match c with
  | .mgmt => { d with sched := { d.sched with mgmt := if done then d.sched.mgmt.drop 1 else it :: d.sched.mgmt.drop 1 } }
  | .item p i =>
    let x := d.ptx p
    d.setPtx p (if done then { x with items := x.items.eraseIdx i, itemsSent := x.itemsSent + 1 } else { x with items := setNth x.items i it })

/-- The item chosen. -/
def chosenItem (d : Dev) (c : Chosen) : Option Item :=
  match c with
  | .mgmt => d.sched.mgmt.head?
  | .item p i => itemAt d p i

/-- The next segment of an item taken: committed first when it is the item's first; tokens are taken for a result. -/
def takeNext (d : Dev) (c : Chosen) : Option (Bytes × Item × Dev) :=
  match chosenItem d c with
  | none => none
  | some it =>
    let r := if it.cls ≠ .mgmt ∧ it.sealed.isNone then commitItem d it else (it, d)
    let len := nextLen d it
    let d := if it.cls = .result then takeTokens r.2 it.partition len else r.2
    let s := cutSegment d r.1
    some (s.1, s.2, d)

/-- The item that has a fragment left, by its mark in `fragOf`. -/
def fragItem (d : Dev) (owner : Nat) : Option Chosen :=
  if owner = 1 then some .mgmt
  else d.partTx.findSome? fun x => (x.2.items.zipIdx.find? fun y => decide (y.1.seq + 2 = owner)).map fun y => .item x.1 y.2

/-- The owner of a fragment at a point recorded. -/
def setFrag (d : Dev) (point owner : Nat) : Dev := { d with sched := { d.sched with fragOf := tabSet 0 d.sched.fragOf point owner } }

/-- An SDU, or what is left of one, placed in an allocation with `room` octets left: an XGEM frame is 8 octets of header
and the octets carried, filled up to a multiple of 4 (log 32). -/
def placeSdu (d : Dev) (point port room : Nat) (c : Chosen) (it : Item) (sdu : Bytes) : (Nat × Bool × Bytes) × Nat × Dev :=
  let whole := 8 + (sdu.length + 3) / 4 * 4
  if whole ≤ room then ((port, true, sdu), room - whole, setFrag (putItem d c { it with fragment := [] }) point 0)
  else
    let n := (room - 8) / 4 * 4
    let owner := match c with
      | .mgmt => 1
      | .item _ _ => it.seq + 2
    let head := if ¬ it.fragment.isEmpty then it.fragHead else if it.cls = .mgmt then 0 else 16
    ((port, false, sdu.take n), 0, setFrag (putItem d c { it with fragment := sdu.drop n, fragHead := head - n }) point owner)

/-- The Port-ID an item goes on. -/
def portOfItem (d : Dev) (it : Item) : Nat := ((if it.cls = .mgmt then mgmtRoute d else itemRoute d it).map (·.port)).getD 0

/-- The OMCI response that goes next at a point, when it fits: OMCI runs on the default Alloc-ID, on the Port-ID of the
ONU-ID, and is not fragmented (08 R346, log 33). -/
def nextOmci (d : Dev) (point room : Nat) : Option Bytes :=
  if d.pon.onuId ≠ 0xFFFF ∧ point = d.pon.onuId.toNat then d.pon.omciUp.head?.filter fun m => decide (8 + m.length ≤ room) else none

/-- An allocation filled: the fragment left first, then OMCI, then segments by choice; `fuel` bounds their number. -/
def fillAlloc (d : Dev) (point room : Nat) (frames : List (Nat × Bool × Bytes)) : Nat → List (Nat × Bool × Bytes) × Dev
  | 0 => (frames, d)
  | fuel + 1 =>
    if room < 12 then (frames, d)
    else
      let pend := match tabGet 0 d.sched.fragOf point with
        | 0 => none
        | o => (fragItem d o).bind fun c => (chosenItem d c).map fun it => (c, it)
      match pend with
      | some (c, it) =>
        let r := placeSdu d point (portOfItem d it) room c it it.fragment
        fillAlloc r.2.2 point r.2.1 (frames ++ [r.1]) fuel
      | none => match nextOmci d point room with
        | some m => fillAlloc { d with pon := { d.pon with omciUp := d.pon.omciUp.drop 1 } } point (room - 8 - m.length) (frames ++ [(point, true, m)]) fuel
        | none =>
          let ch := chooseNext (setFrag d point 0) point
          match ch.1 with
          | none => (frames, ch.2)
          | some c => match takeNext ch.2 c with
            | none => (frames, ch.2)
            | some (sdu, it, d) =>
              let r := placeSdu d point (portOfItem d it) room c it sdu
              fillAlloc r.2.2 point r.2.1 (frames ++ [r.1]) fuel

/-- Unplaced octets of an item with 24 for each segment not yet begun (R405). -/
def occupancy (d : Dev) (it : Item) : Nat :=
  let left := frameLen it - it.placed
  left + (it.fragment.length - it.fragHead) + 24 * (if it.cls = .mgmt then bit (decide (0 < left)) else (left + segMax d - 1) / segMax d)

/-- DBRu occupancy of an Alloc-ID (R405), held below the invalid code (log 32). -/
def dbruOf (d : Dev) (point : Nat) : Nat :=
  let items := (d.partTx.map fun x => x.2.items.filter fun i => decide ((itemRoute d i).map (·.point) = some point) && !(i.passedOver && i.sealed.isNone && !upUsable d x.1)).flatten
  let m := if (mgmtRoute d).map (·.point) = some point then d.sched.mgmt else []
  let b := ((items ++ m).map (occupancy d)).foldl (· + ·) 0
  min 0xFFFFFE ((b + 3) / 4)

/-! ## Ethernet mode (R406 to R409; 11 R454) -/

/-- The strip, shadow or answer binding that a datagram's destination matches (R406, R408). -/
def udpMatch (d : Dev) (port : Nat) (address : BitVec 32) (udpPort : BitVec 16) : Option Bytes :=
  ((udpBindings d).find? fun b =>
    let kind := beAt 6 1 b.2
    decide (1 ≤ kind) && decide (kind ≤ 3) && decide (beAt 4 2 b.2 = udpPort.toNat) &&
      (if kind = 3 then decide (address = portIp d port) else decide (beAt 0 4 b.2 = address.toNat))).map (·.2)

/-- UDP_DATAGRAM_RECEIVED: in Ethernet mode, on a local port; a fragment or a datagram without binding is discarded. -/
def udpReceived (d : Dev) (port : Nat) (address : BitVec 32) (udpPort : BitVec 16) (fragment : Bool) (payload : Bytes) : Dev :=
  if ¬ ethMode d ∨ fragment then d
  else match udpMatch d port address udpPort with
    | none => d
    | some b =>
      let h := if beAt 6 1 b = 3 then Handed.answer (beAt 7 1 b) (0x10000 + udpPort.toNat) payload else Handed.segment (beAt 7 1 b) payload
      { d with handed := d.handed ++ [h] }

/-- UDP_DATAGRAM_RECEIVED. -/
def execUdpDatagramReceived (e : Nat) (port : Nat) (address : BitVec 32) (udpPort : BitVec 16) (fragment : Bool) (payload : Bytes) (s : State) : Res :=
  let d := s.dev.at e
  let d := { d with handed := d.handed.erase (.datagram port address udpPort payload) }
  onUnit s (decide (port = 1) || decide (port = 2)) (udpReceived d port address udpPort fragment payload)

/-- Groups bound by STRIP and SHADOW bindings. -/
def boundGroups (d : Dev) : List (BitVec 32) :=
  ((udpBindings d).filter fun b => decide (beAt 6 1 b.2 = 1) || decide (beAt 6 1 b.2 = 2)).map fun b => BitVec.ofNat 32 (beAt 0 4 b.2)

/-- IGMP_QUERY: a query for a bound group is answered on the port; a general query, group 0, for every one. -/
def execIgmpQuery (e : Nat) (port : Nat) (group : BitVec 32) (s : State) : Res :=
  let d := s.dev.at e
  let d := { d with handed := d.handed.erase (.igmp port group) }
  onUnit s (decide (port = 1) || decide (port = 2))
    (if ethMode d then ((boundGroups d).eraseDups.filter fun g => decide (group = 0) || decide (g = group)).foldl (fun d g => igmpReport d port 2 g) d else d)

/-- The IPv4 datagram of an upstream segment (R409). -/
def upDatagram (d : Dev) (n : Nat) (r : UpRoute) (sdu : Bytes) : Bytes :=
  ipv4 (portIp d n) r.address 17 64 [] (udp (portIp d n) r.address (legNat d 0x5400 0x05) r.port sdu)

/-- The route of the item that is next at a local port, without choosing it. -/
def peekRoute (d : Dev) (point : Nat) : Option UpRoute :=
  ((chooseNext d point).1.bind (chosenItem d)).bind (itemRoute d)

/-- LOCAL_PORT_TRANSMIT: with the link up, the next hop resolved and room in the queue, one segment is handed over. -/
def localTransmit (d : Dev) (n : Nat) : Dev :=
  let point := 0x10000 + (n - 1)
  let d := passOver d point
  match peekRoute d point with
  | none => d
  | some r =>
    match macTo d n r.address with
    | none => wantHop d n (hopOf d n r.address)
    | some m =>
      let ch := chooseNext d point
      match ch.1 with
      | none => d
      | some c => match takeNext ch.2 c with
        | none => d
        | some (sdu, it, d') =>
          let frame := ethFrame d' n (if it.cls = .query then .first else .other) m 0x0800 (upDatagram d' n r sdu)
          if 262144 < txBytes (d.ethPort n) + frame.length then d else ethEmit (putItem d' c it) n frame

/-- LOCAL_PORT_TRANSMIT. -/
def execLocalPortTransmit (e : Nat) (port : Nat) (s : State) : Res :=
  let d := s.dev.at e
  onUnit s (decide (port = 1) || decide (port = 2)) (if ethMode d ∧ (d.ethPort port).link then localTransmit d port else d)

end Sys2Proof.Machine
end

