-- ==== Sys2Proof/Machine/Edges.lean ====
section
/-! DEFINITION. What every tick edge does, whichever way it comes: slots woken, shapers refilled, counts and ages of ticks,
write buffers, the patrol, the datum's UPDATE (02 R33, R45, R54; 09 R397; 10 R438; 14 R568; 15 R576). -/

namespace Sys2Proof.Machine

/-- The datum's UPDATE of a tick edge, on every up link (R438). -/
def sendUpdates (d : Dev) : Dev :=
  if d.aksia.isDatum then (upDirs d).foldl (fun d k => sendNeighbour d k (.update d.grat.tick (BitVec.ofNat 8 (gratCode d.grat.state)) 0)) d else d

/-! ## What an edge does -/

/-- The slew left after one tick (02 Table 2.5). -/
def slewTick (x : Int) : Int := if 0 < x then x - 1 else if x < 0 then x + 1 else 0

/-- Slots that wait for a tick are readied (02 R45, 04 R87). -/
def wakeSlots (d : Dev) : Dev :=
  { d with quads := tabMap {} (fun q => { q with slots := q.slots.map (Slot.wakeTick d.grat.tick) }) d.quads }

/-- Every shaper is refilled (09 R397). -/
def refillShapers (d : Dev) : Dev :=
  (List.range 16).foldl (fun d h =>
    let t := (shaperOf d h).tokens
    { d with sched := { d.sched with shapers := tabSet {} d.sched.shapers h { tokens := min (legNat d (0x5450 + h) 0x01) (t + legNat d (0x5450 + h) 0x00) } } }) d

/-- The energy record of an edge (15 R576): energy in nJ over samples of 1 µs is power in mW. -/
def recordEnergy (d : Dev) : Dev :=
  let x := d.sentry
  { d with sentry := { x with
    energyUj := BitVec.ofNat 64 (x.energyNj / 1000), energyStamp := now d, meanMw := BitVec.ofNat 32 ((x.energyNj - x.edgeNj) / x.edgeSamples), edgeNj := x.energyNj, edgeSamples := 0 } }

/-- Counts per tick begin again: answers accepted, frames resent, KEY credits sent. -/
def clearTickCounts (d : Dev) : Dev :=
  let d := { d with partTx := tabMap {} (fun x => { x with answersNow := 0 }) d.partTx }
  d.updAksia fun x => { x with keySentNow := [], ports := tabMap {} (fun (p : AksPort) => { p with resent := 0 }) x.ports }

/-- Ages in ticks grow by the n ticks elapsed: links since their delay exchange, open transactions since their last
operation, the FABRIC source since its last update. -/
def growAges (d : Dev) (n : Nat) : Dev :=
  let d := d.updAksia fun x => { x with ports := tabMap {} (fun (p : AksPort) => if p.st = PortState.up then { p with exchangeAge := p.exchangeAge + n } else p) x.ports }
  let d := { d with ez := { d.ez with txns := tabMap {} (fun (t : Txn) => if t.st = TxnState.open_ then { t with idle := t.idle + n } else t) d.ez.txns } }
  d.updGrat fun g => { g with updateAge := min 8 (g.updateAge + n) }

/-- The management port's traffic by tick, n ticks later (11 R456). -/
def pushHistory (d : Dev) (n : Nat) : Dev :=
  let m := d.eth.mgmt
  let m := { m with history := (((List.replicate (min n 8001) 0 ++ m.history).take 8001).reverse.dropWhile fun x => decide (x = 0)).reverse }
  { d with eth := { d.eth with mgmt := m } }

/-- A tick that does not count moves the stall window of a partition (07 R317). -/
def moveWatchdogs (d : Dev) (n : Nat) : Dev :=
  (d.parts.map (·.1)).foldl (fun d p =>
    let skip := (d.partition p).wdSkip || uncounted d p
    updPart d p fun x => { x with wdSkip := false, wdBase := if partLive x ∧ skip then after x.wdBase n else x.wdBase }) d

/-- The patrol's clock: it begins after first lock and stands still in dormant (14 R568, R570). -/
def patrolClock (d : Dev) (n : Nat) : Dev :=
  if ¬ d.cad.mounted then d
  else if d.cad.patrolStart = 0 then updCad d fun c => { c with patrolStart := now d }
  else if d.dormant.st ≠ .running then updCad d fun c => { c with patrolStart := after c.patrolStart n }
  else patrolLate d

/-- WAKE_AT. -/
def wakeAtNat (d : Dev) : Nat := legNat d 0x8800 0x12

/-- WAKE_AT returns to 0 (15 R608). -/
def clearWakeAt (d : Dev) : Dev := ownChange d 0x8800 0x12 (zeros 8)

/-- WAKE_AT was due at an earlier edge while the device runs (15 R608). -/
def passWakeAt (d : Dev) : Dev :=
  let w := wakeAtNat d
  if w ≠ 0 ∧ d.dormant.st = .running ∧ ¬ before (stampOf d.grat.prevTick 4095) (BitVec.ofNat 60 w) then clearWakeAt d else d

/-- The work of an edge, `n` ticks after the last. -/
def edgeWork (d : Dev) (n : Nat) : Dev :=
  let d := moveWatchdogs d n
  let d := refillShapers (wakeSlots d)
  let d := pushHistory (growAges (clearTickCounts (recordEnergy d)) n) n
  passWakeAt (patrolClock (drainBuffers (sendUpdates d)) n)

end Sys2Proof.Machine
end

