-- ==== Sys2Proof/Machine/Sources.lean ====
section
/-! DEFINITION. The graticule's sources: lock, loss, re-alignment and the consistency check (02 R45a to R58). -/

namespace Sys2Proof.Machine

/-! ## Lock and re-alignment -/

/-- LOCKED is entered: the causes that last until LOCKED are gone (Table 2.9), the holdover count returns to 0. A dwell
left before its edge leaves that edge due at once. -/
def enterLocked (d : Dev) (s : Source) : Dev :=
  let late := decide (d.grat.state = .dwell)
  let shift := if late then localShift d else d.grat.shift
  let e := if late then tickCycles d else d.grat.e
  let d := d.updGrat fun g => { g with state := .locked, source := s, stepTo := none, holdoverElapsed := 0, badCounts := 0, expected := (runOf g s).last + 1, everLocked := true, shift := shift, e := e, clock := (g.setE e).clock }
  let d := d.updGrat fun g => { g with heard := now d }
  [0xB8, 0xB9, 0xBC, 0xBD].foldl (fun d s => if (d.fault s).cause then d.setCause s false else d) d

/-- DWELL is entered: the sub-tick is held at 4,095 (Table 2.5, R55). -/
def enterDwell (d : Dev) (s : Source) (delta : Int) : Dev :=
  let hold := 4095 - stampSub (now d)
  let d := d.updGrat fun g => { g with state := .dwell, source := s, stepTo := none, slew := 0, e := 0, clock := (g.setE 0).clock, holdoverElapsed := 0, shift := g.shift + hold }
  (raiseGrat d 0xBC delta).setCause 0xBC true

/-- Re-alignment to a source (Table 2.5, R53): the difference is taken afresh against the local stamp. -/
def realign (d : Dev) (s : Source) : Dev :=
  let delta := deltaOf d s
  if delta < -2048 then
    if d.grat.state = .dwell then d.updGrat fun g => { g with source := s, stepTo := none } else enterDwell d s delta
  else if 2048 < delta then d.updGrat fun g => { g with stepTo := some s, slew := 0 }
  else enterLocked (d.updGrat fun g => { g with slew := delta }) s

/-- A source's stamp moves against what it gave, by so many sub-ticks; differences of stamps are signed, mod 2^60. -/
def moveSource (d : Dev) (s : Source) (by_ : Int) : Dev :=
  d.updGrat fun g => setRun g s { runOf g s with delta := (BitVec.ofInt 60 ((runOf g s).delta + by_)).toInt }

/-- First lock: the source's tick number and phase are adopted directly (R46). -/
def firstLock (d : Dev) (s : Source) (stamp : Stamp) (phase : Nat) : Dev :=
  let shift := localShift d + stampDiff (now d) stamp
  let t := stampTick stamp
  enterLocked (d.updGrat fun g =>
    { g with tick := t, prevTick := t - 1, e := phase, clock := (g.setE phase).clock, tickLength := BitVec.ofNat 32 (nominalT d), state := .acquiring, slew := 0, splitTick := t, shift := shift, firstTick := true }) s

/-- HOLDOVER at its 8,000th edge is ADRIFT (R50). -/
def driftIfDue (d : Dev) : Dev :=
  if d.grat.state = .holdover ∧ 8000 ≤ d.grat.holdoverElapsed then
    (raiseGrat (d.updGrat fun g => { g with state := .adrift }) 0xB9 0).setCause 0xB9 true
  else d

/-! ## Loss -/

/-- HOLDOVER is entered at the stamp of the loss (R49); without a source SOURCE reads 0 (Table 2.3; log 51). -/
def enterHoldover (d : Dev) : Dev :=
  (raiseGrat (d.updGrat fun g => { g with state := .holdover, source := .none, holdoverElapsed := 0 }) 0xB8 0).setCause 0xB8 true

/-- A dwell ends at a loss: the held tick's next edge is generated at its instant (R49). -/
def breakDwell (d : Dev) : Dev :=
  if d.grat.state = .dwell then
    let shift := localShift d + 1
    edgeWork (d.updGrat fun g => { g with state := .locked, tick := g.tick + 1, prevTick := g.tick, e := 0, clock := (g.setE 0).clock, shift := shift }) 1
  else d

/-- The followed source is lost (R49): a re-alignment in progress is abandoned, and the next qualified source is taken
afresh, or none. -/
def dropSource (d : Dev) (s : Source) : Dev :=
  let d := (breakDwell d).updGrat fun g => { g with slew := 0, stepTo := none, realignDue := false }
  match (sourceOrder d).find? fun x => decide (x ≠ s) && qualified d.grat x with
  | some x => realign d x
  | none => enterHoldover d

/-- A source is lost (R46, R48): its run ends; a graticule that follows it drops it, one that was acquiring returns to
FREE when no run is left. -/
def loseSource (d : Dev) (s : Source) : Dev :=
  let d := d.updGrat fun g => setRun g s {}
  match d.grat.state with
  | .acquiring => if [Source.pon, .fabric, .ptp].any (fun x => (runOf d.grat x).live) then d else d.updGrat fun g => { g with state := .free }
  | .locked | .dwell =>
    if d.grat.source = s then dropSource d s
    else if d.grat.stepTo = some s then d.updGrat fun g => { g with stepTo := none }
    else d
  | _ => if d.grat.stepTo = some s then d.updGrat fun g => { g with stepTo := none } else d

/-! ## Tick numbers delivered -/

/-- The run of a source after a tick number (R45a). -/
def extendRun (r : SourceRun) (t : TickNo) (delta shift : Int) : SourceRun :=
  if r.live ∧ t = r.last + 1 then { live := true, last := t, count := min 8 (r.count + 1), delta := delta, shift := shift }
  else { live := true, last := t, count := 1, delta := delta, shift := shift }

/-- Ticks between two local stamps, to the nearest: a slew may put two local edges, or none, between two frames. -/
def ticksBetween (a b : Stamp) : Nat := ((stampDiff a b + 2048) / 4096).toNat

/-- The followed source's sequence (R48): a count that does not continue it is ignored, and the fourth in a row loses
the source, its counts being the first of a new run. -/
def checkSequence (d : Dev) (s : Source) (t : TickNo) : Dev :=
  let g := d.grat
  let want := g.expected + BitVec.ofNat 48 (ticksBetween g.heard (now d) - 1)
  let d := d.updGrat fun g => { g with expected := want + 1, heard := now d }
  if t = want then d.updGrat fun g => { g with badCounts := 0 }
  else if g.badCounts + 1 < 4 then d.updGrat fun g => { g with badCounts := g.badCounts + 1 }
  else
    let d := dropSource (d.updGrat fun g => { g with badCounts := 0 }) s
    (raiseGrat d 0xBD 0).setCause 0xBD (decide (d.grat.state ≠ .locked))

/-- A tick number of the source that the graticule follows: the first after dormant re-aligns, any other continues the
sequence or breaks it; in a dwell it is one source tick of the dwell. -/
def followedTick (d : Dev) (s : Source) (t : TickNo) : Dev :=
  if d.grat.state = .dwell then d.updGrat fun g => { g with dwellTicks := g.dwellTicks + 1 }
  else if d.grat.realignDue then realign (d.updGrat fun g => { g with realignDue := false }) s
  else checkSequence d s t

/-- A valid tick number of a source that stands at a stamp, `phase` cycles after its tick's edge (R45a, R46, R48, R49,
R52): a qualified source is taken when it is preferred to the one followed or to be stepped to. -/
def deliverTick (d : Dev) (s : Source) (stamp : Stamp) (phase : Nat) : Dev :=
  let d := driftIfDue d
  let d := d.updGrat fun g => setRun g s (extendRun (runOf g s) (stampTick stamp) (stampDiff (now d) stamp) (localShift d))
  let take := qualified d.grat s && decide (s ∈ sourceOrder d) && decide (sourceRank d s < sourceRank d (d.grat.stepTo.getD d.grat.source))
  match d.grat.state with
  | .free => d.updGrat fun g => { g with state := .acquiring }
  | .acquiring => if take then firstLock d s stamp phase else d
  | .holdover | .adrift => if take then realign d s else d
  | .locked | .dwell =>
    if d.grat.source = s then followedTick d s (stampTick stamp)
    else if take then (if d.grat.firstTick then firstLock d s stamp phase else realign d s)
    else d

/-! ## Commands -/

/-- FABRIC_UPDATE_TIMEOUT (R46, R48): 8 ticks without a valid update lose the FABRIC source; before first lock, 8 nominal
tick lengths. -/
def execFabricUpdateTimeout (e : Nat) (s : State) : Res :=
  let d := s.dev.at e
  let lost := if d.grat.everLocked then decide (8 ≤ d.grat.updateAge) else decide (8 * nominalT d ≤ (d.grat.e - d.grat.updateE) * 256)
  .next (s.withDev (if lost then loseSource d .fabric else d))

/-- HOLDOVER_LIMIT (R50). -/
def execHoldoverLimit (e : Nat) (s : State) : Res := .next (s.withDev (driftIfDue (s.dev.at e)))

/-- SPLIT_COMPARISON (R57, R58). -/
def splitCompare (d : Dev) (fabric : Stamp) : Dev :=
  let diff := stampDiff fabric (now d)
  let beyond := decide (4096 < diff.natAbs)
  let g := d.grat
  let d := d.updGrat fun g => { g with splitLast := diff, splitTick := g.tick, splitOver := if beyond then min 4 (g.splitOver + 1) else 0, splitWithin := if beyond then 0 else min 4 (g.splitWithin + 1) }
  let d := if beyond ∧ g.splitOver = 3 then (raiseGrat d 0xBA diff).setCause 0xBA true else d
  if 4 ≤ d.grat.splitWithin ∧ (d.fault 0xBA).cause then d.setCause 0xBA false else d

/-- SPLIT_COMPARISON: in PON mode, with SOURCE PON, on a device that is not the datum and has fabric time, once every 8
ticks. -/
def execSplitComparison (e : Nat) (fabric : Stamp) (s : State) : Res :=
  let d := s.dev.at e
  let due := !ethMode d && decide (d.grat.state = .locked) && decide (d.grat.source = .pon) && !d.aksia.isDatum &&
    d.aksia.upstream.isSome && decide (8 ≤ (d.grat.tick - d.grat.splitTick).toNat)
  .next (s.withDev (if due then splitCompare d fabric else d))

end Sys2Proof.Machine
end

