-- ==== Sys2Proof/Machine/Net.lean ====
section
/-! DEFINITION. What the network blocks share: the stages they run in, a source's tick number with the entry to READY
it may give (17 R631, R643), and wake events (15 R605, R608). -/

namespace Sys2Proof.Machine

/-- The PON terminal, the Aksia ports and PTP run in the stages SYNC and READY (17 Table 17.1). -/
def netUp (d : Dev) : Bool := decide (d.start.stage = .sync) || decide (d.start.stage = .ready)

/-- A graticule source is locked and followed. -/
def follows (d : Dev) (s : Source) : Bool := decide (d.grat.state = .locked) && decide (d.grat.source = s)

/-- Start-up changed. -/
def Dev.updStart (d : Dev) (f : Start → Start) : Dev := { d with start := f d.start }

/-- Microseconds since reset release, while the graticule counts from it (02 R664). -/
def releaseUs (d : Dev) : Nat := if ethMode d then d.grat.e / 625 else d.grat.e * 100 / 62208

/-- A held RUN = 1 takes effect as its own commit (R643). -/
def runHeld (d : Dev) (p : Nat) : Dev := if runConflict d p then d else bumpChange (putRun d p true) (legKey (0x3000 + p) 0x0B)

/-- READY begins at first lock, `us` microseconds after reset release; the held writes of RUN take effect in order. -/
def readyIfLocked (us : Nat) (d : Dev) : Dev :=
  if d.start.stage = .sync ∧ d.grat.everLocked then
    let held := d.start.heldRuns
    held.foldl runHeld (d.updStart fun x => { x with stage := .ready, times := tabSet 0 x.times 7 us, heldRuns := [] })
  else d

/-- A tick number reaches the graticule, `phase` cycles after the edge of tick t; a delay of whole ticks counts as ticks. -/
def deliver (d : Dev) (s : Source) (t : TickNo) (phase : Nat) : Dev :=
  readyIfLocked (releaseUs d) (deliverTick d s (sourceStamp d t phase) (phase % max 1 (tickCycles d)))

/-- Dormant changed. -/
def Dev.updDormant (d : Dev) (f : Dormant → Dormant) : Dev := { d with dormant := f d.dormant }

/-- A wake event of a stamp, cause 1 Ethernet, 2 PON, 3 WAKE_AT: the first of a dormant period is held or taken; one met
while RUNNING can only refuse a dormant entry at its own stamp (R605, R608). -/
def noteWakeAt (d : Dev) (cause : Byte) (stamp : Stamp) : Dev :=
  match d.dormant.st with
  | .running => d.updDormant fun x => { x with lastEvent := some (cause, stamp), lastEventOrd := ordinal d }
  | .waking => d
  | _ => if d.dormant.wake.isSome then d else d.updDormant fun x => { x with wake := some (cause, stamp) }

/-- A wake event now. -/
def noteWake (d : Dev) (cause : Byte) : Dev := noteWakeAt d cause (now d)

end Sys2Proof.Machine
end

