-- ==== Sys2Proof/Machine/Links.lean ====
section
/-! DEFINITION. Aksia ports: attempts, identity, loss, retransmission, eyes and delays (10 R414, R416, R429 to R434). -/

namespace Sys2Proof.Machine

/-- A port changed. -/
def updPort (d : Dev) (i : Nat) (f : AksPort → AksPort) : Dev := d.setPort i (f (d.port i))

/-- A port back in DETECT: a new attempt begins. -/
def toDetect (d : Dev) (i : Nat) : Dev := updPort d i fun x => { x with st := .detect, since := now d }

/-- A port leaves what it does for a state: an UP port as R431 says, without the raise of its own fall. -/
def resetPort (d : Dev) (i : Nat) (st : PortState) : Dev :=
  if (d.port i).st = .up then leaveUp d i st else updPort d i fun x => { x with st := st, since := now d }

/-- Every port set anew (Table 10.5): those that are off become DISABLED, those that were DISABLED begin to detect;
with `all`, every port that is not off returns to DETECT with n = 0 (R433). -/
def refreshPorts (d : Dev) (all : Bool) : Dev :=
  (List.range (portsFitted d)).foldl (fun d i =>
    if portOff d i ∨ ¬ netUp d then (if (d.port i).st = .disabled then d else resetPort d i .disabled)
    else if all ∨ (d.port i).st = .disabled then updPort (resetPort d i .detect) i fun x => { x with attempts := 0 }
    else d) d

/-- An attempt fails: BACKOFF. -/
def failAttempt (d : Dev) (i : Nat) : Dev := updPort d i fun x => { x with st := .backoff, attempts := x.attempts + 1, since := now d }

/-- A port is making an attempt. -/
def attempting (x : AksPort) : Bool :=
  match x.st with
  | .detect | .equalise | .align | .ident => true
  | _ => false

/-- The window of an attempt has closed: it fails (R429). -/
def attemptOver (d : Dev) (i : Nat) : Bool := attempting (d.port i) && reached d (after (d.port i).since 800)

/-- What this device sends in IDENT, with its first delay request (R430, R434). -/
def sendIdentity (d : Dev) (i : Nat) : Dev :=
  let m : IdentMsg :=
    { device := BitVec.ofNat 16 (deviceNumber d), uid := d.part.uniqueId, port := BitVec.ofNat 8 i
      atlasId := BitVec.ofNat 32 (legNat d 0x6000 0x04), gradeL := decide (d.part.grade = 3)
      dimX := BitVec.ofNat 8 (dimSize d 0), dimY := BitVec.ofNat 8 (dimSize d 1), dimZ := BitVec.ofNat 8 (dimSize d 2) }
  sendOn (d.emit (.ident i m)) i (timePacket d (portDir d i) .delayRequest)

/-- PORT_ATTEMPT: one step of an attempt, or its failure. -/
def portAttempt (d : Dev) (i : Nat) (phase : PortPhase) : Dev :=
  if attemptOver d i then failAttempt d i
  else match phase, (d.port i).st with
    | .equalise, .detect => updPort d i fun x => { x with st := .equalise }
    | .align, .equalise => updPort d i fun x => { x with st := .align }
    | .ident, .align => sendIdentity (updPort d i fun x => { x with st := .ident, lanesUp := 8 }) i
    | .failed, _ => if attempting (d.port i) then failAttempt d i else d
    | _, _ => d

/-- A command on a fitted Aksia port; ports run in the stages of the network. -/
def portRow (e port : Nat) (s : State) (f : Dev → Dev) : Res :=
  let d := s.dev.at e
  onUnit s (decide (port < portsFitted s.dev)) (if netUp d then f d else d)

/-- PORT_ATTEMPT. -/
def execPortAttempt (e : Nat) (port : Nat) (phase : PortPhase) (s : State) : Res := portRow e port s fun d => portAttempt d port phase

/-- PORT_ATTEMPT_TIMEOUT. -/
def execPortAttemptTimeout (e : Nat) (port : Nat) (s : State) : Res :=
  portRow e port s fun d => if attemptOver d port then failAttempt d port else d

/-- Ticks of the back-off after n failed attempts (R429). -/
def portBackoff (n : Nat) : Nat := min (2 ^ (n - 1)) 32 * 8000

/-- PORT_BACKOFF_END. -/
def execPortBackoffEnd (e : Nat) (port : Nat) (s : State) : Res :=
  portRow e port s fun d =>
    let x := d.port port
    if x.st = .backoff ∧ reached d (after x.since (portBackoff x.attempts.toNat)) then toDetect d port else d

/-- The partner's port is the same j in the opposite direction, its link having 8 ports on a ZX4-L and 4 on another grade;
between a ZX4-L and another grade only ports j = 0 to 3 train (R413, R414, R430). -/
def partnerPortOk (d : Dev) (i : Nat) (m : IdentMsg) : Bool :=
  let n := portsPerLink d
  let k := if m.gradeL then 8 else 4
  let j := i % n
  decide (m.port.toNat = k * opposite (i / n) + j) && (decide (n = k) || decide (j < 4))

/-- The identity exchange succeeds (R430). -/
def identOk (d : Dev) (i : Nat) (m : IdentMsg) : Bool :=
  decide (m.atlasId.toNat = legNat d 0x6000 0x04) && decide (m.dimX.toNat = dimSize d 0) && decide (m.dimY.toNat = dimSize d 1) &&
    decide (m.dimZ.toNat = dimSize d 2) && decide (m.device.toNat = neighbour d (deviceNumber d) (portDir d i)) && partnerPortOk d i m

/-- The delay of a port in cycles, of the four instants of a delay exchange (R434); half a cycle is dropped (log 21). -/
def delayOf (t1 t2 t3 t4 : Int) : Nat := (((t4 - t1) - (t3 - t2)) / 2).toNat

/-- A link's partner is known to be of this device's grade, or of another: in the latter case a ZX4-L keeps its ports j = 4
to 7 of the direction off (R414). -/
def noteGrade (d : Dev) (dir : Nat) (gradeL : Bool) : Dev :=
  let other := decide (decide (d.part.grade = 3) ≠ gradeL)
  if other = decide (dir ∈ d.aksia.mixed) then d
  else refreshPorts (d.updAksia fun a => { a with mixed := if other then a.mixed ++ [dir] else a.mixed.filter (· ≠ dir) }) false

/-- IDENT: the port is UP, or the attempt fails and AKSIA_MISCABLED is raised. -/
def identify (d : Dev) (i : Nat) (m : IdentMsg) (delay : Nat) : Dev :=
  if attemptOver d i then failAttempt d i
  else if (d.port i).st ≠ .ident then d
  else
    let d := updPort d i fun x => { x with partnerDev := m.device, partnerPort := m.port }
    if identOk d i m then noteGrade (reachUp d i { d.port i with delay := delay }) (portDir d i) m.gradeL
    else raisePort (updPort (failAttempt d i) i fun x => { x with miscabled := true }) 0x82 i

/-- IDENT. -/
def execIdent (e : Nat) (port : Nat) (peer : IdentMsg) (times : DelayTimes) (s : State) : Res :=
  portRow e port s fun d => identify d port peer (delayOf times.t1 times.t2 times.t3 times.t4)

/-- PORT_DOWN: a lane was lost, or more than 256 frames were retransmitted within the tick (R431). -/
def execPortDown (e : Nat) (port : Nat) (lanesLost : Bool) (s : State) : Res :=
  portRow e port s fun d =>
    if (d.port port).st = .up ∧ (lanesLost ∨ 256 < (d.port port).resent) then
      leaveUp (raisePort (updPort d port fun x => { x with fell := true, retrains := x.retrains + 1 }) 0x80 port) port .detect
    else d

/-- The retry buffer from a frame on is sent again (R416), each frame raising AKSIA_FRAME_RETRY (16 R613). -/
def retransmit (d : Dev) (i : Nat) (seq : BitVec 12) : Dev :=
  let x := d.port i
  match x.retry.findIdx? fun f => decide (f.1 = seq) with
  | none => d
  | some k =>
    let again := x.retry.drop k
    let d := d.setPort i { x with resent := x.resent + again.length, injected := x.injected.filter fun n => again.all fun f => decide (f.1 ≠ n) }
    again.foldl (fun d f => (raiseRetry d i (decide (f.1 ∈ x.injected))).emit (.resend i (sentFrame f.1 f.2 false))) d

/-- LINK_FRAME_RETRANSMIT. -/
def execLinkFrameRetransmit (e : Nat) (port : Nat) (seq : BitVec 12) (s : State) : Res :=
  portRow e port s fun d => if (d.port port).st = .up then retransmit d port seq else d

/-- EYE_MEASUREMENT: each lane below EYE_WARN_MV raises (R432). -/
def execEyeMeasurement (e : Nat) (port : Nat) (eyesMv : List Nat) (s : State) : Res :=
  portRow e port s fun d =>
    if (d.port port).st = .up ∧ eyesMv ≠ [] then
      let d := updPort d port fun x => { x with eyeMv := BitVec.ofNat 16 (eyesMv.foldl min 65535) }
      (eyesMv.filter fun v => decide (v < legNat d 0x6000 0x0C)).foldl (fun d _ => raisePort d 0x83 port) d
    else d

/-- Nanoseconds of graticule-clock cycles: 622.08 MHz, or 625 MHz in Ethernet mode. -/
def cyclesNs (d : Dev) (c : Nat) : Nat := if ethMode d then c * 8 / 5 else c * 100000 / 62208

/-- Graticule-clock cycles of nanoseconds. -/
def nsCycles (d : Dev) (n : Nat) : Nat := if ethMode d then n * 5 / 8 else n * 62208 / 100000

/-- DELAY_EXCHANGE: every 1,024 ticks while UP (R434): this end's request has gone at t1, and its reply has come at t4. -/
def execDelayExchange (e : Nat) (port : Nat) (t1 t2 t3 t4 : Int) (s : State) : Res :=
  portRow e port s fun d =>
    if (d.port port).st = .up ∧ 1024 ≤ (d.port port).exchangeAge then
      offer (updPort d port fun x => { x with delay := delayOf t1 t2 t3 t4, exchangeAge := 0 }) port { pkt := timePacket d (portDir d port) .delayRequest, holds := none }
    else d

/-- Sequence a is after sequence b, counted modulo 2^16 (log 34). -/
def seqLater (a b : BitVec 16) : Bool := decide (a ≠ b) && decide ((a - b).toNat < 2 ^ 15)

/-- The sequences seen from a device with one more: those less than 2^15 behind the newest are kept, newest first. -/
def noteSeq (l : List (BitVec 16)) (seq : BitVec 16) : List (BitVec 16) :=
  let l := (l.takeWhile fun x => seqLater x seq) ++ seq :: l.dropWhile fun x => seqLater x seq
  l.filter fun x => !seqLater x (l.headD seq)

/-- A LINK_STATE notice (R424): one not yet seen goes on over every up link, and, unless a newer one has told of the link,
updates the link map. -/
def noticeIn (d : Dev) (device : BitVec 16) (direction : Nat) (up : Bool) (seq : BitVec 16) : Dev :=
  let a := d.aksia
  let seen := tabGet [] a.seenSeq device.toNat
  if device.toNat = deviceNumber d ∨ seq ∈ seen then d
  else
    let key := device.toNat * 8 + direction
    let last := tabGet 0 a.linkSeq key
    let newer := decide (last = 0) || seqLater seq (BitVec.ofNat 16 (last - 1))
    let l : LinkDown := { device := device, direction := direction }
    let map := a.linkMap.filter (· ≠ l)
    let d := { d with aksia := { a with
      linkMap := if newer then (if up then map else map ++ [l]) else a.linkMap
      linkSeq := if newer then tabSet 0 a.linkSeq key (seq.toNat + 1) else a.linkSeq
      seenSeq := tabSet [] a.seenSeq device.toNat (noteSeq seen seq) } }
    let d := floodNotice d device direction up seq none
    if newer && up then grantAll d else d

/-- LINK_STATE. -/
def execLinkState (e : Nat) (port : Nat) (device : BitVec 16) (direction : Nat) (up : Bool) (seq : BitVec 16) (s : State) : Res :=
  portRow e port s fun d => if (d.port port).st = .up ∧ direction < 6 then noticeIn d device direction up seq else d

end Sys2Proof.Machine
end

