-- ==== Sys2Proof/Machine/Atlas.lean ====
section
/-! DEFINITION. The atlas: the datum and its updates, heartbeats, fencing and takeover, and the arrival of packets
(10 R416 to R428, R434 to R445). -/

namespace Sys2Proof.Machine

/-! ## The datum (R435 to R439) -/

/-- This device is eligible to be datum (R435). -/
def eligible (d : Dev) : Bool :=
  decide (legNat d 0x6000 0x06 < 255) && (if ethMode d then decide (d.eth.ptp.st = .slave) else follows d .pon)

/-- This device's own claim. -/
def ownClaim (d : Dev) : Claim :=
  { priority := BitVec.ofNat 8 (legNat d 0x6000 0x06), uid := d.part.uniqueId, hops := 0, device := BitVec.ofNat 16 (deviceNumber d) }

/-- A claim is better than another; of equal ones, that with fewer hops, then that of the lower port. -/
def claimBefore (a b : Option Nat × Claim) : Bool :=
  if a.2.priority ≠ b.2.priority then decide (a.2.priority.toNat < b.2.priority.toNat)
  else if a.2.uid ≠ b.2.uid then decide (a.2.uid.toNat < b.2.uid.toNat)
  else if a.2.hops ≠ b.2.hops then decide (a.2.hops < b.2.hops)
  else match a.1, b.1 with
    | none, _ => true
    | some x, some y => decide (x < y)
    | some _, none => false

/-- The candidates of this edge: the own claim, and those received in the previous tick, one hop further (R436). -/
def candidates (d : Dev) : List (Option Nat × Claim) :=
  (if eligible d then [(none, ownClaim d)] else []) ++
    (d.aksia.claims.map fun c => (some c.1, { c.2 with hops := c.2.hops + 1 })).filter fun c => decide (c.2.hops ≤ diameter d)

/-- The best of some candidates. -/
def bestClaim : List (Option Nat × Claim) → Option (Option Nat × Claim)
  | [] => none
  | a :: r => match bestClaim r with
    | none => some a
    | some b => some (if claimBefore b a then b else a)

/-- What a change of the datum does (R439). -/
def datumChanged (d : Dev) (old new : Option Claim) : Dev :=
  match old, new with
  | some a, some b => if a.uid = b.uid then d else raiseDev (d.updAksia fun x => { x with newDatum := true }) 0x86 (d.aksia.upstream.getD 0xFFFF) b.device.toNat
  | _, none => if (d.fault 0x87).cause then d else (raiseDev d 0x87 0xFFFF 0).setCause 0x87 true
  | none, some _ => d.setCause 0x87 false

/-- The best claim taken and sent on every up link. -/
def takeClaims (d : Dev) : Dev :=
  let best := bestClaim (candidates d)
  let old := d.aksia.best
  let d := d.updAksia fun x => { x with claims := [], best := best.map (·.2), upstream := best.bind (·.1), isDatum := decide ((best.map (·.1)) = some none) }
  let d := datumChanged d old (best.map (·.2))
  match best with
  | some c => (upDirs d).foldl (fun d k => sendNeighbour d k (.claim c.2.priority c.2.uid c.2.hops c.2.device)) d
  | none => d

/-- DATUM_CLAIM: at each tick edge. -/
def execDatumClaim (e : Nat) (s : State) : Res :=
  let d := s.dev.at e
  .next (s.withDev (if netUp d then takeClaims d else d))

/-- Graticule state of a code. -/
def gratOfCode (c : Byte) : GratState :=
  match c.toNat with
  | 0 => .free
  | 1 => .acquiring
  | 2 => .locked
  | 3 => .holdover
  | 4 => .adrift
  | _ => .dwell

/-- Delay of a link in cycles: that of its lowest UP port (R434). -/
def linkDelay (d : Dev) (dir : Nat) : Nat :=
  match (upPorts d dir).head? with
  | some p => (d.port p).delay
  | none => 0

/-- An UPDATE from the upstream link: the tick edge is its arrival less the correction (R438); after a change of datum
the graticule re-aligns to it (R439). -/
def updateIn (d : Dev) (port : Nat) (tick : TickNo) (state : Byte) (correction residence : Nat) : Dev :=
  let dir := portDir d port
  if d.aksia.isDatum ∨ (d.aksia.upstream.map (portDir d)) ≠ some dir then d
  else
    let corr := correction + linkDelay d dir
    let d := d.updGrat fun g => { g with updateAge := 0, updateE := g.e, datumState := gratOfCode state }
    let d := deliver d .fabric tick corr
    let d := if d.aksia.newDatum then
        let d := d.updAksia fun x => { x with newDatum := false }
        if d.grat.state = .locked ∧ d.grat.source = .fabric then realign d .fabric else d
      else d
    (upDirs d).foldl (fun d k => if k = dir then d else sendNeighbour d k (.update tick state (corr + residence))) d

/-- UPDATE. -/
def execUpdate (e : Nat) (port : Nat) (tick : TickNo) (state : Byte) (correction residence : Nat) (s : State) : Res :=
  portRow e port s fun d => if (d.port port).st = .up then updateIn d port tick state correction residence else d

/-! ## Takeover (R442 to R444) -/

/-- Watch of a holder. -/
def watchOf (d : Dev) (h : Nat) : Watch := tabGet {} d.aksia.watches h

/-- Watch of a holder changed. -/
def updWatch (d : Dev) (h : Nat) (f : Watch → Watch) : Dev :=
  d.updAksia fun x => { x with watches := tabSet {} x.watches h (f (tabGet {} x.watches h)) }

/-- MIRROR_OF of a holder: device and partition. -/
def mirrorOf (d : Dev) (h : Nat) : Option (Nat × Nat) :=
  let v := partNat d h 0x13
  if v = 0xFFFFFFFF then none else some (v / 65536, v % 65536)

/-- The checks of R443, with the pages the copy of the sheets needs (log 36): the mirror and the containers. -/
def takeoverReady (d : Dev) (h : Nat) : Option (Mirror × List Bytes) :=
  let x := d.partition h
  match x.mirrors.head?, loadReady d h with
  | some m, some cs =>
    if x.st = .stopped ∧ x.quadMap ≠ [] ∧ partNat d h 0x0A ≠ 0 ∧ m.tenant.toNat = tenant d h ∧ partNat d h 0x05 = m.pages then some (m, cs) else none
  | _, _ => none

/-- A shadow strip whose PEER names a strip of the mirror becomes a strip of the holder. -/
def adoptStrip (d : Dev) (h s : Nat) (c : CkptStrip) : Dev :=
  let d := ownChange (ownChange d (0x4000 + s) 0x03 [0]) (0x4000 + s) 0x01 (be 1 h)
  updStrip d s fun x => { x with st := .recovering, partition := BitVec.ofNat 8 h, rseq := c.rseq, highSeq := c.rseq - 1, entered := true }

/-- The shadow strips and the mirrored strips their PEER names. -/
def adopted (d : Dev) (device : Nat) (m : Mirror) : List (Nat × CkptStrip) :=
  (d.strips.filter fun x => decide (x.2.st = .shadow)).filterMap fun x =>
    (m.strips.find? fun c => decide (stripNat d x.1 0x04 = device * 65536 + c.strip)).map fun c => (x.1, c)

/-- A takeover that proceeds (R444): PHASE, strips, loading; restore and restart follow as in a recovery. -/
def proceed (d : Dev) (h device : Nat) (m : Mirror) (cs : List Bytes) : Dev :=
  let w := watchOf d h
  let d := ownChange d (0x3000 + h) 0x07 (be 2 m.phase)
  let d := (adopted d device m).foldl (fun d x => adoptStrip d h x.1 x.2) d
  let d := updPart d h fun x => { x with takenOver := true, haltAt := w.takeoverAt, mappedAt := w.takeoverAt, cause := 0x88, lost := 0 }
  let d := beginLoad d h cs .recovering
  (updWatch d h fun w => { w with st := .takenOver, takeovers := w.takeovers + 1 }).setCause 0x8A false

/-- The checks of R443 made: the takeover proceeds or is blocked. -/
def tryTakeover (d : Dev) (h : Nat) : Dev :=
  match mirrorOf d h, takeoverReady d h with
  | some (device, _), some (m, cs) => proceed d h device m cs
  | o, _ =>
    let d := if (watchOf d h).st = .blocked then d else (raiseDev d 0x8A h ((o.map (·.1)).getD 0xFFFF)).setCause 0x8A true
    updWatch d h fun w => { w with st := .blocked }

/-- The holder takes over at the present stamp T: BUDDY_PEER_LOST (R442). -/
def takeOver (d : Dev) (h : Nat) : Dev :=
  let device := ((mirrorOf d h).map (·.1)).getD 0xFFFF
  let d := updWatch d h fun w => { w with takeoverAt := now d }
  tryTakeover (raiseDev d 0x88 h device) h

/-- Length of a heartbeat period in 1/256 graticule-clock cycles: 125 µs (R440). -/
def beatLength (d : Dev) : Int := nominalT d

/-- The window of a watch, 16 heartbeat periods from the last heartbeat, has closed; one that lands at its very end finds it
closed (R442). -/
def peerLost (d : Dev) (h : Nat) : Bool := decide ((watchOf d h).st = .watching) && decide ((watchOf d h).heardAt + 16 * beatLength d ≤ clockNow d)

/-- BUDDY_LOSS_TIMEOUT. -/
def execBuddyLossTimeout (e : Nat) (holder : Nat) (s : State) : Res :=
  let d := s.dev.at e
  onUnit s (decide (holder < 64)) (if peerLost d holder then takeOver d holder else d)

/-- A blocked takeover whose holder a commit has written is tried again (R443). -/
def retryHolder (d : Dev) (h : Nat) : Dev := if (watchOf d h).st = .blocked then tryTakeover d h else d

/-- RUN: a write in conflict changes nothing; one that is made is a commit of one entry, and a blocked takeover of the
partition is tried again (R443, log 46). -/
def execRun (e : Nat) (partition : Nat) (value : Bool) (s : State) : Res :=
  let d := s.dev.at e
  onUnit s (decide (partition < 64))
    (if value ∧ runConflict d partition then d else bumpChange (retryHolder (putRun d partition value) partition) (legKey (0x3000 + partition) 0x0B))

/-- TAKEOVER: one that is due. A blocked one waits for a commit to the holder (R443). -/
def execTakeover (e : Nat) (holder : Nat) (s : State) : Res :=
  let d := s.dev.at e
  onUnit s (decide (holder < 64)) (if peerLost d holder then takeOver d holder else d)

/-! ## Heartbeats (R440 to R442) -/

/-- Partitions that count as running in a heartbeat. -/
def beating (x : Partition) : Bool :=
  match x.st with
  | .running | .replaying | .recovering | .waitingSpare => true
  | _ => false

/-- The partitions with a BUDDY, and their buddies. -/
def buddiesOf (d : Dev) : List (Nat × Nat) :=
  ((List.range 64).map fun p => (p, partNat d p 0x09)).filter fun x => decide (x.2 ≠ 0xFFFF)

/-- RUNNING towards a buddy. -/
def runningMask (d : Dev) (buddy : Nat) : BitVec 64 :=
  (buddiesOf d).foldl (fun m x => if x.2 = buddy ∧ beating (d.partition x.1) then m ||| BitVec.ofNat 64 (2 ^ x.1) else m) 0

/-- Liveness towards a buddy changed. -/
def updBuddy (d : Dev) (b : Nat) (f : BuddyLive → BuddyLive) : Dev :=
  d.updAksia fun x => { x with buddies := tabSet {} x.buddies b (f (tabGet {} x.buddies b)) }

/-- One heartbeat sent. -/
def heartbeatTo (d : Dev) (buddy : Nat) : Dev :=
  let b := tabGet {} d.aksia.buddies buddy
  let d := updBuddy d buddy fun b => { b with ackAt := some (b.ackAt.getD (clockNow d)), sentHandover := b.handover }
  sendPacket d .time (.heartbeat (runningMask d buddy) b.handover b.fenced) buddy 0xFF 0xFF 0 []

/-- HEARTBEAT_SEND: a heartbeat period passes. -/
def heartbeatPeriod (d : Dev) : Dev :=
  ((buddiesOf d).map (·.2)).eraseDups.foldl heartbeatTo d

/-- HEARTBEAT_SEND. -/
def execHeartbeatSend (e : Nat) (s : State) : Res :=
  let d := s.dev.at e
  .next (s.withDev (if netUp d then heartbeatPeriod d else d))

/-- What a heartbeat means to one holder. -/
def watchHeartbeat (d : Dev) (h q : Nat) (running handover : BitVec 64) (fenced : Bool) : Dev :=
  let w := watchOf d h
  let runs := running.getLsbD q
  match w.st with
  | .watching =>
    if peerLost d h then takeOver d h
    else if handover.getLsbD q ∨ (fenced ∧ w.lastRunning) then takeOver d h
    else updWatch d h fun w => { w with heardAt := clockNow d, lastRunning := runs }
  | .blocked => d
  | _ => if runs then updWatch d h fun w => { w with st := .watching, heardAt := clockNow d, lastRunning := true } else d

/-- A heartbeat lands: acknowledged at once, and judged by every holder of a partition of its sender. -/
def heartbeatIn (d : Dev) (device : BitVec 16) (running handover : BitVec 64) (fenced : Bool) : Dev :=
  let d := sendPacket d .time .heartbeatAck device.toNat 0xFF 0xFF 0 []
  let d := if running = 0 then d else d.updAksia fun x => { x with runningHeard := some (clockNow d) }
  (List.range 64).foldl (fun d h => match mirrorOf d h with
    | some (v, q) => if v = device.toNat then watchHeartbeat d h q running handover fenced else d
    | none => d) d

/-- HEARTBEAT_RECEIVED. -/
def execHeartbeatReceived (e : Nat) (device : BitVec 16) (running handover : BitVec 64) (fenced : Bool) (s : State) : Res :=
  let d := s.dev.at e
  .next (s.withDev (if netUp d then heartbeatIn d device running handover fenced else d))

/-- An acknowledgement lands: what its heartbeat told need not be told again. -/
def ackIn (d : Dev) (device : BitVec 16) : Dev :=
  let d := updBuddy d device.toNat fun b => { b with ackAt := some (clockNow d), handover := b.handover &&& ~~~b.sentHandover, sentHandover := 0, fenced := false }
  d.setCause 0x89 false

/-- HEARTBEAT_ACK: from a buddy. -/
def execHeartbeatAck (e : Nat) (device : BitVec 16) (s : State) : Res :=
  let d := s.dev.at e
  .next (s.withDev (if (buddiesOf d).any fun x => decide (x.2 = device.toNat) then ackIn d device else d))

/-- FENCE_TIMEOUT: the partitions of a buddy that has not acknowledged for 12 periods are halted and handed over, FENCED is
set and BUDDY_FENCED raised, once for the loss (R441). -/
def fence (d : Dev) (device : Nat) : Dev :=
  let ps := ((buddiesOf d).filter fun x => decide (x.2 = device) && beating (d.partition x.1)).map (·.1)
  let was := (tabGet {} d.aksia.buddies device).fenced
  let d := ps.foldl (fun d p => haltPartition (updPart d p fun x => { x with stopping := false }) p .handedOver) d
  if was ∧ ps = [] then d
  else (raiseDev (updBuddy d device fun b => { b with fenced := true }) 0x89 (ps.headD 0xFFFF) device).setCause 0x89 true

/-- No acknowledgement has come from a buddy for 12 heartbeat periods (R441). -/
def buddySilent (d : Dev) (device : Nat) : Bool :=
  (buddiesOf d).any (fun x => decide (x.2 = device)) && (tabGet {} d.aksia.buddies device).ackAt.any fun t => decide (t + 12 * beatLength d ≤ clockNow d)

/-- FENCE_TIMEOUT. -/
def execFenceTimeout (e : Nat) (device : BitVec 16) (s : State) : Res :=
  let d := s.dev.at e
  .next (s.withDev (if buddySilent d device.toNat then fence d device.toNat else d))

/-! ## Arrival of packets (R419, R421 to R423, R425) -/

/-- A refusal of an access that the isolation rules forbid at this side (07 R273, R274). -/
def refuseAccess (d : Dev) (p : Packet) : Dev :=
  let d := if p.dpart.toNat < 64 then isolationFault d p.dpart.toNat else d
  sendPacket d .resp .isolation p.src.toNat p.spart.toNat p.dpart.toNat p.tag []

/-- The quad an access reaches, when it is allowed. -/
def accessQuad (d : Dev) (p : Packet) (quad addr len : Nat) : Option Nat :=
  if arrivalAllowed d p.dpart.toNat p.src.toNat p.spart.toNat p.tenant ∧ (bankSpan addr len).isSome then physQuad d p.dpart.toNat quad else none

/-- A remote read answered; an uncorrectable word is answered without data (log 35). -/
def answerRead (d : Dev) (p : Packet) (quad addr len : Nat) : Dev :=
  match accessQuad d p quad addr len with
  | none => refuseAccess d p
  | some n =>
    let r := readForeign d n addr len
    sendPacket r.2.2 .resp .readData p.src.toNat p.spart.toNat p.dpart.toNat p.tag (if r.2.1 then [] else r.1)

/-- A remote write made and acknowledged. -/
def answerWrite (d : Dev) (p : Packet) (quad addr : Nat) : Dev :=
  match accessQuad d p quad addr p.payload.length with
  | none => refuseAccess d p
  | some n => sendPacket (writeQuad d n addr p.payload) .resp .ack p.src.toNat p.spart.toNat p.dpart.toNat p.tag []

/-- A message enters the ingress area, or is discarded under the isolation rules. -/
def messageIn (d : Dev) (p : Packet) (quad : Byte) (queue : BitVec 2) : Dev :=
  if arrivalAllowed d p.dpart.toNat p.src.toNat p.spart.toNat p.tenant then
    let i : Ingress := { srcDev := p.src, srcPart := p.spart, partition := p.dpart.toNat, quad := quad.toNat, queue := queue, msg := { bytes := fit 64 p.payload, tag := 0 } }
    d.updAksia fun x => { x with ingress := x.ingress ++ [i] }
  else if p.dpart.toNat < 64 then isolationFault d p.dpart.toNat
  else d

/-- A delay request answered at once: its reply carries the instants at which it came and the reply left (R434). -/
def answerDelay (d : Dev) (port : Nat) : Dev :=
  offer d port { pkt := timePacket d (portDir d port) (.delayReply d.grat.e d.grat.e), holds := none }

/-- A packet for this device consumed; an UPDATE goes on after its residence time. An answer frees the space reserved for
it (R421). -/
def consume (d : Dev) (port residence : Nat) (p : Packet) : Dev :=
  match p.kind with
  | .claim pr uid hops dev => d.updAksia fun x => { x with claims := x.claims ++ [(port, { priority := pr, uid := uid, hops := hops, device := dev })] }
  | .update t st c => updateIn d port t st c residence
  | .delayRequest => answerDelay d port
  | .heartbeat r h f => heartbeatIn d p.src r h f
  | .heartbeatAck => if (buddiesOf d).any (fun x => decide (x.2 = p.src.toNat)) then ackIn d p.src else d
  | .linkState dev dir up seq => if dir < 6 then noticeIn d dev dir up seq else d
  | .message q k => messageIn d p q k
  | .remoteRead q a len => answerRead d p q.toNat a.toNat len
  | .remoteWrite q a => answerWrite d p q.toNat a.toNat
  | .ack => moverReply (freeResp d p.tag.toNat) p.dpart.toNat p.tag false []
  | .readData => moverReply (freeResp d p.tag.toNat) p.dpart.toNat p.tag false p.payload
  | .isolation => moverReply (freeResp d p.tag.toNat) p.dpart.toNat p.tag true []
  | .keyNack => handPacket (freeResp d (0x10000 + p.tag.toNat)) p
  | .keyPage _ last => handPacket (if last then freeResp d (0x10000 + p.tag.toNat) else d) p
  | .mirrorAck _ => handPacket (freeResp d (0x20000 + p.dpart.toNat)) p
  | _ => handPacket d p

/-- A packet consumed here, its buffer then free, or forwarded on its route, holding its buffer until it goes (R417). -/
def packetIn (d : Dev) (port residence : Nat) (p : Packet) : Dev :=
  let holds := some (portDir d port, p.dl)
  if p.dst.toNat = deviceNumber d then consume (freeBuffer d holds p) port residence p
  else match nextHop d p with
    | some dir => sendHop d dir (decide (dir / 2 ≠ portDir d port / 2)) holds p
    | none => freeBuffer d holds p

/-- Credits that a frame returns on a link: packets that waited for them go (R417). -/
def takeCredits (d : Dev) (dir : Nat) (cs : List LinkCredit) : Dev :=
  if cs = [] then d
  else
    let back := fun (t : Tab Nat) (c : LinkCredit) => tabSet 0 t (creditSlot dir c.cls c.dl) (tabGet 0 t (creditSlot dir c.cls c.dl) - c.units)
    serveLink (d.updAksia fun a => { a with linkUsed := cs.foldl back a.linkUsed }) dir

/-- A link frame received on an UP port: the codewords corrected on its way, its credits, then its packet. -/
def linkFrameIn (d : Dev) (port corrected : Nat) (f : LinkFrame) : Dev :=
  let d := takeCredits (updPort d port fun x => { x with fecCorrected := x.fecCorrected + BitVec.ofNat 64 corrected }) (portDir d port) f.credits
  match f.packet with
  | some p => packetIn d port f.residence p
  | none => d

/-- PACKET_RECEIVED. -/
def execPacketReceived (e : Nat) (port corrected : Nat) (f : LinkFrame) (s : State) : Res :=
  portRow e port s fun d => if (d.port port).st = .up then linkFrameIn d port corrected f else d

end Sys2Proof.Machine
end

