-- ==== Sys2Proof/Machine/Ethernet.lean ====
section
/-! DEFINITION. The Ethernet ports: links, frames received, ARP, the management port's PHY and speed, wake patterns and
the PTP slave (chapter 11). Standard formats are in assumption logs 31 and 37. -/

namespace Sys2Proof.Machine

/-- The firmware runs: the stages from MOUNT on (17 R631). -/
def firmwareUp (d : Dev) : Bool :=
  match d.start.stage with
  | .sentry | .rails | .rom => false
  | _ => true

/-- The Ethernet ports changed. -/
def Dev.updEthernet (d : Dev) (f : Eth → Eth) : Dev := { d with eth := f d.eth }

/-- The PTP slave changed. -/
def updPtp (d : Dev) (f : Ptp → Ptp) : Dev := d.updEthernet fun x => { x with ptp := f x.ptp }

/-- The management port's PHY changed. -/
def updMgmt (d : Dev) (f : Mgmt → Mgmt) : Dev := d.updEthernet fun x => { x with mgmt := f x.mgmt }

/-- A raise of an Ethernet source: LOC16 the port. -/
def raiseEth (d : Dev) (s n : Nat) : Dev := raiseDev d s n 0

/-! ## PTP states (R462, R465) -/

/-- PTP_PORT. -/
def ptpPort (d : Dev) : Nat := (d.eth.ptp.master.map (·.port)).getD 0xFF

/-- A PTP state entered: leaving SLAVE raises and loses the PTP source. -/
def ptpEnter (d : Dev) (st : PtpState) : Dev :=
  let old := d.eth.ptp.st
  let port := ptpPort d
  let d := updPtp d fun x => { x with st := st, good := 0, bad := 0, sync := if st = .listening ∨ st = .disabled then none else x.sync, master := if st = .listening ∨ st = .disabled then none else x.master, stepped := x.stepped && decide (st ≠ .listening) && decide (st ≠ .disabled) }
  if old = .slave ∧ st ≠ .slave then loseSource ((raiseEth d 0xAD port).setCause 0xAD true) .ptp
  else if st = .slave then d.setCause 0xAD false
  else d

/-- PTP as PTP_PORTS and the stage have it (Table 11.2). -/
def ptpRefresh (d : Dev) : Dev :=
  let ports := legNat d 0x5800 0x00
  let on := decide (ports ≠ 0) && netUp d
  if ¬ on then (if d.eth.ptp.st = .disabled then d else ptpEnter d .disabled)
  else match d.eth.ptp.st with
    | .disabled => ptpEnter d .listening
    | .listening => d
    | _ => if bitsAt (ptpPort d) 1 ports = 1 then d else ptpEnter d .listening

/-! ## Links (R446, R454, R457) -/

/-- A port's link goes down: outside dormant, and not for a speed change, it is a fault. -/
def linkDown (d : Dev) (n : Nat) : Dev :=
  if ¬ (d.ethPort n).link then d
  else
    let quiet := decide (d.dormant.st ≠ .running) || (decide (n = 0) && d.eth.mgmt.changing)
    let d := updEth d n fun x => { x with link := false, speedMbps := 0 }
    let d := if quiet then d else (raiseEth (updEth d n fun x => { x with fell := true }) 0xAB n)
    if ptpPort d = n then ptpEnter d .listening else d

/-- The speed of a link that is up (R446, R457, R458): that of the port's interface; with SGMII the one that the PHY
reports, 100 Mb/s while it advertises that alone. -/
def linkSpeed (d : Dev) (n : Nat) (reported : BitVec 32) : BitVec 32 :=
  if n ≠ 0 then 100000
  else match legNat d 0x5820 0x00 with
    | 0 => 10000
    | 1 => 1000
    | _ => if d.eth.mgmt.lowered then 100 else reported

/-- A port's link comes up: what waits for it goes out. `reported` is the PHY's speed. -/
def linkUp (d : Dev) (n : Nat) (reported : BitVec 32) : Dev :=
  let speed := linkSpeed d n reported
  let same := (d.ethPort n).link && decide ((d.ethPort n).speedMbps = speed)
  let d := if n = 0 then updMgmt d fun m => { m with upTick := if same then m.upTick else d.grat.tick, changing := false } else d
  flushQueue (updEth d n fun x => { x with link := true, speedMbps := speed, fell := false }) n

/-- From the stamp at which dormant entry begins, every part of a port is off but what detects a wake (R459). -/
def ethAsleep (d : Dev) : Bool := decide (d.dormant.st = .entering) || decide (d.dormant.st = .dormant)

/-- A command on an Ethernet port. -/
def ethRow (e port : Nat) (s : State) (f : Dev → Dev) : Res :=
  let d := s.dev.at e
  onUnit s (decide (port < 3)) (if firmwareUp d then f d else d)

/-- A command on a part of a port that dormant has off (R459). -/
def awakeRow (e port : Nat) (s : State) (f : Dev → Dev) : Res := ethRow e port s fun d => if ethAsleep d then d else f d

/-- ETH_LINK_CHANGE: a port that dormant has switched off stays down (R459). -/
def execEthLinkChange (e : Nat) (port : Nat) (up : Bool) (speedMbps : BitVec 32) (s : State) : Res :=
  ethRow e port s fun d =>
    if ¬ up then linkDown d port
    else if ethAsleep d ∧ ethNat d port 0x0B = 0 then d
    else linkUp d port speedMbps

/-! ## Frames received (R448 to R453) -/

/-- What stands behind the tags that a port's mode accepts: EtherType and payload (R449). -/
def untagFrame (d : Dev) (n : Nat) (f : Bytes) : Option (Nat × Bytes) :=
  let plain := fun (off : Nat) =>
    let t := beAt off 2 f
    if f.length < off + 2 ∨ t = 0x8100 ∨ t = 0x88A8 then none else some (t, f.drop (off + 2))
  let tag := fun (off tpid vid : Nat) => decide (beAt off 2 f = tpid) && decide (beAt (off + 2) 2 f % 4096 = vid)
  match ethNat d n 0x06 with
  | 0 => plain 12
  | 1 => if tag 12 0x8100 (ethNat d n 0x08) then plain 16 else none
  | _ => if tag 12 0x88A8 (ethNat d n 0x07) && tag 16 0x8100 (ethNat d n 0x08) then plain 20 else none

/-- PTP runs on a port. -/
def ptpOn (d : Dev) (n : Nat) : Bool := decide (bitsAt n 1 (legNat d 0x5800 0x00) = 1)

/-- The PTP group, 224.0.1.129. -/
def ptpGroup : BitVec 32 := 0xE0000181

/-- The multicast groups a port listens to: those of session bindings on the local ports, all hosts, and PTP's. -/
def groupsOf (d : Dev) (n : Nat) : List (BitVec 32) :=
  (if n = 0 then [] else 0xE0000001 :: boundGroups d) ++ (if ptpOn d n then [ptpGroup] else [])

/-- The destination of a frame is one the port accepts (R451). -/
def macAccepted (d : Dev) (n : Nat) (f : Bytes) : Bool :=
  let m := BitVec.ofNat 48 (beAt 0 6 f)
  decide (m = portMac d n) || decide (m = macBroadcast) || ((groupsOf d n).any fun g => decide (m = groupMac g)) ||
    (ptpOn d n && decide (m = 0x011B19000000#48))

/-- A frame discarded under a cause (R448). -/
def discardFrame (d : Dev) (n cause : Nat) : Dev := raiseEth (countDiscard d n cause) 0xAC n

/-- The header of an IPv4 datagram is whole and its checksum agrees. -/
def ipv4Ok (b : Bytes) : Bool :=
  let ihl := beAt 0 1 b % 16 * 4
  decide (beAt 0 1 b / 16 = 4) && decide (20 ≤ ihl) && decide (ihl ≤ beAt 2 2 b) && decide (beAt 2 2 b ≤ b.length) && decide (foldSum (onesSum (b.take ihl)) = 65535)

/-- The UDP or TCP checksum of a datagram that is no fragment agrees; a UDP checksum of 0 is not checked (R452). -/
def layer4Ok (src dst : BitVec 32) (proto : Nat) (body : Bytes) : Bool :=
  let sum := foldSum (onesSum (pseudoHeader src dst proto body.length ++ body))
  if proto = 17 then decide (8 ≤ body.length) && decide (beAt 4 2 body = body.length) && (decide (beAt 6 2 body = 0) || decide (sum = 65535))
  else if proto = 6 then decide (sum = 65535)
  else true

/-- A datagram handed to what takes it: Ezith on the management port, PTP, IGMP queries and session datagrams on the
local ports. -/
def handDatagram (d : Dev) (n : Nat) (src dst : BitVec 32) (proto : Nat) (body : Bytes) : Dev :=
  let hand := fun (h : Handed) => { d with handed := d.handed ++ [h] }
  if proto = 2 then (if n ≠ 0 ∧ beAt 0 1 body = 0x11 then hand (.igmp n (BitVec.ofNat 32 (beAt 4 4 body))) else d)
  else if proto ≠ 17 then d
  else
    let sport := BitVec.ofNat 16 (beAt 0 2 body)
    let dport := beAt 2 2 body
    let payload := body.drop 8
    if n = 0 ∧ dport = 6620 ∧ dst = portIp d 0 then hand (.ezith (.mgmt src sport) payload)
    else if ptpOn d n ∧ legNat d 0x5800 0x02 = 0 ∧ (dport = 319 ∨ dport = 320) then hand (.ptp n payload)
    else if n ≠ 0 then hand (.datagram n dst (BitVec.ofNat 16 dport) payload)
    else d

/-- An IPv4 datagram received. -/
def datagramIn (d : Dev) (n : Nat) (b : Bytes) : Dev :=
  let ihl := beAt 0 1 b % 16 * 4
  let total := beAt 2 2 b
  if ethNat d n 0x0A < total then discardFrame d n 1
  else if ¬ ipv4Ok b then discardFrame d n 4
  else
    let src := BitVec.ofNat 32 (beAt 12 4 b)
    let dst := BitVec.ofNat 32 (beAt 16 4 b)
    let fragment := decide (beAt 6 2 b % 0x4000 ≠ 0)
    let body := (b.take total).drop ihl
    if ¬ fragment ∧ ¬ layer4Ok src dst (beAt 9 1 b) body then discardFrame d n 5
    else
      let d := updEth d n fun x => { x with rxFrames := x.rxFrames + 1 }
      let mine := (decide (dst = portIp d n) && decide (dst ≠ 0)) || decide (dst ∈ groupsOf d n)
      if fragment ∨ ¬ mine then d else handDatagram d n src dst (beAt 9 1 b) body

/-- An ARP packet received: a request for the port's address is answered, a reply replaces what is held. -/
def arpIn (d : Dev) (n : Nat) (b : Bytes) : Dev :=
  let d := updEth d n fun x => { x with rxFrames := x.rxFrames + 1 }
  let mac := BitVec.ofNat 48 (beAt 8 6 b)
  let ip := BitVec.ofNat 32 (beAt 14 4 b)
  if b.length < 28 then d
  else if beAt 6 2 b = 1 then
    (if BitVec.ofNat 32 (beAt 24 4 b) = portIp d n ∧ portIp d n ≠ 0 then ethSend d n (ethFrame d n .other mac 0x0806 (arpBody d n 2 mac ip)) else d)
  else if (arpOf (d.ethPort n) ip).isSome then
    flushQueue (updEth d n fun x => { x with arp := x.arp.map fun a => if a.ip = ip then { a with mac := some mac, at_ := now d } else a }) n
  else d

/-- A frame taken by a port that serves. -/
def frameIn (d : Dev) (n : Nat) (fcsOk : Bool) (f : Bytes) : Dev :=
  let d := countMgmt d n f.length
  if ¬ fcsOk then discardFrame d n 0
  else match untagFrame d n f with
    | none => discardFrame d n 2
    | some (type, body) =>
      if ¬ macAccepted d n f then d
      else if type = 0x0800 then datagramIn d n body
      else if type = 0x0806 then arpIn d n body
      else if type = 0x88F7 ∧ ptpOn d n then
        let d := updEth d n fun x => { x with rxFrames := x.rxFrames + 1 }
        if legNat d 0x5800 0x02 = 1 then { d with handed := d.handed ++ [.ptp n body] } else d
      else discardFrame d n 3

/-- A string begins with another. -/
def startsWith (p b : Bytes) : Bool := decide (b.take p.length = p)

/-- A string holds another. -/
def holds (p : Bytes) : Bytes → Bool
  | [] => p.isEmpty
  | a :: r => startsWith p (a :: r) || holds p r

/-- A magic packet for a port. -/
def magicFrame (d : Dev) (n : Nat) (f : Bytes) : Bool :=
  let m := BitVec.ofNat 48 (beAt 0 6 f)
  (decide (m = portMac d n) || decide (m = macBroadcast)) && holds (List.replicate 6 0xFF ++ (List.replicate 16 (macBytes (portMac d n))).flatten) f

/-- A frame that matches the port's pattern. -/
def patternFrame (d : Dev) (n : Nat) (f : Bytes) : Bool :=
  let pat := legVal d (0x5810 + n) 0x0C
  let mask := legVal d (0x5810 + n) 0x0D
  (List.range 128).all fun k =>
    decide (bitsAt (k % 8) 1 (beAt (k / 8) 1 mask) = 0) || (decide (k < f.length) && decide (nth 0 f k = nth 0 pat k))

/-- Code of a match: 1 magic packet, 2 pattern, 0 none (Table 11.3). -/
def wakeCode (d : Dev) (n : Nat) (f : Bytes) : Nat :=
  let on := ethNat d n 0x0B
  if bitsAt 0 1 on = 1 ∧ magicFrame d n f then 1 else if bitsAt 1 1 on = 1 ∧ patternFrame d n f then 2 else 0

/-- In dormant the management port's detector passes datagrams to port 6620 on, and nothing else is received
(13 R518); a frame that matches a wake pattern is not delivered (R461). -/
def dormantFrame (d : Dev) (n : Nat) (fcsOk : Bool) (f : Bytes) : Dev :=
  match untagFrame d n f with
  | some (type, b) =>
    let ihl := beAt 0 1 b % 16 * 4
    if n = 0 ∧ fcsOk ∧ ethNat d 0 0x0B ≠ 0 ∧ wakeCode d 0 f = 0 ∧ macAccepted d n f ∧ type = 0x0800 ∧ ipv4Ok b ∧ beAt 9 1 b = 17 ∧ beAt (ihl + 2) 2 b = 6620 then datagramIn d n b else d
  | none => d

/-- ETH_FRAME_RECEIVED: from the destination address to the end of the payload. -/
def execEthFrameReceived (e : Nat) (port : Nat) (fcsOk : Bool) (frame : Bytes) (s : State) : Res :=
  ethRow e port s fun d =>
    if ¬ (d.ethPort port).link then d
    else if ethAsleep d then dormantFrame d port fcsOk frame
    else frameIn d port fcsOk frame

/-- ARP_REQUEST_SEND: every 8 ticks while the hop is unresolved. -/
def execArpRequestSend (e : Nat) (port : Nat) (ip : BitVec 32) (s : State) : Res :=
  awakeRow e port s fun d => match arpOf (d.ethPort port) ip with
    | some a => if a.mac.isNone ∧ reached d (after a.at_ 8) then sendArp d port ip else d
    | none => d

/-- ARP_REFRESH: every 480,000 ticks. -/
def execArpRefresh (e : Nat) (port : Nat) (ip : BitVec 32) (s : State) : Res :=
  awakeRow e port s fun d => match arpOf (d.ethPort port) ip with
    | some a => if a.mac.isSome ∧ reached d (after a.at_ 480000) then sendArp d port ip else d
    | none => d

/-! ## The PHY (R447, R456, R457) -/

/-- An MDIO read: with the SGMII interface it also tells that the link is down. -/
def mdioRead (d : Dev) : Option Bool → Dev
  | some up =>
    let d := (updMgmt d fun m => { m with mdioMissed := 0 }).setCause 0xAE false
    if ¬ up ∧ legNat d 0x5820 0x00 = 2 then linkDown d 0 else d
  | none =>
    let n := d.eth.mgmt.mdioMissed
    let d := updMgmt d fun m => { m with mdioMissed := min 3 (n + 1) }
    if n = 2 then (raiseEth d 0xAE 0).setCause 0xAE true else d

/-- MDIO_CLAUSE and PHY_ADDR. -/
def phyAt (d : Dev) : Nat × Nat := (legNat d 0x5820 0x02, legNat d 0x5820 0x01)

/-- The PHY's link status asked for. -/
def pollPhy (d : Dev) : Dev := (updMgmt d fun m => { m with mdioAt := now d }).emit (.mdioRead (phyAt d).1 (phyAt d).2)

/-- MDIO_POLL: every 80 ticks. -/
def execMdioPoll (e : Nat) (status : Option Bool) (s : State) : Res :=
  awakeRow e 0 s fun d => if reached d (after d.eth.mgmt.mdioAt 80) then mdioRead (pollPhy d) status else d

/-- Octets moved in the last n ticks: those before the present one (00 R5, Table 11.7). -/
def movedIn (m : Mgmt) (n : Nat) : Nat := ((m.history.drop 1).take n).foldl (· + ·) 0

/-- A speed change (R457): the PHY negotiates anew, and the link is down until it reports it up. -/
def changeSpeed (d : Dev) (lower : Bool) : Dev :=
  let d := updMgmt d fun m => { m with changing := true, lowered := lower, speedChanges := m.speedChanges + 1, raiseTick := if lower then m.raiseTick else some d.grat.tick }
  linkDown (raiseEth (d.emit (.mdio (phyAt d).1 (phyAt d).2 lower)) 0xAF 0) 0

/-- The load of the management port judged (R456). -/
def judgeSpeed (d : Dev) : Dev :=
  let m := d.eth.mgmt
  let p := d.ethPort 0
  if legNat d 0x5820 0x00 ≠ 2 ∨ legNat d 0x5820 0x03 ≠ 1 ∨ ¬ p.link then d
  else
    let quiet : Bool := match m.raiseTick with
      | some t => decide (80000 < (d.grat.tick - t).toNat)
      | none => true
    if p.speedMbps = 1000 ∧ 8000 ≤ (d.grat.tick - m.upTick).toNat ∧ quiet ∧ movedIn m 8000 < legNat d 0x5820 0x04 then changeSpeed d true
    else if p.speedMbps = 100 ∧ legNat d 0x5820 0x05 < movedIn m 800 then changeSpeed d false
    else d

/-- SPEED_JUDGEMENT: at a tick edge. -/
def execSpeedJudgement (e : Nat) (s : State) : Res := awakeRow e 0 s fun d => if stampSub (now d) = 0 then judgeSpeed d else d

/-- With SPEED_POLICY 0 the PHY has its full advertisement (R458): one that was lowered is raised (log 55). -/
def fullSpeed (d : Dev) : Dev :=
  if d.eth.mgmt.lowered ∧ legNat d 0x5820 0x00 = 2 ∧ legNat d 0x5820 0x03 = 0 then changeSpeed d false else d

/-- IF_MODE committed: the link goes down, and up again once the new interface has it (R446, log 55). -/
def restartMgmt (d : Dev) : Dev := fullSpeed (linkDown d 0)

/-! ## Wake patterns (R459 to R461) -/

/-- A match is a wake event; the first of the dormant period is recorded. -/
def matched (d : Dev) (n code : Nat) : Dev :=
  let inPeriod := decide (d.dormant.st ≠ .running)
  let known := decide (d.eth.wakeCause ≠ 0) && !before d.eth.wakeStamp d.dormant.enterAt
  let d := if inPeriod ∧ ¬ known then d.updEthernet fun x => { x with wakeCause := BitVec.ofNat 8 (16 * n + code), wakeStamp := now d } else d
  noteWake d 1

/-- WAKE_MATCH: a frame with a valid FCS. -/
def execWakeMatch (e : Nat) (port : Nat) (fcsOk : Bool) (frame : Bytes) (s : State) : Res :=
  ethRow e port s fun d =>
    let code := wakeCode d port frame
    if (d.ethPort port).link ∧ fcsOk ∧ code ≠ 0 ∧ d.dormant.st ≠ .waking then matched d port code else d

/-! ## PTP (R462 to R465) -/

/-- The first PTP message handed on leaves. -/
def dropHandedPtp (d : Dev) : Dev :=
  { d with handed := match d.handed.findIdx? fun h => match h with
      | .ptp _ _ => true
      | _ => false with
    | some i => d.handed.eraseIdx i
    | none => d.handed }

/-- The ordered rank of an Announce data set: the standard's comparison, the topology part by steps removed, then the
sender's identity and port (log 37). -/
def announceRank (a : Announce) : List Nat :=
  if a.identity.isEmpty then [] else [a.priority1, a.clockClass, a.accuracy, a.variance, a.priority2, beVal a.identity, a.steps, beVal a.sender, a.port]

/-- One rank comes before another. -/
def rankBefore : List Nat → List Nat → Bool
  | [], _ => false
  | _ :: _, [] => true
  | x :: r, y :: t => if x < y then true else if y < x then false else rankBefore r t

/-- A message interval of 2 to a signed power of seconds, in units of the graticule clock. -/
def ptpInterval (d : Dev) (log : BitVec 8) : Int :=
  let second := 8000 * nominalT d
  if 0 ≤ log.toInt then second * 2 ^ log.toNat else (second : Int) / 2 ^ (256 - log.toNat)

/-- An Announce taken into master selection. Of a new master no Sync is known: its Sync interval counts as a second until
one comes (log 37). -/
def announceIn (d : Dev) (a : Announce) : Dev :=
  let select := fun (d : Dev) => updPtp d fun x => { x with master := some a, sync := none, syncAt := clockNow d, syncEvery := ptpInterval d 0 }
  match d.eth.ptp.master with
  | none => select (ptpEnter d .uncalibrated)
  | some m =>
    if m.sender = a.sender ∧ m.port = a.port then updPtp d fun x => { x with master := some a }
    else if rankBefore (announceRank a) (announceRank m) then select (ptpEnter d .uncalibrated)
    else d

/-- The master's Announce is counted from its arrival. -/
def heardAnnounce (d : Dev) (a : AnnounceMsg) : Dev :=
  if d.eth.ptp.master.any fun m => decide (m.sender = a.sender ∧ m.port = a.port) then
    updPtp d fun x => { x with announceAt := clockNow d, announceEvery := ptpInterval d a.logInterval }
  else d

/-- ANNOUNCE: on a PTP port, in the domain. -/
def execAnnounce (e : Nat) (a : AnnounceMsg) (s : State) : Res :=
  awakeRow e a.port s fun d =>
    let d := dropHandedPtp d
    if ptpOn d a.port ∧ d.eth.ptp.st ≠ .disabled ∧ (d.ethPort a.port).link ∧ a.domain.toNat = legNat d 0x5800 0x01 then
      heardAnnounce (announceIn d { priority1 := a.priority1, clockClass := a.clockClass, accuracy := a.accuracy, variance := a.variance, priority2 := a.priority2, identity := fit 8 a.identity, steps := a.steps, sender := a.sender, port := a.port }) a
    else d

/-- A latency entry of a port, in ns (R464). -/
def latency (d : Dev) (n sub : Nat) : Int := toInt 32 (ethNat d n sub)

/-- Clock identity of the slave on a port. -/
def clockIdentity (d : Dev) (n : Nat) : Bytes :=
  let m := macBytes (portMac d n)
  m.take 3 ++ be 2 0xFFFE ++ m.drop 3

/-- A Delay_Req sent to the master's network (log 37). -/
def sendDelayReq (d : Dev) (n : Nat) : Dev :=
  let seq := d.eth.ptp.seq
  let b := be 1 1 ++ be 1 2 ++ be 2 44 ++ be 1 (legNat d 0x5800 0x01) ++ zeros 15 ++ clockIdentity d n ++ be 2 1 ++ be 2 seq.toNat ++ be 1 1 ++ be 1 0x7F ++ zeros 10
  let d := updPtp d fun x => { x with seq := x.seq + 1 }
  if legNat d 0x5800 0x02 = 1 then ethSend d n (ethFrame d n .first 0x011B19000000 0x88F7 b)
  else sendIp d n .first ptpGroup (ipv4 (portIp d n) ptpGroup 17 1 [] (udp (portIp d n) ptpGroup 319 319 b))

/-- SYNC: of the selected master, on PTP_PORT. -/
def execSync (e : Nat) (port : Nat) (sender : SyncFrom) (t1 t2 : Int) (s : State) : Res :=
  awakeRow e port s fun d =>
    let d := dropHandedPtp d
    let m := d.eth.ptp.master
    if (d.eth.ptp.st = .uncalibrated ∨ d.eth.ptp.st = .slave) ∧ m.map (·.sender) = some sender.identity ∧ ptpPort d = port ∧ sender.domain.toNat = legNat d 0x5800 0x01 then
      sendDelayReq (updPtp d fun x => { x with sync := some (t1, t2 - latency d port 0x0E), syncAt := clockNow d, syncEvery := ptpInterval d sender.logInterval }) port
    else d

/-- Nanoseconds of the graticule's timescale at a PTP time (02 R36). -/
def ptpNs (d : Dev) (ns : Int) : Int := ns - legNat d 0x2000 0x10

/-- The stamp of a PTP time (02 R36). -/
def ptpStamp (d : Dev) (ns : Int) : Stamp :=
  let t := ptpNs d ns
  stampOf (BitVec.ofInt 48 (t / 125000)) (4096 * (t % 125000).toNat / 125000)

/-- PTP time delivered to the graticule: the ticks that have passed since the last measurement were delivered by the
running PTP time (log 37). -/
def deliverPtp (d : Dev) (ns : Int) : Dev :=
  let stamp := ptpStamp d ns
  let t := stampTick stamp
  let r := d.grat.runPtp
  let k := (t - r.last).toNat
  if r.live ∧ k = 0 then d.updGrat fun g => { g with runPtp := { g.runPtp with delta := stampDiff (now d) stamp, shift := localShift d } }
  else
    let d := if r.live ∧ k < 2 ^ 47 then d.updGrat fun g => { g with runPtp := { g.runPtp with last := t - 1, count := min 8 (g.runPtp.count + (k - 1)) } } else d
    readyIfLocked (releaseUs d) (deliverTick d .ptp stamp (nsCycles d (ptpNs d ns % 125000).toNat))

/-- One offset measurement (R464, Table 11.2): the first after LISTENING steps PTP time and is no deviation. -/
def measured (d : Dev) (offset delay : Int) (ns : Int) : Dev :=
  let d := updPtp d fun x => { x with offsetNs := offset, meanDelayNs := delay, sync := none }
  let p := d.eth.ptp
  if p.st = .uncalibrated ∧ ¬ p.stepped then updPtp d fun x => { x with stepped := true }
  else
    let d := match p.st with
      | .uncalibrated =>
        if 1000 < offset.natAbs then updPtp d fun x => { x with good := 0 }
        else if p.good + 1 < 16 then updPtp d fun x => { x with good := x.good + 1 }
        else ptpEnter d .slave
      | .slave =>
        if offset.natAbs ≤ 10000 then updPtp d fun x => { x with bad := 0 }
        else if p.bad + 1 < 4 then updPtp d fun x => { x with bad := x.bad + 1 }
        else ptpEnter d .uncalibrated
      | _ => d
    if d.eth.ptp.st = .slave then deliverPtp d ns else d

/-- DELAY_RESP: completes the exchange begun by the last Sync; the moment of the command is that of the Delay_Req's
departure (log 37). -/
def execDelayResp (e : Nat) (t3 t4 : Int) (s : State) : Res :=
  awakeRow e 0 s fun d =>
    let d := dropHandedPtp d
    match d.eth.ptp.sync with
    | none => d
    | some (t1, t2) =>
      let t3 := t3 + latency d (ptpPort d) 0x0F
      let delay := ((t2 - t1) + (t4 - t3)) / 2
      measured d (t2 - t1 - delay) delay (t4 - delay)

/-- Three Announce intervals have passed without an Announce of the master, or four Sync intervals without a Sync
(Table 11.2). -/
def masterSilent (d : Dev) : Bool :=
  let x := d.eth.ptp
  decide (x.announceAt + 3 * x.announceEvery ≤ clockNow d) || decide (x.syncAt + 4 * x.syncEvery ≤ clockNow d)

/-- PTP_TIMEOUT. -/
def execPtpTimeout (e : Nat) (s : State) : Res :=
  ethRow e 0 s fun d => if (d.eth.ptp.st = .uncalibrated ∨ d.eth.ptp.st = .slave) ∧ masterSilent d then ptpEnter d .listening else d

/-- PTP_EPOCH_OFFSET stored; a device whose source is PTP re-aligns to the time it gives (02 R36). -/
def setEpoch (d : Dev) (v : Bytes) : Dev :=
  let old := legNat d 0x2000 0x10
  let d := legPut d 0x2000 0x10 v
  let by_ := (old : Int) - legNat d 0x2000 0x10
  let d := moveSource (d.updGrat fun g => { g with runPtp := { g.runPtp with last := g.runPtp.last + BitVec.ofInt 48 (by_ / 125000) } }) .ptp (by_ * 4096 / 125000)
  let takes := decide (d.grat.source = .ptp) && (decide (d.grat.state = .locked) || decide (d.grat.state = .dwell))
  if takes ∨ d.grat.stepTo = some .ptp then realign d .ptp else d

/-- PTP_EPOCH_OFFSET. -/
def execPtpEpochOffset (e : Nat) (value : BitVec 64) (s : State) : Res :=
  let d := s.dev.at e
  .next (s.withDev (bumpChange (setEpoch d (be 8 value.toNat)) (legKey 0x2000 0x10)))

end Sys2Proof.Machine
end

