-- ==== Sys2Proof/Machine/Pon.lean ====
section
/-! DEFINITION. The PON terminal: delineation, activation, PLOAM, OMCI, XGEM frames, bursts, optics, time of day and
watchful sleep (chapter 08). What the standards give and the spec does not repeat is in assumption log 33. -/

namespace Sys2Proof.Machine

/-- The terminal changed. -/
def Dev.updPon (d : Dev) (f : Pon → Pon) : Dev := { d with pon := f d.pon }

/-- A raise of a PON source: LOC16 the ONU-ID (16 Table 16.3). -/
def raisePon (d : Dev) (s : Nat) : Dev := raiseDev d s d.pon.onuId.toNat 0

/-! ## The downstream delay (R333, R335) -/

/-- DS_DELAY_NS as TEQD_NS, EQD_NS and DS_FRACTION, a two's-complement FIX16.16, give it; a value that does not fit the
entry is a free value (log 33). -/
def dsDelay (d : Dev) : BitVec 32 :=
  let teqd := legNat d 0x5000 0x07
  let v := ((teqd : Int) - d.pon.eqdNs.toNat - 35000) * toInt 32 (legNat d 0x5000 0x08) / 65536
  if teqd = 0 ∨ v < 0 then 0 else if v < 2 ^ 32 then BitVec.ofInt 32 v else Config.dsDelayWide v

/-- DS_DELAY_NS set anew: a locked graticule corrects the difference as for a source of that Δ. -/
def refreshDelay (d : Dev) : Dev :=
  let old := d.grat.dsDelayNs
  let new := dsDelay d
  if new = old then d
  else
    let d := d.updGrat fun g => { g with dsDelayNs := new }
    if follows d .pon ∧ d.grat.stepTo.isNone then
      realign (moveSource d .pon (((new.toNat : Int) - old.toNat) * 4096 / 125000)) .pon
    else d

/-! ## Activation (R325 to R328) -/

/-- Identities released: ONU-ID, Alloc-IDs, what is queued under them. -/
def releaseIds (d : Dev) : Dev := d.updPon fun p => { p with onuId := 0xFFFF, allocs := [], ploamUp := [], omciUp := [], lastSeq := none, filled := [] }

/-- O5 or O6 is left for O1.1 or O2-3. -/
def deactivated (d : Dev) : Dev :=
  if d.pon.act = .o5 ∨ d.pon.act = .o6 then (raisePon d 0xA1).setCause 0xA1 true else d

/-- Ticks of the back-off after n failures (R328). -/
def activationBackoff (n : Nat) : Nat := min (2 ^ (n - 1)) 32 * 8000

/-- O1.1 is entered, an attempt under way failing; a terminal in SYNC goes on to O1.2. -/
def enterOff (d : Dev) : Dev :=
  let d := releaseIds (deactivated d)
  let t := now d
  d.updPon fun p =>
    let p := if p.attempting then { p with attempting := false, attemptsFailed := p.attemptsFailed + 1, failedAt := t, backoffDone := false } else p
    { p with act := if p.sync = .sync then .o12 else .o11 }

/-- O5 is entered: the attempt has succeeded. -/
def enterOperation (d : Dev) : Dev :=
  (d.updPon fun p => { p with act := .o5, attempting := false, attemptsFailed := 0, backoffDone := true }).setCause 0xA1 false

/-- The window of TO1 or TO2, open since its state was entered, has closed. -/
def timerOver (d : Dev) (ticks : Nat) : Bool := reached d (after d.pon.timerAt ticks)

/-- SYNC is reached (Table 8.2, Table 8.3). -/
def reachSync (d : Dev) (count : BitVec 51) : Dev :=
  let d := (d.updPon fun p => { p with sync := .sync, badPsbd := 0, lastCount := count }).setCause 0xA0 false
  match d.pon.act with
  | .o11 => d.updPon fun p => { p with act := .o12 }
  | .o6 => if timerOver d 800 then enterOff d else enterOperation d
  | _ => d

/-- HUNT is entered from RE-SYNC: loss of downstream sync (R321). -/
def loseSync (d : Dev) : Dev :=
  let d := loseSource (d.updPon fun p => { p with sync := .hunt, badPsbd := 0 }) .pon
  let d := (raisePon d 0xA0).setCause 0xA0 true
  match d.pon.act with
  | .o5 => d.updPon fun p => { p with act := .o6, timerAt := now d }
  | .o12 | .o23 | .o4 => enterOff d
  | _ => d

/-! ## Delineation (R320 to R322) -/

/-- An incorrect PSBd at the expected position. -/
def badPsbd (d : Dev) : Dev :=
  match d.pon.sync with
  | .hunt => d
  | .preSync => d.updPon fun p => { p with sync := .hunt }
  | .sync => d.updPon fun p => { p with sync := .reSync, badPsbd := 1 }
  | .reSync => if 2 ≤ d.pon.badPsbd then loseSync d else d.updPon fun p => { p with badPsbd := p.badPsbd + 1 }

/-- The tick number of a superframe count (02 R32). -/
def countTick (c : BitVec 51) : TickNo := c.setWidth 48

/-- A count goes to the graticule, in SYNC whatever the activation state (02 R33, R327). -/
def giveCount (d : Dev) (count : BitVec 51) : Dev := deliver d .pon (countTick count) (d.grat.dsDelayNs.toNat * 62208 / 100000)

/-- A correct PSBd. -/
def goodPsbd (d : Dev) (errors : Nat) (count : BitVec 51) : Dev :=
  match d.pon.sync with
  | .hunt => if errors = 0 then d.updPon fun p => { p with sync := .preSync, lastCount := count } else d
  | .preSync => if count = d.pon.lastCount + 1 then giveCount (reachSync d count) count else d.updPon fun p => { p with sync := .hunt }
  | _ => giveCount (reachSync d count) count

/-- HEC_ERRORS grows. -/
def countHec (d : Dev) : Dev := d.updPon fun p => { p with hecErrors := p.hecErrors + 1 }

/-- The terminal listens without a break: its stage has come, the mode is PON's and no watchful sleep is in force. -/
def listening (d : Dev) : Bool := netUp d && !ethMode d && !d.pon.watchful

/-- The rx-off interval in ticks (R356). -/
def rxOffTicks (d : Dev) : Nat :=
  let n := legNat d 0x5000 0x1A
  match d.pon.rxOffUs with
  | some u => min n (u / 125)
  | none => n

/-- The terminal receives: without a break, or within a reception of watchful sleep, its receiver on since the rx-off
interval has passed (R356, R357). -/
def receiving (d : Dev) : Bool := netUp d && !ethMode d && (!d.pon.watchful || reached d (after d.pon.rxAt (rxOffTicks d)))

/-- PSBD_RECEIVED. -/
def execPsbdReceived (e : Nat) (psyncErrors : Nat) (hecOk : Bool) (count : BitVec 51) (s : State) : Res :=
  let d := s.dev.at e
  .next (s.withDev
    (if ¬ listening d then d else if psyncErrors ≤ 2 ∧ hecOk then goodPsbd d psyncErrors count else badPsbd (countHec d)))

/-- PSBD_MISSING. -/
def execPsbdMissing (e : Nat) (s : State) : Res :=
  let d := s.dev.at e
  .next (s.withDev (if ¬ listening d ∨ d.pon.sync = .hunt then d else badPsbd (countHec d)))

/-- TO1_EXPIRY. -/
def execTo1Expiry (e : Nat) (s : State) : Res :=
  let d := s.dev.at e
  .next (s.withDev (if d.pon.act = .o4 ∧ timerOver d 80000 then enterOff d else d))

/-- TO2_EXPIRY; in watchful sleep TO2 does not run (R357). -/
def execTo2Expiry (e : Nat) (s : State) : Res :=
  let d := s.dev.at e
  .next (s.withDev (if d.pon.act = .o6 ∧ ¬ d.pon.watchful ∧ timerOver d 800 then enterOff d else d))

/-- The back-off after failed attempts has passed (R328). -/
def backoffOver (d : Dev) : Bool := d.pon.backoffDone || reached d (after d.pon.failedAt (activationBackoff d.pon.attemptsFailed.toNat))

/-- ACTIVATION_BACKOFF_END. -/
def execActivationBackoffEnd (e : Nat) (s : State) : Res :=
  let d := s.dev.at e
  .next (s.withDev (if backoffOver d then d.updPon fun p => { p with backoffDone := true } else d))

/-! ## PLOAM (R336 to R338) -/

/-- The terminal's serial number (R329). -/
def serialNumber (d : Dev) : Bytes := ascii "UTFN" ++ be 4 d.part.serial.toNat

/-- An upstream PLOAM message of 48 octets; its MIC is a free value (log 33). -/
def ploamMessage (d : Dev) (type seq : Nat) (content : Bytes) : Bytes × Dev :=
  let f := drawFree d
  (be 2 d.pon.onuId.toNat ++ be 1 type ++ be 1 seq ++ fit 36 content ++ be 8 f.1, f.2)

/-- An upstream PLOAM message queued. -/
def queuePloam (d : Dev) (type seq : Nat) (content : Bytes) : Dev :=
  let m := ploamMessage d type seq content
  m.2.updPon fun p => { p with ploamUp := p.ploamUp ++ [m.1] }

/-- An Acknowledgement with a completion code: 0 executed, 3 unknown message type, 4 parameter error. -/
def acknowledge (d : Dev) (seq : Byte) (code : Byte) : Dev :=
  queuePloam (d.updPon fun p => { p with lastAck := code }) 0x09 seq.toNat (be 1 code.toNat)

/-- A message reaches this terminal: it receives and is in delineation, and the message is broadcast or names its
ONU-ID. -/
def ploamReaches (d : Dev) (h : Ploam) : Bool :=
  receiving d && (decide (d.pon.sync = .sync) || decide (d.pon.sync = .reSync)) &&
    (decide (h.onuId = 1023) || decide (h.onuId.setWidth 16 = d.pon.onuId))

/-- A PLOAM message taken (R337): a failed MIC discards it; a unicast one that repeats the last one executed is
acknowledged again. What `f` does not execute leaves no sequence number. -/
def takePloam (d : Dev) (h : Ploam) (f : Dev → Option Dev) : Dev :=
  if ¬ ploamReaches d h then d
  else if ¬ h.micOk then raisePon d 0xA4
  else if h.onuId ≠ 1023 ∧ d.pon.lastSeq = some h.seq then acknowledge d h.seq d.pon.lastAck
  else
    let unicast := decide (h.onuId ≠ 1023)
    match f (d.updPon fun p => { p with lastAck := if unicast then 0 else p.lastAck }) with
    | none => d
    | some d => if unicast ∧ d.pon.onuId ≠ 0xFFFF then d.updPon fun p => { p with lastSeq := some h.seq } else d

/-- A unicast message is acknowledged as executed. -/
def ackUnicast (d : Dev) (h : Ploam) : Dev := if h.onuId = 1023 then d else acknowledge d h.seq 0

/-- A row of a PLOAM message. -/
def ploamRow (h : Ploam) (s : State) (f : Dev → Option Dev) : Res := .next (s.withDev (takePloam (s.dev.at h.e) h f))

/-- BURST_PROFILE. -/
def storeProfile (d : Dev) (h : Ploam) (b : BurstProfile) : Dev :=
  let d := ackUnicast (d.updPon fun p => { p with profiles := (p.profiles.filter fun x => decide (x.index ≠ b.index)) ++ [b] }) h
  if d.pon.act = .o12 ∧ backoffOver d then d.updPon fun p => { p with act := .o23, attempting := true } else d

/-- BURST_PROFILE: profiles are numbered 0 to 3. -/
def execBurstProfile (h : Ploam) (index : Nat) (preamble delimiter : Bytes) (fec : Bool) (s : State) : Res :=
  ploamRow h s fun d => if index < 4 then some (storeProfile d h { index := index, preamble := preamble, delimiter := delimiter, fec := fec }) else none

/-- ASSIGN_ONU_ID. -/
def execAssignOnuId (h : Ploam) (serial : Bytes) (onuId : BitVec 10) (s : State) : Res :=
  ploamRow h s fun d =>
    if d.pon.act = .o23 ∧ serial = serialNumber d then
      some (d.updPon fun p => { p with act := .o4, onuId := onuId.setWidth 16, allocs := [onuId.toNat], timerAt := now d })
    else none

/-- The changes of EQD_NS that bursts still to come can need: those of the last 8 frames, and the newest before them. -/
def eqdKeep (frame : TickNo) (log : List (TickNo × BitVec 32)) : List (TickNo × BitVec 32) :=
  let recent := fun (x : TickNo × BitVec 32) => decide ((frame - x.1).toNat < 8)
  log.takeWhile recent ++ (log.dropWhile recent).take 1

/-- EQD_NS given by a message of the present frame (R332). -/
def setEqd (d : Dev) (eqd : Nat) : Dev :=
  let new := BitVec.ofNat 32 eqd
  let d' := d.updPon fun p =>
    let frame := countTick p.lastCount
    { p with eqdNs := new, eqdLog := eqdKeep frame ((frame, new) :: p.eqdLog) }
  if new = d.pon.eqdNs then d' else refreshDelay d'

/-- RANGING_TIME. -/
def execRangingTime (h : Ploam) (eqdNs : Int) (relative : Bool) (s : State) : Res :=
  ploamRow h s fun d =>
    if d.pon.act = .o4 ∨ d.pon.act = .o5 then
      let v := (if relative then (d.pon.eqdNs.toNat : Int) + eqdNs else eqdNs).toNat
      let d := ackUnicast (setEqd d v) h
      some (if d.pon.act = .o4 then enterOperation d else d)
    else none

/-- DEACTIVATE_ONU_ID. -/
def execDeactivateOnuId (h : Ploam) (s : State) : Res :=
  ploamRow h s fun d =>
    if d.pon.act = .o4 ∨ d.pon.act = .o5 then some ((releaseIds (deactivated d)).updPon fun p => { p with act := .o23 }) else none

/-- DISABLE_SERIAL_NUMBER: for this serial number, or for every one (R326). An attempt under way stays one in O7 and fails
at the return to O1.1 (R328). -/
def execDisableSerialNumber (h : Ploam) (serial : Option Bytes) (enable : Bool) (s : State) : Res :=
  ploamRow h s fun d =>
    if (serial.isSome ∧ serial ≠ some (serialNumber d)) ∨ (enable = true ∧ d.pon.act ≠ .o7) ∨ (enable = false ∧ d.pon.act = .o7) then none
    else if enable then some ((enterOff d).setCause 0xA2 false)
    else
      let d := (raisePon d 0xA2).setCause 0xA2 true
      some ((releaseIds d).updPon fun p => { p with act := .o7 })

/-- REQUEST_REGISTRATION. -/
def execRequestRegistration (h : Ploam) (s : State) : Res :=
  ploamRow h s fun d => if d.pon.onuId = 0xFFFF then none else some (queuePloam d 0x02 h.seq.toNat (zeros 36))

/-- ASSIGN_ALLOC_ID (R340). -/
def assignAlloc (d : Dev) (h : Ploam) (allocId : Nat) (remove : Bool) : Option Dev :=
  if d.pon.onuId = 0xFFFF then none
  else if remove then some (ackUnicast (d.updPon fun p => { p with allocs := p.allocs.filter (· ≠ allocId) }) h)
  else if allocId ∈ d.pon.allocs then some (ackUnicast d h)
  else if 32 ≤ d.pon.allocs.length then some (acknowledge d h.seq 4)
  else some (ackUnicast (d.updPon fun p => { p with allocs := p.allocs ++ [allocId] }) h)

/-- ASSIGN_ALLOC_ID. -/
def execAssignAllocId (h : Ploam) (allocId : Nat) (remove : Bool) (s : State) : Res := ploamRow h s fun d => assignAlloc d h allocId remove

/-- KEY_CONTROL: a key is generated and reported, or the key reported last is confirmed (log 33). -/
def keyControl (d : Dev) (h : Ploam) (index : Nat) (confirm : Bool) : Option Dev :=
  if d.pon.onuId = 0xFFFF then none
  else if confirm then
    let name := match if index = 1 then d.pon.uni1 else d.pon.uni2 with
      | some k => aesCmac k (ascii "KeyName")
      | none => zeros 16
    some (queuePloam (d.updPon fun p => { p with keyPending := p.keyPending.filter (fun k => decide (k.1 ≠ index)), txKey := some index }) 0x05 h.seq.toNat
      (be 1 1 ++ be 1 index ++ zeros 2 ++ name))
  else
    let k := drawEntropy d
    let key := k.1.take 16
    some (queuePloam (k.2.updPon fun p => { p with uni1 := if index = 1 then some key else p.uni1, uni2 := if index = 2 then some key else p.uni2, keyPending := some (index, key) })
      0x05 h.seq.toNat (be 1 0 ++ be 1 index ++ zeros 2 ++ key))

/-- KEY_CONTROL: key indices are 1 and 2. -/
def execKeyControl (h : Ploam) (keyIndex : Nat) (confirm : Bool) (s : State) : Res :=
  ploamRow h s fun d => if keyIndex = 1 ∨ keyIndex = 2 then keyControl d h keyIndex confirm else none

/-- SLEEP_ALLOW: within a reception of watchful sleep, sleep forbidden is a wake event (R359). -/
def execSleepAllow (h : Ploam) (allowed : Bool) (s : State) : Res :=
  ploamRow h s fun d =>
    let d := ackUnicast (d.updPon fun p => { p with sleepAllowed := allowed }) h
    some (if d.pon.watchful ∧ ¬ allowed then noteWake d 2 else d)

/-- PLOAM_UNSUPPORTED: answered and counted each time; it is not executed, so it leaves no sequence number (R337). -/
def execPloamUnsupported (h : Ploam) (_type : Byte) (s : State) : Res :=
  let d := s.dev.at h.e
  .next (s.withDev
    (if ploamReaches d h = true ∧ h.micOk = true ∧ (h.onuId = 1023 ∨ d.pon.lastSeq ≠ some h.seq) then
      queuePloam (d.updPon fun p => { p with ploamUnsupported := p.ploamUnsupported + 1 }) 0x09 h.seq.toNat (be 1 3)
    else takePloam d h fun _ => none))

/-! ## OMCI (R339) -/

/-- Supported classes (Table 8.5). -/
def omciClasses : List Nat := [2, 7, 131, 256, 257, 262, 263, 266, 268, 281, 332, 336]

/-- Message type of an action. -/
def omciType : OmciAction → Nat
  | .create => 4
  | .delete => 6
  | .set => 8
  | .get => 9
  | .download => 19

/-- An OMCI response of 48 octets, queued for an allocation of the default Alloc-ID; its MIC is a free value (log 33). -/
def omciReply (d : Dev) (tci type cls inst : Nat) (content : Bytes) : Dev :=
  let f := drawFree d
  let m := be 2 tci ++ be 1 (0x20 + type) ++ be 1 0x0A ++ be 2 cls ++ be 2 inst ++ fit 32 content ++ be 4 0x28 ++ be 4 f.1
  f.2.updPon fun p => { p with omciUp := p.omciUp ++ [m] }

/-- An attribute of a message, cut or filled to a width. -/
def omciAttr (m : Omci) (n : Nat) : Option Bytes := (m.attrs.find? fun a => decide (a.1 = n)).map (·.2)

/-- A readable attribute: those the spec gives values for (log 33 gives the attribute numbers); every other holds a free
value. The image that runs is the one of its boot area (17 R635). -/
def omciRead (d : Dev) (cls inst n len : Nat) : Bytes × Dev :=
  let running := decide (inst = d.start.bootArea.toNat)
  let known := match cls, n with
    | 2, 1 => some (be 1 d.pon.mibSync.toNat)
    | 7, 1 => if running then some (fit 14 (be 4 d.part.firmware.toNat)) else none
    | 7, 2 => some (be 1 (bit running))
    | 7, 3 => some (be 1 (bit running))
    | 7, 4 => if running then some (be 1 1) else none
    | 131, 4 => some (be 4 (d.grat.todStamp.toNat / 4096) ++ d.grat.todValue)
    | 256, 1 => some (ascii "UTFN")
    | 256, 3 => some (serialNumber d)
    | 256, 4 => some (be 1 1)
    | 257, 9 => some (be 2 512)
    | 263, 2 => some (be 2 32)
    | 263, 10 => some (be 2 (Config.opticalLevel (beAt 8 2 d.pon.optDiag)).toNat)
    | 263, 13 => some (be 2 35000)
    | 263, 14 => some (be 2 (Config.opticalLevel (beAt 6 2 d.pon.optDiag)).toNat)
    | 266, 1 => some (be 2 (tabGet 0 d.pon.gemIwtp inst).toNat)
    | 281, 1 => some (be 2 (tabGet 0 d.pon.mcastIwtp inst).toNat)
    | 262, 1 => some (be 2 (tabGet 0 d.pon.tconts inst).toNat)
    | 268, 1 => (tabGet none d.pon.gemPorts inst).map fun g => be 2 g.portId
    | 268, 2 => (tabGet none d.pon.gemPorts inst).map fun g => be 2 g.tcont
    | 268, 10 => (tabGet none d.pon.gemPorts inst).map fun g => be 1 g.ring
    | 336, 6 => d.pon.rxOffUs.map fun u => be 4 u
    | _, _ => none
  match known with
  | some b => (b, d)
  | none => let f := drawFree d; (be len f.1, f.2)

/-- A Get: result 0, the attribute mask and the values. -/
def omciGet (d : Dev) (m : Omci) : Dev :=
  let mask := (m.attrs.map fun a => if 1 ≤ a.1 ∧ a.1 ≤ 16 then 2 ^ (16 - a.1) else 0).foldl (· + ·) 0
  let r := m.attrs.foldl (fun (acc : Bytes × Dev) a => let v := omciRead acc.2 m.cls m.inst a.1 a.2.length; (acc.1 ++ v.1, v.2)) ([], d)
  omciReply r.2 m.tci.toNat 9 m.cls m.inst (be 1 0 ++ be 2 mask ++ r.1)

/-- A GEM port of the message: the Port-ID and T-CONT it names, or those held. -/
def gemOf (m : Omci) (old : Option GemPort) : GemPort :=
  { portId := ((omciAttr m 1).map beVal).getD ((old.map (·.portId)).getD 0), tcont := ((omciAttr m 2).map beVal).getD ((old.map (·.tcont)).getD 0),
    ring := ((omciAttr m 10).map beVal).getD ((old.map (·.ring)).getD 0) }

/-- Another GEM port holds the Port-ID, or 512 ports exist. -/
def gemClash (d : Dev) (m : Omci) (g : GemPort) : Bool :=
  (d.pon.gemPorts.any fun x => decide (x.1 ≠ m.inst) && decide ((x.2.map (·.portId)) = some g.portId)) ||
    (decide (512 ≤ d.pon.gemPorts.length) && (tabGet none d.pon.gemPorts m.inst).isNone)

/-- A broadcast key table row: row control, key index in bits [7:6], 16 octets of key (log 33). -/
def setBroadcastKey (p : Pon) (row : Bytes) : Pon :=
  let k := if beAt 0 1 row % 4 = 0 then some (fit 16 (row.drop 2)) else none
  if beAt 0 1 row % 4 = 2 then { p with bcast1 := none, bcast2 := none }
  else if beAt 1 1 row / 64 = 1 then { p with bcast1 := k }
  else if beAt 1 1 row / 64 = 2 then { p with bcast2 := k }
  else p

/-- A class whose instances the head end creates: its instances hold one, and it is set or deleted. -/
def omciSetTab (t : Tab (BitVec 17)) (m : Omci) : Tab (BitVec 17) :=
  tabSet 0 t m.inst (BitVec.ofNat 17 (0x10000 + ((omciAttr m 1).map beVal).getD ((tabGet 0 t m.inst).toNat % 65536)))

/-- Create, Set and Delete of the entities of Table 8.5: the result code and the terminal after it. 0 success,
2 unsupported, 3 parameter error, 5 unknown instance, 7 instance exists. -/
def omciApply (d : Dev) (m : Omci) : Nat × Pon :=
  let p := d.pon
  let held : Bool := match m.cls with
    | 266 => decide (tabGet 0 p.gemIwtp m.inst ≠ 0)
    | 268 => (tabGet none p.gemPorts m.inst).isSome
    | 281 => decide (tabGet 0 p.mcastIwtp m.inst ≠ 0)
    | _ => true
  let created := decide (m.cls ∈ [266, 268, 281])
  match m.action with
  | .get => (0, p)
  | .download => (2, p)
  | .delete =>
    if ¬ created then (2, p) else if ¬ held then (5, p)
    else (0, match m.cls with
      | 266 => { p with gemIwtp := tabSet 0 p.gemIwtp m.inst 0 }
      | 268 => { p with gemPorts := tabSet none p.gemPorts m.inst none }
      | _ => { p with mcastIwtp := tabSet 0 p.mcastIwtp m.inst 0 })
  | act =>
    if act = .create ∧ ¬ created then (2, p)
    else if act = .create ∧ held then (7, p)
    else if act = .set ∧ ¬ held then (5, p)
    else match m.cls with
      | 7 => (2, p)
      | 2 => (0, { p with mibSync := BitVec.ofNat 8 (((omciAttr m 1).map beVal).getD p.mibSync.toNat) })
      | 262 =>
        if m.inst < 0x8000 ∨ 0x8020 ≤ m.inst then (5, p)
        else match (omciAttr m 1).map beVal with
          | some a => (0, { p with tconts := tabSet 0 p.tconts m.inst (BitVec.ofNat 16 (if a = 0xFFFF then 0 else a)) })
          | none => (0, p)
      | 266 => (0, { p with gemIwtp := omciSetTab p.gemIwtp m })
      | 281 => (0, { p with mcastIwtp := omciSetTab p.mcastIwtp m })
      | 268 =>
        let g := gemOf m (tabGet none p.gemPorts m.inst)
        if gemClash d m g then (3, p) else (0, { p with gemPorts := tabSet none p.gemPorts m.inst (some g) })
      | 332 => (0, match omciAttr m 12 with
        | some row => setBroadcastKey p row
        | none => p)
      | 336 => (0, { p with rxOffUs := match omciAttr m 6 with
        | some b => some (beVal b)
        | none => p.rxOffUs })
      | _ => (0, p)

/-- The MIB data sync after a change: it counts 1 to 255. -/
def mibStep (v : Byte) : Byte := if v = 255 then 1 else v + 1

/-- OMCI runs once the terminal has an ONU-ID. -/
def omciReaches (d : Dev) (micOk : Bool) : Bool :=
  receiving d && (decide (d.pon.sync = .sync) || decide (d.pon.sync = .reSync)) && decide (d.pon.onuId ≠ 0xFFFF) && micOk

/-- OMCI_MESSAGE: one in the extended format is discarded. -/
def omciMessage (d : Dev) (m : Omci) : Dev :=
  if ¬ omciReaches d m.micOk ∨ m.extended then d
  else if m.cls ∉ omciClasses then
    let d := if m.action = .create ∨ m.action = .set then d.updPon fun p => { p with omciRefused := p.omciRefused + 1 } else d
    omciReply d m.tci.toNat (omciType m.action) m.cls m.inst (be 1 4)
  else if m.action = .get then omciGet d m
  else
    let r := omciApply d m
    let p := if r.1 = 0 ∧ m.cls ≠ 2 then { r.2 with mibSync := mibStep r.2.mibSync } else r.2
    omciReply (d.updPon fun _ => p) m.tci.toNat (omciType m.action) m.cls m.inst (be 1 r.1)

/-- OMCI arrivals on the OMCI port are handed on as they came. -/
def dropHandedOmci (d : Dev) : Dev :=
  { d with handed := match d.handed.findIdx? fun h => match h with
      | .omci _ => true
      | _ => false with
    | some i => d.handed.eraseIdx i
    | none => d.handed }

/-- OMCI_MESSAGE. -/
def execOmciMessage (e : Nat) (m : Omci) (s : State) : Res := .next (s.withDev (omciMessage (dropHandedOmci (s.dev.at e)) m))

/-- MIB_RESET: every OMCI-created port and T-CONT goes; bindings stay. -/
def execMibReset (e : Nat) (micOk : Bool) (tci : BitVec 16) (s : State) : Res :=
  let d := dropHandedOmci (s.dev.at e)
  .next (s.withDev
    (if omciReaches d micOk then
      omciReply (d.updPon fun p => { p with gemPorts := [], tconts := [], gemIwtp := [], mcastIwtp := [], mibSync := 0 }) tci.toNat 15 2 0 (be 1 0)
    else d))

/-- The tick nearest the present one whose low 32 bits are S (R354). -/
def nearestTick (t : TickNo) (s : BitVec 32) : TickNo := t + (s - t.setWidth 32).signExtend 48

/-- TIME_OF_DAY_SET. -/
def execTimeOfDaySet (e : Nat) (micOk : Bool) (tci : BitVec 16) (sequence : BitVec 32) (timestamp : Bytes) (s : State) : Res :=
  let d := dropHandedOmci (s.dev.at e)
  .next (s.withDev
    (if omciReaches d micOk then
      omciReply (d.updGrat fun g => { g with todStamp := stampOf (nearestTick (stampTick (now d)) sequence) 0, todValue := fit 10 timestamp }) tci.toNat 8 131 0 (be 1 0)
    else d))

/-! ## XGEM frames (R323, R324, R342, R343) -/

/-- An uncorrectable codeword, by its number in the downstream, counts and raises once, however many frames overlap it. -/
def loseCodeword (d : Dev) (n : Nat) : Dev :=
  if n < d.pon.lostSeen then d else raisePon (d.updPon fun p => { p with fecUncorrectable := p.fecUncorrectable + 1, lostSeen := n + 1 }) 0xA3

/-- The key of an index of the XGEM header: 0 none, 1 and 2 unicast, 3 and 4 broadcast 1 and 2 (log 33). -/
def xgemKey (p : Pon) (index : Nat) : Option Bytes :=
  match index with
  | 1 => p.uni1
  | 2 => p.uni2
  | 3 => p.bcast1
  | 4 => p.bcast2
  | _ => none

/-- What is in clear in a frame's payload, or none when it cannot be decrypted. -/
def xgemClear (p : Pon) (bcast : Bool) (index counter : Nat) (payload : Bytes) : Option Bytes :=
  if index = 0 then some payload
  else if bcast ∧ index ≤ 2 then none
  else (xgemKey p index).map fun k => aesCtr k counter payload

/-- A frame with its binding's kind and target: what it hands on. -/
def xgemHand (d : Dev) (port kind target : Nat) (sdu : Bytes) : Option Handed :=
  match kind with
  | 1 => some (.segment target sdu)
  | 2 => some (.segment target sdu)
  | 3 => some (.answer target port sdu)
  | 4 => if (allocOfPort d port).isSome then some (.ezith .xgem sdu) else none
  | _ => none

/-- A downstream XGEM frame that overlaps no lost codeword. -/
def xgemFrame (d : Dev) (port keyIndex counter : Nat) (payload : Bytes) : Dev :=
  let omcc := decide (d.pon.onuId ≠ 0xFFFF) && decide (port = d.pon.onuId.toNat)
  let binding := (ponBindings d).find? fun b => decide (beAt 2 1 b.2 ≠ 0) && decide (beAt 0 2 b.2 = port)
  let bcast := match binding with
    | some b => decide (beAt 5 1 b.2 = 1)
    | none => false
  if ¬ omcc ∧ binding.isNone then d
  else match xgemClear d.pon (bcast && !omcc) keyIndex counter payload with
    | none => raisePon (d.updPon fun p => { p with dsUndecryptable := p.dsUndecryptable + 1 }) 0xA9
    | some sdu =>
      let h := if omcc then some (Handed.omci sdu) else binding.bind fun b => xgemHand d port (beAt 2 1 b.2) (beAt 3 1 b.2) sdu
      { d with handed := d.handed ++ h.toList }

/-- XGEM_FRAME_RECEIVED, an idle frame included: in delineation. `corrected` counts the codewords corrected since the frame
before; `lost` numbers the uncorrectable ones that the frame overlaps, in rising order over all frames (log 33). -/
def execXgemFrameReceived (e : Nat) (port keyIndex : Nat) (corrected : Nat) (lost : List Nat) (counter : BitVec 128) (payload : Bytes) (s : State) : Res :=
  let d := s.dev.at e
  .next (s.withDev
    (if ¬ listening d ∨ d.pon.sync = .hunt ∨ d.pon.sync = .preSync then d
     else
      let d := d.updPon fun p => { p with fecCorrected := p.fecCorrected + BitVec.ofNat 64 corrected }
      if lost ≠ [] then lost.foldl loseCodeword d
      else xgemFrame d port keyIndex counter.toNat payload))

/-! ## Bursts (R346 to R350) -/

/-- An allocation that the terminal may use now, as the state permits (Table 8.3, R350): 1 serial number, 2 ranging,
3 data. -/
def permitted (d : Dev) (a : Alloc) : Nat :=
  if ¬ listening d ∨ d.pon.sync ≠ .sync ∨ (d.pon.profiles.all fun b => decide (b.index ≠ a.profile)) then 0
  else match d.pon.act with
    | .o23 => if 1021 ≤ a.allocId ∧ a.allocId ≤ 1023 ∧ a.ploamu then 1 else 0
    | .o4 => if a.allocId = d.pon.onuId.toNat ∧ a.ploamu then 2 else 0
    | .o5 => if a.allocId ∈ d.pon.allocs then 3 else 0
    | _ => 0

/-- The equalisation delay of an allocation's burst (R332): the newest that came in a frame before the allocation's. None
is in force before ranging. -/
def eqdOf (d : Dev) (a : Alloc) : Nat :=
  if d.pon.act ≠ .o5 then 0 else ((d.pon.eqdLog.find? fun x => decide (x.1.toNat < a.frame.toNat)).map fun x => x.2.toNat).getD 0

/-- The random delay of a Serial_Number_ONU, 0 to 48 µs in steps of 2 ns (R330). -/
def randomDelay (d : Dev) : Nat × Dev :=
  let r := drawEntropy d
  (beVal (r.1.take 8) % 24001 * 2, r.2)

/-- The PLOAM message of a data allocation that asks for one: a Sleep_Request due, the first queued, or an idle one. -/
def nextPloam (d : Dev) : Bytes × Dev :=
  if d.pon.sleepRequest ≠ 0 then
    let m := ploamMessage d 0x10 0 (be 1 d.pon.sleepRequest)
    (m.1, m.2.updPon fun p => { p with sleepRequest := 0, watchful := decide (p.sleepRequest = 1), rxAt := now d })
  else match d.pon.ploamUp with
    | m :: r => (m, d.updPon fun p => { p with ploamUp := r })
    | [] => ploamMessage d 0 0 []

/-- What a burst carries: its random delay, PLOAM, DBRu and frames. -/
def burstContents (d : Dev) (a : Alloc) (use : Nat) : Nat × Option Bytes × Option Nat × List (Nat × Bool × Bytes) × Dev :=
  match use with
  | 1 =>
    let r := randomDelay d
    let m := ploamMessage r.2 0x01 0 (serialNumber d ++ be 4 r.1)
    (r.1, some m.1, none, [], m.2)
  | 2 =>
    let m := ploamMessage d 0x02 0 (zeros 36)
    (0, some m.1, none, [], m.2)
  | _ =>
    let f := d.pon.filled.find? fun f => decide (f.allocId = a.allocId) && decide (f.startNs = a.startNs)
    let dbru := if a.dbru then some ((f.bind (·.dbru)).getD (dbruOf d a.allocId)) else none
    let frames := (f.map (·.frames)).getD []
    let d := d.updPon fun p => { p with filled := p.filled.filter fun f => !(decide (f.allocId = a.allocId) && decide (f.startNs = a.startNs)) }
    if a.ploamu then
      let m := nextPloam d
      (0, some m.1, dbru, frames, m.2)
    else (0, none, dbru, frames, d)

/-- An upstream XGEM frame as it goes out: enciphered with the unicast key confirmed last on a port whose key ring asks for
both directions, else in clear (Table 8.1, log 33). -/
def xgemUp (d : Dev) (startNs : Nat) (f : (Nat × Bool × Bytes) × Nat) : XgemUp :=
  let clear : XgemUp := { port := f.1.1, keyIndex := 0, last := f.1.2.1, octets := f.1.2.2 }
  let ring := d.pon.gemPorts.any fun g => g.2.any fun g => decide (g.portId = f.1.1) && decide (g.ring = 1)
  match if ring then d.pon.txKey.bind (fun i => (xgemKey d.pon i).map fun k => (i, k)) else none with
  | some (i, k) => { clear with keyIndex := i, octets := aesCtr k (Config.upstreamCounter startNs f.2) f.1.2.2 }
  | none => clear

/-- Where the burst of an allocation begins on the fibre, in ns: response time and equalisation delay after its grant
(R331, R332). -/
def burstStart (d : Dev) (a : Alloc) : Nat := a.startNs + 35000 + eqdOf d a

/-- BURST_EN of the last burst on its pin (Table 8.7, R348). -/
def driveBurstEn (d : Dev) : Dev := d.emit (.burstEn d.pon.burstFrom d.pon.burstTo (decide (legNat d 0x5000 0x0D = 0)))

/-- The level at which BURST_EN is driven while it is not asserted: none, high impedance, until the PON terminal starts in
stage SYNC (18 R651, Table 18.2). -/
def burstRest (d : Dev) : Option Bool := if netUp d ∧ ¬ ethMode d then some (decide (legNat d 0x5000 0x0D ≠ 0)) else none

/-- An allocation on the fibre from `start`: its contents go out, and BURST_EN spans the burst with its lead and lag. -/
def sendBurst (d : Dev) (a : Alloc) (use start : Nat) : Dev :=
  let lead := legNat d 0x5000 0x0C
  let lag := legNat d 0x5000 0x0E
  let eqd := eqdOf d a
  let c := burstContents d a use
  let start := start + c.1
  let d := c.2.2.2.2.updPon fun p => { p with
    txEndNs := start + a.lengthNs + lag
    burstFrom := if a.goesOn then p.burstFrom else start - lead
    burstTo := start + a.lengthNs + lag
    burstOn := true
    burstOpen := true
    guardNs := if a.goesOn then p.guardNs + a.lengthNs else a.lengthNs + lead + lag + 16 }
  driveBurstEn (d.emit (.burst a.allocId start a.profile a.goesOn eqd c.2.1 c.2.2.1 (c.2.2.2.1.zipIdx.map (xgemUp d start))))

/-- An allocation transmitted. One that goes on with a burst needs the allocation before it transmitted; another is passed
by when it begins before the last transmission has ended (R347). -/
def transmit (d : Dev) (a : Alloc) (use : Nat) : Dev :=
  if a.goesOn then (if d.pon.burstOpen ∧ d.pon.burstOn then sendBurst d a use (d.pon.txEndNs - legNat d 0x5000 0x0E) else d)
  else if burstStart d a < d.pon.txEndNs then
    raisePon (d.updPon fun p => { p with grantOverlaps := p.grantOverlaps + 1, burstOpen := false }) 0xA6
  else sendBurst d a use (burstStart d a)

/-- ALLOCATION, after the messages of its downstream frame (R338): a forced-wake indication within a reception of watchful
sleep is a wake event (R359). -/
def execAllocation (e : Nat) (a : Alloc) (s : State) : Res :=
  let d := s.dev.at e
  let use := permitted d a
  .next (s.withDev
    (if d.pon.watchful then (if receiving d ∧ a.forcedWake ∧ a.allocId ∈ d.pon.allocs then noteWake d 2 else d)
     else if use = 0 then d.updPon fun p => { p with burstOpen := false }
     else transmit d a use))

/-- The contents of a data allocation chosen (09 R401 to R405); an idle one carries no frame (R358). -/
def fill (d : Dev) (a : Alloc) : Dev :=
  let d := if d.pon.sleepRefused then d else passOver d a.allocId
  let r := if d.pon.sleepRefused then ([], d) else fillAlloc d a.allocId (a.bytes - 4 * bit a.dbru - 48 * bit a.ploamu) [] (a.bytes + 1)
  let x : Filled := { allocId := a.allocId, startNs := a.startNs, frames := r.1, dbru := if a.dbru then some (dbruOf r.2 a.allocId) else none }
  r.2.updPon fun p => { p with filled := p.filled ++ [x] }

/-- The contents of an allocation are chosen at its fill stamp, 64 sub-ticks before its first preamble bit, and once
(09 R401). -/
def fillsNow (d : Dev) (a : Alloc) : Bool :=
  decide (permitted d a = 3) && decide (now d = a.preambleAt - 64) && d.pon.filled.all fun f => !(decide (f.allocId = a.allocId) && decide (f.startNs = a.startNs))

/-- ALLOCATION_FILL. -/
def execAllocationFill (e : Nat) (a : Alloc) (s : State) : Res :=
  let d := s.dev.at e
  .next (s.withDev (if fillsNow d a then fill d a else d))

/-- The guard cuts the last burst (R349). -/
def cutBurst (d : Dev) (heldNs : Nat) : Dev :=
  let d := d.updPon fun p => { p with burstOn := false, burstOpen := false, burstTo := p.burstFrom + heldNs, txEndNs := p.burstFrom + heldNs }
  raisePon (driveBurstEn d) 0xA5

/-- BURST_OVERRUN: the guard negates BURST_EN, which has been asserted for a time past its limit (R349). -/
def execBurstOverrun (e : Nat) (heldNs : Nat) (s : State) : Res :=
  let d := s.dev.at e
  .next (s.withDev (if d.pon.burstOn ∧ d.pon.guardNs < heldNs then cutBurst d heldNs else d))

/-! ## Optics (R351 to R353) -/

/-- An alarm flag is set: octets 112 and 113 of the page, those of the alarms; 116 and 117 hold warnings. -/
def opticsAlarm (flags : Bytes) : Bool := decide (beAt 0 2 flags ≠ 0)

/-- A read of the optics: 16 octets, or no acknowledgement. -/
def opticsRead (d : Dev) : Option Bytes → Dev
  | some b =>
    let flags := slice 10 6 (fit 16 b)
    let alarm := opticsAlarm flags
    let d := (d.updPon fun p => { p with optDiag := (fit 16 b).take 10, optFlags := flags, optMissed := 0 }).setCause 0xA8 false
    if alarm then (if (d.fault 0xA7).cause then d else (raisePon d 0xA7).setCause 0xA7 true) else d.setCause 0xA7 false
  | none =>
    let n := d.pon.optMissed
    let d := d.updPon fun p => { p with optMissed := min 3 (n + 1) }
    if n = 2 then (raisePon d 0xA8).setCause 0xA8 true else d

/-- OPTICS_POLL: every 8,000 ticks. -/
def execOpticsPoll (e : Nat) (reading : Option Bytes) (s : State) : Res :=
  let d := s.dev.at e
  .next (s.withDev
    (if netUp d ∧ reached d (after d.pon.optAt 8000) then opticsRead (d.updPon fun p => { p with optAt := now d }) reading else d))

/-! ## FLAVOUR and watchful sleep (R319, R356 to R359) -/

/-- FLAVOUR written: back to HUNT and O1.1; O7 is left only as R326 says. -/
def setFlavour (d : Dev) (v : Bytes) : Dev :=
  let d := legPut d 0x5000 0x00 v
  let d := if d.pon.sync = .hunt then d else loseSource (d.updPon fun p => { p with sync := .hunt, badPsbd := 0 }) .pon
  if d.pon.act = .o7 then d else enterOff d

/-- FLAVOUR: a value that Table 8.1 gives. -/
def execFlavour (e : Nat) (value : Byte) (s : State) : Res :=
  let d := s.dev.at e
  .next (s.withDev (if value.toNat ≤ 2 then bumpChange (setFlavour d [value]) (legKey 0x5000 0x00) else d))

/-- Count and phase of a reception applied by re-alignment (02 R56). -/
def sleepAlign (d : Dev) (count : BitVec 51) : Dev :=
  let stamp := sourceStamp d (countTick count) (d.grat.dsDelayNs.toNat * 62208 / 100000)
  let d := d.updGrat fun g => setRun g .pon { live := true, last := stampTick stamp, count := 8, delta := stampDiff (now d) stamp, shift := localShift d }
  if ethMode d ∨ ¬ d.grat.everLocked then d else realign d .pon

/-- WATCHFUL_SLEEP_RECEPTION: once in every rx-off interval; one that does not reach SYNC gives no count. -/
def sleepReception (d : Dev) (count : Option (BitVec 51)) (forcedWake : Bool) : Dev :=
  let d := d.updPon fun p => { p with rxAt := now d }
  let d := match count with
    | some c => sleepAlign (d.updPon fun p => { p with sync := .sync, lastCount := c, badPsbd := 0 }) c
    | none => d
  if forcedWake then noteWake d 2 else d

/-- WATCHFUL_SLEEP_RECEPTION. -/
def execWatchfulSleepReception (e : Nat) (count : Option (BitVec 51)) (forcedWake : Bool) (s : State) : Res :=
  let d := s.dev.at e
  .next (s.withDev (if d.pon.watchful ∧ reached d (after d.pon.rxAt (rxOffTicks d)) then sleepReception d count forcedWake else d))

end Sys2Proof.Machine
end

