-- ==== Sys2Proof/Machine/Dormant.lean ====
section
/-! DEFINITION. Dormant: entry and its refusals, wake events and the wake of 200 ticks (15 R605 to R609). -/

namespace Sys2Proof.Machine

/-- A heartbeat whose RUNNING mask is not zero has landed within the last 16 heartbeat periods (R605). -/
def runningHeardLately (d : Dev) : Bool := d.aksia.runningHeard.any fun t => decide (clockNow d < t + 16 * beatLength d)

/-- The reason for which dormant entry is refused now, 0 for none (R605). -/
def dormantRefusal (d : Dev) : Byte :=
  if (List.range 64).any (fun p => decide ((d.partition p).st ≠ .free) && decide ((d.partition p).st ≠ .stopped)) then 1
  else if runningHeardLately d then 2
  else if wakeAtNat d ≠ 0 ∧ ¬ before (now d) (BitVec.ofNat 60 (wakeAtNat d)) then 3
  else if d.dormant.lastEvent.any (fun w => decide (w.2 = now d) && decide (d.dormant.lastEventOrd = ordinal d)) then 4
  else 0

/-- Dormant entry begins: the Ethernet ports keep only their detectors, and the PON terminal asks for sleep or stays on
(R606, 11 R459, 08 R356, R358). -/
def enterDormant (d : Dev) : Dev :=
  let d := d.updDormant fun x => { x with st := .entering, enterAt := now d, refusal := 0, wake := none, lastEvent := none }
  let d := [0, 1, 2].foldl (fun d n => if ethNat d n 0x0B = 0 then linkDown d n else d) d
  if netUp d ∧ ¬ ethMode d then
    if d.pon.sleepAllowed then d.updPon fun p => { p with sleepRequest := 1 } else raisePon (d.updPon fun p => { p with sleepRefused := true }) 0xAA
  else d

/-- A write of 1 to DORMANT_ENTER; a wake event of its own stamp is consumed (R605). -/
def dormantWrite (d : Dev) : Dev :=
  if d.dormant.st ≠ .running then d
  else
    let r := dormantRefusal d
    if r = 0 then enterDormant d
    else d.updDormant fun x => { x with refusal := r, lastEvent := if r = 4 then none else x.lastEvent }

/-- DORMANT_ENTRY_COMPLETE (R607): the Aksia ports are DISABLED, the compute dies off. -/
def entryComplete (d : Dev) : Dev :=
  let d := d.updDormant fun x => { x with st := .dormant }
  let d := refreshPorts d false
  { d with contours := tabMap {} (fun c => { droops := c.droops }) d.contours }

/-- DORMANT_ENTRY_COMPLETE. -/
def execDormantEntryComplete (e : Nat) (s : State) : Res :=
  let d := s.dev.at e
  .next (s.withDev (if d.dormant.st = .entering then entryComplete d else d))

/-- WAKE_AT (R608): the tick edge at WAKE_AT, or the first after a step over it (02 R54), is a wake event, stamped at that
edge. -/
def execWakeAt (e : Nat) (s : State) : Res :=
  let d := s.dev.at e
  let w : Stamp := BitVec.ofNat 60 (wakeAtNat d)
  .next (s.withDev (if wakeAtNat d ≠ 0 ∧ dueNow d (stampTick w) ∧ d.grat.everLocked then noteWakeAt d 3 (stampOf d.grat.tick 0) else d))

/-- The compute dies powered: quads reset, their loops at V_cal(900) (Table 15.6). -/
def powerQuads (d : Dev) : Dev :=
  let d := { d with quads := tabMap {} (fun q => { unloadedQuad q with st := if q.st = .failed ∨ q.st = .spare then q.st else .unloaded }) d.quads }
  (List.range (quadsFitted d)).foldl powerContour d

/-- WAKE: the first wake event of the dormant period is taken. -/
def wakeUp (d : Dev) : Dev :=
  let d := clearWakeAt (d.updDormant fun x => { x with st := .waking })
  let d := if d.pon.watchful then d.updPon fun p => { p with watchful := false, sleepRequest := 2 } else d.updPon fun p => { p with sleepRequest := 0 }
  powerQuads (refreshPorts d true)

/-- WAKE. -/
def execWake (e : Nat) (s : State) : Res :=
  let d := s.dev.at e
  .next (s.withDev (if d.dormant.st = .dormant ∧ d.dormant.wake.isSome then wakeUp d else d))

/-- WAKE_COMPLETE (R609): RUNNING 200 ticks after the wake stamp, its sub-tick kept. -/
def wakeDone (d : Dev) : Dev :=
  match d.dormant.wake with
  | some (cause, w) =>
    if d.dormant.st = .waking ∧ reached d (after w 200) then
      let d := (d.updGrat fun g => { g with realignDue := true }).updPon fun p => { p with sleepRefused := false }
      d.updDormant fun x => { x with st := .running, wake := none, lastWake := be 1 cause.toNat ++ zeros 7 ++ tickBytes w ++ tickBytes (after w 200) }
    else d
  | none => d

/-- WAKE_COMPLETE. -/
def execWakeComplete (e : Nat) (s : State) : Res := .next (s.withDev (wakeDone (s.dev.at e)))

end Sys2Proof.Machine
end

