-- ==== Sys2Proof/Machine/Boot.lean ====
section
/-! DEFINITION. Start-up from the rails to the end of TRAIN, boot-image selection, stack training, quad calibration,
margin sweeps and the debug port (17 R631 to R647, 18 R661). The start-up object is in Machine/Startup.lean. -/

namespace Sys2Proof.Machine

/-- Stage codes of Table 17.1. -/
def stageCode : Stage → Nat
  | .sentry => 0
  | .rails => 1
  | .rom => 2
  | .mount => 3
  | .train => 4
  | .config => 5
  | .sync => 6
  | .ready => 7

/-- A stage begins: its time in µs from the release of reset is noted (STAGE_TIMES). -/
def enterStage (d : Dev) (st : Stage) : Dev :=
  let us := releaseUs d
  d.updStart fun x => { x with stage := st, times := tabSet 0 x.times (stageCode st) us }

/-- min(2^(n − 1), 32) seconds, in µs (R636, R638). -/
def startBackoff (n : Nat) : Nat := min (2 ^ (n - 1)) 32 * 1000000

/-- RAILS_IN_RANGE (R634): reset is released; from then the graticule counts (02 R664), and EZITH_OPEN is raised (12 R497;
assumption log 39). -/
def releaseReset (d : Dev) : Dev :=
  let d := d.updGrat fun g => { g with e := 0 }
  raiseDev (enterStage (d.updStart fun x => { x with released := true }) .rom) 0xC5 0 0

/-- RAILS_IN_RANGE. -/
def execRailsInRange (e : Nat) (s : State) : Res :=
  let d := s.dev.at e
  .next (s.withDev (if d.start.stage = .rails ∧ d.sentry.pg then releaseReset d else d))

/-! ## Boot-image selection (R635 to R637) -/

/-- The image of a boot area: its object's octets, when its seal is in the map (R637). -/
def bootImage (d : Dev) (a : Nat) : Option Bytes :=
  match objectOf d (bootObject a) with
  | some o => if o.st = .writing then none else some (objectBytes o 0 o.size).1
  | none => none

/-- The areas with an image, in the order in which a round tries them (R635). -/
def candidates_ (d : Dev) (next : Byte) : List Nat :=
  let rank := fun (a : Nat) => match bootImage d a with
    | some b => (beAt 7 1 b, beAt 8 4 b)
    | none => (0, 0)
  let first :=
    if next.toNat < 2 then next.toNat
    else if (rank 0).1 < (rank 1).1 then 1
    else if (rank 0).1 = (rank 1).1 ∧ (rank 0).2 < (rank 1).2 then 1
    else 0
  [first, 1 - first].filter fun a => (bootImage d a).isSome

/-- The candidates tried in order: the first accepted, the device after the rejections. -/
def tryImages (f : Fuses) (d : Dev) : List Nat → Option (Nat × Bytes) × Dev
  | [] => (none, d)
  | a :: r =>
    match bootImage d a with
    | none => tryImages f d r
    | some b =>
      match imageFailures f b with
      | [] => (some (a, b), d)
      | codes => tryImages f (rejectImage d codes) r

/-- An accepted image runs: MOUNT begins, firmware starts, and the trips since the last boot are reported (15 R589). The
image's microprogram version is not in its header: a free value (assumption log 42). -/
def runImage (d : Dev) (a : Nat) (b : Bytes) : Dev :=
  let m := drawFree d
  let d := m.2.updSec fun x => { x with keyset := BitVec.ofNat 2 (beAt 6 1 b), imageVersion := BitVec.ofNat 6 (beAt 7 1 b), microcode := BitVec.ofNat 32 m.1 }
  let d := { d with
    part := { d.part with firmware := BitVec.ofNat 32 (beAt 8 4 b) }
    jtag := { d.jtag with driving := false, boundary := [], ir := if d.jtag.ir = 0 then 0x3F else d.jtag.ir } }
  let d := d.updStart fun x => { x with bootArea := BitVec.ofNat 8 a, bootRounds := BitVec.ofNat 32 x.rounds, roundAt := none }
  reportTrips (enterStage d .mount)

/-- BOOT_ROUND: `answers` is false when target 0 of channel 0 or 1 does not answer. -/
def bootRound (f : Fuses) (d : Dev) (answers : Bool) : Dev :=
  let next := d.start.bootNext
  let d := d.updStart fun x => { x with bootNext := 0xFF }
  let before := d.sec.bootRejects
  let r := if answers then tryImages f d (candidates_ d next) else (none, d)
  match r.1 with
  | some (a, b) => runImage r.2 a b
  | none =>
    let us := releaseUs r.2
    let code := if r.2.sec.bootRejects = before then 0 else r.2.sec.lastReject
    r.2.updStart fun x => { x with rounds := x.rounds + 1, roundAt := some us, roundReject := code }

/-- BOOT_ROUND. -/
def execBootRound (e : Nat) (answers : Bool) (s : State) : Res :=
  let d := s.dev.at e
  .next (s.withDev (if d.start.stage = .rom ∧ d.start.roundAt.isNone then bootRound s.fuses d answers else d))

/-- BOOT_ROUND_BACKOFF_END (R636): the next round may begin. -/
def execBootRoundBackoffEnd (e : Nat) (s : State) : Res :=
  let d := s.dev.at e
  .next (s.withDev (match d.start.roundAt with
    | some t => if t + startBackoff d.start.rounds ≤ releaseUs d then d.updStart fun x => { x with roundAt := none } else d
    | none => d))

/-- The progress word (R633): from the release of reset. -/
def progressWord (d : Dev) : Option (BitVec 32) :=
  if d.start.released then some (BitVec.ofNat 32 (stageCode d.start.stage * 2 ^ 28 + d.start.roundReject.toNat % 16 * 2 ^ 24 + min 0xFFFFFF d.start.rounds)) else none

/-! ## MOUNT and TRAIN (R638 to R641) -/

/-- MOUNT: the cadastre mounts; TRAIN begins, the quads powered. -/
def execMount (e : Nat) (targets : List Target) (s : State) : Res :=
  let d := s.dev.at e
  .next (s.withDev (if d.start.stage = .mount then (List.range (quadsFitted d)).foldl powerContour (enterStage (mountCad d targets) .train) else d))

/-- Training state of stack k. -/
def stackOf (d : Dev) (k : Nat) : StackTrain := tabGet {} d.start.stackTrain k

/-- TRAIN is finished when every stack is trained and every quad calibrated or failed: CONFIG. -/
def trainDone (d : Dev) : Dev :=
  if d.start.stage = .train ∧ (List.range (stacksFitted d)).all (fun k => decide ((stackOf d k).st = 2)) ∧
      (List.range (quadsFitted d)).all (fun q => decide (q ∈ d.start.calibrated)) then enterStage d .config
  else d

/-- STACK_TRAINING_ATTEMPT (R638): a stack in back-off waits it out. -/
def stackAttempt (d : Dev) (k : Nat) (ok : Bool) : Dev :=
  let x := stackOf d k
  let us := releaseUs d
  if x.st = 1 ∨ (x.st = 3 ∧ x.since + startBackoff x.failed ≤ us) then
    trainDone (d.updStart fun y => { y with stackTrain := tabSet {} y.stackTrain k (if ok then { st := 2 } else { st := 3, failed := x.failed + 1, since := us }) })
  else d

/-- STACK_TRAINING_ATTEMPT. -/
def execStackTrainingAttempt (e : Nat) (stack : Nat) (ok : Bool) (s : State) : Res :=
  let d := s.dev.at e
  onUnit s (decide (stack < stacksFitted s.dev)) (if d.start.stage = .train then stackAttempt d stack ok else d)

/-- Curve points from the lowest passing voltages: CAL_GUARD_MV added, 0xFFFF where 850 mV fails (R640). -/
def curvePoints (d : Dev) (passMv : List (Option Nat)) : List (BitVec 16) :=
  (List.range 10).map fun i => match nth none passMv i with
    | some v => BitVec.ofNat 16 (v + legNat d 0xF000 0x07)
    | none => 0xFFFF

/-- A curve written: a quad whose point at 1,600 MHz is 0xFFFF is marked failed (R641). -/
def putCurve (d : Dev) (q : Nat) (curve : List (BitVec 16)) : Dev :=
  let d := d.updStart fun x => { x with curves := tabSet [] x.curves q curve }
  refreshContour (if nth 0xFFFF curve 7 = 0xFFFF then failQuad d q else d) q

/-- QUAD_CALIBRATION. -/
def execQuadCalibration (e : Nat) (quad : BitVec 8) (passMv : List (Option Nat)) (s : State) : Res :=
  let d := s.dev.at e
  let q := quad.toNat
  onUnit s (decide (q < quadsFitted s.dev))
    (if d.start.stage = .train ∧ q ∉ d.start.calibrated then trainDone (putCurve (d.updStart fun x => { x with calibrated := x.calibrated ++ [q] }) q (curvePoints d passMv)) else d)

/-! ## Margin sweeps (R645 to R647) -/

/-- A command that may start now (R645, Tables 17.2 and 17.3). -/
def sweepOk (d : Dev) (c : Bytes) : Bool :=
  let kind := beAt 0 1 c
  let flags := beAt 1 1 c
  let unit := beAt 2 2 c
  decide (d.start.stage = .ready) && decide (d.start.sweep.st ≠ 1) && allZero (slice 4 12 c) &&
    (if kind = 1 then decide (flags = 0) && decide (unit < portsFitted d) && decide ((d.port unit).st = .up)
    else if kind = 2 then decide (flags = 0) && decide (unit < stacksFitted d) &&
      (List.range 64).all fun p => decide ((d.partition p).st = .free) || decide ((d.partition p).st = .stopped)
    else if kind = 3 then decide (flags ≤ 1) && decide (unit < quadsFitted d) && (quadOwner d unit).isNone && decide ((d.quad unit).st ≠ .failed)
    else false)

/-- A sweep starts. -/
def startSweep (d : Dev) (c : Bytes) : Dev :=
  d.updStart fun x => { x with sweep := { st := 1, kind := nth 0 c 0, flags := nth 0 c 1, unit := BitVec.ofNat 16 (beAt 2 2 c), startAt := now d } }

/-- Octets of a sweep's result (Table 17.3). -/
def sweepResultLen (kind : Nat) : Nat := if kind = 1 then 32 else if kind = 2 then 6 else 20

/-- The sweep has taken the time of Table 17.3; a CORE sweep may end sooner. -/
def sweepOver (d : Dev) : Bool :=
  let w := d.start.sweep
  decide (w.kind = 3) || reached d (after w.startAt (if w.kind = 1 then 8 else 80))

/-- A sweep completes: its result, and the curve of a CORE sweep that writes it (R646). -/
def sweepDone (d : Dev) (result : Bytes) : Dev :=
  let w := d.start.sweep
  let r := fit (sweepResultLen w.kind.toNat) result
  let d := d.updStart fun x => { x with sweep := { w with st := 2, endAt := now d, result := r } }
  if w.kind = 3 ∧ bitsAt 0 1 w.flags.toNat = 1 then putCurve d w.unit.toNat ((chunks 2 10 r).map fun b => BitVec.ofNat 16 (beVal b)) else d

/-- SWEEP_COMPLETE: a sweep aborted at this very stamp was complete, and its result stands (R647). -/
def execSweepComplete (e : Nat) (result : Bytes) (s : State) : Res :=
  let d := s.dev.at e
  let w := d.start.sweep
  let late := decide (w.st = 3) && decide (w.endAt = now d) && decide (w.endOrd = ordinal d)
  .next (s.withDev (if (w.st = 1 ∨ late) ∧ sweepOver d then
      let d := sweepDone d result
      if late then d.updStart fun x => { x with sweep := { x.sweep with st := 4 } } else d
    else d))

/-- A write of 1 to SWEEP_ABORT (R647). -/
def abortSweep (d : Dev) : Dev :=
  let w := d.start.sweep
  if w.st = 1 then d.updStart fun x => { x with sweep := { w with st := 3, endAt := now d, endOrd := ordinal d } }
  else if w.st = 2 then d.updStart fun x => { x with sweep := { w with st := 4 } }
  else d

/-! ## Lands before MOUNT (18 Table 18.2) -/

/-- How a land stands. -/
inductive LandLevel where
  | bySentry | low | high | highZ | released | off | electricalIdle | whileShifting
  deriving DecidableEq, Repr

/-- The land groups of Table 18.2, in its order. -/
inductive LandGroup where
  | sentryOut | service | burstEn | opticsBus | flashEnable | flashProtect | busClocks | transmitters | tdo
  deriving DecidableEq, Repr

/-- The state of a land group until MOUNT begins; none from then on (Table 18.2, R650, R651). -/
def landBeforeMount (d : Dev) (g : LandGroup) : Option LandLevel :=
  if 3 ≤ stageCode d.start.stage then none
  else some (match g with
    | .sentryOut => .bySentry
    | .service => .low
    | .burstEn => .highZ
    | .opticsBus => .released
    | .flashEnable => if d.start.released then .high else .highZ
    | .flashProtect => if d.start.released then .low else .highZ
    | .busClocks => if d.start.released then .low else .highZ
    | .transmitters => if d.start.released then .electricalIdle else .off
    | .tdo => if d.start.released then .whileShifting else .highZ)

/-! ## The debug port (18 R661) -/

/-- EXTEST: only in stage ROM, whose end is the acceptance of an image; otherwise as BYPASS. -/
def execExtest (cells : List (Nat × Bool)) (s : State) : Res :=
  let d := s.dev
  .next (s.withDev (if d.start.stage = .rom then { d with jtag := { ir := 0x00, boundary := cells, driving := true } }
    else { d with jtag := { d.jtag with ir := 0x3F, boundary := [], driving := false } }))

/-- IDCODE (18 R662). -/
def idcode (d : Dev) : BitVec 32 :=
  BitVec.ofNat 32 (d.part.siliconStep.toNat / 256 % 16 * 2 ^ 28 + (0xA400 + d.part.grade.toNat) * 2 ^ 12 + 0x3D5 * 2 + 1)

end Sys2Proof.Machine
end

