-- ==== Sys2Proof/Machine/Legend.lean ====
section
/-! DEFINITION. Reading the Legend: the value in force of every entry (13 R503, R504, R519 and the entry tables of the
chapters). -/

namespace Sys2Proof.Machine

/-! ## Codes of the states that entries report -/

/-- Table 7.1. -/
def partCode : PartState → Nat
  | .free => 0
  | .loading => 1
  | .running => 2
  | .recovering => 3
  | .replaying => 4
  | .waitingSpare => 5
  | .stopped => 6
  | .handedOver => 7

/-- Table 7.2. -/
def stripCode : StripState → Nat
  | .free => 0
  | .placed => 1
  | .running => 2
  | .recovering => 3
  | .shadow => 4
  | .closing => 5
  | .stopped => 6
  | .handedOver => 7

/-- Table 6.4. -/
def entryCode : EntryState → Nat
  | .held => 1
  | .sent => 2
  | .answered => 3
  | .paused => 4

/-- Table 8.3. -/
def actCode : ActState → Nat
  | .o11 => 1
  | .o12 => 2
  | .o23 => 3
  | .o4 => 4
  | .o5 => 5
  | .o6 => 6
  | .o7 => 7

/-- Table 8.2. -/
def syncCode : SyncState → Nat
  | .hunt => 0
  | .preSync => 1
  | .sync => 2
  | .reSync => 3

/-- Table 11.2. -/
def ptpCode : PtpState → Nat
  | .disabled => 0
  | .listening => 1
  | .uncalibrated => 2
  | .slave => 3

/-- Table 10.5. -/
def portCode : PortState → Nat
  | .disabled => 0
  | .detect => 1
  | .equalise => 2
  | .align => 3
  | .ident => 4
  | .up => 5
  | .backoff => 6

/-- 10 Table 10.7, WATCH_STATE. -/
def watchCode : WatchState → Nat
  | .idle => 0
  | .watching => 1
  | .blocked => 2
  | .takenOver => 3

/-- Table 12.3. -/
def jobCode : JobState → Nat
  | .free => 0
  | .queued => 1
  | .running => 2
  | .suspended => 3
  | .done => 4
  | .failed => 5
  | .aborted => 6
  | .abortLate => 7

/-- Table 14.5. -/
def objPortCode : PortSt → Nat
  | .idle => 0
  | .writing => 1
  | .reading => 2
  | .busy => 3
  | .done => 4
  | .failed => 5
  | .aborted => 6
  | .abortLate => 7

/-- 14 Table 14.8, DIR_ENTRY. -/
def objCode : ObjState → Nat
  | .writing => 1
  | .sealed => 2
  | .damaged => 3

/-- 15 Table 15.8, STATE. -/
def sentryCode : SentryState → Nat
  | .off => 0
  | .starting => 1
  | .on => 2
  | .backoff => 3

/-- 15 Table 15.9, POWER_STATE. -/
def powerCode : PowerState → Nat
  | .running => 0
  | .entering => 1
  | .dormant => 2
  | .waking => 3

/-- 03 Table 3.14, byte 13. -/
def quadCode : QuadState → Nat
  | .unloaded => 0
  | .loaded => 1
  | .running => 2
  | .trapped => 3
  | .failed => 4
  | .spare => 5

/-- 04 Table 4.14, byte 0. -/
def cimCode : CimState → Nat
  | .unloaded => 0
  | .loaded => 1
  | .failed => 2

/-! ## Records -/

/-- An integer as a FIX16.16 or signed value of n octets. -/
def signed (n : Nat) (i : Int) : Bytes := be n (ofInt (8 * n) i)

/-- QUAD_MAP (07 R257). -/
def quadMapBytes (x : Partition) : Bytes := (x.quadMap.map fun q => be 2 q.toNat).flatten

/-- SESSIONS: 64 entries of 8 octets (07 Table 7.7); a FREE strip has no sessions. -/
def sessionsBytes (x : Strip) : Bytes :=
  ((List.range 64).map fun n =>
    let t := if x.st = .free then {} else sessionOf x n
    be 2 (t.ctx.getD 0xFFFF) ++ be 4 t.startBeat.toNat ++ be 1 (min 255 t.turns.length) ++ be 1 (sessCode t.st)).flatten

/-- ENTRY of a bearing table (06 Table 6.9). -/
def entryBytes : Option BearingEntry → Bytes
  | none => zeros 32
  | some b => be 1 (entryCode b.st) ++ be 1 b.point ++ be 1 b.strip ++ zeros 1 ++ be 4 b.bseq.toNat ++ tickBytes b.openAt ++ tickBytes (b.queryAt.getD 0) ++ zeros 8

/-- PORT of an Aksia port (10 Table 10.7). -/
def aksPortBytes (d : Dev) (x : AksPort) : Bytes :=
  be 1 (portCode x.st) ++ be 1 x.lanesUp ++ be 2 x.partnerDev.toNat ++ be 1 x.partnerPort.toNat ++ zeros 1 ++ be 4 x.attempts.toNat ++ be 4 (cyclesNs d x.delay) ++ be 4 x.retrains.toNat ++
    be 2 x.eyeMv.toNat ++ zeros 2 ++ be 8 x.fecCorrected.toNat

/-- ALLOC n: the n-th Alloc-ID in force with its T-CONT instance (08 R340). -/
def allocBytes (d : Dev) (n : Nat) : Bytes :=
  match d.pon.allocs[n]? with
  | none => be 4 0xFFFFFFFF
  | some a => be 2 a ++ be 2 (((d.pon.tconts.find? fun t => decide (t.2.toNat = a)).map (·.1)).getD 0xFFFF)

/-- SLOT (12 Table 12.9). -/
def slotBytes (d : Dev) (n : Nat) : Bytes :=
  let k := d.keySlot n
  let st := if k.cur.isNone then 0 else if (acceptable d n).length < 2 then 1 else 2
  be 1 st ++ be 1 k.uses.toNat ++ zeros 2 ++ be 4 k.tenant.toNat ++ be 4 k.installs.toNat ++ be 4 k.check.toNat ++ tickBytes k.installAt

/-- JOB (12 Table 12.2). -/
def jobBytes (j : Job) : Bytes :=
  be 1 j.op.toNat ++ be 1 (jobCode j.st) ++ be 1 j.cls.toNat ++ be 1 j.result.toNat ++ be 4 j.inLen ++ be 4 j.outLen ++ tickBytes j.submitted ++ tickBytes j.started ++ tickBytes j.ended ++
    zeros 28 ++ fit 10176 j.input ++ fit 6144 j.output

/-- VAULT_KEY (05 Table 5.10). -/
def vaultKeyBytes (k : VaultKey) : Bytes := be 4 k.keyId.toNat ++ be 4 k.tenant.toNat ++ be 8 k.object.toNat ++ be 1 k.st.toNat

/-- PORT_STATE (14 Table 14.8). -/
def portStateBytes (x : ObjPort) : Bytes := be 1 (objPortCode x.st) ++ be 1 x.result.toNat ++ be 1 x.lastOp.toNat ++ zeros 1 ++ be 4 x.lost.toNat ++ tickBytes x.endAt

/-- DIR_ENTRY: the lowest ID at or above DIR_CURSOR (14 Table 14.8). -/
def dirEntryBytes (d : Dev) : Bytes :=
  match d.cad.objects.find? fun o => decide (d.cad.dirCursor.toNat ≤ o.id.toNat) with
  | none => zeros 64
  | some o => be 8 o.id.toNat ++ be 1 o.kind.toNat ++ be 1 (objCode o.st) ++ zeros 6 ++ be 8 o.size ++ tickBytes o.sealAt ++ be 32 o.digest.toNat

/-- CHANNEL (14 Table 14.8). -/
def channelBytes (x : Channel) : Bytes := be 1 x.targets ++ zeros 3 ++ be 4 (x.blocks - badParcels x) ++ be 4 (badParcels x) ++ be 4 x.lost.toNat

/-- TRIPS (15 R589). -/
def tripsBytes (l : List Trip) : Bytes := fit 128 ((l.map fun t => be 1 t.source.toNat ++ zeros 7 ++ be 8 t.stamp.toNat).flatten)

/-- PIN_STATUS (15 Table 15.8). -/
def pinStatus (x : Sentry) : Nat :=
  bit x.extPg + 2 * bit x.extEwarn + 4 * bit (nth false x.hiz 0) + 8 * bit (nth false x.hiz 1) + 16 * bit ((x.hiz.drop 2).any id)

/-- CONTOUR_RECORD (15 Table 15.9). -/
def contourBytes (c : Contour) : Bytes :=
  be 1 (contourCode c) ++ be 1 c.level.toNat ++ be 2 c.voltageMv ++ be 2 c.clockMhz ++ signed 2 c.tempC ++ tickBytes c.holeEnd ++ be 4 c.droops.toNat

/-- ACTIVE: bit s for source s, byte 0 bit 7 source 0 (16 Table 16.6). -/
def activeBytes (d : Dev) : Bytes :=
  (List.range 32).map fun i => BitVec.ofNat 8 (((List.range 8).map fun k => bit (d.fault (8 * i + k)).set * 2 ^ (7 - k)).foldl (· + ·) 0)

/-- SUBSCRIBER_STATE (13 Table 13.10). -/
def subscriberBytes (x : Subscriber) : Bytes := be 4 x.nextSeq.toNat ++ be 4 x.acked.toNat ++ be 2 x.queue.length ++ zeros 2 ++ be 4 x.lost.toNat

/-- QUAD_RECORD of a fitted quad (03 Table 3.14); a quad that no partition maps gives logical quad 0. -/
def quadRecord (d : Dev) (n : Nat) : Bytes :=
  let x := d.quad n
  be 8 x.sheetId.toNat ++ be 4 x.trapPc.toNat ++ be 1 x.trapCause.toNat ++ be 1 (quadCode x.st) ++ be 2 (((quadOwner d n).map (·.2)).getD 0) ++ be 4 x.corrected.toNat ++ be 4 x.rejected.toNat

/-- CIM_RECORD of a fitted quad (04 Table 4.14). -/
def cimRecord (x : Quad) : Bytes :=
  ((List.range 8).map fun k =>
    let a := x.array k
    be 1 (cimCode a.st) ++ be 1 a.mode.toNat ++ be 2 a.rows ++ be 2 a.cols ++ be 1 a.failure.toNat ++ be 1 a.failAt.toNat ++ be 4 a.chi2.toNat ++ be 4 a.suspects.toNat).flatten

/-- STACK_TRAIN: a stack not fitted is absent (17 R638). -/
def stackTrainBytes (d : Dev) : Bytes := (List.range 12).map fun k => if k < stacksFitted d then (stackOf d k).st else 0

/-- SWEEP_STATE (17 Table 17.5). -/
def sweepBytes (w : Sweep) : Bytes := be 1 w.st.toNat ++ be 1 w.kind.toNat ++ be 2 w.unit.toNat ++ zeros 4 ++ tickBytes w.endAt

/-- CAL_CURVE of a quad (17 R640). -/
def curveBytes (d : Dev) (n : Nat) : Bytes :=
  match d.start.curves.find? fun c => decide (c.1 = n) with
  | some c => (c.2.map fun v => be 2 v.toNat).flatten
  | none => (List.replicate 10 (be 2 0xFFFF)).flatten

/-! ## Values by index -/

/-- Identity (00 Table 0.3). -/
def readIdentity (d : Dev) (sub : Nat) : Bytes :=
  match sub with
  | 0x02 => be 1 d.part.grade.toNat
  | 0x03 => be 1 (dies d)
  | 0x04 => be 2 (quadsFitted d)
  | 0x05 => be 1 (stacksFitted d)
  | 0x06 => be 8 (pagesFitted d * pageBytes)
  | 0x07 => be 1 (ioDies d)
  | 0x08 => be 1 (portsFitted d)
  | 0x09 => be 8 d.part.uniqueId.toNat
  | 0x0A => be 2 d.part.siliconStep.toNat
  | 0x0B => be 4 d.part.firmware.toNat
  | _ => legDefault 0x1000 sub

/-- SPLIT_LAST (R57): the last difference; one that does not fit an I32 reads as a free value (log 51). -/
def readSplitLast (v : Int) : Bytes := if -2 ^ 31 ≤ v ∧ v < 2 ^ 31 then signed 4 v else be 4 (Config.splitWide v).toNat

/-- Graticule (02 Table 2.8). -/
def readGrat (d : Dev) (sub : Nat) : Bytes :=
  let g := d.grat
  match sub with
  | 0x00 => tickBytes (now d)
  | 0x01 => be 1 (gratCode (gratReported d))
  | 0x02 => be 1 (sourceCode g.source)
  | 0x06 => be 2 g.holdoverElapsed
  | 0x07 => be 4 (tickLen d)
  | 0x08 => signed 2 g.slew
  | 0x09 => be 4 g.stepCount.toNat
  | 0x0A => be 4 g.dwellTicks.toNat
  | 0x0B => be 4 g.dsDelayNs.toNat
  | 0x0C => readSplitLast g.splitLast
  | 0x0E => tickBytes g.todStamp
  | 0x0F => fit 10 g.todValue
  | _ => legVal d 0x2000 sub

/-- Partition p (07 Table 7.6). -/
def readPartition (d : Dev) (p sub : Nat) : Bytes :=
  let x := d.partition p
  match sub with
  | 0x00 => be 1 (partCode x.st)
  | 0x02 => quadMapBytes x
  | 0x0B => be 1 (bit x.run)
  | 0x0F => be 4 x.recoveries.toNat
  | 0x10 => fit 64 x.lastRecovery
  | 0x11 => be 2 x.sheetCopy.length
  | 0x12 => be 4 x.stalls.toNat
  | _ => legVal d (0x3000 + p) sub

/-- Strip s (07 Table 7.7, 09 Table 9.7). -/
def readStrip (d : Dev) (s sub : Nat) : Bytes :=
  let x := d.strip s
  let t := d.stx s
  match sub with
  | 0x00 => be 1 (stripCode x.st)
  | 0x05 => be 8 x.present.toNat
  | 0x06 => be 8 x.beat
  | 0x07 => be 4 x.rseq.toNat
  | 0x08 => be 4 x.highSeq.toNat
  | 0x09 => be 8 x.turns.toNat
  | 0x0A => be 4 x.lateTurns.toNat
  | 0x0C => fit 64 x.abortStatus
  | 0x0D => sessionsBytes x
  | 0x0E => be 4 x.replaySuppressed.toNat
  | 0x0F => be 4 x.framesLost.toNat
  | 0x10 => be 8 x.ckptBeat
  | 0x11 => be 8 x.mirrorBeat
  | 0x28 => be 8 t.framesLanded.toNat
  | 0x29 => be 4 t.authFails.toNat
  | 0x2A => be 4 t.incomplete.toNat
  | 0x2B => be 4 t.policed.toNat
  | 0x2C => be 4 t.slipRepeats.toNat
  | 0x2D => be 4 t.slipDrops.toNat
  | 0x2E => be 4 t.stale.toNat
  | 0x2F => be 4 t.highFseq.toNat
  | 0x30 => be 1 t.slip.length
  | _ => legVal d (0x4000 + s) sub

/-- Gazetteer of partition p but GAZ_NEXT (06 Table 6.8). -/
def readGaz (d : Dev) (p sub : Nat) : Bytes :=
  let g := (d.partition p).gaz
  match sub with
  | 0x00 => be 4 g.page.toNat
  | 0x02 => be 2 (gazEpoch g).toNat
  | 0x03 => be 2 g.retired.toNat
  | _ => zeros 65536

/-- Bearings, device-wide (06 Table 6.9). -/
def readBearing (d : Dev) (sub : Nat) : Bytes :=
  let b := d.bearing
  match sub with
  | 0x04 => be 8 b.opened.toNat
  | 0x05 => be 8 b.inked.toNat
  | 0x06 => be 4 b.reruns.toNat
  | 0x07 => be 4 b.pauses.toNat
  | 0x08 => be 4 b.defaults.toNat
  | 0x09 => be 4 b.strays.toNat
  | 0x0A => be 4 b.malformed.toNat
  | _ => legVal d 0x4900 sub

/-- The PON terminal (08 Table 8.9). -/
def readPon (d : Dev) (sub : Nat) : Bytes :=
  let x := d.pon
  match sub with
  | 0x01 => be 1 (actCode x.act)
  | 0x02 => be 1 (syncCode x.sync)
  | 0x03 => be 2 x.onuId.toNat
  | 0x04 => fit 8 (serialNumber d)
  | 0x05 => be 4 x.eqdNs.toNat
  | 0x09 => be 4 x.attemptsFailed.toNat
  | 0x0F => be 8 x.fecCorrected.toNat
  | 0x10 => be 8 x.fecUncorrectable.toNat
  | 0x11 => be 4 x.hecErrors.toNat
  | 0x12 => be 4 x.ploamUnsupported.toNat
  | 0x13 => be 4 x.omciRefused.toNat
  | 0x14 => be 1 (bit x.sleepAllowed)
  | 0x16 => fit 10 x.optDiag
  | 0x17 => fit 6 x.optFlags
  | 0x18 => be 4 x.grantOverlaps.toNat
  | 0x19 => be 4 x.dsUndecryptable.toNat
  | _ => legVal d 0x5000 sub

/-- A partition's upstream entries (09 Table 9.8). -/
def readUpstream (d : Dev) (p sub : Nat) : Bytes :=
  let x := d.ptx p
  match sub with
  | 0x07 => be 4 (storeFree d p)
  | 0x08 => be 8 x.itemsSent.toNat
  | 0x09 => be 4 x.emitRefused.toNat
  | 0x0A => be 4 x.answersPoliced.toNat
  | _ => legVal d (0x5410 + p) sub

/-- PTP and wake (11 Table 11.5). -/
def readPtp (d : Dev) (sub : Nat) : Bytes :=
  let x := d.eth.ptp
  match sub with
  | 0x03 => be 1 (ptpCode x.st)
  | 0x04 => be 1 (ptpPort d)
  | 0x05 => fit 8 ((x.master.map (·.identity)).getD [])
  | 0x06 => be 4 (if -(2 ^ 31) ≤ x.offsetNs ∧ x.offsetNs < 2 ^ 31 then BitVec.ofInt 32 x.offsetNs else Config.ptpWide x.offsetNs).toNat
  | 0x07 => be 4 (if 0 ≤ x.meanDelayNs ∧ x.meanDelayNs < 2 ^ 32 then BitVec.ofInt 32 x.meanDelayNs else Config.ptpWide x.meanDelayNs).toNat
  | 0x08 => be 1 d.eth.wakeCause.toNat
  | 0x09 => tickBytes d.eth.wakeStamp
  | _ => legVal d 0x5800 sub

/-- Ethernet port n (11 Table 11.4). -/
def readEthPort (d : Dev) (n sub : Nat) : Bytes :=
  let x := d.ethPort n
  match sub with
  | 0x00 => be 6 (portMac d n).toNat
  | 0x01 => be 1 (bit x.link)
  | 0x02 => be 4 x.speedMbps.toNat
  | 0x10 => be 8 x.rxFrames.toNat
  | 0x11 => be 8 x.txFrames.toNat
  | 0x12 => fit 28 ((x.discards.map fun c => be 4 c.toNat).flatten)
  | _ => legVal d (0x5810 + n) sub

/-- The atlas (10 Table 10.7). -/
def readAtlas (d : Dev) (sub : Nat) : Bytes :=
  let a := d.aksia
  match sub with
  | 0x07 => be 8 ((a.best.map (·.uid.toNat)).getD 0)
  | 0x08 => be 2 ((a.best.map (·.device.toNat)).getD 0xFFFF)
  | 0x09 => be 1 ((a.best.map (·.hops)).getD 0)
  | 0x0A => be 1 (a.upstream.getD 0xFF)
  | 0x0D => be 4 a.dropped.toNat
  | 0x0E => be 4 a.unreachable.toNat
  | 0x11 => be 1 (diameter d)
  | _ => legVal d 0x6000 sub

/-- Key streaming (05 Table 5.10). -/
def readKeys (d : Dev) (sub : Nat) : Bytes :=
  let k := d.key
  match sub with
  | 0x01 => be 8 k.pagesLanded.toNat
  | 0x02 => be 4 k.pagesLate.toNat
  | 0x03 => be 4 k.rerequests.toNat
  | 0x04 => be 4 k.nacks.toNat
  | 0x06 => be 8 k.pagesServed.toNat
  | _ => legVal d 0x6080 sub

/-- A holder partition's watch (10 Table 10.7). -/
def readWatch (d : Dev) (p sub : Nat) : Bytes :=
  let w := watchOf d p
  match sub with
  | 0x00 => be 1 (watchCode w.st)
  | 0x01 => tickBytes w.takeoverAt
  | _ => be 4 w.takeovers.toNat

/-- Security (12 Table 12.8). -/
def readSec (f : Fuses) (d : Dev) (sub : Nat) : Bytes :=
  let x := d.sec
  match sub with
  | 0x00 => be 1 x.keyset.toNat
  | 0x01 => be 1 f.revoked.toNat
  | 0x02 => be 1 f.floor.toNat
  | 0x03 => be 1 x.imageVersion.toNat
  | 0x04 => be 4 x.microcode.toNat
  | 0x05 => fit 32 d.part.edPub
  | 0x06 => fit 1952 d.part.mlPub
  | 0x0C => be 1 (bit x.ezithOpen)
  | 0x0D => be 4 x.bootRejects.toNat
  | 0x0E => be 1 x.lastReject.toNat
  | _ => legVal d 0x7000 sub

/-- The cadastre (14 Table 14.8). -/
def readCad (d : Dev) (sub : Nat) : Bytes :=
  let c := d.cad
  let counts := allCounts d
  let sum := fun (g : Channel → Nat) => (c.channels.map fun x => g x.2).foldl (· + ·) 0
  let factory := sum fun x => (x.parcels.filter fun b => b.2.factory).length
  match sub with
  | 0x00 => be 1 (((channelsOn d).map fun n => 2 ^ n).foldl (· + ·) 0)
  | 0x01 => be 1 (sum (·.targets))
  | 0x02 => be 8 (capacity d)
  | 0x03 => be 8 (freeBytes d)
  | 0x06 => be 4 c.endurance.toNat
  | 0x07 => be 4 (((mostErased counts).map (·.2)).getD 0)
  | 0x08 => be 4 (((leastErased counts).map (·.2)).getD 0)
  | 0x0C => tickBytes c.patrolLast
  | 0x0D => be 8 c.corrected.toNat
  | 0x0E => be 4 c.retried.toNat
  | 0x0F => be 4 c.lost.toNat
  | 0x10 => be 4 factory
  | 0x11 => be 4 (sum badParcels - factory)
  | 0x12 => be 4 c.refreshes.toNat
  | 0x13 => be 4 c.relocations.toNat
  | 0x14 => be 4 c.unsafeStops.toNat
  | 0x15 => be 2 c.onfiMts.toNat
  | _ => legVal d 0x7800 sub

/-- The sentry (15 Table 15.8). -/
def readSentry (d : Dev) (sub : Nat) : Bytes :=
  let x := d.sentry
  match sub with
  | 0x00 => be 1 (sentryCode x.st)
  | 0x10 => be 4 x.vinMv
  | 0x11 => be 4 x.voutMv
  | 0x12 => be 8 x.energyUj.toNat
  | 0x13 => tickBytes x.energyStamp
  | 0x14 => be 4 x.meanMw.toNat
  | 0x15 => signed 4 x.iinMa
  | 0x16 => signed 4 x.tsns
  | 0x17 => signed 4 (junction x)
  | 0x18 => signed 4 x.margin
  | 0x19 => be 1 x.n
  | 0x1A => be 4 x.restarts.toNat
  | 0x1B => tripsBytes x.trips
  | 0x1C => be 2 (pinStatus x)
  | _ => legVal d 0x8000 sub

/-- Contour and dormant (15 Table 15.9). -/
def readContour (d : Dev) (sub : Nat) : Bytes :=
  let x := d.dormant
  match sub with
  | 0x06 => be 8 x.droops.toNat
  | 0x07 => be 2 (d.contours.filter fun c => c.2.guarded).length
  | 0x11 => be 1 (powerCode x.st)
  | 0x14 => be 1 x.refusal.toNat
  | 0x15 => fit 24 x.lastWake
  | _ => legVal d 0x8800 sub

/-- The fault summary (16 Table 16.6). -/
def readFaults (d : Dev) (sub : Nat) : Bytes :=
  let f := d.faults
  match sub with
  | 0x00 => be 2 ((f.first.map (·.toNat)).getD 0xFFFF)
  | 0x01 => tickBytes f.firstStamp
  | 0x02 => be 1 (bit f.overflow)
  | 0x03 => activeBytes d
  | 0x04 => be 1 (highestSet d)
  | 0x07 => be 4 f.injections.toNat
  | 0x08 => be 8 f.logSeq.toNat
  | _ => be 4 f.logDropped.toNat

/-- Source s (16 Table 16.7). -/
def readSource (d : Dev) (s sub : Nat) : Bytes :=
  let x := d.fault s
  match sub with
  | 0x02 => be 1 (statusByte d s)
  | 0x03 => be 4 x.count.toNat
  | 0x04 => tickBytes x.lastStamp
  | 0x05 => fit 32 x.lastData
  | _ => legVal d (0x9100 + s) sub

/-- Transactions and Ezith (13 Table 13.10). -/
def readEzith (d : Dev) (sub : Nat) : Bytes :=
  let x := d.ez
  match sub with
  | 0x05 => be 4 x.nextTxn.toNat
  | 0x06 => be 8 x.commits.toNat
  | 0x07 => be 4 x.conflicts.toNat
  | 0x08 => be 4 x.rollbacks.toNat
  | 0x0A => be 4 x.authFails.toNat
  | 0x0B => be 4 x.staleRequests.toNat
  | _ => legVal d 0xA000 sub

/-- Start-up (17 Table 17.5). -/
def readStart (d : Dev) (sub : Nat) : Bytes :=
  let x := d.start
  match sub with
  | 0x00 => be 1 (stageCode x.stage)
  | 0x01 => ((List.range 8).map fun k => be 8 (tabGet 0 x.times k)).flatten
  | 0x02 => be 1 x.bootArea.toNat
  | 0x03 => be 1 x.bootNext.toNat
  | 0x04 => be 4 x.bootRounds.toNat
  | 0x05 => fit 8 x.startupResult
  | 0x06 => stackTrainBytes d
  | _ => legVal d 0xF000 sub

/-- The quad pool (07 Table 7.8). -/
def readPool (d : Dev) (sub : Nat) : Bytes :=
  match sub with
  | 0x01 => be 1 (sparesFree d).length
  | 0x05 => be 2 (pagesFree d).length
  | 0x06 => be 2 (4096 - (contextsUsed d).length)
  | 0x07 => be 2 (256 - (d.strips.filter fun x => decide (x.2.st ≠ .free)).length)
  | _ => legVal d 0xF011 sub

/-- CIM checks (04 Table 4.13). -/
def readCim (d : Dev) (sub : Nat) : Bytes :=
  let c := d.cim
  match sub with
  | 0x04 => be 8 c.benchPasses.toNat
  | 0x05 => be 4 c.benchFails.toNat
  | 0x06 => be 4 c.benchMissed.toNat
  | 0x07 => be 8 c.surveyWindows.toNat
  | 0x08 => be 4 c.surveySuspect.toNat
  | 0x09 => be 4 c.benchSkipped.toNat
  | _ => legVal d 0xF020 sub

/-- The value in force of an entry but GAZ_NEXT. -/
def entryValue (f : Fuses) (d : Dev) (idx sub : Nat) : Bytes :=
  if idx = 0x1000 then readIdentity d sub
  else if idx = 0x2000 then readGrat d sub
  else if 0x3000 ≤ idx ∧ idx < 0x3040 then readPartition d (idx - 0x3000) sub
  else if 0x4000 ≤ idx ∧ idx < 0x4100 then readStrip d (idx - 0x4000) sub
  else if 0x4810 ≤ idx ∧ idx < 0x4850 then readGaz d (idx - 0x4810) sub
  else if idx = 0x4900 then readBearing d sub
  else if 0x4980 ≤ idx ∧ idx < 0x49C0 then entryBytes (entryAt d (idx - 0x4980) sub)
  else if idx = 0x5000 then readPon d sub
  else if idx = 0x5010 then allocBytes d sub
  else if 0x5410 ≤ idx ∧ idx < 0x5450 then readUpstream d (idx - 0x5410) sub
  else if 0x5450 ≤ idx ∧ idx < 0x5460 ∧ sub = 0x03 then be 4 (shaperOf d (idx - 0x5450)).tokens
  else if idx = 0x5800 then readPtp d sub
  else if 0x5810 ≤ idx ∧ idx < 0x5813 then readEthPort d (idx - 0x5810) sub
  else if idx = 0x5820 ∧ sub = 0x06 then be 4 d.eth.mgmt.speedChanges.toNat
  else if idx = 0x6000 then readAtlas d sub
  else if idx = 0x6010 then (if sub < portsFitted d then aksPortBytes d (d.port sub) else zeros 32)
  else if idx = 0x6080 then readKeys d sub
  else if idx = 0x6082 then vaultKeyBytes (vaultKeyOf d sub)
  else if 0x6140 ≤ idx ∧ idx < 0x6180 then readWatch d (idx - 0x6140) sub
  else if idx = 0x7000 then readSec f d sub
  else if idx = 0x7010 then slotBytes d sub
  else if idx = 0x7020 then jobBytes (d.job sub)
  else if idx = 0x7800 then readCad d sub
  else if idx = 0x7811 then portDataRead d sub
  else if idx = 0x7812 then be 8 (d.objPort sub).pos
  else if idx = 0x7813 then portStateBytes (d.objPort sub)
  else if idx = 0x7820 then (if sub = 0 then be 8 d.cad.dirCursor.toNat else dirEntryBytes d)
  else if idx = 0x7830 then channelBytes (channelOf d sub)
  else if idx = 0x8000 then readSentry d sub
  else if idx = 0x8800 then readContour d sub
  else if idx = 0x8810 then (if sub < quadsFitted d then contourBytes (d.contour sub) else zeros 24)
  else if idx = 0x9000 then readFaults d sub
  else if 0x9100 ≤ idx ∧ idx < 0x9200 then readSource d (idx - 0x9100) sub
  else if idx = 0xA000 then readEzith d sub
  else if idx = 0xA010 then txnBytes (d.txn sub)
  else if idx = 0xA030 then subscriberBytes (d.sub sub)
  else if idx = 0xF000 then readStart d sub
  else if idx = 0xF010 then (if sub < quadsFitted d then quadRecord d sub else zeros 24)
  else if idx = 0xF011 then readPool d sub
  else if idx = 0xF020 then readCim d sub
  else if idx = 0xF021 then (if sub < quadsFitted d then cimRecord (d.quad sub) else zeros 128)
  else if idx = 0xF030 then (if sub = 0x02 then sweepBytes d.start.sweep else d.start.sweep.result)
  else if idx = 0xF040 then (if sub < quadsFitted d then curveBytes d sub else (List.replicate 10 (be 2 0xFFFF)).flatten)
  else legVal d idx sub

/-- The slot in force of a partition's gazetteer; a tagged page reads as zero (06 Table 6.8, R235). -/
def gazImage (d : Dev) (p : Nat) : Bytes × Dev :=
  let g := (d.partition p).gaz
  if g.page = 0xFFFFFFFF ∨ pageTag d p g.page.toNat ≠ 0 then (zeros 65536, d)
  else pageBytesOf d p g.page.toNat (0x10000 * (1 + g.current.toNat)) 65536

/-- The value in force of an entry, and the device after its read. -/
def readEntry (f : Fuses) (d : Dev) (idx sub : Nat) : Bytes × Dev :=
  if 0x4810 ≤ idx ∧ idx < 0x4850 ∧ sub = 0x01 then gazImage d (idx - 0x4810) else (entryValue f d idx sub, d)

/-- The row of an entry that exists on the device (13 R503, 16 R611). -/
def entryRow (idx sub : Nat) : Option LegRow :=
  if 0x9100 ≤ idx ∧ idx < 0x9200 ∧ (defaultSeverity (idx - 0x9100)).isNone then none else legRow idx sub

end Sys2Proof.Machine
end

