-- ==== Sys2Proof/Machine/Registers.lean ====
section
/-! DEFINITION. Writing the Legend: the checks of a write and what a write that takes effect does (13 R505 to R509, R519,
R520, R524 and the rules of the chapters that own the entries). -/

namespace Sys2Proof.Machine

/-! ## Statuses (13 Table 13.6) -/

/-- The status of an operation. -/
inductive Status where
  | ok | noEntry | access | range | notOwner | noTxn | txnFull | tooLate | conflict | abortLate | dormant | tooBig | skipped | pending
  deriving DecidableEq, Repr

/-- Its code. -/
def Status.code : Status → Nat
  | .ok => 0
  | .noEntry => 1
  | .access => 2
  | .range => 3
  | .notOwner => 4
  | .noTxn => 5
  | .txnFull => 6
  | .tooLate => 7
  | .conflict => 8
  | .abortLate => 9
  | .dormant => 10
  | .tooBig => 11
  | .skipped => 12
  | .pending => 13

/-! ## Access (R507, Table 13.2) -/

/-- The class allows a read. -/
def mayRead (a : LegAcc) : Bool := decide (a ≠ .wo)

/-- The class allows a direct write. -/
def mayWrite (a : LegAcc) : Bool := decide (a = .rw) || decide (a = .wo)

/-- The class allows a write in a transaction. -/
def mayStage (a : LegAcc) : Bool := decide (a = .rw) || decide (a = .rws) || decide (a = .wo)

/-! ## Length and range of a write (R505, R506, R508) -/

/-- The whole value after a write of `data` at `off` over the value `old`; none where the write's length is wrong. -/
def patched (ty : LegTy) (setLength : Bool) (off : Nat) (data old : Bytes) : Option Bytes :=
  match ty with
  | .block n fixed =>
    if n < off + data.length then none
    else if ¬ setLength then some (patch off data old)
    else if fixed ∧ off + data.length ≠ n then none
    else some ((patch off data old).take (off + data.length))
  | t => if off = 0 ∧ data.length = t.size then some data else none

/-- A numeric value lies in a range its entry states, and a TICK is a stamp (02 R40). -/
def inRange (r : LegRow) (v : Bytes) : Bool :=
  (match r.ty with
  | .tick => decide (beVal v < 2 ^ 60)
  | _ => true) && (r.rng.isEmpty || r.rng.any fun x => decide (x.1 ≤ beVal v) && decide (beVal v ≤ x.2))

/-- Numbers of n octets of a value. -/
def numbers (n : Nat) (v : Bytes) : List Nat := (chunks n (v.length / n) v).map beVal

/-- A bearing point keeps Table 6.1 and names only what its partition owns, by the values in force (06 R219). Of an unused
point what the table gives a value, a limit or a multiple that does not turn on the point's KIND is judged; it names
nothing and its region may be empty (log 49). -/
def pointOk (d : Dev) (p : Nat) (v : Bytes) : Bool :=
  let f := fun off len => beAt off len v
  let kind := f 2 1
  let declared := numbers 1 (slice 36 (f 5 1) v)
  let shape :=
    if kind = 0 then decide (1 ≤ f 5 1) && decide (f 5 1 ≤ 4) && decide (f 6 1 ≤ 15) && decide (1 ≤ f 14 2) && decide (f 14 2 ≤ 256) && rising declared && declared.all (fun x => decide (x < f 14 2))
    else if kind = 1 then decide (f 5 1 = 0) && decide (f 6 1 = 0) && decide (1 ≤ f 14 2) && decide (f 36 2 ≤ f 14 2)
    else decide (kind = 2) && decide (f 5 1 = 0) && decide (f 6 1 = 0) && decide (f 14 2 = 0)
  decide (f 0 1 ≤ 1) && decide (kind ≤ 2) && decide (f 3 1 ≤ 1) && decide (f 4 1 ≤ 2) && decide (f 5 1 ≤ 4) && decide (f 6 1 ≤ 15) && decide (f 7 1 ≤ 3) &&
    decide (f 8 2 ≤ 639) && decide (f 10 2 ≤ 4095) && decide (f 16 4 % 4096 = 0) && decide (f 28 4 % 64 = 0) && decide (f 32 4 % 64 = 0) &&
    decide (f 28 4 + f 32 4 ≤ pageBytes) && allZero (slice 44 20 v) &&
    (decide (f 0 1 = 0) ||
      shape && decide (bankSpan (f 16 4) 4096 = some .act) && decide (64 ≤ f 32 4) && decide (stripNat d (f 1 1) 0x01 = p) && decide (f 12 2 < (d.partition p).quadMap.length) && decide (f 24 4 < partNat d p 0x03))

/-- A job record may be written with this value (12 R472); freeing takes no IN_LEN. -/
def jobOk (d : Dev) (n : Nat) (v : Bytes) : Bool :=
  jobWritable (d.job n) && (decide (beAt 0 1 v = 0) || (decide (1 ≤ beAt 4 4 v) && decide (beAt 4 4 v ≤ 10176)))

/-- The rules that the owning chapters state as an access error, a rejection or a range of a write (R508). `off` and
`data` are the write's own. -/
def ruleOk (f : Fuses) (d : Dev) (idx sub off : Nat) (data v : Bytes) : Bool :=
  let n := beVal v
  if 0x4000 ≤ idx ∧ idx < 0x4100 ∧ sub = 0x25 then decide (n % 64 = 0)
  else if 0x4940 ≤ idx ∧ idx < 0x4980 then pointOk d (idx - 0x4940) v
  else if idx = 0x7000 ∧ sub = 0x07 then raiseFloorOk f d (BitVec.ofNat 8 n)
  else if idx = 0x7000 ∧ sub = 0x08 then revokeOk d (BitVec.ofNat 8 n)
  else if idx = 0x7020 then jobOk d sub v
  else if idx = 0x7810 then portControlOk d sub v
  else if idx = 0x7811 then portDataOk d sub off data
  else if idx = 0x7812 then portPosOk d sub n
  else if idx = 0x8000 ∧ sub = 0x07 then decide (senNat d 0x02 < n)
  else if idx = 0x8000 ∧ sub = 0x0A then decide (senNat d 0x08 < n)
  else if idx = 0x8800 ∧ sub = 0x10 then decide (n = 0) || decide (dormantRefusal d = 0)
  else if idx = 0x9000 ∧ sub = 0x05 then clearOk n
  else if idx = 0x9000 ∧ sub = 0x06 then injectOk d v
  else if 0x9100 ≤ idx ∧ idx < 0x9200 ∧ sub = 0x00 then severityOk (idx - 0x9100) n
  else if idx = 0xF030 ∧ sub = 0x00 then sweepOk d v
  else true

/-- A write judged (R520 but for CONFLICT): its status and, when OK, the whole value it gives the entry. `old` is the value
a BLOCK write starts from. -/
def checkWrite (f : Fuses) (d : Dev) (staging : Bool) (idx sub : Nat) (setLength : Bool) (off : Nat) (data old : Bytes) : Status × Bytes :=
  match entryRow idx sub with
  | none => (.noEntry, [])
  | some r =>
    if ¬ (if staging then mayStage r.acc else mayWrite r.acc) then (.access, [])
    else match patched r.ty setLength off data old with
      | none => (.range, [])
      | some v => if inRange r v ∧ ruleOk f d idx sub off data v then (.ok, v) else (.range, [])

/-! ## Values with a home in the state -/

/-- The entry's write acts rather than stores: what it does is `act`. -/
def isAction (idx sub : Nat) : Bool :=
  decide (((entryRow idx sub).map (·.acc)) = some .wo) ||
    (decide (0x3000 ≤ idx) && decide (idx < 0x3040) && decide (sub = 0x0B)) || (decide (0x4810 ≤ idx) && decide (idx < 0x4850)) ||
    decide (idx = 0x6082) || decide (idx = 0x7020) || decide (idx = 0x7811) || decide (idx = 0x7812) ||
    (decide (idx = 0x5000) && decide (sub = 0x00)) || (decide (idx = 0x2000) && decide (sub = 0x10))

/-- A tick-atomic value stored. A checkpoint whose pages are moved is no longer held, and a holder given another peer drops
what it held for the former one. -/
def valuePut (d : Dev) (key : Nat) (v : Bytes) : Dev :=
  let idx := key / 256
  let sub := key % 256
  let p := idx - 0x3000
  if isAction idx sub then d
  else if idx = 0xF000 ∧ sub = 0x03 then d.updStart fun x => { x with bootNext := BitVec.ofNat 8 (beVal v) }
  else if idx = 0x7820 then updCad d fun c => { c with dirCursor := BitVec.ofNat 64 (beVal v) }
  else if 0x3000 ≤ idx ∧ idx < 0x3040 then
    if sub = 0x02 then updPart d p fun x => { x with quadMap := (numbers 2 v).map (BitVec.ofNat 16) }
    else
      let altered := decide (legVal d idx sub ≠ v)
      let d := legPut d idx sub v
      if altered ∧ (sub = 0x04 ∨ sub = 0x05 ∨ sub = 0x06) then updPart d p fun x => { x with ckpt0 := none, ckpt1 := none }
      else if altered ∧ sub = 0x13 then updWatch (updPart d p fun x => { x with mirrors := [] }) p fun w => { w with st := .idle, heardAt := 0, lastRunning := false }
      else d
  else legPut d idx sub v

/-! ## Stack pages (07 R259, R260; 09 R387) -/

/-- A holding of pages brought to n pages: pages given and pages taken back are zeroed. -/
def fitPages (d : Dev) (have_ : List Nat) (n : Nat) : List Nat × Dev :=
  if n ≤ have_.length then (have_.take n, (have_.drop n).foldl zeroPage d)
  else
    let new := (pagesFree d).take (n - have_.length)
    (have_ ++ new, new.foldl zeroPage d)

/-- The holding that an entry sizes: pages now and pages wanted. -/
def holding (d : Dev) (key : Nat) : Option (Nat × Nat) :=
  let idx := key / 256
  if 0x3000 ≤ idx ∧ idx < 0x3040 ∧ key % 256 = 0x03 then some ((d.partition (idx - 0x3000)).pages.length, partNat d (idx - 0x3000) 0x03)
  else if 0x5410 ≤ idx ∧ idx < 0x5450 ∧ key % 256 = 0x01 then some ((d.ptx (idx - 0x5410)).storePages.length, legNat d idx 0x01)
  else none

/-- An entry's holding grown or shrunk to its value. -/
def sizePages (grow : Bool) (d : Dev) (key : Nat) : Dev :=
  let idx := key / 256
  match holding d key with
  | none => d
  | some (now_, want) =>
    if decide (now_ < want) ≠ grow then d
    else if idx < 0x4000 then
      let p := idx - 0x3000
      let r := fitPages d (d.partition p).pages want
      updPart r.2 p fun x => { x with pages := r.1 }
    else
      let p := idx - 0x5410
      let r := fitPages d (d.ptx p).storePages want
      r.2.setPtx p { r.2.ptx p with storePages := r.1 }

/-- Pages that writes ask for beyond those they give back, against the free pool; `d` holds the values written. -/
def pagesLack (d : Dev) (keys : List Nat) : Bool :=
  let h := keys.filterMap (holding d)
  decide ((pagesFree d).length + (h.map fun x => x.1 - x.2).foldl (· + ·) 0 < (h.map fun x => x.2 - x.1).foldl (· + ·) 0)

/-- What the partitions hold follows the values written: pages first given back and then taken, FREE and STOPPED, and the
spares. -/
def resources (d : Dev) (keys : List Nat) : Dev :=
  let d := keys.foldl (sizePages false) d
  let d := keys.foldl (sizePages true) d
  let d := keys.foldl (fun d k => if 0x3000 ≤ k / 256 ∧ k / 256 < 0x3040 ∧ (k % 256 = 0x02 ∨ k % 256 = 0x03) then settleFree d (k / 256 - 0x3000) else d) d
  if keys.any fun k => decide (k = legKey 0xF011 0x00) || (decide (0x3000 ≤ k / 256) && decide (k / 256 < 0x3040) && decide (k % 256 = 0x02)) then retryWaiting (syncSpares d) else d

/-! ## What follows from a value (the rules of the chapters) -/

/-- A report on both local ports for a group a binding joins or leaves (09 R407). -/
def reportGroup (d : Dev) (record : Nat) (b : Bytes) : Dev :=
  if ethMode d ∧ (beAt 6 1 b = 1 ∨ beAt 6 1 b = 2) then
    [1, 2].foldl (fun d n => igmpReport d n record (BitVec.ofNat 32 (beAt 0 4 b))) d
  else d

/-- A shaper's tokens at a change of its RATE or BURST (09 R400): the refill of the present tick has been made. -/
def reshape (d : Dev) (h : Nat) : Dev :=
  let mode := legNat d (0x5450 + h) 0x02
  let put := fun (n : Nat) => { d with sched := { d.sched with shapers := tabSet {} d.sched.shapers h { tokens := n } } }
  if mode = 1 then put (legNat d (0x5450 + h) 0x01) else if mode = 2 then put 0 else d

/-- What a stored value brings about; `d0` is the device before the writes. -/
def follow (d0 d : Dev) (key : Nat) : Dev :=
  let idx := key / 256
  let sub := key % 256
  if 0x4000 ≤ idx ∧ idx < 0x4100 ∧ sub = 0x26 then trimSlip d (idx - 0x4000) (stripNat d (idx - 0x4000) 0x26) 16
  else if 0x4000 ≤ idx ∧ idx < 0x4100 ∧ sub = 0x27 then updStx d (idx - 0x4000) fun x => { x with tokens := min x.tokens (stripNat d (idx - 0x4000) 0x27) }
  else if idx = 0x5000 ∧ sub = 0x07 then (if legVal d0 idx sub = legVal d idx sub then d else refreshDelay d)
  else if 0x5450 ≤ idx ∧ idx < 0x5460 ∧ sub ≤ 0x01 then (if legVal d0 idx sub = legVal d idx sub then d else reshape d (idx - 0x5450))
  else if idx = 0x5460 ∨ idx = 0x5461 then
    let old := legVal d0 idx sub
    let new := legVal d idx sub
    let gone := decide (slice 0 4 old ≠ slice 0 4 new) || decide (beAt 6 1 new ≠ 1 ∧ beAt 6 1 new ≠ 2)
    reportGroup (if gone then reportGroup d 3 old else d) 4 new
  else if idx = 0x5800 ∧ sub = 0x00 then ptpRefresh d
  else if idx = 0x5820 ∧ sub = 0x00 then restartMgmt d
  else if idx = 0x5820 ∧ sub = 0x03 then fullSpeed d
  else if idx = 0x6000 ∧ sub ≤ 0x04 then refreshPorts d true
  else if idx = 0x6000 ∧ sub = 0x0B then refreshPorts d false
  else if 0x3000 ≤ idx ∧ idx < 0x3040 ∧ sub = 0x08 then grantPeers d (idx - 0x3000)
  else if 0x6100 ≤ idx ∧ idx < 0x6140 ∧ sub = 0x00 then grantPeers d (idx - 0x6100)
  else if idx = 0x7800 ∧ sub = 0x04 then spaceCheck d
  else if idx = 0x8800 ∧ sub = 0x01 then refreshContours d
  else d

/-! ## Actions -/

/-- A job record written (12 R472). -/
def writeJob (d : Dev) (n : Nat) (v : Bytes) : Dev :=
  if beAt 0 1 v = 0 then freeJob d n else submitJob d n (beAt 0 1 v) (slice 64 (beAt 4 4 v) v)

/-- GAZ_NEXT in a partition that has a gazetteer page (06 R252). -/
def writeGazNext (d : Dev) (p : Nat) (image : Bytes) : Dev :=
  if (d.partition p).gaz.page = 0xFFFFFFFF then d else putGazNext d p image

/-- A sweep command: one that may start (17 R645). -/
def writeSweep (d : Dev) (c : Bytes) : Dev := if sweepOk d c then startSweep d c else d

/-- An action's write takes effect. A rule of R508 that no longer holds at a commit makes the action do nothing. -/
def act (r : Fuses × Dev) (key : Nat) (v : Bytes) : Fuses × Dev :=
  let f := r.1
  let d := r.2
  let idx := key / 256
  let sub := key % 256
  let n := beVal v
  if ¬ isAction idx sub then r
  else if idx = 0x7000 ∧ sub = 0x07 then (burnFloor f d (BitVec.ofNat 8 n), d)
  else if idx = 0x7000 ∧ sub = 0x08 then (burnRevoke f d (BitVec.ofNat 8 n), d)
  else (f,
    if 0x3000 ≤ idx ∧ idx < 0x3040 then
      if sub = 0x0B then putRun d (idx - 0x3000) (decide (n = 1)) else if n = 1 then putHandover d (idx - 0x3000) else d
    else if 0x4000 ≤ idx ∧ idx < 0x4100 then abortStrip d (idx - 0x4000) (BitVec.ofNat 64 n)
    else if 0x4810 ≤ idx ∧ idx < 0x4850 then (if sub = 0x00 then setGazPage d (idx - 0x4810) (BitVec.ofNat 32 n) else writeGazNext d (idx - 0x4810) v)
    else if idx = 0x5000 then setFlavour d v
    else if idx = 0x2000 then setEpoch d v
    else if idx = 0x6082 then writeVaultKey d sub v
    else if idx = 0x7000 then (if sub = 0x0A then (if n < 128 then eraseSlot d n else d) else if n < 16 then abortJob d n else d)
    else if idx = 0x7020 then writeJob d sub v
    else if idx = 0x7810 then (if portControlOk d sub v then portControl f d sub v else d)
    else if idx = 0x7811 then (if portDataOk d sub 0 v ∧ bufferRoom d sub v.length then portDataWrite d sub v else d)
    else if idx = 0x7812 then (if portPosOk d sub n then updObjPort d sub fun x => { x with pos := n } else d)
    else if idx = 0x8800 then (if n = 1 then dormantWrite d else d)
    else if idx = 0x9000 then (if sub = 0x05 then clearWrite d n else if injectOk d v then injectWrite d v else d)
    else if idx = 0xF030 then (if sub = 0x00 then writeSweep d v else if n = 1 then abortSweep d else d)
    else d)

/-! ## Writes that take effect -/

/-- Tick-atomic writes take effect as one change (R528): values, the resources they size, what follows from them, and then
the actions in order. Every write counts (R524). -/
def applyWrites (r : Fuses × Dev) (ws : List (Nat × Bytes)) : Fuses × Dev :=
  let keys := ws.map (·.1)
  let d := keys.foldl bumpChange r.2
  let d := resources (ws.foldl (fun d w => valuePut d w.1 w.2) d) keys
  let d := keys.foldl (follow r.2) d
  ws.foldl (fun x w => act x w.1 w.2) (r.1, d)

/-- The entry is locked by a transaction other than record `but` (R528). -/
def locked (d : Dev) (but : Option Nat) (key : Nat) : Bool :=
  (List.range 16).any fun r =>
    let t := d.txn r
    decide (some r ≠ but) && (decide (t.st = .committing) || decide (t.st = .rollingBack)) && t.staged.any fun x => decide (x.key = key)

/-- The write buffer of an object port lacks room: its PORT_DATA is locked (14 R553). -/
def bufferLocked (d : Dev) (idx sub : Nat) (data : Bytes) : Bool := decide (idx = 0x7811) && !bufferRoom d sub data.length

/-- A refused write of DORMANT_ENTER leaves its reason (15 R605). -/
def noteRefusal (d : Dev) (idx sub : Nat) (data : Bytes) : Dev :=
  if idx = 0x8800 ∧ sub = 0x10 ∧ data = [1] ∧ dormantRefusal d ≠ 0 then dormantWrite d else d

/-- A direct write: its status and the machine after it (R520). -/
def directWrite (r : Fuses × Dev) (idx sub : Nat) (setLength : Bool) (off : Nat) (data : Bytes) : Status × Fuses × Dev :=
  let old := readEntry r.1 r.2 idx sub
  match checkWrite r.1 r.2 false idx sub setLength off data old.1 with
  | (.ok, v) =>
    if locked r.2 none (legKey idx sub) ∨ bufferLocked r.2 idx sub data then (.conflict, r)
    else (.ok, applyWrites (r.1, old.2) [(legKey idx sub, if idx = 0x7811 then data else v)])
  | (.range, _) => (.range, r.1, noteRefusal r.2 idx sub data)
  | (st, _) => (st, r)

/-- Ezith executes what is not a READ: from the end of CONFIG, outside dormant (13 R518, 17 R644). -/
def ezithExecutes (d : Dev) : Bool :=
  decide (d.dormant.st = .running) && match d.start.stage with
  | .sync | .ready => true
  | _ => false

/-- A row of the table that is a direct write. -/
def writeRow (e idx sub : Nat) (data : Bytes) (s : State) : Res :=
  let d := s.dev.at e
  let r := if ezithExecutes d then (directWrite (s.fuses, d) idx sub false 0 data).2 else (s.fuses, d)
  .next { s with fuses := r.1, dev := r.2 }

end Sys2Proof.Machine
end

