-- ==== Sys2Proof/Machine/Judge.lean ====
section
/-! DEFINITION. The judgement of a commit: the rules that the chapters state as a failure of the commit or a conflict, over a
transaction's writes taken together with the device's state (13 R527, R532). -/

namespace Sys2Proof.Machine

/-! ## Partitions (07) -/

/-- Entries that change only while their partition is FREE or STOPPED (R262). -/
def fixedWhileRunning (sub : Nat) : Bool :=
  (decide (1 ≤ sub) && decide (sub ≤ 7)) || decide (sub = 0x0A) || decide (sub = 0x13) || decide (sub = 0x14)

/-- QUAD_MAP names a quad it may not (R258): `d` before the writes, `a` after them. -/
def quadMapConflict (d a : Dev) (p : Nat) (v : Bytes) : Bool :=
  let qs := numbers 2 v
  let elsewhere := fun q => (a.parts.any fun x => decide (x.1 ≠ p) && decide (BitVec.ofNat 16 q ∈ x.2.quadMap))
  decide (qs.dedup.length ≠ qs.length) ||
    qs.any fun q => decide (quadsFitted d ≤ q) || decide ((d.quad q).st = .failed) || elsewhere q ||
      (decide (q ∈ sparesListed a) && decide (BitVec.ofNat 16 q ∉ (d.partition p).quadMap))

/-- The state and checkpoint pages do not fit (R263). -/
def pagesConflict (a : Dev) (p : Nat) : Bool :=
  let count := partNat a p 0x05
  let own := partNat a p 0x03
  decide (64 < count) || (decide (0 < count) && (decide (own < partNat a p 0x04 + count) || decide (own < partNat a p 0x06 + 2 * count)))

/-- PEERS of partition p names partition t of this device. -/
def namesLocally (a : Dev) (p t : Nat) : Bool :=
  (chunks 4 8 (legVal a (0x3000 + p) 0x08)).any fun x => decide (beAt 0 2 x ≠ 0xFFFF) && decide (beAt 0 2 x = deviceNumber a) && decide (beAt 2 1 x = t)

/-- Two partitions of this device whose tenants differ (R272). -/
def peersConflict (a : Dev) (p t : Nat) : Bool := namesLocally a p t && decide (tenant a p ≠ tenant a t)

/-- A rule of partition p's entries is broken. -/
def partitionConflict (d a : Dev) (p sub : Nat) (v : Bytes) : Bool :=
  let st := (d.partition p).st
  (fixedWhileRunning sub && decide (st ≠ .free) && decide (st ≠ .stopped)) ||
    (decide (sub = 0x02) && quadMapConflict d a p v) ||
    ((decide (3 ≤ sub) && decide (sub ≤ 6)) && pagesConflict a p) ||
    (decide (sub = 0x08) && (List.range 64).any (peersConflict a p)) ||
    (decide (sub = 0x01) && (List.range 64).any fun t => peersConflict a p t || peersConflict a t p) ||
    (decide (sub = 0x0A) && !objectUsable a (beVal v) 2) ||
    (decide (sub = 0x0D) && decide (4096 < ((List.range 64).map fun t => partNat a t 0x0D).foldl (· + ·) 0))

/-- SPARES names a mapped or failed quad (R275). -/
def sparesConflict (a : Dev) (v : Bytes) : Bool :=
  (numbers 2 v).any fun q => decide (q ≠ 0xFFFF) && ((quadOwner a q).isSome || decide ((a.quad q).st = .failed))

/-! ## Strips (09 R410; 13 R532) -/

/-- A rule of strip s's entries is broken. -/
def stripConflict (d a : Dev) (s sub : Nat) (v : Bytes) : Bool :=
  let busy := decide ((d.strip s).st ≠ .free)
  let own := partNat a (beVal v) 0x03
  ((decide (sub = 0x20) || decide (sub = 0x23) || decide (sub = 0x24) || decide (sub = 0x25)) && busy) ||
    (decide (sub = 0x01) && decide (beVal v ≠ 0xFF) && (busy || decide (own ≤ stripNat a s 0x23 + 15) || decide (own ≤ stripNat a s 0x24)))

/-! ## Bindings (08 R341; 09 R391, R406) -/

/-- A PON binding repeats a Port-ID or a KIND 4, names no partition, or gives an UP binding another class. -/
def ponConflict (a : Dev) (key : Nat) (v : Bytes) : Bool :=
  let n := key - legKey 0x5020 0
  let others := (ponBindings a).filter fun b => decide (b.1 ≠ n) && decide (beAt 2 1 b.2 ≠ 0)
  let kind := beAt 2 1 v
  decide (kind ≠ 0) &&
    (others.any (fun b => decide (beAt 0 2 b.2 = beAt 0 2 v)) || (decide (kind = 4) && others.any fun b => decide (beAt 2 1 b.2 = 4)) ||
      ((decide (kind = 3) || decide (kind = 5)) && decide (64 ≤ beAt 3 1 v)) || (decide (kind = 5) && decide (beAt 4 1 v ≠ 0) && decide (beAt 4 1 v ≠ 2)))

/-- A downstream UDP binding. -/
def downstream (b : Bytes) : Bool := decide (1 ≤ beAt 6 1 b) && decide (beAt 6 1 b ≤ 3)

/-- A UDP binding repeats a downstream address and port, or gives an UP binding another class. -/
def udpConflict (a : Dev) (key : Nat) (v : Bytes) : Bool :=
  let n := key - legKey 0x5460 0
  (downstream v && (udpBindings a).any fun b => decide (b.1 ≠ n) && downstream b.2 && decide (slice 0 6 b.2 = slice 0 6 v)) ||
    (decide (beAt 6 1 v = 5) && decide (beAt 8 1 v ≠ 0) && decide (beAt 8 1 v ≠ 2))

/-! ## Shapers (09 R399) -/

/-- A shaper's BURST is too small for a segment. -/
def burstConflict (a : Dev) (h : Nat) : Bool :=
  let burst := legNat a (0x5450 + h) 0x01
  decide (burst < legNat a 0x5400 0x00 + 16) || decide (burst < legNat a 0x5400 0x01 + 16)

/-! ## The judgement (R527) -/

/-- A rule states that this write fails the commit or is a conflict, RUN and the pages apart. -/
def ruleBroken (d a : Dev) (key : Nat) (v : Bytes) : Bool :=
  let idx := key / 256
  let sub := key % 256
  if 0x3000 ≤ idx ∧ idx < 0x3040 then partitionConflict d a (idx - 0x3000) sub v
  else if 0x4000 ≤ idx ∧ idx < 0x4100 then stripConflict d a (idx - 0x4000) sub v
  else if 0x4810 ≤ idx ∧ idx < 0x4850 then decide (sub = 0x01) && (d.partition (idx - 0x4810)).gaz.unretired
  else if idx = 0x5020 ∨ idx = 0x5021 then ponConflict a key v
  else if idx = 0x5460 ∨ idx = 0x5461 then udpConflict a key v
  else if 0x5450 ≤ idx ∧ idx < 0x5460 then decide (sub = 0x01) && burstConflict a (idx - 0x5450)
  else if idx = 0x5400 then decide (sub ≤ 0x01) && (List.range 16).any (burstConflict a)
  else if idx = 0x6082 then !objectUsable a (beAt 8 8 v) 4
  else if 0x6100 ≤ idx ∧ idx < 0x6140 then decide (sub = 0x01) && decide (256 < ((List.range 64).map fun p => legNat a (0x6100 + p) 0x01).foldl (· + ·) 0)
  else if idx = 0x7020 then !jobWritable (d.job sub)
  else if idx = 0xF011 then sparesConflict a v
  else false

/-- The RUN = 1 writes that are in conflict, each judged after those before it (07 R265; 15 R610; 16 R618; 17 R644). -/
def runsBroken (a : Dev) (ws : List (Nat × Bytes)) : List Nat :=
  (ws.foldl (fun (r : List Nat × Dev) w =>
    let p := w.1 / 256 - 0x3000
    if 0x3000 ≤ w.1 / 256 ∧ w.1 / 256 < 0x3040 ∧ w.1 % 256 = 0x0B ∧ beVal w.2 = 1 then
      if r.2.dormant.st ≠ .running ∨ runConflict r.2 p then (w.1 :: r.1, r.2) else (r.1, putRun r.2 p true)
    else r) ([], a)).1

/-- The device after the values of the writes and the resources they size, and the keys that a rule fails. -/
def brokenKeys (d : Dev) (ws : List (Nat × Bytes)) : List Nat :=
  let keys := ws.map (·.1)
  let v := ws.foldl (fun d w => if isRolling w.1 then legPut d (w.1 / 256) (w.1 % 256) w.2 else valuePut d w.1 w.2) d
  let lack := pagesLack v keys
  let a := resources v keys
  let lacking := if lack then keys.filter fun k => (holding v k).any fun h => decide (h.1 < h.2) else []
  lacking ++ runsBroken a ws ++ ((ws.filter fun w => ruleBroken d a w.1 w.2).map (·.1))

/-- Reasons of a failed commit (Table 13.10, byte 51). -/
def reasonChanged : Byte := 1
/-- The entry is locked. -/
def reasonLocked : Byte := 2
/-- A rule fails it. -/
def reasonRule : Byte := 3

/-- The first staged entry for which the transaction of record r fails, with the reason (R527). -/
def judge (d : Dev) (r : Nat) : Option (Nat × Byte) :=
  let t := d.txn r
  let broken := brokenKeys d (t.staged.map fun x => (x.key, x.value))
  t.staged.findSome? fun x =>
    if locked d (some r) x.key then some (x.key, reasonLocked)
    else if tabGet 0 d.changes x.key ≠ x.count then some (x.key, reasonChanged)
    else if x.key ∈ broken then some (x.key, reasonRule)
    else none

end Sys2Proof.Machine
end

