-- ==== Sys2Proof/Machine/Txn.lean ====
section
/-! DEFINITION. Reads, writes and transactions: staging, commits, judgement and roll-back (13 R519 to R535; 17 R644). -/

namespace Sys2Proof.Machine

/-! ## Reads (R519) -/

/-- A READ of at most `room` octets: status, octets, and the device after it. -/
def readOp (f : Fuses) (d : Dev) (room idx sub off len : Nat) : Status × Bytes × Dev :=
  match entryRow idx sub with
  | none => (.noEntry, [], d)
  | some r =>
    if ¬ mayRead r.acc then (.access, [], d)
    else
      let v := readEntry f d idx sub
      if v.1.length < off ∨ v.1.length < off + len then (.range, [], v.2)
      else
        let data := if len = 0 then v.1.drop off else slice off len v.1
        if room < data.length then (.tooBig, [], v.2) else (.ok, data, v.2)

/-! ## Finding and keeping a transaction (R521, R522, R525) -/

/-- Who owns what a request begins: its slot, or 0xFF while EZITH_OPEN is 1 (R516). -/
def ownerOf (d : Dev) (slot : Byte) : Byte := if d.sec.ezithOpen then 0xFF else slot

/-- The record of a transaction number. -/
def txnRecord (d : Dev) (number : BitVec 32) : Option Nat :=
  if number = 0 then none else (List.range 16).find? fun r => decide ((d.txn r).st ≠ .free) && decide ((d.txn r).number = number)

/-- A transaction named by an operation of its owner in a state that allows it, or the status that refuses it. -/
def findTxn (d : Dev) (number : BitVec 32) (slot : Byte) (allows : TxnState → Bool) : Status ⊕ Nat :=
  match txnRecord d number with
  | none => .inl .noTxn
  | some r =>
    if (d.txn r).owner ≠ ownerOf d slot then .inl .notOwner
    else if allows (d.txn r).st then .inr r
    else .inl .noTxn

/-- An operation made in a transaction by its owner restarts its idle count (R525). -/
def touchTxn (d : Dev) (number : BitVec 32) (slot : Byte) : Dev :=
  match txnRecord d number with
  | some r => if (d.txn r).owner = ownerOf d slot then d.setTxn r { d.txn r with idle := 0 } else d
  | none => d

/-- The record a BEGIN takes (R521): a free one, else of those in a final state the one whose end is earliest. -/
def beginRecord (d : Dev) : Option Nat :=
  let final := fun r => decide ((d.txn r).st = .committed) || decide ((d.txn r).st = .rolledBack) || decide ((d.txn r).st = .failed)
  match (List.range 16).find? fun r => decide ((d.txn r).st = .free) with
  | some r => some r
  | none => ((List.range 16).filter final).foldl (fun best r => match best with
      | none => some r
      | some b => if stampOrdBefore (d.txn r).endAt (d.txn r).endOrd (d.txn b).endAt (d.txn b).endOrd then some r else some b) none

/-- BEGIN (R521): the number given. -/
def beginOp (d : Dev) (slot : Byte) : Status × BitVec 32 × Dev :=
  match beginRecord d with
  | none => (.txnFull, 0, d)
  | some r =>
    let number := d.ez.nextTxn
    let next := if number + 1 = 0 then 1 else number + 1
    let d := d.setTxn r { st := .open_, owner := ownerOf d slot, number := number, beginAt := now d }
    (.ok, number, { d with ez := { d.ez with nextTxn := next } })

/-! ## Writes (R520, R523) -/

/-- The staged value of an entry. -/
def stagedOf (t : Txn) (key : Nat) : Option Staged := t.staged.find? fun x => decide (x.key = key)

/-- An entry staged: its first staging records the change count, a later one replaces the value. -/
def stageEntry (d : Dev) (t : Txn) (key : Nat) (v : Bytes) : Txn :=
  match stagedOf t key with
  | some _ => { t with staged := t.staged.map fun x => if x.key = key then { x with value := v } else x }
  | none => { t with staged := t.staged ++ [{ key := key, value := v, count := tabGet 0 d.changes key }] }

/-- A WRITE staged in record r. -/
def stageWrite (x : Fuses × Dev) (r idx sub : Nat) (setLength : Bool) (off : Nat) (data : Bytes) : Status × Fuses × Dev :=
  let t := x.2.txn r
  let key := legKey idx sub
  let old := match stagedOf t key with
    | some s => (s.value, x.2)
    | none => readEntry x.1 x.2 idx sub
  match checkWrite x.1 old.2 true idx sub setLength off data old.1 with
  | (.ok, v) =>
    let t := stageEntry old.2 t key v
    if 256 < t.staged.length ∨ 131072 < stagedBytes t then (.txnFull, x.1, old.2)
    else (.ok, x.1, old.2.setTxn r t)
  | (.range, _) => (.range, x.1, noteRefusal x.2 idx sub data)
  | (st, _) => (st, x)

/-- A WRITE: direct with TXN 0, else staged. -/
def writeOp (x : Fuses × Dev) (slot : Byte) (number : BitVec 32) (idx sub : Nat) (setLength : Bool) (off : Nat) (data : Bytes) : Status × Fuses × Dev :=
  if number = 0 then directWrite x idx sub setLength off data
  else match findTxn x.2 number slot fun st => decide (st = .open_) with
    | .inl st => (st, x)
    | .inr r => stageWrite x r idx sub setLength off data

/-! ## Judgement and application (R527 to R531) -/

/-- A transaction that fails (R527). -/
def failTxn (d : Dev) (r key : Nat) (reason : Byte) : Dev :=
  let t := d.txn r
  let d := d.setTxn r { t with failIndex := BitVec.ofNat 16 (key / 256), failSub := BitVec.ofNat 8 key, reason := reason }
  let d := endTxn { d with ez := { d.ez with conflicts := d.ez.conflicts + 1 } } r .failed
  raise d { src := 0xF0, loc64 := t.number.toNat, txnRec := r }

/-- The values that a roll-back restores: those of the entries staged, but for WO ones (R534). -/
def valuesBefore (f : Fuses) (d : Dev) (staged : List Staged) : List (Nat × Bytes) × Dev :=
  staged.foldl (fun (acc : List (Nat × Bytes) × Dev) x =>
    if ((entryRow (x.key / 256) (x.key % 256)).map (·.acc)) = some .wo then acc
    else
      let v := readEntry f acc.2 (x.key / 256) (x.key % 256)
      (acc.1 ++ [(x.key, v.1)], v.2)) ([], d)

/-- The partition a rolling write of one partition or strip names, whatever its state. -/
def rollNames (d : Dev) (x : Staged) : Nat :=
  let idx := x.key / 256
  if idx < 0x4100 then (if beVal x.value = 0xFF then (d.strip (idx - 0x4000)).partition.toNat else beVal x.value) else idx - 0x4940

/-- A rolling entry at T:0: reads return its staged value, a strip is placed, and a partition that is FREE takes it at once
(R529, R530). -/
def rollStart (d : Dev) (x : Staged) : Dev :=
  let idx := x.key / 256
  let d := legPut (bumpChange d x.key) idx (x.key % 256) x.value
  if idx = 0x4900 then d
  else
    let p := rollNames d x
    if 64 ≤ p then d
    else if (d.partition p).st = .free then rollPut d p x.key x.value
    else if idx < 0x4100 ∧ beVal x.value ≠ 0xFF ∧ (d.strip (idx - 0x4000)).st = .free then placeStrip d (idx - 0x4000) p
    else d

/-- Blocked takeovers whose partition a commit has written are tried again (10 R444). -/
def retryTakeovers (d : Dev) (t : Txn) : Dev :=
  (List.range 64).foldl (fun d h =>
    if t.staged.any (fun x => decide (x.key / 256 = 0x3000 + h)) then retryHolder d h else d) d

/-- A partition applies at T:0 and not at a later opening: it opens no beats, or it has opened one at T:0 (R529). -/
def appliesAtOnce (d : Dev) (t0 : Stamp) (p : Nat) : Bool :=
  let x := d.partition p
  !partLive x || (x.begun && !before x.opening t0)

/-- A transaction applied at T:0. -/
def applyCommit (x : Fuses × Dev) (r : Nat) : Fuses × Dev :=
  let t := x.2.txn r
  let roll := rollingOf t
  let saved := if roll.isEmpty then ([], x.2) else valuesBefore x.1 x.2 t.staged
  let y := applyWrites (x.1, saved.2) ((t.staged.filter fun s => !isRolling s.key).map fun s => (s.key, s.value))
  let targets := ((roll.map (rollTargets y.2)).flatten).dedup
  let d := roll.foldl rollStart y.2
  let d := d.setTxn r { t with st := .committing, before := saved.1, n := 0, m := targets.length, todo := targets, applied := [] }
  let d := (targets.filter (appliesAtOnce d t.t0)).foldl (fun d p => applyTxn d r p) d
  (y.1, retryTakeovers (settleTxn d r) t)

/-- A pending transaction judged: it applies or fails. -/
def judgeTxn (x : Fuses × Dev) (r : Nat) : Fuses × Dev :=
  match judge x.2 r with
  | some (key, reason) => (x.1, failTxn x.2 r key reason)
  | none => applyCommit x r

/-- The transactions due, by commit tick and then in the order of their COMMITs. -/
def commitsDue (d : Dev) : List Nat :=
  let age := fun r => min (2 ^ 59) (now d - (d.txn r).t0).toNat
  sortBy (fun r => (2 ^ 59 - age r) * 2 ^ 64 + (d.txn r).commitOrder) ((List.range 16).filter fun r => decide ((d.txn r).st = .pending) && reached d (d.txn r).t0)

/-! ## Commit and roll-back (R526, R533 to R535; 17 R644) -/

/-- A transaction becomes PENDING for a stamp T:0. -/
def pendTxn (d : Dev) (r : Nat) (t0 : Stamp) : Dev :=
  let order := d.ez.commitOrder + 1
  let d := { d with ez := { d.ez with commitOrder := order } }
  d.setTxn r { d.txn r with st := .pending, t0 := t0, commitOrder := order }

/-- COMMIT before first lock: T 0 is judged and applied at once (17 R644). -/
def commitAtOnce (x : Fuses × Dev) (r tick : Nat) : Status × Fuses × Dev :=
  if tick ≠ 0 then (.tooLate, x)
  else
    let y := judgeTxn (x.1, pendTxn x.2 r (now x.2)) r
    (if (y.2.txn r).st = .failed then .conflict else .ok, y)

/-- COMMIT for tick T (R526). -/
def commitOp (x : Fuses × Dev) (slot : Byte) (number : BitVec 32) (tick : Nat) : Status × Fuses × Dev :=
  match findTxn x.2 number slot fun st => decide (st = .open_) with
  | .inl st => (st, x)
  | .inr r =>
    if ¬ x.2.grat.everLocked then commitAtOnce x r tick
    else
      let T := if tick = 0 then x.2.grat.tick + 1 else BitVec.ofNat 48 tick
      let ahead := (T - x.2.grat.tick).toNat
      if 2 ^ 48 ≤ tick ∨ ahead = 0 ∨ 2 ^ 23 < ahead then (.tooLate, x)
      else (.pending, x.1, pendTxn x.2 r (stampOf T 0))

/-- ROLLBACK. -/
def rollbackOp (d : Dev) (slot : Byte) (number : BitVec 32) : Status × Dev :=
  match findTxn d number slot fun _ => true with
  | .inl st => (st, d)
  | .inr r => match (d.txn r).st with
    | .open_ | .pending | .committing => (.ok, rollbackTxn d r)
    | .committed => (.abortLate, d)
    | _ => (.noTxn, d)

/-- A job record as its bytes give it; a record that was written was not queued, running or suspended. -/
def jobOfBytes (b : Bytes) : Job :=
  let st := if beAt 1 1 b = 4 then JobState.done else if beAt 1 1 b = 5 then .failed else if beAt 1 1 b = 6 then .aborted else if beAt 1 1 b = 7 then .abortLate else .free
  { op := BitVec.ofNat 8 (beAt 0 1 b), st := st, cls := BitVec.ofNat 8 (beAt 2 1 b), result := BitVec.ofNat 8 (beAt 3 1 b), inLen := beAt 4 4 b, outLen := beAt 8 4 b,
    submitted := BitVec.ofNat 60 (beAt 12 8 b), started := BitVec.ofNat 60 (beAt 20 8 b), ended := BitVec.ofNat 60 (beAt 28 8 b), input := slice 64 (beAt 4 4 b) b, output := slice 10240 (beAt 8 4 b) b }

/-- A job record's former contents, unless a job holds it (assumption log 43). -/
def revertJob (d : Dev) (n : Nat) (b : Bytes) : Dev :=
  if jobWritable (d.job n) then d.setJob n { jobOfBytes b with aborting := (d.job n).aborting } else d

/-- An action's old value restored (assumption log 43): a write to an object port stands, and the slots of a gazetteer change
places again. -/
def revertAct (x : Fuses × Dev) (w : Nat × Bytes) : Fuses × Dev :=
  let idx := w.1 / 256
  if idx = 0x7811 then x
  else if idx = 0x7020 then (x.1, revertJob x.2 (w.1 % 256) w.2)
  else if 0x4810 ≤ idx ∧ idx < 0x4850 ∧ w.1 % 256 = 0x01 then
    (x.1, updPart x.2 (idx - 0x4810) fun p => { p with gaz := { p.gaz with current := p.gaz.current + 1, unretired := false } })
  else act x w.1 w.2

/-- The tick-atomic writes of a transaction revert as one change (R534). -/
def revertAtomic (x : Fuses × Dev) (r : Nat) : Fuses × Dev :=
  let ws := ((x.2.txn r).before.filter fun w => !isRolling w.1)
  let keys := ws.map (·.1)
  let d := ws.foldl (fun d w => if (readEntry x.1 x.2 (w.1 / 256) (w.1 % 256)).1 = w.2 then d else bumpChange d w.1) x.2
  let d := resources (ws.foldl (fun d w => valuePut d w.1 w.2) d) keys
  let d := keys.foldl (follow x.2) d
  let y := (ws.filter fun w => isAction (w.1 / 256) (w.1 % 256)).foldl revertAct (x.1, d)
  (y.1, settleTxn (y.2.setTxn r { y.2.txn r with reverted := true }) r)

/-- The tick-atomic revert of a record is due: a tick edge has passed since the request. -/
def revertDue (d : Dev) (r : Nat) : Bool :=
  let t := d.txn r
  decide (t.st = .rollingBack) && !t.reverted && reached d (stampOf (stampTick t.rollAt + 1) 0)

/-! ## The rows -/

/-- The outcome of an operation that may burn fuses. -/
def opRow (s : State) (x : Fuses × Dev) : Res := .next { s with fuses := x.1, dev := x.2 }

/-- WRITE. -/
def execWrite (e : Nat) (slot : Byte) (txn : BitVec 32) (index : BitVec 16) (sub : Byte) (setLength : Bool) (offset : Nat) (data : Bytes) (s : State) : Res :=
  let d := s.dev.at e
  opRow s (if ezithExecutes d then (writeOp (s.fuses, touchTxn d txn slot) slot txn index.toNat sub.toNat setLength offset data).2 else (s.fuses, d))

/-- BEGIN. -/
def execBegin (e : Nat) (slot : Byte) (s : State) : Res :=
  let d := s.dev.at e
  .next (s.withDev (if ezithExecutes d then (beginOp d slot).2.2 else d))

/-- COMMIT. -/
def execCommit (e : Nat) (slot : Byte) (txn : BitVec 32) (tick : BitVec 64) (s : State) : Res :=
  let d := s.dev.at e
  opRow s (if ezithExecutes d then (commitOp (s.fuses, touchTxn d txn slot) slot txn tick.toNat).2 else (s.fuses, d))

/-- ROLLBACK. -/
def execRollback (e : Nat) (slot : Byte) (txn : BitVec 32) (s : State) : Res :=
  let d := s.dev.at e
  .next (s.withDev (if ezithExecutes d then (rollbackOp d slot txn).2 else d))

/-- A write of one entry of a holder is a commit of it: a blocked takeover is tried again (10 R443, log 46). -/
def retryWritten (idx : Nat) (x : Fuses × Dev) : Fuses × Dev :=
  if 0x3000 ≤ idx ∧ idx < 0x3040 then (x.1, retryHolder x.2 (idx - 0x3000)) else x

/-- A write of one entry without a behaviour of its own, checked, judged as a commit of it alone would be, and made. -/
def registerWrite (x : Fuses × Dev) (idx sub : Nat) (setLength : Bool) (off : Nat) (data : Bytes) : Fuses × Dev :=
  if isAction idx sub ∨ isRolling (legKey idx sub) then x
  else match checkWrite x.1 x.2 true idx sub setLength off data (readEntry x.1 x.2 idx sub).1 with
    | (.ok, v) => if locked x.2 none (legKey idx sub) ∨ brokenKeys x.2 [(legKey idx sub, v)] ≠ [] then x
      else retryWritten idx (applyWrites x [(legKey idx sub, v)])
    | _ => x

/-- REGISTER_WRITE. -/
def execRegisterWrite (e : Nat) (index : BitVec 16) (sub : Byte) (setLength : Bool) (offset : Nat) (data : Bytes) (s : State) : Res :=
  let d := s.dev.at e
  opRow s (if ezithExecutes d then registerWrite (s.fuses, d) index.toNat sub.toNat setLength offset data else (s.fuses, d))

/-- COMMIT_JUDGEMENT. -/
def execCommitJudgement (e : Nat) (s : State) : Res :=
  let d := s.dev.at e
  opRow s ((commitsDue d).foldl judgeTxn (s.fuses, d))

/-- ROLLBACK_REVERT. -/
def execRollbackRevert (e : Nat) (record : Nat) (s : State) : Res :=
  let d := s.dev.at e
  if record < 16 then opRow s (if revertDue d record then revertAtomic (s.fuses, d) record else (s.fuses, d)) else .fault .absentUnit

/-- TXN_IDLE_ROLLBACK (R525). -/
def idleRollback (d : Dev) (r : Nat) : Dev :=
  let t := d.txn r
  if t.st = .open_ ∧ legNat d 0xA000 0x04 ≤ t.idle then raise (discardTxn d r 4) { src := 0xF1, loc64 := t.number.toNat, txnRec := r } else d

/-- TXN_IDLE_ROLLBACK. -/
def execTxnIdleRollback (e : Nat) (record : Nat) (s : State) : Res := onUnit s (decide (record < 16)) (idleRollback (s.dev.at e) record)

end Sys2Proof.Machine
end

