-- ==== Sys2Proof/Machine/Ezith.lean ====
section
/-! DEFINITION. Ezith: messages checked, authenticated, judged for sequence and executed, replies, and events (13 R510 to
R519, R536 to R538, R666). -/

namespace Sys2Proof.Machine

/-! ## Messages (R510, R511) -/

/-- The longest message of a path (R510). -/
def ezLimit (d : Dev) : EzPath → Nat
  | .xgem => 1472
  | .mgmt _ _ => min 1472 (ethNat d 0 0x0A - 28)

/-- Bytes of padding to a multiple of 4. -/
def padLen (n : Nat) : Nat := (4 - n % 4) % 4

/-- A message sent on a path: an item of class 1, or a datagram from port 6620 of MGMT. -/
def sendEzith (d : Dev) (path : EzPath) (bytes : Bytes) : Dev :=
  match path with
  | .xgem =>
    let it : Item := { cls := .mgmt, partition := 0, strip := 0, entered := now d, seq := d.sched.nextSeq, frame := bytes, deadline := none, windowAt := 0, replay := false, entry := 0, sealed := none, placed := 0, fragment := [], fragHead := 0, passedOver := false }
    countEntry { d with sched := { d.sched with mgmt := d.sched.mgmt ++ [it] } }
  | .mgmt address port => sendIp d 0 .ezith address (ipv4 (portIp d 0) address 17 64 [] (udp (portIp d 0) address 6620 port.toNat bytes))

/-- A message of this device, with its tag; a zero tag without a key. -/
def ezMessage (d : Dev) (kind slot flags seq txn : Nat) (body : Bytes) (key : Option Bytes) : Bytes :=
  let m := be 2 0x5A45 ++ be 1 1 ++ be 1 kind ++ be 1 slot ++ be 1 flags ++ be 2 (48 + body.length) ++ be 4 seq ++ be 4 txn ++ tickBytes (now d) ++ be 8 d.part.uniqueId.toNat ++ body
  m ++ (match key with
    | some k => aesCmac k m
    | none => zeros 16)

/-! ## Taking a message (R666) -/

/-- The header is as step 1 of R666 asks. -/
def ezHeaderOk (d : Dev) (path : EzPath) (kind : Nat) (m : Bytes) : Bool :=
  decide (beAt 0 2 m = 0x5A45) && decide (beAt 2 1 m = 1) && decide (beAt 3 1 m = kind) && decide (beAt 6 2 m = m.length) && decide (48 ≤ m.length) &&
    decide (m.length ≤ ezLimit d path) && decide (beAt 5 1 m = 0) && decide (beAt 16 8 m = 0)

/-- How a message is accepted: the key that authenticated it, or EZITH_OPEN. -/
inductive EzAuth where
  | failed
  | open_
  | by_ (key : Bytes)
  deriving DecidableEq, Repr

/-- A message authenticated (R515, R516); a failure counts and is raised. -/
def ezAuth (d : Dev) (m : Bytes) : EzAuth × Dev :=
  let slot := beAt 4 1 m
  if d.sec.ezithOpen then (.open_, d)
  else
    let r := openCheck d slot useEzith 0
    let body := m.take (m.length - 16)
    match r.1.find? fun k => decide (aesCmac k body = m.drop (m.length - 16)) with
    | some k => (.by_ k, r.2)
    | none => (.failed, raiseDev { r.2 with ez := { r.2.ez with authFails := r.2.ez.authFails + 1 } } 0xC6 slot 0)

/-- The key of a reply's tag. -/
def EzAuth.key : EzAuth → Option Bytes
  | .by_ k => some k
  | _ => none

/-! ## Operation records (Table 13.5) -/

/-- An operation record. -/
structure EzOp where
  op : Nat
  status : Nat
  index : Nat
  sub : Nat
  flags : Nat
  length : Nat
  offset : Nat
  data : Bytes
  /-- The padding is zero. -/
  padOk : Bool
  deriving DecidableEq, Repr

/-- The records at the front of a string of octets, and whether they fill it exactly; `fuel` bounds their number. -/
def opsPrefix : Nat → Bytes → List EzOp × Bool
  | 0, b => ([], b.isEmpty)
  | fuel + 1, b =>
    if b.isEmpty then ([], true)
    else
      let n := if beAt 0 1 b = 1 then 0 else beAt 6 2 b
      let whole := 12 + n + padLen n
      if b.length < whole then ([], false)
      else
        let r := opsPrefix fuel (b.drop whole)
        ({ op := beAt 0 1 b, status := beAt 1 1 b, index := beAt 2 2 b, sub := beAt 4 1 b, flags := beAt 5 1 b, length := beAt 6 2 b, offset := beAt 8 4 b,
           data := slice 12 n b, padOk := allZero (slice (12 + n) (padLen n) b) } :: r.1, r.2)

/-- The records of a request: those that fill it exactly, padded with zeros (R666 step 4). -/
def parseOps (fuel : Nat) (b : Bytes) : Option (List EzOp) :=
  let r := opsPrefix fuel b
  if r.2 && r.1.all (·.padOk) then some r.1 else none

/-- The record is as Table 13.5 gives it (R666 step 5). -/
def EzOp.ok (o : EzOp) : Bool :=
  decide (1 ≤ o.op) && decide (o.op ≤ 5) && decide (o.status = 0) && decide (o.flags ≤ 1) && (decide (o.op ≤ 2) || decide (o.index = 0)) && o.padOk

/-- A record of a reply (R514): its DATA and LENGTH are those of a READ or BEGIN. -/
def replyRecord (o : EzOp) (st : Status) (data : Bytes) : Bytes :=
  be 1 o.op ++ be 1 st.code ++ be 2 o.index ++ be 1 o.sub ++ be 1 o.flags ++ be 2 data.length ++ be 4 o.offset ++ data ++ zeros (padLen data.length)

/-- Octets that the records still to answer take at least. -/
def replyFloor (l : List EzOp) : Nat := (l.map fun o => if o.op = 3 then 16 else 12).foldl (· + ·) 0

/-! ## Executing a request (R512 to R514, R518) -/

/-- One operation: its status, DATA for the reply, the TXN after it, and the machine. -/
def runOp (x : Fuses × Dev) (slot : Byte) (txn : BitVec 32) (room : Nat) (o : EzOp) : Status × Bytes × BitVec 32 × Fuses × Dev :=
  let x := (x.1, touchTxn x.2 txn slot)
  if ¬ o.ok then (.range, [], txn, x)
  else if o.op = 1 then
    let r := readOp x.1 x.2 room o.index o.sub o.offset o.length
    (r.1, r.2.1, txn, x.1, r.2.2)
  else if ¬ ezithExecutes x.2 then (.access, [], txn, x)
  else if o.op = 2 then
    let r := writeOp x slot txn o.index o.sub (decide (o.flags = 1)) o.offset o.data
    (r.1, [], txn, r.2)
  else if o.op = 3 then
    let r := beginOp x.2 slot
    if r.1 = .ok then (.ok, be 4 r.2.1.toNat, r.2.1, x.1, r.2.2) else (r.1, [], txn, x)
  else if o.op = 4 then
    if o.length ≠ 8 then (.range, [], txn, x)
    else
      let r := commitOp x slot txn (beVal o.data)
      (r.1, [], txn, r.2)
  else
    let r := rollbackOp x.2 slot txn
    (r.1, [], txn, x.1, r.2)

/-- The operations in order: after one that answers anything but OK or PENDING the rest are SKIPPED (R512). `room` is what
the records may take. -/
def runOps (x : Fuses × Dev) (slot : Byte) (txn : BitVec 32) (room : Nat) : List EzOp → Bytes × Fuses × Dev
  | [] => ([], x)
  | o :: rest =>
    let r := runOp x slot txn ((room - 12 - replyFloor rest) / 4 * 4) o
    let own := replyRecord o r.1 r.2.1
    if r.1 = .ok ∨ r.1 = .pending then
      let t := runOps r.2.2.2 slot r.2.2.1 (room - own.length) rest
      (own ++ t.1, t.2)
    else (own ++ (rest.map fun q => replyRecord q .skipped []).flatten, r.2.2.2)

/-- A request new to its owner: executed and answered; the reply is kept (R517). -/
def executeRequest (x : Fuses × Dev) (path : EzPath) (auth : EzAuth) (m : Bytes) (ops : List EzOp) : Fuses × Dev :=
  let slot := BitVec.ofNat 8 (beAt 4 1 m)
  let txn := beAt 12 4 m
  let owner := ownerOf x.2 slot
  let reply := fun (d : Dev) (body : Bytes) => ezMessage d 2 slot.toNat 0 (beAt 8 4 m) txn body auth.key
  if x.2.dormant.st ≠ .running ∧ ¬ ops.all (fun o => decide (o.op = 1) && decide (o.index = 0x1000)) then
    (x.1, sendEzith x.2 path (reply x.2 (ops.map fun o => replyRecord o .dormant []).flatten))
  else
    let r := runOps x slot (BitVec.ofNat 32 txn) (ezLimit x.2 path - 48) ops
    let msg := reply r.2.2 r.1
    let kept := tabSet none r.2.2.ez.kept owner.toNat (some { seq := BitVec.ofNat 32 (beAt 8 4 m), reply := msg })
    (r.2.1, sendEzith { r.2.2 with ez := { r.2.2.ez with kept := kept } } path msg)

/-- A stale request (R517). -/
def staleRequest (d : Dev) (slot : Nat) : Dev :=
  raiseDev { d with ez := { d.ez with staleRequests := d.ez.staleRequests + 1 } } 0xC7 slot 0

/-- SEQ a is after SEQ b (R517). -/
def seqAfter (a b : BitVec 32) : Bool := decide (a ≠ b) && decide ((a - b).toNat < 2 ^ 31)

/-- An accepted REQUEST judged for sequence (R517) and executed. -/
def takeRequest (x : Fuses × Dev) (path : EzPath) (auth : EzAuth) (m : Bytes) : Fuses × Dev :=
  match parseOps 128 (slice 32 (m.length - 48) m) with
  | none => x
  | some ops =>
    let slot := BitVec.ofNat 8 (beAt 4 1 m)
    let seq := BitVec.ofNat 32 (beAt 8 4 m)
    match tabGet none x.2.ez.kept (ownerOf x.2 slot).toNat with
    | none => executeRequest x path auth m ops
    | some k =>
      if seq = k.seq ∧ k.reply ≠ [] then (x.1, sendEzith x.2 path k.reply)
      else if seqAfter seq k.seq then executeRequest x path auth m ops
      else (x.1, staleRequest x.2 slot.toNat)

/-- Ezith is served on a path: firmware runs; the XGEM path is one of PON mode alone, and closed in dormant (01 Table 1.2,
R518, 17 R644). -/
def ezServed (d : Dev) (path : EzPath) : Bool :=
  firmwareUp d && (decide (path ≠ .xgem) || (decide (d.dormant.st = .running) && !ethMode d))

/-- A REQUEST taken through R666. -/
def ezithRequest (x : Fuses × Dev) (path : EzPath) (m : Bytes) : Fuses × Dev :=
  let d := { x.2 with handed := x.2.handed.erase (.ezith path m) }
  if ¬ ezServed d path ∨ ¬ ezHeaderOk d path 1 m then (x.1, d)
  else if beAt 24 8 m ≠ 0 ∧ beAt 24 8 m ≠ d.part.uniqueId.toNat then (x.1, d)
  else
    let a := ezAuth d m
    if a.1 = .failed then (x.1, a.2) else takeRequest (x.1, a.2) path a.1 m

/-- EZITH_REQUEST. -/
def execEzithRequest (e : Nat) (path : EzPath) (message : Bytes) (s : State) : Res :=
  opRow s (ezithRequest (s.fuses, s.dev.at e) path message)

/-! ## One READ (R519) -/

/-- A READ alone: its reply record goes out as a reply does, without the header that a message has (log 46). -/
def readRow (f : Fuses) (d : Dev) (path : EzPath) (idx sub off len : Nat) : Dev :=
  if ¬ ezServed d path then d
  else
    let o : EzOp := { op := 1, status := 0, index := idx, sub := sub, flags := 0, length := len, offset := off, data := [], padOk := true }
    if d.dormant.st ≠ .running ∧ idx ≠ 0x1000 then sendEzith d path (replyRecord o .dormant [])
    else
      let r := readOp f d ((ezLimit d path - 60) / 4 * 4) idx sub off len
      sendEzith r.2.2 path (replyRecord o r.1 r.2.1)

/-- READ. -/
def execRead (e : Nat) (path : EzPath) (index : BitVec 16) (sub : Byte) (offset length : Nat) (s : State) : Res :=
  .next (s.withDev (readRow s.fuses (s.dev.at e) path index.toNat sub.toNat offset length))

/-! ## Events (R515, R536 to R538) -/

/-- The path of a subscriber (Table 13.8). -/
def subPath (d : Dev) (n : Nat) : Option EzPath :=
  let v := legVal d 0xA020 n
  if beAt 0 1 v = 1 then some .xgem else if beAt 0 1 v = 2 then some (.mgmt (BitVec.ofNat 32 (beAt 4 4 v)) (BitVec.ofNat 16 (beAt 2 2 v))) else none

/-- The key slot of a subscriber. -/
def subSlot (d : Dev) (n : Nat) : Nat := beAt 1 1 (legVal d 0xA020 n)

/-- The key of a subscriber's messages: the current generation of its slot, if that has the EZITH use. -/
def subKey (d : Dev) (n : Nat) : Option Bytes := if slotUsable d (subSlot d n) useEzith 0 then (d.keySlot (subSlot d n)).cur else none

/-- Events go out: firmware runs outside dormant (R538). -/
def eventsFlow (d : Dev) : Bool := firmwareUp d && decide (d.dormant.st = .running)

/-- An EVENT message with its records, at this stamp. -/
def sendRecords (d : Dev) (n : Nat) (records : List Bytes) (seq : BitVec 32) (lost : Bool) : Dev :=
  match subPath d n, subKey d n with
  | some path, some key =>
    let d := d.setSub n { d.sub n with inFlight := some (records, seq, lost, now d) }
    sendEzith d path (ezMessage d 3 (subSlot d n) (bit lost) seq.toNat 0 records.flatten (some key))
  | _, _ => d

/-- The next message of a subscriber (R537). -/
def eventSend (d : Dev) (n : Nat) : Dev :=
  let x := d.sub n
  match subPath d n with
  | none => d
  | some path =>
    if x.inFlight.isSome ∨ x.queue.isEmpty ∨ (subKey d n).isNone ∨ ¬ eventsFlow d then d
    else
      let k := min 16 ((ezLimit d path - 48) / 48)
      let d := d.setSub n { x with queue := x.queue.drop k, nextSeq := x.nextSeq + 1, lostFlag := false }
      sendRecords d n (x.queue.take k) x.nextSeq x.lostFlag

/-- EVENT_SEND. -/
def execEventSend (e : Nat) (subscriber : Nat) (s : State) : Res := onUnit s (decide (subscriber < 8)) (eventSend (s.dev.at e) subscriber)

/-- An unacknowledged message again, after EVENT_RETRY_TICKS (R537). -/
def eventRetry (d : Dev) (n : Nat) : Dev :=
  match (d.sub n).inFlight with
  | some (records, seq, lost, t) => if eventsFlow d ∧ reached d (after t (legNat d 0xA000 0x0C)) then sendRecords d n records seq lost else d
  | none => d

/-- EVENT_RETRY. -/
def execEventRetry (e : Nat) (subscriber : Nat) (s : State) : Res := onUnit s (decide (subscriber < 8)) (eventRetry (s.dev.at e) subscriber)

/-- The path kinds agree. -/
def sameKind : EzPath → Option EzPath → Bool
  | .xgem, some .xgem => true
  | .mgmt _ _, some (.mgmt _ _) => true
  | _, _ => false

/-- The subscriber whose message an EVENT_ACK acknowledges. -/
def ackedSub (d : Dev) (path : EzPath) (slot : Nat) (seq : BitVec 32) : Option Nat :=
  (List.range 8).find? fun n => sameKind path (subPath d n) && decide (subSlot d n = slot) && decide (((d.sub n).inFlight.map fun f => f.2.1) = some seq)

/-- An EVENT_ACK taken through R666 and R537. -/
def eventAck (d : Dev) (path : EzPath) (m : Bytes) : Dev :=
  let d := { d with handed := d.handed.erase (.ezith path m) }
  if ¬ ezServed d path ∨ ¬ ezHeaderOk d path 4 m then d
  else
    let a := ezAuth d m
    let seq := BitVec.ofNat 32 (beAt 8 4 m)
    if a.1 = .failed then a.2
    else match ackedSub a.2 path (beAt 4 1 m) seq with
      | some n => a.2.setSub n { a.2.sub n with inFlight := none, acked := seq }
      | none => a.2

/-- EVENT_ACK. -/
def execEventAck (e : Nat) (path : EzPath) (message : Bytes) (s : State) : Res := .next (s.withDev (eventAck (s.dev.at e) path message))

end Sys2Proof.Machine
end

