-- ==== Sys2Proof/Machine/Lanes.lean ====
section
/-! DEFINITION. The lane instructions, one meaning each over `laneRow` (04 Table 4.4). -/

namespace Sys2Proof.Machine

/-- LANE_NOP, OP 0x00. -/
def execLaneNop (q : QuadAt) (a : LaneArgs) (s : State) : Res := laneRow 0x00 q a s
/-- LANE_LD, OP 0x01. -/
def execLaneLd (q : QuadAt) (a : LaneArgs) (s : State) : Res := laneRow 0x01 q a s
/-- LANE_ST, OP 0x02. -/
def execLaneSt (q : QuadAt) (a : LaneArgs) (s : State) : Res := laneRow 0x02 q a s
/-- LANE_MOVI, OP 0x03. -/
def execLaneMovi (q : QuadAt) (a : LaneArgs) (s : State) : Res := laneRow 0x03 q a s
/-- LANE_MOV, OP 0x04. -/
def execLaneMov (q : QuadAt) (a : LaneArgs) (s : State) : Res := laneRow 0x04 q a s
/-- LANE_ADD, OP 0x05. -/
def execLaneAdd (q : QuadAt) (a : LaneArgs) (s : State) : Res := laneRow 0x05 q a s
/-- LANE_SUB, OP 0x06. -/
def execLaneSub (q : QuadAt) (a : LaneArgs) (s : State) : Res := laneRow 0x06 q a s
/-- LANE_MUL, OP 0x07. -/
def execLaneMul (q : QuadAt) (a : LaneArgs) (s : State) : Res := laneRow 0x07 q a s
/-- LANE_MAC, OP 0x08. -/
def execLaneMac (q : QuadAt) (a : LaneArgs) (s : State) : Res := laneRow 0x08 q a s
/-- LANE_MIN, OP 0x09. -/
def execLaneMin (q : QuadAt) (a : LaneArgs) (s : State) : Res := laneRow 0x09 q a s
/-- LANE_MAX, OP 0x0A. -/
def execLaneMax (q : QuadAt) (a : LaneArgs) (s : State) : Res := laneRow 0x0A q a s
/-- LANE_ABS, OP 0x0B. -/
def execLaneAbs (q : QuadAt) (a : LaneArgs) (s : State) : Res := laneRow 0x0B q a s
/-- LANE_NEG, OP 0x0C. -/
def execLaneNeg (q : QuadAt) (a : LaneArgs) (s : State) : Res := laneRow 0x0C q a s
/-- LANE_SHL, OP 0x0D. -/
def execLaneShl (q : QuadAt) (a : LaneArgs) (s : State) : Res := laneRow 0x0D q a s
/-- LANE_SHR, OP 0x0E. -/
def execLaneShr (q : QuadAt) (a : LaneArgs) (s : State) : Res := laneRow 0x0E q a s
/-- LANE_AND, OP 0x0F. -/
def execLaneAnd (q : QuadAt) (a : LaneArgs) (s : State) : Res := laneRow 0x0F q a s
/-- LANE_OR, OP 0x10. -/
def execLaneOr (q : QuadAt) (a : LaneArgs) (s : State) : Res := laneRow 0x10 q a s
/-- LANE_XOR, OP 0x11. -/
def execLaneXor (q : QuadAt) (a : LaneArgs) (s : State) : Res := laneRow 0x11 q a s
/-- LANE_CVT, OP 0x12. -/
def execLaneCvt (q : QuadAt) (a : LaneArgs) (s : State) : Res := laneRow 0x12 q a s
/-- LANE_CEQ, OP 0x13. -/
def execLaneCeq (q : QuadAt) (a : LaneArgs) (s : State) : Res := laneRow 0x13 q a s
/-- LANE_CLT, OP 0x14. -/
def execLaneClt (q : QuadAt) (a : LaneArgs) (s : State) : Res := laneRow 0x14 q a s
/-- LANE_CLE, OP 0x15. -/
def execLaneCle (q : QuadAt) (a : LaneArgs) (s : State) : Res := laneRow 0x15 q a s
/-- LANE_SEL, OP 0x16. -/
def execLaneSel (q : QuadAt) (a : LaneArgs) (s : State) : Res := laneRow 0x16 q a s
/-- LANE_MAND, OP 0x17. -/
def execLaneMand (q : QuadAt) (a : LaneArgs) (s : State) : Res := laneRow 0x17 q a s
/-- LANE_MOR, OP 0x18. -/
def execLaneMor (q : QuadAt) (a : LaneArgs) (s : State) : Res := laneRow 0x18 q a s
/-- LANE_MNOT, OP 0x19. -/
def execLaneMnot (q : QuadAt) (a : LaneArgs) (s : State) : Res := laneRow 0x19 q a s
/-- LANE_XSUM, OP 0x1A. -/
def execLaneXsum (q : QuadAt) (a : LaneArgs) (s : State) : Res := laneRow 0x1A q a s
/-- LANE_XMAX, OP 0x1B. -/
def execLaneXmax (q : QuadAt) (a : LaneArgs) (s : State) : Res := laneRow 0x1B q a s
/-- LANE_XMIN, OP 0x1C. -/
def execLaneXmin (q : QuadAt) (a : LaneArgs) (s : State) : Res := laneRow 0x1C q a s
/-- LANE_SETQ, OP 0x1D. -/
def execLaneSetq (q : QuadAt) (a : LaneArgs) (s : State) : Res := laneRow 0x1D q a s
/-- LANE_MADD, OP 0x1E. -/
def execLaneMadd (q : QuadAt) (a : LaneArgs) (s : State) : Res := laneRow 0x1E q a s
/-- LANE_MSUB, OP 0x1F. -/
def execLaneMsub (q : QuadAt) (a : LaneArgs) (s : State) : Res := laneRow 0x1F q a s
/-- LANE_MMUL, OP 0x20. -/
def execLaneMmul (q : QuadAt) (a : LaneArgs) (s : State) : Res := laneRow 0x20 q a s
/-- LANE_MMAC, OP 0x21. -/
def execLaneMmac (q : QuadAt) (a : LaneArgs) (s : State) : Res := laneRow 0x21 q a s
/-- LANE_LANEID, OP 0x22. -/
def execLaneLaneid (q : QuadAt) (a : LaneArgs) (s : State) : Res := laneRow 0x22 q a s
/-- LANE_ITER, OP 0x23. -/
def execLaneIter (q : QuadAt) (a : LaneArgs) (s : State) : Res := laneRow 0x23 q a s

end Sys2Proof.Machine
end

