-- ==== Sys2Proof/Machine/Startup.lean ====
section
/-! DEFINITION. The start-up object at CONFIG (17 R642, R643; assumption log 44). -/

namespace Sys2Proof.Machine

/-- The start-up object: the object 0x7FFF_FFFF_FFFF_FFFF of KIND 7, sealed. -/
def startupObject (d : Dev) : Option Object :=
  match objectOf d 0x7FFFFFFFFFFFFFFF with
  | some o => if o.kind = 7 ∧ o.st ≠ .writing then some o else none
  | none => none

/-- The record writes RUN = 1, and for which partition. -/
def runRecord (o : EzOp) : Option Nat :=
  if 0x3000 ≤ o.index ∧ o.index < 0x3040 ∧ o.sub = 0x0B ∧ o.data = [1] then some (o.index - 0x3000) else none

/-! ## Spares for failed quads (R642 step 1) -/

/-- A QUAD_MAP record. -/
def isMapRecord (o : EzOp) : Bool := decide (0x3000 ≤ o.index) && decide (o.index < 0x3040) && decide (o.sub = 0x02)

/-- A quad of the device is failed. -/
def quadFailed (d : Dev) (q : Nat) : Bool := decide (q < quadsFitted d) && decide ((d.quad q).st = .failed)

/-- The spares that the object lists, those failed left out, in rising order. -/
def objectSpares (d : Dev) (rs : List EzOp) : List Nat :=
  sortBy id (((rs.filter fun o => decide (o.index = 0xF011) && decide (o.sub = 0)).map fun o => numbers 2 o.data).flatten.dedup.filter fun q =>
    decide (q < quadsFitted d) && !quadFailed d q)

/-- Numbers of a QUAD_MAP with a spare in the place of each failed quad: the numbers and the spares left, or none. -/
def replaceFailed (d : Dev) : List Nat → List Nat → Option (List Nat × List Nat)
  | [], spares => some ([], spares)
  | q :: r, spares =>
    if quadFailed d q then match spares with
      | [] => none
      | s :: t => (replaceFailed d r t).map fun x => (s :: x.1, x.2)
    else (replaceFailed d r spares).map fun x => (q :: x.1, x.2)

/-- Every QUAD_MAP record with its spares: the records and the spares left, or the number of the record that lacks one. -/
def replaceRecords (d : Dev) (n : Nat) : List EzOp → List Nat → Nat ⊕ (List EzOp × List Nat)
  | [], spares => .inr ([], spares)
  | o :: r, spares =>
    if isMapRecord o then match replaceFailed d (numbers 2 o.data) spares with
      | none => .inl n
      | some (qs, left) => match replaceRecords d (n + 1) r left with
        | .inl k => .inl k
        | .inr x => .inr ({ o with data := (qs.map (be 2)).flatten } :: x.1, x.2)
    else match replaceRecords d (n + 1) r spares with
      | .inl k => .inl k
      | .inr x => .inr (o :: x.1, x.2)

/-- The records with the spares used and the failed ones out of SPARES (07 R275, R276). -/
def trimSpares (left : List Nat) (rs : List EzOp) : List EzOp :=
  rs.map fun o => if o.index = 0xF011 ∧ o.sub = 0 then { o with data := ((numbers 2 o.data).map fun q => be 2 (if q ∈ left then q else 0xFFFF)).flatten } else o

/-! ## Staging and judgement (R642 step 2) -/

/-- The value staged so far of an entry, or its value in force. -/
def startOld (f : Fuses) (d : Dev) (ws : List (Nat × Bytes)) (key : Nat) : Bytes :=
  match ws.find? fun w => decide (w.1 = key) with
  | some w => w.2
  | none => (readEntry f d (key / 256) (key % 256)).1

/-- A value staged, in the place of an earlier one of its entry. -/
def startPut (ws : List (Nat × Bytes)) (key : Nat) (v : Bytes) : List (Nat × Bytes) :=
  if ws.any fun w => decide (w.1 = key) then ws.map fun w => if w.1 = key then (key, v) else w else ws ++ [(key, v)]

/-- Every record staged that its entry takes, its rules apart. -/
def startValues (f : Fuses) (d : Dev) (rs : List EzOp) : List (Nat × Bytes) :=
  rs.foldl (fun ws o =>
    let key := legKey o.index o.sub
    match (entryRow o.index o.sub).bind fun r => patched r.ty (decide (o.flags = 1)) o.offset o.data (startOld f d ws key) with
    | some v => startPut ws key v
    | none => ws) []

/-- One record's status: `a` is the device with every value of the object. -/
def startStatus (f : Fuses) (d a : Dev) (ws : List (Nat × Bytes)) (o : EzOp) : Status × Bytes :=
  if o.op ≠ 2 ∨ ¬ o.ok then (.range, [])
  else if ((entryRow o.index o.sub).map (·.acc)) = some .wo then (.access, [])
  else checkWrite f a true o.index o.sub (decide (o.flags = 1)) o.offset o.data (startOld f d ws (legKey o.index o.sub))

/-- The records checked in order: the writes with their record numbers, or the first record that fails. -/
def startCheck (f : Fuses) (d a : Dev) : Nat → List EzOp → List (Nat × Bytes) → (Nat × Status) ⊕ List (Nat × Bytes)
  | _, [], ws => .inr ws
  | n, o :: r, ws =>
    if (runRecord o).isSome then startCheck f d a (n + 1) r ws
    else match startStatus f d a ws o with
      | (.ok, v) => startCheck f d a (n + 1) r (startPut ws (legKey o.index o.sub) v)
      | (st, _) => .inl (n, st)

/-- The object's values put in force on a copy of the device, to judge by. -/
def startScratch (d : Dev) (ws : List (Nat × Bytes)) : Dev :=
  resources (ws.foldl (fun d w => if isRolling w.1 then legPut d (w.1 / 256) (w.1 % 256) w.2 else valuePut d w.1 w.2) d) (ws.map (·.1))

/-- The outcome of the object: the record that refuses it with its status code, or its writes and held RUNs. -/
def startJudge (f : Fuses) (d : Dev) (bytes : Bytes) : (Nat × Nat) ⊕ (List (Nat × Bytes) × List Nat) :=
  let p := opsPrefix bytes.length bytes
  match replaceRecords d 0 p.1 (objectSpares d p.1) with
  | .inl n => .inl (n, Status.code .conflict)
  | .inr (rs, left) =>
    let rs := trimSpares left rs
    let staged := rs.filter fun o => (runRecord o).isNone
    match startCheck f d (startScratch d (startValues f d staged)) 0 rs [] with
    | .inl (n, st) => .inl (n, st.code)
    | .inr ws =>
      if ¬ p.2 then .inl (rs.length, Status.code .range)
      else match (List.range rs.length).find? fun n => (rs[n]?).any fun o => (runRecord o).isNone && decide (legKey o.index o.sub ∈ brokenKeys d ws) with
        | some n => .inl (n, Status.code .conflict)
        | none => .inr (ws, rs.filterMap runRecord)

/-! ## Application (R642 step 3) -/

/-- Every write of the object as one tick-atomic change; no partition runs, so a rolling one is in force at once. -/
def startApply (x : Fuses × Dev) (ws : List (Nat × Bytes)) : Fuses × Dev :=
  let y := applyWrites x (ws.filter fun w => !isRolling w.1)
  let roll := (ws.filter fun w => isRolling w.1).map fun w => ({ key := w.1, value := w.2, count := 0 } : Staged)
  let d := roll.foldl rollStart y.2
  (y.1, roll.foldl (fun d w => (rollTargets d w).foldl (fun d p => rollPut d p w.key w.value) d) d)

/-- STARTUP_RESULT. -/
def startResult (result record status : Nat) : Bytes := be 1 result ++ be 1 0 ++ be 2 record ++ be 1 status ++ zeros 3

/-- The start-up object applied, refused or absent. -/
def startupApply (x : Fuses × Dev) : Fuses × Dev :=
  let note := fun (d : Dev) (b : Bytes) => d.updStart fun s => { s with startupResult := b }
  match startupObject x.2 with
  | none => (x.1, note x.2 (startResult 0 0 0))
  | some o =>
    if o.st = .damaged then (x.1, note x.2 (startResult 2 0xFFFF 0))
    else match startJudge x.1 x.2 (objectBytes o 0 o.size).1 with
      | .inl (n, code) => (x.1, note x.2 (startResult 2 n code))
      | .inr (ws, runs) =>
        let y := startApply x ws
        (y.1, note (y.2.updStart fun s => { s with heldRuns := runs }) (startResult 1 0 0))

/-- SYNC begins: ports and PTP start (Table 17.1). -/
def beginSync (d : Dev) : Dev := ptpRefresh (refreshPorts (enterStage d .sync) false)

/-- STARTUP_OBJECT_APPLY: at CONFIG. -/
def execStartupObjectApply (e : Nat) (s : State) : Res :=
  let d := s.dev.at e
  let x := if d.start.stage = .config then startupApply (s.fuses, d) else (s.fuses, d)
  opRow s (x.1, if d.start.stage = .config then beginSync x.2 else x.2)

end Sys2Proof.Machine
end

