-- ==== Sys2Proof/Machine/Ticks.lean ====
section
/-! DEFINITION. Tick edges: the next tick, the step and the end of a dwell, and what every edge does (02 R33 to R39, R53 to
R55; 09 R397; 15 R576). -/

namespace Sys2Proof.Machine

/-! ## The edges -/

/-- T after one tick of a source's spacing: a first-order filter with a time constant of 64 ticks, its rounding free
(02 R38; log 4). -/
def filtered (t spacing : Nat) : Nat := (((t * 63 + spacing + Config.tickRound t spacing % 64) / 64))

/-- The next tick (02 R33, R38, R39, R50, R53): T follows the source while LOCKED and not dormant. -/
def nextTick (d : Dev) (spacing : Nat) : Dev :=
  d.updGrat fun g =>
    { g with
      tick := g.tick + 1, prevTick := g.tick, e := 0, clock := g.clock + max spacing (g.e * 256), firstTick := false
      tickLength := if g.state = .locked ∧ d.dormant.st = .running then BitVec.ofNat 32 (filtered g.tickLength.toNat spacing) else g.tickLength
      slew := slewTick g.slew
      shift := g.shift + (g.slew - slewTick g.slew)
      holdoverElapsed := if g.state = .holdover ∨ g.state = .adrift then min 8000 (g.holdoverElapsed + 1) else g.holdoverElapsed }

/-- The graticule generates its edges itself (02 R39). -/
def selfTimed (d : Dev) : Bool :=
  decide (d.grat.state = .holdover) || decide (d.grat.state = .adrift) || decide (d.dormant.st ≠ .running)

/-- A tick edge can come: never before first lock or in a dwell (02 R55, R664), and one that the graticule generates itself
only once the count since the last edge has reached T (R39). -/
def edgeDue (d : Dev) (spacing : Nat) : Bool :=
  d.grat.everLocked && decide (d.grat.state ≠ .dwell) && (!selfTimed d || decide (tickLen d ≤ max spacing (d.grat.e * 256)))

/-- TICK_EDGE, `spacing` 1/256 cycles after the last edge. -/
def execTickEdge (spacing : Nat) (s : State) : Res :=
  let d := s.dev
  .next (s.withDev (if edgeDue d spacing then edgeWork (nextTick d spacing) 1 else d))

/-- A step taken (02 R53, R54): the source's tick number ahead of the local one is adopted. -/
def takeStep (d : Dev) (s : Source) (t : TickNo) : Dev :=
  let n := (t - d.grat.tick).toNat
  let delta := deltaOf d s
  let shift := localShift d + stampDiff (now d) (stampOf t 0)
  let d := d.updGrat fun g => { g with tick := t, prevTick := g.tick, e := 0, clock := (g.setE 0).clock, slew := 0, stepCount := g.stepCount + 1, state := .locked, shift := shift, firstTick := false }
  edgeWork (raiseGrat (enterLocked d s) 0xBB delta) n

/-- The tick whose edge the source comes to next: that after its stamp, or, to within a sub-tick, the one it stands at. -/
def sourceNext (d : Dev) (s : Source) (t : TickNo) : Bool :=
  let at_ := stampTick (now d + BitVec.ofInt 60 (deltaOf d s))
  decide (t = at_ + 1) || decide (t = at_)

/-- GRATICULE_STEP: at the source's next edge; tick numbers never decrease. -/
def execGraticuleStep (source : SourceEdge) (s : State) : Res :=
  let d := s.dev.at source.e
  .next (s.withDev (match d.grat.stepTo with
    | some x => if sourceNext d x source.tick ∧ source.tick ≠ d.grat.tick ∧ (source.tick - d.grat.tick).toNat < 2 ^ 47 then takeStep d x source.tick else d
    | none => d))

/-- A dwell ended at its source's edge (02 R53): the next local tick begins, what the source is ahead by then is
slewed. -/
def endDwell (d : Dev) : Dev :=
  let shift := localShift d + 1
  let d := d.updGrat fun g => { g with tick := g.tick + 1, prevTick := g.tick, e := 0, clock := (g.setE 0).clock, state := .locked, shift := shift }
  edgeWork (enterLocked (d.updGrat fun g => { g with slew := deltaOf d g.source }) d.grat.source) 1

/-- DWELL_END: the source has come, to within a sub-tick, to its edge for the next local tick, whose number `source` is
(02 Table 2.5). -/
def execDwellEnd (e : Nat) (source : TickNo) (s : State) : Res :=
  let d := s.dev.at e
  .next (s.withDev (if d.grat.state = .dwell ∧ source = d.grat.tick + 1 ∧ 0 ≤ deltaOf d d.grat.source then endDwell d else d))

end Sys2Proof.Machine
end

