-- ==== Sys2Proof/Machine/Writes.lean ====
section
/-! DEFINITION. The commands that are direct writes of one entry: WO and RW entries with a behaviour of their own
(13 R507, R520). -/

namespace Sys2Proof.Machine

/-- A direct write of the entry of a unit of which there are `count`. -/
def unitRow (e base unit count sub : Nat) (data : Bytes) (s : State) : Res :=
  if unit < count then writeRow e (base + unit) sub data s else .fault .absentUnit

/-- A direct write of a sub of an array of `count` subs. -/
def subRow (e idx sub count : Nat) (data : Bytes) (s : State) : Res :=
  if sub < count then writeRow e idx sub data s else .fault .absentUnit

/-! ## Partitions and strips (07 R288, R313) -/

/-- HANDOVER. -/
def execHandover (e : Nat) (partition : Nat) (s : State) : Res := unitRow e 0x3000 partition 64 0x0E [1] s

/-- ABORT. -/
def execAbort (e : Nat) (strip : Nat) (mask : BitVec 64) (s : State) : Res := unitRow e 0x4000 strip 256 0x0B (be 8 mask.toNat) s

/-! ## Security (12 R472, R478, R489, R502) -/

/-- A submission: OP, IN_LEN and INPUT of a job record. -/
def jobRow (e n op : Nat) (input : Bytes) (s : State) : Res :=
  subRow e 0x7020 n 16 (be 1 op ++ zeros 3 ++ be 4 input.length ++ zeros 56 ++ input) s

/-- ED25519_VERIFY. -/
def execEd25519Verify (e : Nat) (record : Nat) (input : Bytes) (s : State) : Res := jobRow e record 0x01 input s
/-- P256_VERIFY. -/
def execP256Verify (e : Nat) (record : Nat) (input : Bytes) (s : State) : Res := jobRow e record 0x02 input s
/-- P384_VERIFY. -/
def execP384Verify (e : Nat) (record : Nat) (input : Bytes) (s : State) : Res := jobRow e record 0x03 input s
/-- RSA_VERIFY. -/
def execRsaVerify (e : Nat) (record : Nat) (input : Bytes) (s : State) : Res := jobRow e record 0x04 input s
/-- MLDSA65_VERIFY. -/
def execMldsa65Verify (e : Nat) (record : Nat) (input : Bytes) (s : State) : Res := jobRow e record 0x05 input s
/-- AGREE. -/
def execAgree (e : Nat) (record : Nat) (input : Bytes) (s : State) : Res := jobRow e record 0x10 input s
/-- ATTEST. -/
def execAttest (e : Nat) (record : Nat) (input : Bytes) (s : State) : Res := jobRow e record 0x11 input s

/-- JOB_FREE: OP 0. -/
def execJobFree (e : Nat) (record : Nat) (s : State) : Res := subRow e 0x7020 record 16 [0] s

/-- JOB_ABORT. -/
def execJobAbort (e : Nat) (record : Byte) (s : State) : Res := writeRow e 0x7000 0x0B [record] s

/-- KEY_ERASE. -/
def execKeyErase (e : Nat) (value : Byte) (s : State) : Res := writeRow e 0x7000 0x0A [value] s

/-- RAISE_FLOOR. -/
def execRaiseFloor (e : Nat) (value : Byte) (s : State) : Res := writeRow e 0x7000 0x07 [value] s

/-- REVOKE_KEYSET. -/
def execRevokeKeyset (e : Nat) (value : Byte) (s : State) : Res := writeRow e 0x7000 0x08 [value] s

/-! ## Object ports (14 R550 to R558) -/

/-- A record of PORT_CONTROL (14 Table 14.4). -/
def portRecord (op kind partition page object size length : Nat) (digest : Bytes) : Bytes :=
  be 1 op ++ be 1 kind ++ be 1 partition ++ zeros 1 ++ be 4 page ++ be 8 object ++ be 8 size ++ be 8 length ++ fit 32 digest

/-- CREATE. -/
def execCreate (e : Nat) (port : Nat) (kind : Byte) (object size : BitVec 64) (s : State) : Res :=
  subRow e 0x7810 port 8 (portRecord 1 kind.toNat 0 0 object.toNat size.toNat 0 []) s

/-- SEAL. -/
def execSeal (e : Nat) (port : Nat) (digest : Bytes) (s : State) : Res := subRow e 0x7810 port 8 (portRecord 2 0 0 0 0 0 0 digest) s

/-- OPEN. -/
def execOpen (e : Nat) (port : Nat) (object : BitVec 64) (s : State) : Res := subRow e 0x7810 port 8 (portRecord 3 0 0 0 object.toNat 0 0 []) s

/-- CLOSE. -/
def execClose (e : Nat) (port : Nat) (s : State) : Res := subRow e 0x7810 port 8 (portRecord 4 0 0 0 0 0 0 []) s

/-- DELETE. -/
def execDelete (e : Nat) (port : Nat) (object : BitVec 64) (s : State) : Res := subRow e 0x7810 port 8 (portRecord 5 0 0 0 object.toNat 0 0 []) s

/-- LOAD. -/
def execLoad (e : Nat) (port : Nat) (object : BitVec 64) (partition : Byte) (page : BitVec 32) (offset length : BitVec 64) (s : State) : Res :=
  subRow e 0x7810 port 8 (portRecord 6 0 partition.toNat page.toNat object.toNat offset.toNat length.toNat []) s

/-- ARCHIVE. -/
def execArchive (e : Nat) (port : Nat) (object : BitVec 64) (partition : Byte) (s : State) : Res :=
  subRow e 0x7810 port 8 (portRecord 7 0 partition.toNat 0 object.toNat 0 0 []) s

/-- PORT_ABORT. -/
def execPortAbort (e : Nat) (port : Nat) (s : State) : Res := subRow e 0x7810 port 8 (portRecord 8 0 0 0 0 0 0 []) s

/-- PORT_DATA. -/
def execPortData (e : Nat) (port : Nat) (data : Bytes) (s : State) : Res := subRow e 0x7811 port 8 data s

/-- PORT_POS. -/
def execPortPos (e : Nat) (port : Nat) (pos : BitVec 64) (s : State) : Res := subRow e 0x7812 port 8 (be 8 pos.toNat) s

/-! ## Dormant and faults (15 R605; 16 R614, R622, R629) -/

/-- DORMANT_ENTER. -/
def execDormantEnter (e : Nat) (s : State) : Res := writeRow e 0x8800 0x10 [1] s

/-- CLEAR. -/
def execClear (e : Nat) (value : BitVec 16) (s : State) : Res := writeRow e 0x9000 0x05 (be 2 value.toNat) s

/-- INJECT. -/
def execInject (e : Nat) (record : Bytes) (s : State) : Res := writeRow e 0x9000 0x06 record s

/-- SEVERITY. -/
def execSeverity (e : Nat) (source value : Byte) (s : State) : Res := writeRow e (0x9100 + source.toNat) 0x00 [value] s

/-! ## Margin sweeps (17 R645, R647) -/

/-- A sweep command of a kind; a command of another kind is not this one. -/
def sweepRow (e kind : Nat) (command : Bytes) (s : State) : Res :=
  if beAt 0 1 command = kind then writeRow e 0xF030 0x00 command s else .next (s.withDev (s.dev.at e))

/-- LANE_SWEEP. -/
def execLaneSweep (e : Nat) (command : Bytes) (s : State) : Res := sweepRow e 1 command s

/-- STACK_SWEEP. -/
def execStackSweep (e : Nat) (command : Bytes) (s : State) : Res := sweepRow e 2 command s

/-- CORE_SWEEP. -/
def execCoreSweep (e : Nat) (command : Bytes) (s : State) : Res := sweepRow e 3 command s

/-- SWEEP_ABORT. -/
def execSweepAbort (e : Nat) (s : State) : Res := writeRow e 0xF030 0x01 [1] s

end Sys2Proof.Machine
end

