-- ==== Sys2Proof/Machine/Dispatch.lean ====
section
/-! DEFINITION. One arm for each command of the table: a direct call of its meaning. -/

namespace Sys2Proof.Machine

def exec (i : Instr) (s : State) : Host.Outcome State Fault Refusal :=
  match i with
  | .tickEdge spacing => Sys2Proof.Machine.execTickEdge spacing s
  | .graticuleStep source => Sys2Proof.Machine.execGraticuleStep source s
  | .dwellEnd e source => Sys2Proof.Machine.execDwellEnd e source s
  | .fabricUpdateTimeout e => Sys2Proof.Machine.execFabricUpdateTimeout e s
  | .holdoverLimit e => Sys2Proof.Machine.execHoldoverLimit e s
  | .splitComparison e fabric => Sys2Proof.Machine.execSplitComparison e fabric s
  | .add q => Sys2Proof.Machine.execAdd q s
  | .sub q => Sys2Proof.Machine.execSub q s
  | .and_ q => Sys2Proof.Machine.execAnd q s
  | .or_ q => Sys2Proof.Machine.execOr q s
  | .xor_ q => Sys2Proof.Machine.execXor q s
  | .sll q => Sys2Proof.Machine.execSll q s
  | .srl q => Sys2Proof.Machine.execSrl q s
  | .sra q => Sys2Proof.Machine.execSra q s
  | .slt q => Sys2Proof.Machine.execSlt q s
  | .sltu q => Sys2Proof.Machine.execSltu q s
  | .mul q => Sys2Proof.Machine.execMul q s
  | .mulh q => Sys2Proof.Machine.execMulh q s
  | .mulhu q => Sys2Proof.Machine.execMulhu q s
  | .addi q => Sys2Proof.Machine.execAddi q s
  | .andi q => Sys2Proof.Machine.execAndi q s
  | .ori q => Sys2Proof.Machine.execOri q s
  | .xori q => Sys2Proof.Machine.execXori q s
  | .slti q => Sys2Proof.Machine.execSlti q s
  | .slli q => Sys2Proof.Machine.execSlli q s
  | .srli q => Sys2Proof.Machine.execSrli q s
  | .srai q => Sys2Proof.Machine.execSrai q s
  | .lui q => Sys2Proof.Machine.execLui q s
  | .lb q => Sys2Proof.Machine.execLb q s
  | .lh q => Sys2Proof.Machine.execLh q s
  | .lw q => Sys2Proof.Machine.execLw q s
  | .lbu q => Sys2Proof.Machine.execLbu q s
  | .lhu q => Sys2Proof.Machine.execLhu q s
  | .sb q => Sys2Proof.Machine.execSb q s
  | .sh q => Sys2Proof.Machine.execSh q s
  | .sw q => Sys2Proof.Machine.execSw q s
  | .beq q => Sys2Proof.Machine.execBeq q s
  | .bne q => Sys2Proof.Machine.execBne q s
  | .blt q => Sys2Proof.Machine.execBlt q s
  | .bge q => Sys2Proof.Machine.execBge q s
  | .bltu q => Sys2Proof.Machine.execBltu q s
  | .bgeu q => Sys2Proof.Machine.execBgeu q s
  | .jal q => Sys2Proof.Machine.execJal q s
  | .jalr q => Sys2Proof.Machine.execJalr q s
  | .fence q => Sys2Proof.Machine.execFence q s
  | .csrr q => Sys2Proof.Machine.execCsrr q s
  | .csrw q => Sys2Proof.Machine.execCsrw q s
  | .send q => Sys2Proof.Machine.execSend q s
  | .recv q => Sys2Proof.Machine.execRecv q s
  | .recvw q => Sys2Proof.Machine.execRecvw q s
  | .qlen q => Sys2Proof.Machine.execQlen q s
  | .arm q => Sys2Proof.Machine.execArm q s
  | .armt q => Sys2Proof.Machine.execArmt q s
  | .cancel q => Sys2Proof.Machine.execCancel q s
  | .yield q => Sys2Proof.Machine.execYield q s
  | .done q => Sys2Proof.Machine.execDone q s
  | .rdt q => Sys2Proof.Machine.execRdt q s
  | .rdth q => Sys2Proof.Machine.execRdth q s
  | .waitt q => Sys2Proof.Machine.execWaitt q s
  | .cmd q => Sys2Proof.Machine.execCmd q s
  | .uwait q => Sys2Proof.Machine.execUwait q s
  | .ustat q => Sys2Proof.Machine.execUstat q s
  | .trap q => Sys2Proof.Machine.execTrap q s
  | .illegalInstruction q => Sys2Proof.Machine.execIllegalInstruction q s
  | .storeBufferDrain q => Sys2Proof.Machine.execStoreBufferDrain q s
  | .messageDelivery e cyc src => Sys2Proof.Machine.execMessageDelivery e cyc src s
  | .taskDispatch q => Sys2Proof.Machine.execTaskDispatch q s
  | .laneCommand q => Sys2Proof.Machine.execLaneCommand q s
  | .laneNop q a => Sys2Proof.Machine.execLaneNop q a s
  | .laneLd q a => Sys2Proof.Machine.execLaneLd q a s
  | .laneSt q a => Sys2Proof.Machine.execLaneSt q a s
  | .laneMovi q a => Sys2Proof.Machine.execLaneMovi q a s
  | .laneMov q a => Sys2Proof.Machine.execLaneMov q a s
  | .laneAdd q a => Sys2Proof.Machine.execLaneAdd q a s
  | .laneSub q a => Sys2Proof.Machine.execLaneSub q a s
  | .laneMul q a => Sys2Proof.Machine.execLaneMul q a s
  | .laneMac q a => Sys2Proof.Machine.execLaneMac q a s
  | .laneMin q a => Sys2Proof.Machine.execLaneMin q a s
  | .laneMax q a => Sys2Proof.Machine.execLaneMax q a s
  | .laneAbs q a => Sys2Proof.Machine.execLaneAbs q a s
  | .laneNeg q a => Sys2Proof.Machine.execLaneNeg q a s
  | .laneShl q a => Sys2Proof.Machine.execLaneShl q a s
  | .laneShr q a => Sys2Proof.Machine.execLaneShr q a s
  | .laneAnd q a => Sys2Proof.Machine.execLaneAnd q a s
  | .laneOr q a => Sys2Proof.Machine.execLaneOr q a s
  | .laneXor q a => Sys2Proof.Machine.execLaneXor q a s
  | .laneCvt q a => Sys2Proof.Machine.execLaneCvt q a s
  | .laneCeq q a => Sys2Proof.Machine.execLaneCeq q a s
  | .laneClt q a => Sys2Proof.Machine.execLaneClt q a s
  | .laneCle q a => Sys2Proof.Machine.execLaneCle q a s
  | .laneSel q a => Sys2Proof.Machine.execLaneSel q a s
  | .laneMand q a => Sys2Proof.Machine.execLaneMand q a s
  | .laneMor q a => Sys2Proof.Machine.execLaneMor q a s
  | .laneMnot q a => Sys2Proof.Machine.execLaneMnot q a s
  | .laneXsum q a => Sys2Proof.Machine.execLaneXsum q a s
  | .laneXmax q a => Sys2Proof.Machine.execLaneXmax q a s
  | .laneXmin q a => Sys2Proof.Machine.execLaneXmin q a s
  | .laneSetq q a => Sys2Proof.Machine.execLaneSetq q a s
  | .laneMadd q a => Sys2Proof.Machine.execLaneMadd q a s
  | .laneMsub q a => Sys2Proof.Machine.execLaneMsub q a s
  | .laneMmul q a => Sys2Proof.Machine.execLaneMmul q a s
  | .laneMmac q a => Sys2Proof.Machine.execLaneMmac q a s
  | .laneLaneid q a => Sys2Proof.Machine.execLaneLaneid q a s
  | .laneIter q a => Sys2Proof.Machine.execLaneIter q a s
  | .copy q => Sys2Proof.Machine.execCopy q s
  | .gather q => Sys2Proof.Machine.execGather q s
  | .scatter q => Sys2Proof.Machine.execScatter q s
  | .zero q => Sys2Proof.Machine.execZero q s
  | .cimLoad q => Sys2Proof.Machine.execCimLoad q s
  | .dot q => Sys2Proof.Machine.execDot q s
  | .had q => Sys2Proof.Machine.execHad q s
  | .bench q => Sys2Proof.Machine.execBench q s
  | .benchSlotPass q record => Sys2Proof.Machine.execBenchSlotPass q record s
  | .benchSlotMissed q record => Sys2Proof.Machine.execBenchSlotMissed q record s
  | .fwd q => Sys2Proof.Machine.execFwd q s
  | .inv q => Sys2Proof.Machine.execInv q s
  | .automorphismEval q => Sys2Proof.Machine.execAutomorphismEval q s
  | .automorphismCoef q => Sys2Proof.Machine.execAutomorphismCoef q s
  | .bext q => Sys2Proof.Machine.execBext q s
  | .kmac q => Sys2Proof.Machine.execKmac q s
  | .expand q => Sys2Proof.Machine.execExpand q s
  | .kfetch q => Sys2Proof.Machine.execKfetch q s
  | .unitCommandComplete q unit => Sys2Proof.Machine.execUnitCommandComplete q unit s
  | .keyRequestReceived e r => Sys2Proof.Machine.execKeyRequestReceived e r s
  | .vaultPageSend e => Sys2Proof.Machine.execVaultPageSend e s
  | .keyPageLanding q tag page => Sys2Proof.Machine.execKeyPageLanding q tag page s
  | .keyRetry q tag => Sys2Proof.Machine.execKeyRetry q tag s
  | .keyNack q tag => Sys2Proof.Machine.execKeyNack q tag s
  | .keyCreditSend e partition vault => Sys2Proof.Machine.execKeyCreditSend e partition vault s
  | .pointOpen e partition point beat => Sys2Proof.Machine.execPointOpen e partition point beat s
  | .bearingAnswer e partition => Sys2Proof.Machine.execBearingAnswer e partition s
  | .pencilBudget e partition entry => Sys2Proof.Machine.execPencilBudget e partition entry s
  | .bearingTimeout e partition entry => Sys2Proof.Machine.execBearingTimeout e partition entry s
  | .gazCountInterval e => Sys2Proof.Machine.execGazCountInterval e s
  | .beatOpening e partition => Sys2Proof.Machine.execBeatOpening e partition s
  | .checkpointComplete e partition => Sys2Proof.Machine.execCheckpointComplete e partition s
  | .mirrorWrite e device partition tenant beat phase strips pages => Sys2Proof.Machine.execMirrorWrite e device partition tenant beat phase strips pages s
  | .mirrorAck e partition beat => Sys2Proof.Machine.execMirrorAck e partition beat s
  | .partitionHalt e partition => Sys2Proof.Machine.execPartitionHalt e partition s
  | .partitionRestart e partition => Sys2Proof.Machine.execPartitionRestart e partition s
  | .stallWatchdog e partition => Sys2Proof.Machine.execStallWatchdog e partition s
  | .sheetLoad e partition logical => Sys2Proof.Machine.execSheetLoad e partition logical s
  | .run e partition value => Sys2Proof.Machine.execRun e partition value s
  | .abort_ e strip mask => Sys2Proof.Machine.execAbort e strip mask s
  | .handover e partition => Sys2Proof.Machine.execHandover e partition s
  | .psbdReceived e psyncErrors hecOk count => Sys2Proof.Machine.execPsbdReceived e psyncErrors hecOk count s
  | .xgemFrameReceived e port keyIndex corrected lost counter payload => Sys2Proof.Machine.execXgemFrameReceived e port keyIndex corrected lost counter payload s
  | .burstProfile h index preamble delimiter fec => Sys2Proof.Machine.execBurstProfile h index preamble delimiter fec s
  | .assignOnuId h serial onuId => Sys2Proof.Machine.execAssignOnuId h serial onuId s
  | .rangingTime h eqdNs relative => Sys2Proof.Machine.execRangingTime h eqdNs relative s
  | .deactivateOnuId h => Sys2Proof.Machine.execDeactivateOnuId h s
  | .disableSerialNumber h serial enable => Sys2Proof.Machine.execDisableSerialNumber h serial enable s
  | .requestRegistration h => Sys2Proof.Machine.execRequestRegistration h s
  | .assignAllocId h allocId remove => Sys2Proof.Machine.execAssignAllocId h allocId remove s
  | .keyControl h keyIndex confirm => Sys2Proof.Machine.execKeyControl h keyIndex confirm s
  | .sleepAllow h allowed => Sys2Proof.Machine.execSleepAllow h allowed s
  | .ploamUnsupported h type => Sys2Proof.Machine.execPloamUnsupported h type s
  | .omciMessage e m => Sys2Proof.Machine.execOmciMessage e m s
  | .mibReset e micOk tci => Sys2Proof.Machine.execMibReset e micOk tci s
  | .timeOfDaySet e micOk tci sequence timestamp => Sys2Proof.Machine.execTimeOfDaySet e micOk tci sequence timestamp s
  | .to1Expiry e => Sys2Proof.Machine.execTo1Expiry e s
  | .to2Expiry e => Sys2Proof.Machine.execTo2Expiry e s
  | .activationBackoffEnd e => Sys2Proof.Machine.execActivationBackoffEnd e s
  | .allocation e a => Sys2Proof.Machine.execAllocation e a s
  | .allocationFill e a => Sys2Proof.Machine.execAllocationFill e a s
  | .burstOverrun e heldNs => Sys2Proof.Machine.execBurstOverrun e heldNs s
  | .opticsPoll e reading => Sys2Proof.Machine.execOpticsPoll e reading s
  | .watchfulSleepReception e count forcedWake => Sys2Proof.Machine.execWatchfulSleepReception e count forcedWake s
  | .segmentReceived e strip sdu => Sys2Proof.Machine.execSegmentReceived e strip sdu s
  | .assemblyTimeout e target => Sys2Proof.Machine.execAssemblyTimeout e target s
  | .answerSegment e partition port sdu => Sys2Proof.Machine.execAnswerSegment e partition port sdu s
  | .itemEntry e partition => Sys2Proof.Machine.execItemEntry e partition s
  | .udpDatagramReceived e port address udpPort fragment payload => Sys2Proof.Machine.execUdpDatagramReceived e port address udpPort fragment payload s
  | .igmpQuery e port group => Sys2Proof.Machine.execIgmpQuery e port group s
  | .localPortTransmit e port => Sys2Proof.Machine.execLocalPortTransmit e port s
  | .packetReceived e port corrected f => Sys2Proof.Machine.execPacketReceived e port corrected f s
  | .linkFrameRetransmit e port seq => Sys2Proof.Machine.execLinkFrameRetransmit e port seq s
  | .portAttempt e port phase => Sys2Proof.Machine.execPortAttempt e port phase s
  | .portAttemptTimeout e port => Sys2Proof.Machine.execPortAttemptTimeout e port s
  | .portBackoffEnd e port => Sys2Proof.Machine.execPortBackoffEnd e port s
  | .ident e port peer times => Sys2Proof.Machine.execIdent e port peer times s
  | .portDown e port lanesLost => Sys2Proof.Machine.execPortDown e port lanesLost s
  | .linkState e port device direction up seq => Sys2Proof.Machine.execLinkState e port device direction up seq s
  | .eyeMeasurement e port eyesMv => Sys2Proof.Machine.execEyeMeasurement e port eyesMv s
  | .delayExchange e port t1 t2 t3 t4 => Sys2Proof.Machine.execDelayExchange e port t1 t2 t3 t4 s
  | .datumClaim e => Sys2Proof.Machine.execDatumClaim e s
  | .update e port tick state correction residence => Sys2Proof.Machine.execUpdate e port tick state correction residence s
  | .heartbeatSend e => Sys2Proof.Machine.execHeartbeatSend e s
  | .heartbeatReceived e device running handover fenced => Sys2Proof.Machine.execHeartbeatReceived e device running handover fenced s
  | .heartbeatAck e device => Sys2Proof.Machine.execHeartbeatAck e device s
  | .fenceTimeout e device => Sys2Proof.Machine.execFenceTimeout e device s
  | .buddyLossTimeout e holder => Sys2Proof.Machine.execBuddyLossTimeout e holder s
  | .takeover e holder => Sys2Proof.Machine.execTakeover e holder s
  | .ethFrameReceived e port fcsOk frame => Sys2Proof.Machine.execEthFrameReceived e port fcsOk frame s
  | .arpRequestSend e port ip => Sys2Proof.Machine.execArpRequestSend e port ip s
  | .arpRefresh e port ip => Sys2Proof.Machine.execArpRefresh e port ip s
  | .mdioPoll e status => Sys2Proof.Machine.execMdioPoll e status s
  | .speedJudgement e => Sys2Proof.Machine.execSpeedJudgement e s
  | .wakeMatch e port fcsOk frame => Sys2Proof.Machine.execWakeMatch e port fcsOk frame s
  | .announce e a => Sys2Proof.Machine.execAnnounce e a s
  | .sync e port sender t1 t2 => Sys2Proof.Machine.execSync e port sender t1 t2 s
  | .delayResp e t3 t4 => Sys2Proof.Machine.execDelayResp e t3 t4 s
  | .ptpTimeout e => Sys2Proof.Machine.execPtpTimeout e s
  | .ed25519Verify e record input => Sys2Proof.Machine.execEd25519Verify e record input s
  | .p256Verify e record input => Sys2Proof.Machine.execP256Verify e record input s
  | .p384Verify e record input => Sys2Proof.Machine.execP384Verify e record input s
  | .rsaVerify e record input => Sys2Proof.Machine.execRsaVerify e record input s
  | .mldsa65Verify e record input => Sys2Proof.Machine.execMldsa65Verify e record input s
  | .agree e record input => Sys2Proof.Machine.execAgree e record input s
  | .attest e record input => Sys2Proof.Machine.execAttest e record input s
  | .jobFree e record => Sys2Proof.Machine.execJobFree e record s
  | .jobStart e => Sys2Proof.Machine.execJobStart e s
  | .yieldStation e => Sys2Proof.Machine.execYieldStation e s
  | .jobComplete e retry => Sys2Proof.Machine.execJobComplete e retry s
  | .jobAbort e record => Sys2Proof.Machine.execJobAbort e record s
  | .keyOverlapEnd e slot => Sys2Proof.Machine.execKeyOverlapEnd e slot s
  | .keyErase e value => Sys2Proof.Machine.execKeyErase e value s
  | .raiseFloor e value => Sys2Proof.Machine.execRaiseFloor e value s
  | .revokeKeyset e value => Sys2Proof.Machine.execRevokeKeyset e value s
  | .ezithRequest e path message => Sys2Proof.Machine.execEzithRequest e path message s
  | .read e path index sub offset length => Sys2Proof.Machine.execRead e path index sub offset length s
  | .write e slot txn index sub setLength offset data => Sys2Proof.Machine.execWrite e slot txn index sub setLength offset data s
  | .begin_ e slot => Sys2Proof.Machine.execBegin e slot s
  | .commit e slot txn tick => Sys2Proof.Machine.execCommit e slot txn tick s
  | .rollback e slot txn => Sys2Proof.Machine.execRollback e slot txn s
  | .registerWrite e index sub setLength offset data => Sys2Proof.Machine.execRegisterWrite e index sub setLength offset data s
  | .commitJudgement e => Sys2Proof.Machine.execCommitJudgement e s
  | .rollbackRevert e record => Sys2Proof.Machine.execRollbackRevert e record s
  | .txnIdleRollback e record => Sys2Proof.Machine.execTxnIdleRollback e record s
  | .eventSend e subscriber => Sys2Proof.Machine.execEventSend e subscriber s
  | .eventAck e path message => Sys2Proof.Machine.execEventAck e path message s
  | .eventRetry e subscriber => Sys2Proof.Machine.execEventRetry e subscriber s
  | .create e port kind object size => Sys2Proof.Machine.execCreate e port kind object size s
  | .seal e port digest => Sys2Proof.Machine.execSeal e port digest s
  | .open_ e port object => Sys2Proof.Machine.execOpen e port object s
  | .close e port => Sys2Proof.Machine.execClose e port s
  | .delete e port object => Sys2Proof.Machine.execDelete e port object s
  | .load e port object partition page offset length => Sys2Proof.Machine.execLoad e port object partition page offset length s
  | .archive e port object partition => Sys2Proof.Machine.execArchive e port object partition s
  | .portAbort e port => Sys2Proof.Machine.execPortAbort e port s
  | .portOperationComplete e port => Sys2Proof.Machine.execPortOperationComplete e port s
  | .portData e port data => Sys2Proof.Machine.execPortData e port data s
  | .portPos e port pos => Sys2Proof.Machine.execPortPos e port pos s
  | .vaultKey e entry value => Sys2Proof.Machine.execVaultKey e entry value s
  | .gazPage e partition page => Sys2Proof.Machine.execGazPage e partition page s
  | .gazNext e partition image => Sys2Proof.Machine.execGazNext e partition image s
  | .flavour e value => Sys2Proof.Machine.execFlavour e value s
  | .ptpEpochOffset e value => Sys2Proof.Machine.execPtpEpochOffset e value s
  | .journalRecordProgrammed e => Sys2Proof.Machine.execJournalRecordProgrammed e s
  | .patrolRead e channel block bits retried last => Sys2Proof.Machine.execPatrolRead e channel block bits retried last s
  | .wearRelocation e channel => Sys2Proof.Machine.execWearRelocation e channel s
  | .programFailure e channel block => Sys2Proof.Machine.execProgramFailure e channel block s
  | .codewordReadRetry e channel object codeword recovered => Sys2Proof.Machine.execCodewordReadRetry e channel object codeword recovered s
  | .ewarnStop e => Sys2Proof.Machine.execEwarnStop e s
  | .mount e targets => Sys2Proof.Machine.execMount e targets s
  | .vinQualified e => Sys2Proof.Machine.execVinQualified e s
  | .startComplete e => Sys2Proof.Machine.execStartComplete e s
  | .sentryInrushFail e => Sys2Proof.Machine.execSentryInrushFail e s
  | .sentryGateStuck e => Sys2Proof.Machine.execSentryGateStuck e s
  | .sentrySample e sample => Sys2Proof.Machine.execSentrySample e sample s
  | .sentryOvercurrent e => Sys2Proof.Machine.execSentryOvercurrent e s
  | .sentryOv e => Sys2Proof.Machine.execSentryOv e s
  | .sentryUv e => Sys2Proof.Machine.execSentryUv e s
  | .tsnsReading e reading => Sys2Proof.Machine.execTsnsReading e reading s
  | .controlledCut e => Sys2Proof.Machine.execControlledCut e s
  | .ewarnInput e => Sys2Proof.Machine.execEwarnInput e s
  | .ewarnNegate e => Sys2Proof.Machine.execEwarnNegate e s
  | .sentryBackoffEnd e => Sys2Proof.Machine.execSentryBackoffEnd e s
  | .sentryFetShort e => Sys2Proof.Machine.execSentryFetShort e s
  | .pinContention e pin => Sys2Proof.Machine.execPinContention e pin s
  | .pinTest e pin contention => Sys2Proof.Machine.execPinTest e pin contention s
  | .hintChange q record lead => Sys2Proof.Machine.execHintChange q record lead s
  | .droop q => Sys2Proof.Machine.execDroop q s
  | .droopRecovery q => Sys2Proof.Machine.execDroopRecovery q s
  | .calibrationHoleEnd q record => Sys2Proof.Machine.execCalibrationHoleEnd q record s
  | .holeStarvation q => Sys2Proof.Machine.execHoleStarvation q s
  | .thermalSample q tempC => Sys2Proof.Machine.execThermalSample q tempC s
  | .dormantEnter e => Sys2Proof.Machine.execDormantEnter e s
  | .dormantEntryComplete e => Sys2Proof.Machine.execDormantEntryComplete e s
  | .wakeAt e => Sys2Proof.Machine.execWakeAt e s
  | .wake e => Sys2Proof.Machine.execWake e s
  | .wakeComplete e => Sys2Proof.Machine.execWakeComplete e s
  | .deviceHalt e => Sys2Proof.Machine.execDeviceHalt e s
  | .clear e value => Sys2Proof.Machine.execClear e value s
  | .inject e record => Sys2Proof.Machine.execInject e record s
  | .severity e source value => Sys2Proof.Machine.execSeverity e source value s
  | .faultLogProgram e => Sys2Proof.Machine.execFaultLogProgram e s
  | .railsInRange e => Sys2Proof.Machine.execRailsInRange e s
  | .bootRound e answers => Sys2Proof.Machine.execBootRound e answers s
  | .bootRoundBackoffEnd e => Sys2Proof.Machine.execBootRoundBackoffEnd e s
  | .stackTrainingAttempt e stack ok => Sys2Proof.Machine.execStackTrainingAttempt e stack ok s
  | .quadCalibration e quad passMv => Sys2Proof.Machine.execQuadCalibration e quad passMv s
  | .startupObjectApply e => Sys2Proof.Machine.execStartupObjectApply e s
  | .laneSweep e command => Sys2Proof.Machine.execLaneSweep e command s
  | .stackSweep e command => Sys2Proof.Machine.execStackSweep e command s
  | .coreSweep e command => Sys2Proof.Machine.execCoreSweep e command s
  | .sweepComplete e result => Sys2Proof.Machine.execSweepComplete e result s
  | .sweepAbort e => Sys2Proof.Machine.execSweepAbort e s
  | .powerOn => Sys2Proof.Machine.execPowerOn s
  | .psbdMissing e => Sys2Proof.Machine.execPsbdMissing e s
  | .ethLinkChange e port up speedMbps => Sys2Proof.Machine.execEthLinkChange e port up speedMbps s
  | .vaultKeyLoadComplete e entry => Sys2Proof.Machine.execVaultKeyLoadComplete e entry s
  | .extest cells => Sys2Proof.Machine.execExtest cells s

end Sys2Proof.Machine
end

