-- ==== Sys2Proof/Safety.lean ====
section
/-! DEFINITION. The terms in which claims are stated: a command completes with its effect, a command touches only named
parts of the device, and the conditions under which each family of commands acts. -/

namespace Sys2Proof.Machine

/-- The command answers a next state whose device has the property; the queue of waiting commands and the fuses are as
before. -/
def Does (c : Instr) (s : State) (P : Dev → Prop) : Prop :=
  ∃ t, exec c s = .next t ∧ t.pending = s.pending ∧ t.fuses = s.fuses ∧ P t.dev

/-- The command does nothing but let its moment pass. -/
def Passes (c : Instr) (s : State) (e : Nat) : Prop := Does c s fun d => d = s.dev.at e

/-! ## The whole machine -/

/-- The unit that a command names exists where so many quads, SRAM stacks and Aksia ports are fitted (00 R3, Table 0.1 and
the ranges of the chapters). -/
def unitWithin (quads sram ports : Nat) : Instr → Bool
  | .tickEdge .. | .graticuleStep .. | .dwellEnd .. | .fabricUpdateTimeout .. | .holdoverLimit .. | .splitComparison .. | .keyRequestReceived .. | .vaultPageSend .. | .gazCountInterval .. | .mirrorWrite .. => true
  | .psbdReceived .. | .xgemFrameReceived .. | .burstProfile .. | .assignOnuId .. | .rangingTime .. | .deactivateOnuId .. | .disableSerialNumber .. | .requestRegistration .. | .assignAllocId .. | .keyControl .. => true
  | .sleepAllow .. | .ploamUnsupported .. | .omciMessage .. | .mibReset .. | .timeOfDaySet .. | .to1Expiry .. | .to2Expiry .. | .activationBackoffEnd .. | .allocation .. | .allocationFill .. => true
  | .burstOverrun .. | .opticsPoll .. | .watchfulSleepReception .. | .datumClaim .. | .heartbeatSend .. | .heartbeatReceived .. | .heartbeatAck .. | .fenceTimeout .. | .mdioPoll .. | .speedJudgement .. => true
  | .delayResp .. | .ptpTimeout .. | .jobStart .. | .yieldStation .. | .jobComplete .. | .jobAbort .. | .keyErase .. | .raiseFloor .. | .revokeKeyset .. | .ezithRequest .. => true
  | .read .. | .write .. | .begin_ .. | .commit .. | .rollback .. | .registerWrite .. | .commitJudgement .. | .eventAck .. | .flavour .. | .ptpEpochOffset .. => true
  | .journalRecordProgrammed .. | .ewarnStop .. | .mount .. | .vinQualified .. | .startComplete .. | .sentryInrushFail .. | .sentryGateStuck .. | .sentrySample .. | .sentryOvercurrent .. | .sentryOv .. => true
  | .sentryUv .. | .tsnsReading .. | .controlledCut .. | .ewarnInput .. | .ewarnNegate .. | .sentryBackoffEnd .. | .sentryFetShort .. | .dormantEnter .. | .dormantEntryComplete .. | .wakeAt .. => true
  | .wake .. | .wakeComplete .. | .deviceHalt .. | .clear .. | .inject .. | .severity .. | .faultLogProgram .. | .railsInRange .. | .bootRound .. | .bootRoundBackoffEnd .. => true
  | .startupObjectApply .. | .laneSweep .. | .stackSweep .. | .coreSweep .. | .sweepComplete .. | .sweepAbort .. | .powerOn | .psbdMissing .. | .extest .. => true
  | .add q | .sub q | .and_ q | .or_ q | .xor_ q | .sll q | .srl q | .sra q | .slt q | .sltu q => decide (q.quad.toNat < quads)
  | .mul q | .mulh q | .mulhu q | .addi q | .andi q | .ori q | .xori q | .slti q | .slli q | .srli q => decide (q.quad.toNat < quads)
  | .srai q | .lui q | .lb q | .lh q | .lw q | .lbu q | .lhu q | .sb q | .sh q | .sw q => decide (q.quad.toNat < quads)
  | .beq q | .bne q | .blt q | .bge q | .bltu q | .bgeu q | .jal q | .jalr q | .fence q | .csrr q => decide (q.quad.toNat < quads)
  | .csrw q | .send q | .recv q | .recvw q | .qlen q | .arm q | .armt q | .cancel q | .yield q | .done q => decide (q.quad.toNat < quads)
  | .rdt q | .rdth q | .waitt q | .cmd q | .uwait q | .ustat q | .trap q | .illegalInstruction q | .storeBufferDrain q | .taskDispatch q => decide (q.quad.toNat < quads)
  | .laneCommand q | .laneNop q _ | .laneLd q _ | .laneSt q _ | .laneMovi q _ | .laneMov q _ | .laneAdd q _ | .laneSub q _ | .laneMul q _ | .laneMac q _ => decide (q.quad.toNat < quads)
  | .laneMin q _ | .laneMax q _ | .laneAbs q _ | .laneNeg q _ | .laneShl q _ | .laneShr q _ | .laneAnd q _ | .laneOr q _ | .laneXor q _ | .laneCvt q _ => decide (q.quad.toNat < quads)
  | .laneCeq q _ | .laneClt q _ | .laneCle q _ | .laneSel q _ | .laneMand q _ | .laneMor q _ | .laneMnot q _ | .laneXsum q _ | .laneXmax q _ | .laneXmin q _ => decide (q.quad.toNat < quads)
  | .laneSetq q _ | .laneMadd q _ | .laneMsub q _ | .laneMmul q _ | .laneMmac q _ | .laneLaneid q _ | .laneIter q _ | .copy q | .gather q | .scatter q => decide (q.quad.toNat < quads)
  | .zero q | .cimLoad q | .dot q | .had q | .bench q | .fwd q | .inv q | .automorphismEval q | .automorphismCoef q | .bext q => decide (q.quad.toNat < quads)
  | .kmac q | .expand q | .kfetch q | .keyPageLanding q _ _ | .keyRetry q _ | .keyNack q _ | .hintChange q _ _ | .droopRecovery q | .calibrationHoleEnd q _ => decide (q.quad.toNat < quads)
  | .holeStarvation q | .thermalSample q _ => decide (q.quad.toNat < quads)
  | .droop x => decide (x.quad.quad.toNat < quads)
  | .benchSlotPass q record | .benchSlotMissed q record => decide (q.quad.toNat < quads) && decide (record < 64)
  | .unitCommandComplete q unit => decide (q.quad.toNat < quads) && decide (unit < 6)
  | .keyCreditSend _ partition _ | .bearingAnswer _ partition | .beatOpening _ partition | .checkpointComplete _ partition | .mirrorAck _ partition _ | .partitionHalt _ partition | .partitionRestart _ partition | .stallWatchdog _ partition | .run _ partition _ | .handover _ partition => decide (partition < 64)
  | .answerSegment _ partition _ _ | .itemEntry _ partition | .gazPage _ partition _ | .gazNext _ partition _ => decide (partition < 64)
  | .pointOpen _ partition point _ => decide (partition < 64) && decide (point < 64)
  | .pencilBudget _ partition entry | .bearingTimeout _ partition entry => decide (partition < 64) && decide (entry < 16)
  | .sheetLoad _ partition logical => decide (partition < 64) && decide (logical < 256)
  | .abort_ _ strip _ | .segmentReceived _ strip _ => decide (strip < 256)
  | .udpDatagramReceived _ port _ _ _ _ | .igmpQuery _ port _ | .localPortTransmit _ port => decide (port = 1) || decide (port = 2)
  | .packetReceived _ port _ _ | .linkFrameRetransmit _ port _ | .portAttempt _ port _ | .portAttemptTimeout _ port | .portBackoffEnd _ port | .ident _ port _ _ | .portDown _ port _ | .linkState _ port _ _ _ _ | .eyeMeasurement _ port _ | .delayExchange _ port _ _ _ _ => decide (port < ports)
  | .update _ port _ _ _ _ => decide (port < ports)
  | .buddyLossTimeout _ holder | .takeover _ holder => decide (holder < 64)
  | .ethFrameReceived _ port _ _ | .arpRequestSend _ port _ | .arpRefresh _ port _ | .wakeMatch _ port _ _ | .sync _ port _ _ _ | .ethLinkChange _ port _ _ => decide (port < 3)
  | .announce _ a => decide (a.port < 3)
  | .ed25519Verify _ record _ | .p256Verify _ record _ | .p384Verify _ record _ | .rsaVerify _ record _ | .mldsa65Verify _ record _ | .agree _ record _ | .attest _ record _ | .jobFree _ record | .rollbackRevert _ record | .txnIdleRollback _ record => decide (record < 16)
  | .keyOverlapEnd _ slot => decide (slot < 128)
  | .eventSend _ subscriber | .eventRetry _ subscriber => decide (subscriber < 8)
  | .create _ port _ _ _ | .seal _ port _ | .open_ _ port _ | .close _ port | .delete _ port _ | .load _ port _ _ _ _ _ | .archive _ port _ _ | .portAbort _ port | .portOperationComplete _ port | .portData _ port _ => decide (port < 8)
  | .portPos _ port _ => decide (port < 8)
  | .vaultKey _ entry _ | .vaultKeyLoadComplete _ entry => decide (entry < 256)
  | .patrolRead _ channel _ _ _ _ | .wearRelocation _ channel | .programFailure _ channel _ | .codewordReadRetry _ channel _ _ _ => decide (channel < 8)
  | .pinContention _ pin | .pinTest _ pin _ => decide (pin < 5)
  | .stackTrainingAttempt _ stack _ => decide (stack < sram)
  | .quadCalibration _ quad _ => decide (quad.toNat < quads)
  | .messageDelivery _ _ src => match src with
    | .quad n => decide (n.toNat < quads)
    | .ingress p l _ => decide (p < 64) && decide (l < 256)
    | .notice p l => decide (p < 64) && decide (l < 256)
  | .assemblyTimeout _ target => match target with
    | .strip n => decide (n < 256)
    | .answer p _ => decide (p < 64)

/-- The unit that a command names exists on the device. -/
def unitFitted (d : Dev) (c : Instr) : Bool := unitWithin (quadsFitted d) (stacksFitted d) (portsFitted d) c

/-- The fuses are those given or tighter: no lower floor, no revocation withdrawn, the same key-set hashes (12 R498,
R502). -/
def FusesKept (f : Fuses) (s : State) : Prop :=
  f.floor.toNat ≤ s.fuses.floor.toNat ∧ f.revoked &&& s.fuses.revoked = f.revoked ∧
    s.fuses.hash0 = f.hash0 ∧ s.fuses.hash1 = f.hash1 ∧ s.fuses.hash2 = f.hash2 ∧ s.fuses.hash3 = f.hash3

/-! ## Graticule -/

/-- Nothing of the device but the graticule is touched. -/
def GratOnly (s : State) (d : Dev) : Prop := d = { s.dev with grat := d.grat }

/-! ## Plotter core -/

/-- The quad of a core command. -/
def coreQuad (s : State) (q : QuadAt) : Quad := s.dev.quad q.quad.toNat

/-- The instruction word that the running task of the quad is at. -/
def coreWord (s : State) (q : QuadAt) : Nat := fetchWord (coreQuad s q)

/-- The quad is fitted, loaded and neither trapped nor failed, a task of it runs, and its PC names an instruction word
whose parity holds (00 R3; 03 R65, R69, R88, R98). -/
def CoreRuns (s : State) (q : QuadAt) : Prop :=
  q.quad.toNat < quadsFitted s.dev ∧ quadLive (coreQuad s q) = true ∧ (runningSlot (coreQuad s q)).isSome = true ∧
    pcOk (coreQuad s q).pc = true ∧ fetchError (coreQuad s q) = none

/-- The running task is at an instruction of an op value (03 Table 3.3). -/
def AtOp (s : State) (q : QuadAt) (op : Nat) : Prop := CoreRuns s q ∧ fOp (coreWord s q) = op

/-- The running task is at an R-format instruction of an fn value. -/
def AtFn (s : State) (q : QuadAt) (fn : Nat) : Prop := AtOp s q 0 ∧ fFn (coreWord s q) = fn

/-- The least cycle at which an instruction of `cost` cycles retires: so many after the last retirement, or 2 after the
dispatch of its task (03 R88). -/
def costCycle (s : State) (q : QuadAt) (cost : Nat) : Nat := (coreQuad s q).cyc + (if (coreQuad s q).fresh then 2 else cost)

/-- The retire cycle of an instruction whose least number of cycles is `cost`. -/
def coreCycle (s : State) (q : QuadAt) (cost : Nat) : Nat := max q.cyc (costCycle s q cost)

/-- What an instruction of a quad may touch beside its own quad: the moment, the record of when the quad was last busy,
and one partition's watchdog window (03 R114, 07 R314). Every other quad, stack memory and all else is as before. -/
def CoreFrame (s : State) (q : QuadAt) (d : Dev) : Prop :=
  d = { s.dev with
    grat := { s.dev.grat with e := max s.dev.grat.e q.e }
    quads := d.quads
    contours := tabSet {} s.dev.contours q.quad.toNat { s.dev.contour q.quad.toNat with lastBusy := now (s.dev.at q.e) }
    parts := d.parts } ∧
  (∀ n, n ≠ q.quad.toNat → d.quad n = s.dev.quad n) ∧
  (d.parts = s.dev.parts ∨
    ∃ p, d.parts = tabSet {} s.dev.parts p { s.dev.partition p with wdBase := now (s.dev.at q.e), wdClosed := false })

/-- The instruction retires: the quad becomes `x` with its clock at `cyc` and its PC at `pc`, and nothing else of the
device is touched but what CoreFrame names. -/
def Retires (c : Instr) (s : State) (q : QuadAt) (cyc : Nat) (x : Quad) (pc : Word) : Prop :=
  Does c s fun d => d.quad q.quad.toNat = { x with cyc := cyc, pc := pc, fresh := false } ∧ CoreFrame s q d

/-- The instruction retires after its least number of cycles with the quad otherwise `x` and the PC at the next word. -/
def RetiresNext (c : Instr) (s : State) (q : QuadAt) (cost : Nat) (x : Quad) : Prop :=
  Retires c s q (coreCycle s q cost) x ((coreQuad s q).pc + 4)

/-- The same with one register written; g0 discards what is written (03 R62). -/
def WritesReg (c : Instr) (s : State) (q : QuadAt) (cost : Nat) (v : Word) : Prop :=
  RetiresNext c s q cost ((coreQuad s q).setReg (fGd (coreWord s q)) v)

/-- A branch: taken it retires after 3 cycles with the PC moved by 4 times the immediate, else after 1 cycle. -/
def Branches (c : Instr) (s : State) (q : QuadAt) (taken : Bool) : Prop :=
  if taken then Retires c s q (max (coreCycle s q 1) (costCycle s q 3)) (coreQuad s q) ((coreQuad s q).pc + 4 * sImm (coreWord s q))
  else RetiresNext c s q 1 (coreQuad s q)

/-- The quad address of a load or store: gs1 plus the sign-extended immediate (03 Table 3.3). -/
def dataAddr (s : State) (q : QuadAt) : Nat :=
  ((coreQuad s q).reg (fGs1 (coreWord s q)) + sImm (coreWord s q)).toNat

/-- No word of the quad's memories holds an injected error (16 R629). -/
def Clean (s : State) (q : QuadAt) : Prop := (coreQuad s q).inj = []

/-- A quad after its oldest buffered store has drained at a cycle (03 R71, 06 R234). -/
def drainedOnce (x : Quad) (c : Nat) : Quad :=
  match x.sb with
  | [] => x
  | t :: r =>
    tagSpan { x with sb := r, drained := c + 1, mem := memWrite x.mem t.addr (le t.size t.data.toNat) } t.addr t.size t.tag

/-- A quad after its oldest buffered store has drained in the first cycle that lets it: after the cycle in which it was
written, one entry a cycle, and not while a load uses the port of its memory (03 R71). -/
def drainedNext (x : Quad) : Quad :=
  match x.sb with
  | [] => x
  | t :: _ =>
    let k := max (t.cyc + 1) x.drained
    drainedOnce x (if x.loadAt = some (k, bankCode t.addr) then k + 1 else k)

/-- A quad after stores have drained, oldest first, each in its own cycle, until none that overlaps [a, a + len) is left;
the buffer holds at most `fuel` (03 R71, R73, R74). -/
def drainedOver (x : Quad) (a len : Nat) : Nat → Quad
  | 0 => x
  | fuel + 1 => if x.sb.any (·.overlaps a len) then drainedOver (drainedNext x) a len fuel else x

/-- A quad after every buffered store has drained, each in its own cycle (03 R75). -/
def drainedAll (x : Quad) : Nat → Quad
  | 0 => x
  | fuel + 1 => if x.sb.isEmpty then x else drainedAll (drainedNext x) fuel

/-- The retire cycle of an instruction that waited for stores to drain: the first at whose start they have (03 R73 to
R75). -/
def waitCycle (waited : Bool) (y : Quad) (c : Nat) : Nat := if waited then max c y.drained else c

/-- The octet at a quad address as the program sees it: of the youngest buffered store that covers it, else of memory
(03 R70, R72). -/
def viewByte (x : Quad) (a : Nat) : Byte :=
  match (x.sb.filter (·.overlaps a 1)).getLast? with
  | some t => BitVec.ofNat 8 (bitsAt (8 * (a - t.addr)) 8 t.data.toNat)
  | none => memByte x.mem a

/-- The `len` octets from an address as the program sees them. -/
def viewBytes (x : Quad) (a : Nat) : Nat → Bytes
  | 0 => []
  | n + 1 => viewByte x a :: viewBytes x (a + 1) n

/-- The store buffer as every run leaves it: at most 8 entries, each of 1, 2 or 4 octets (03 R70). -/
def BufferOk (x : Quad) : Prop := x.sb.length ≤ 8 ∧ (∀ t ∈ x.sb, t.size = 1 ∨ t.size = 2 ∨ t.size = 4) ∧ Memory.wf x.mem = true

/-- The span is one that a plotter-core load may read: data memory, weight bank or activation bank (03 Table 3.4). -/
def Loadable (a len : Nat) : Prop :=
  bankSpan a len = some .dmem ∨ bankSpan a len = some .weight ∨ bankSpan a len = some .act

/-- The span is one that a plotter-core store may write: data memory or activation bank (03 Table 3.4). -/
def Storable (a len : Nat) : Prop := bankSpan a len = some .dmem ∨ bankSpan a len = some .act

/-- A load: the value loaded is `ext` of the octets that the program sees; the PC moves to the next word; of the quad
only registers, memory, store buffer, load port, tags and clock are touched, and of the rest only what CoreFrame names. -/
def LoadsView (c : Instr) (s : State) (q : QuadAt) (len : Nat) (ext : Nat → Word) : Prop :=
  let x := coreQuad s q
  let w := coreWord s q
  Does c s fun d => CoreFrame s q d ∧
    (d.quad q.quad.toNat).pc = x.pc + 4 ∧
    (d.quad q.quad.toNat).g = (x.setReg (fGd w) (ext (leVal (viewBytes x (dataAddr s q) len)))).g ∧
    (∀ a, viewByte (d.quad q.quad.toNat) a = viewByte x a) ∧
    d.quad q.quad.toNat = { x with
      g := (d.quad q.quad.toNat).g, pc := x.pc + 4, cyc := (d.quad q.quad.toNat).cyc, fresh := false, sb := (d.quad q.quad.toNat).sb
      mem := (d.quad q.quad.toNat).mem, drained := (d.quad q.quad.toNat).drained, loadAt := (d.quad q.quad.toNat).loadAt
      tags := (d.quad q.quad.toNat).tags, coreTag := (d.quad q.quad.toNat).coreTag }

/-- The hypotheses of a load of `len` octets that the spec lets read (03 R67, R68). -/
def LoadReady (s : State) (q : QuadAt) (op len : Nat) : Prop :=
  AtOp s q op ∧ Clean s q ∧ BufferOk (coreQuad s q) ∧ dataAddr s q % len = 0 ∧ Loadable (dataAddr s q) len

/-- The entry that a store of `len` octets puts into the store buffer at a cycle (03 R70). -/
def storeEntry (s : State) (q : QuadAt) (len c : Nat) : StoreEntry :=
  let x := coreQuad s q
  { addr := dataAddr s q, size := len, data := BitVec.ofNat 32 ((x.reg (fGd (coreWord s q))).toNat % 2 ^ (8 * len))
    cyc := c, tag := x.coreTag }

/-- A store of `len` octets that the spec lets write: it enters the store buffer, after the oldest entry has drained
when the buffer is full (03 R67, R68, R70). -/
def Stores (c : Instr) (s : State) (q : QuadAt) (op len : Nat) : Prop :=
  AtOp s q op → Clean s q → dataAddr s q % len = 0 → Storable (dataAddr s q) len →
    let x := coreQuad s q
    let y := if 8 ≤ x.sb.length then drainedNext x else x
    let k := waitCycle (decide (8 ≤ x.sb.length)) y (coreCycle s q 1)
    Retires c s q k { y with sb := y.sb ++ [storeEntry s q len k] } (x.pc + 4)

/-- A trap: the quad halts, its record takes PC and cause, SHEET_TRAP is raised in its name, and the partition of the
quad gets no progress from it (03 R69). -/
def Traps (c : Instr) (s : State) (q : QuadAt) (cause : Nat) (code : BitVec 16) : Prop :=
  let x := coreQuad s q
  Does c s fun d => d = raiseQuad ((s.dev.at q.e).setQuad q.quad.toNat { x with
    st := .trapped, trapPc := x.pc, trapCause := BitVec.ofNat 8 cause, trapCode := code
    causes := if 0xF8 ∈ x.causes then x.causes else x.causes ++ [0xF8] }) 0xF8 q.quad.toNat cause x.sheetId.toNat [] false

/-- The number of the running slot. -/
def runSlot (s : State) (q : QuadAt) : Nat := (runningSlot (coreQuad s q)).getD 0

/-- The running slot as it stands. -/
def runTask (s : State) (q : QuadAt) : Slot := nth {} (coreQuad s q).slots (runSlot s q)

/-- A slot that CANCEL has stopped (03 R90). -/
def cancelledSlot (t : Slot) : Slot :=
  { t with st := .idle, trig := none, wait := none, pending := none, cancelled := false }

/-- The quad with its running slot replaced. -/
def withRunSlot (s : State) (q : QuadAt) (t : Slot) : Quad :=
  { coreQuad s q with slots := setNth (coreQuad s q).slots (runSlot s q) t }

/-! ## Lane array -/

/-- The lane array of a quad command. -/
def laneArray (s : State) (q : QuadAt) : Lanes := (coreQuad s q).lanes

/-- A lane instruction that passes the start check on a fitted, live quad whose lane array has not stopped (04 R123,
R130, R138). -/
def LaneReady (s : State) (q : QuadAt) (op : Nat) (a : LaneArgs) : Prop :=
  q.quad.toNat < quadsFitted s.dev ∧ quadLive (coreQuad s q) = true ∧
    laneInsOk (laneArray s q).streams { op := op, a := a } = true ∧ (laneArray s q).stopped = false

/-- The lane array's pencil tag joined with the running command's (06 Table 6.6). -/
def laneTagNow (x : Quad) : PTag := x.laneTag ||| (match headCmd x 1 with | some c => c.tag | none => 0)

/-- Lane l executes the instruction: it is active and its mask bit, inverted under MINV, is set; SEL executes in every
active lane (04 R119, R127). -/
def laneRuns (s : State) (q : QuadAt) (op : Nat) (a : LaneArgs) (l : Nat) : Bool :=
  (laneArray s q).m0.getLsbD l && (decide (op = 0x16) || ((laneArray s q).mask a.mask.toNat).getLsbD l != a.minv)

/-- The command leaves the quad with the lane array `y`; nothing else of the device is touched but the moment and the
lane array's pencil tag. -/
def LaneLeaves (c : Instr) (s : State) (q : QuadAt) (y : Lanes) : Prop :=
  Does c s fun d => d = (s.dev.at q.e).setQuad q.quad.toNat { coreQuad s q with lanes := y, laneTag := laneTagNow (coreQuad s q) }

/-- Register vd of every executing lane takes the value given for the lane, every other register keeps its own, and the
flags of those lanes are gathered; masks, moduli, streams and all else of the lane array stay. -/
def LaneWrites (c : Instr) (s : State) (q : QuadAt) (op : Nat) (a : LaneArgs) (v : Nat → LaneRes) : Prop :=
  LaneReady s q op a → tabWf 0 (laneArray s q).v = true →
    ∃ y, LaneLeaves c s q y ∧
      (∀ l r, l < 64 → r < 16 →
        y.reg l r = if r = a.vd.toNat ∧ laneRuns s q op a l = true then (v l).1 % 2 ^ 64 else (laneArray s q).reg l r) ∧
      (∀ k, k < 32 → (y.flags.getLsbD k = true ↔
        (laneArray s q).flags.getLsbD k = true ∨ ∃ l, l < 64 ∧ laneRuns s q op a l = true ∧ (v l).2.testBit k = true)) ∧
      y = { laneArray s q with v := y.v, flags := y.flags }

/-- The operand of a lane at the instruction's type (04 R118, R130). -/
def laneArg (s : State) (q : QuadAt) (a : LaneArgs) (l : Nat) (r : BitVec 4) : Nat :=
  (laneArray s q).reg l r.toNat % 2 ^ typeBits a.type.toNat

/-- The operand of a lane as a residue of 36 bits. -/
def laneRes (s : State) (q : QuadAt) (l : Nat) (r : BitVec 4) : Nat := (laneArray s q).reg l r.toNat % 2 ^ 36

/-- Executing lanes, in rising order. -/
def laneList (s : State) (q : QuadAt) (op : Nat) (a : LaneArgs) : List Nat :=
  (List.range 64).filter fun l => laneRuns s q op a l

/-- The address of a lane's stream element (04 R122). -/
def laneElem (s : State) (q : QuadAt) (a : LaneArgs) (l : Nat) : Nat :=
  (elemAddr (nth ⟨0, 0, 0, 0⟩ (laneArray s q).streams (a.imm.toNat % 8)) l (laneArray s q).iter).toNat

/-! ## Units of a quad -/

/-- A unit of a fitted, live quad is at a command whose work is not done; `r` are the commands behind it (03 R95, R96). -/
def UnitAt (s : State) (q : QuadAt) (u : Nat) (cmd : UnitCmd) (r : List UnitCmd) : Prop :=
  q.quad.toNat < quadsFitted s.dev ∧ quadLive (coreQuad s q) = true ∧ nth [] (coreQuad s q).units u = cmd :: r ∧
    cmd.done = none

/-- The quad cycle at which a unit's work is looked at: no earlier than the core's last retirement, and for unit 2 than the
end of a slot's pass (04 R161). -/
def unitCycle (s : State) (q : QuadAt) (u : Nat) : Nat :=
  max (max q.cyc (coreQuad s q).cyc) (if u = 2 then (coreQuad s q).passUntil else 0)

/-- The command's work ends with a status and a cycle at which it completes; the quad becomes some `y` with the property,
but for the unit's queue, and nothing else of the device but the moment is touched. -/
def UnitEnds (c : Instr) (s : State) (q : QuadAt) (u : Nat) (cmd : UnitCmd) (r : List UnitCmd) (status : Byte)
    (moved due : Nat) (P : Quad → Prop) : Prop :=
  Does c s fun d => ∃ (y : Quad) (z : UnitCmd), P y ∧ z.desc = cmd.desc ∧ z.spec = cmd.spec ∧ z.done = some (status, moved) ∧ z.due = due ∧
    d = (s.dev.at q.e).setQuad q.quad.toNat { y with units := setNth (coreQuad s q).units u (z :: r) }

/-- A quad that differs from `x` in memory and pencil tags only. -/
def MemTags (x y : Quad) : Prop := y = { x with mem := y.mem, tags := y.tags }

/-- Limb c of a run of limbs, as residues of 8 octets. -/
def limbAt (x : Quad) (base stride bytes c : Nat) : List Nat := elements 8 (memRead x.mem (base + c * stride) bytes)

/-- A unit that transforms limbs one by one: with limbs that do not overlap one another, every destination limb takes
the transform of its source limb, no address outside the destination limbs changes, and the quad is touched in memory
and tags only (05 R176, R179, R180). -/
def TransformsLimbs (c : Instr) (s : State) (q : QuadAt) (u : Nat) (cmd : UnitCmd) (r : List UnitCmd) (due : Nat)
    (good : List Nat → Prop) (f : List Nat → List Nat → Prop) : Prop :=
  let b := cmd.desc
  let x := coreQuad s q
  let count := leAt 2 1 b
  let stride := leAt 12 4 b
  let bytes := limbBytes (leAt 1 1 b)
  (count = 1 ∨ bytes ≤ stride) →
  (∀ k, k < count → good (limbAt x (leAt 4 4 b) stride bytes k)) →
  UnitEnds c s q u cmd r 0 0 due fun y => MemTags x y ∧
    (∀ k, k < count → f (limbAt x (leAt 4 4 b) stride bytes k) (limbAt y (leAt 8 4 b) stride bytes k)) ∧
    (∀ a, (∀ k, k < count → a < leAt 8 4 b + k * stride ∨ leAt 8 4 b + k * stride + bytes ≤ a) → memByte y.mem a = memByte x.mem a)

/-- The block mover's transfer of a descriptor within the quad: one or more records, from a list of local addresses to a
list of local addresses of equal length, each record `len` octets (03 R105, R106). -/
def LocalMoves (s : State) (q : QuadAt) (desc : Bytes) (srcs dsts : List Nat) : Prop :=
  ∃ moves, movesOf desc (readList (s.dev.at q.e) q.quad.toNat desc).1 = some moves ∧
    moves.map (·.src) = srcs.map (fun a => some (Place.local_ a)) ∧ moves.map (·.dst) = dsts.map Place.local_ ∧
    (∀ m ∈ moves, m.len = leAt 16 4 desc)

/-- Spans of `len` octets from two addresses do not meet. -/
def Apart (len a b : Nat) : Prop := a + len ≤ b ∨ b + len ≤ a

/-! ## Bearings -/

/-- The tables of partitions, strips and the partition's bearing table are canonical. -/
def BearingTables (s : State) (p : Nat) : Prop :=
  tabWf {} s.dev.parts = true ∧ tabWf {} s.dev.strips = true ∧ tabWf none (s.dev.partition p).table = true

/-- A point is due to open in a beat of its strip: the beat `t` was opened with the point `pt` active, its open has come
and is not held back, and no lower point waits at the same stamp (06 R218 to R220, R240). -/
def PointDue (s : State) (e p point beat strip : Nat) (t : BeatRec) (pt : Bytes) : Prop :=
  p < 64 ∧ point < 64 ∧ ((s.dev.partition p).st = .running ∨ (s.dev.partition p).st = .replaying) ∧
    pointBeat s.dev p point beat = some (strip, t, pt) ∧ point ∉ t.opened ∧
    reached (s.dev.at e) (plannedAt pt t.opening + BitVec.ofNat 60 t.shift) = true ∧
    heldBack (s.dev.at e) p strip point t.beat (plannedAt pt t.opening) t.opening = false ∧
    lowerWaits (s.dev.at e) p point (plannedAt pt t.opening + BitVec.ofNat 60 t.shift) = false

/-- Entry i is the only one of a partition's bearing table. -/
def OnlyEntry (s : State) (p i : Nat) (b : BearingEntry) : Prop :=
  p < 64 ∧ i < 16 ∧ entryAt s.dev p i = some b ∧ ∀ j, j < 16 → j ≠ i → entryAt s.dev p j = none

/-! ## Partitions -/

/-- The tables of partitions, strips and quads are canonical. -/
def PartTables (s : State) : Prop := tabWf {} s.dev.parts = true ∧ tabWf {} s.dev.strips = true ∧ tabWf {} s.dev.quads = true

/-- Writes that are not reads execute, and no transaction locks the entry (13 R518, R528). -/
def OpenForWrites (s : State) (e idx sub : Nat) : Prop :=
  ezithExecutes (s.dev.at e) = true ∧ locked (s.dev.at e) none (legKey idx sub) = false

/-- No strip of the partition is fed by real openings alone (07 Table 7.2). -/
def NoOwedFeeds (s : State) (p : Nat) : Prop :=
  ∀ k ∈ stripsOf s.dev p, (s.dev.strip k).st ≠ .recovering ∧ (s.dev.strip k).st ≠ .shadow

/-- One session slot of a strip after ABORT, from before it: a session aborted before stays as it was (07 R288 to R291,
Table 7.8; 02 R664). -/
def AbortedSlot (moment : Stamp) (ord : Nat) (named : Bool) (x y : Strip) (n : Nat) : Prop :=
  let t := sessionOf x n
  if named = false then sessionOf y n = t ∧ nth 0 y.abortStatus n = nth 0 x.abortStatus n
  else if t.st ≠ .active ∧ t.ctx = none then sessionOf y n = t ∧ nth 0 y.abortStatus n = 0
  else if t.st = .aborted then sessionOf y n = t ∧ nth 0 y.abortStatus n = 1
  else if t.turns = [] ∧ t.doneAt.isSome = true then sessionOf y n = t ∧ nth 0 y.abortStatus n = 2
  else sessionOf y n = { t with st := .aborted, abortAt := moment, abortOrd := ord, cleared := false } ∧ nth 0 y.abortStatus n = 1

/-! ## The PON terminal -/

/-- The terminal after O1.1 is entered from p: identities released, an attempt under way counted (08 R325, R328). -/
def EntersOff (p q : Pon) : Prop :=
  q.act = (if q.sync = .sync then .o12 else .o11) ∧ q.onuId = 0xFFFF ∧ q.allocs = [] ∧ q.ploamUp = [] ∧ q.omciUp = [] ∧ q.filled = [] ∧ q.lastSeq = none ∧ q.attempting = false ∧
    q.attemptsFailed = (if p.attempting then p.attemptsFailed + 1 else p.attemptsFailed)

/-- A PLOAM message that reaches the terminal with a good MIC, and is no repeat (08 R337). -/
def PloamTaken (s : State) (h : Ploam) : Prop :=
  ploamReaches (s.dev.at h.e) h = true ∧ h.micOk = true ∧ (h.onuId = 1023 ∨ s.dev.pon.lastSeq ≠ some h.seq)

/-- One upstream PLOAM message of a type joins the queue: ONU-ID, type, sequence number, 36 octets, MIC (08 R336, R346). -/
def PloamQueued (s : State) (d : Dev) (type : Nat) (seq : Byte) (content : Bytes) : Prop :=
  ∃ mic, d.pon.ploamUp = s.dev.pon.ploamUp ++ [be 2 d.pon.onuId.toNat ++ be 1 type ++ be 1 seq.toNat ++ fit 36 content ++ be 8 mic]

/-- A unicast message is acknowledged with a code; a broadcast one is not (08 R337). -/
def AckedIfUnicast (s : State) (d : Dev) (h : Ploam) (code : Nat) : Prop :=
  if h.onuId = 1023 then d.pon.ploamUp = s.dev.pon.ploamUp else PloamQueued s d 0x09 h.seq (be 1 code)

/-- An OMCI reply waits for an allocation of the default Alloc-ID: transaction, type, class, instance and result (08
R339, R346). -/
def OmciReplied (s : State) (d : Dev) (tci : BitVec 16) (type cls inst result : Nat) : Prop :=
  ∃ tail, d.pon.omciUp = s.dev.pon.omciUp ++ [be 2 tci.toNat ++ be 1 (0x20 + type) ++ be 1 0x0A ++ be 2 cls ++ be 2 inst ++ be 1 result ++ tail]

/-! ## Session transport -/

/-- The tables of transport are canonical. -/
def TransportTables (s : State) : Prop := tabWf {} s.dev.stripTx = true ∧ tabWf {} s.dev.partTx = true ∧ tabWf {} s.dev.strips = true

/-- The octets assembled are more than the frame's header allows (09 R368). -/
def overlong (buf : Bytes) : Prop := 16 ≤ buf.length ∧ 64 + payloadLen buf + 16 < buf.length

/-- What a segment that arrives is: the arrivals handed lose it (13 Table 13.1). -/
def taken (s : State) (e : Nat) (h : Handed) : Dev := { s.dev.at e with handed := s.dev.handed.erase h }

/-! ## The fabric -/

/-- The command sets one port and touches nothing else but the moment. -/
def PortBecomes (c : Instr) (s : State) (e i : Nat) (y : AksPort) : Prop := Does c s fun d => d = (s.dev.at e).setPort i y

/-- The commands of a port that wait for the network stages (10 R414, 17 Table 17.1). -/
def portCommands (e i : Nat) (phase : PortPhase) (m : IdentMsg) (lost : Bool) (seq : BitVec 12) (eyes : List Nat) (t : DelayTimes)
    (dev : BitVec 16) (dir : Nat) (up : Bool) (n : BitVec 16) (corrected : Nat) (f : LinkFrame) : List Instr :=
  [.portAttempt e i phase, .portAttemptTimeout e i, .portBackoffEnd e i, .ident e i m t, .portDown e i lost, .linkFrameRetransmit e i seq,
    .eyeMeasurement e i eyes, .delayExchange e i t.t1 t.t2 t.t3 t.t4, .linkState e i dev dir up n, .packetReceived e i corrected f]

/-! ## Ethernet -/

/-- A port serves: its link is up and dormant has not switched it off (11 R448, R459). -/
def PortServes (s : State) (n : Nat) : Prop :=
  n < 3 ∧ firmwareUp s.dev = true ∧ (s.dev.ethPort n).link = true ∧ s.dev.dormant.st = .running ∧ (s.dev.ethPort n).discards.length = 7

/-- A frame is discarded under one cause and counts as received under none (11 R448, Table 11.6). -/
def DiscardedAs (s : State) (d : Dev) (n cause : Nat) : Prop :=
  nth 0 (d.ethPort n).discards cause = nth 0 (s.dev.ethPort n).discards cause + 1 ∧
    (∀ k, k ≠ cause → nth 0 (d.ethPort n).discards k = nth 0 (s.dev.ethPort n).discards k) ∧
    (d.ethPort n).rxFrames = (s.dev.ethPort n).rxFrames ∧ d.handed = s.dev.handed ∧ d.wire = s.dev.wire

/-- An Announce as the slave keeps it. -/
def announceOf (a : AnnounceMsg) : Announce :=
  { priority1 := a.priority1, clockClass := a.clockClass, accuracy := a.accuracy, variance := a.variance, priority2 := a.priority2, identity := fit 8 a.identity,
    steps := a.steps, sender := a.sender, port := a.port }

/-- An Announce is judged: PTP runs on its port, the link is up, the domain agrees, the device is no dormant one (11 R459, R463). -/
def AnnounceHeard (s : State) (a : AnnounceMsg) : Prop :=
  a.port < 3 ∧ firmwareUp s.dev = true ∧ ptpOn s.dev a.port = true ∧ s.dev.eth.ptp.st ≠ .disabled ∧ (s.dev.ethPort a.port).link = true ∧
    a.domain.toNat = legNat s.dev 0x5800 0x01 ∧ ethAsleep s.dev = false

/-- A Sync is that of the selected master, on its port, in the domain (11 R462 to R464). -/
def SyncOfMaster (s : State) (port : Nat) (x : SyncFrom) : Prop :=
  (s.dev.eth.ptp.st = .uncalibrated ∨ s.dev.eth.ptp.st = .slave) ∧ s.dev.eth.ptp.master.map (·.sender) = some x.identity ∧ ptpPort s.dev = port ∧
    x.domain.toNat = legNat s.dev 0x5800 0x01

/-! ## Security engines -/

/-- The tables of jobs and key slots are canonical. -/
def SecurityTables (s : State) : Prop := tabWf {} s.dev.sec.jobs = true ∧ tabWf {} s.dev.sec.slots = true

/-- The command answers a next state with its device in the property; the waiting commands are as before and the fuses
are given. -/
def Burns (c : Instr) (s : State) (f : Fuses) (P : Dev → Prop) : Prop :=
  ∃ t, exec c s = .next t ∧ t.pending = s.pending ∧ t.fuses = f ∧ P t.dev

/-- A submission in a writable record queues a job, or ends it FAILED with result 3 when its input is shorter than the
operation's fields (12 R472, R473). -/
def Submits (c : Instr) (s : State) (e n op cls : Nat) (input : Bytes) : Prop :=
  n < 16 → OpenForWrites s e 0x7020 n → 1 ≤ input.length → input.length ≤ 10176 →
    (jobWritable (s.dev.job n) = false → Passes c s e) ∧
    (jobWritable (s.dev.job n) = true → Does c s fun d => (d.job n).op.toNat = op ∧ (d.job n).cls.toNat = cls ∧ (d.job n).inLen = input.length ∧ (d.job n).input = input ∧
      (d.job n).submitted = now (s.dev.at e) ∧ (d.job n).order = s.dev.sec.submissions + 1 ∧ (∀ m, m ≠ n → d.job m = s.dev.job m) ∧ d.sec.slots = s.dev.sec.slots ∧
      (fixedBytes op input ≤ input.length → (d.job n).st = .queued ∧ d.faults = s.dev.faults) ∧
      (input.length < fixedBytes op input → (d.job n).st = .failed ∧ (d.job n).result = 3))

/-! ## Ezith and transactions -/

/-- Tables of the Legend and of Ezith are canonical. -/
def LegendTables (s : State) : Prop :=
  tabWf none s.dev.legend = true ∧ tabWf 0 s.dev.changes = true ∧ tabWf {} s.dev.ez.txns = true ∧ tabWf {} s.dev.ez.subs = true

/-- An entry whose value stands in the Legend and is changed by nothing but its own writes. -/
def PlainEntry (idx sub : Nat) : Prop :=
  isAction idx sub = false ∧ isRolling (legKey idx sub) = false ∧ ¬ (0x3000 ≤ idx ∧ idx < 0x3040) ∧ idx < 0xF000 ∧ idx ≠ 0x7820 ∧ sub < 256

/-- Transaction r has a number, belongs to the slot's owner and is open (13 R521, R525). -/
def OpenTxn (s : State) (slot : Byte) (number : BitVec 32) (r : Nat) : Prop :=
  txnRecord s.dev number = some r ∧ (s.dev.txn r).owner = ownerOf s.dev slot ∧ (s.dev.txn r).st = .open_

/-- The operation record of a READ. -/
def readRecord (idx sub off len : Nat) : EzOp :=
  { op := 1, status := 0, index := idx, sub := sub, flags := 0, length := len, offset := off, data := [], padOk := true }

/-- A reply goes out on its path and nothing else happens: on XGEM it waits as an item of class 1, on MGMT it is a datagram
to the sender (09 R390, 13 R510, R514). -/
def Answers (s : State) (e : Nat) (path : EzPath) (reply : Bytes) (d : Dev) : Prop :=
  let d0 := s.dev.at e
  match path with
  | .xgem => ∃ it : Item, it.cls = .mgmt ∧ it.frame = reply ∧ it.entered = now d0 ∧ it.seq = s.dev.sched.nextSeq ∧
      d = { d0 with sched := { s.dev.sched with mgmt := s.dev.sched.mgmt ++ [it], nextSeq := s.dev.sched.nextSeq + 1 } }
  | .mgmt address port => d = sendIp d0 0 .ezith address (ipv4 (portIp s.dev 0) address 17 64 [] (udp (portIp s.dev 0) address 6620 port.toNat reply))

/-- An Ezith message that is served, well formed, addressed to this device and authenticated (13 R666). -/
def EzithAccepted (s : State) (e : Nat) (path : EzPath) (kind : Nat) (m : Bytes) : Prop :=
  let d := taken s e (.ezith path m)
  ezServed s.dev path = true ∧ ezHeaderOk s.dev path kind m = true ∧ (beAt 24 8 m = 0 ∨ beAt 24 8 m = s.dev.part.uniqueId.toNat) ∧ (ezAuth d m).1 ≠ .failed

/-! ## The cadastre -/

/-- The tables of the cadastre and the change counts are canonical. -/
def CadastreTables (s : State) : Prop := tabWf {} s.dev.cad.ports = true ∧ tabWf {} s.dev.cad.channels = true ∧ ∀ c, tabWf {} (channelOf s.dev c).parcels = true

/-- The port's operation ends at this moment in a state with a result (14 R559). -/
def PortEnds (s : State) (e : Nat) (d : Dev) (n : Nat) (st : PortSt) (result : Byte) : Prop :=
  (d.objPort n).st = st ∧ (d.objPort n).result = result ∧ (d.objPort n).endAt = now (s.dev.at e)

/-- Nothing of the cadastre changes but port n. -/
def OnlyPort (s : State) (d : Dev) (n : Nat) : Prop :=
  (∀ k, k ≠ n → d.objPort k = s.dev.objPort k) ∧ d.cad.objects = s.dev.cad.objects ∧ d.cad.channels = s.dev.cad.channels ∧ d.cad.journal = s.dev.cad.journal

/-! ## The sentry, the contour loops and dormant -/

/-- Nothing but the sentry changes beside the moment, and it becomes `y`. -/
def SentryBecomes (c : Instr) (s : State) (e : Nat) (y : Sentry) : Prop := Does c s fun d => d = { s.dev.at e with sentry := y }

/-- A start begins with the inrush settings in force; nothing but the sentry changes (15 R581, Table 15.3). -/
def StartBegins (c : Instr) (s : State) (e : Nat) : Prop :=
  Does c s fun d => d = { s.dev.at e with sentry := d.sentry } ∧ d.sentry.st = .starting ∧ d.sentry.stateUs = 0 ∧ d.sentry.limitUs = 0 ∧
    d.sentry.inrush = { mode := senNat s.dev 0x01, limitMa := senNat s.dev 0x03, powerW := senNat s.dev 0x04, timerMs := senNat s.dev 0x05 } ∧
    d.sentry.restarts = s.dev.sentry.restarts + 1 ∧ d.sentry.n = s.dev.sentry.n ∧ d.sentry.trips = s.dev.sentry.trips ∧ d.sentry.ewarn = s.dev.sentry.ewarn

/-- The input is cut off for a source: BACKOFF, the trip recorded, PG_N off, and everything but the sentry, its settings,
BOOT_NEXT, the flash and the fault log lost (15 R584, R588, R589; 17 R632). `held` says that it asserts EWARN_N. -/
def CutsOff (s : State) (stamp : BitVec 64) (src : Byte) (held : Bool) (d : Dev) : Prop :=
  let x := s.dev.sentry
  d.sentry.st = .backoff ∧ d.sentry.stateUs = 0 ∧ d.sentry.pg = false ∧ d.sentry.ewarn = (x.ewarn || held) ∧ d.sentry.n = min 255 (x.n + 1) ∧
    d.sentry.trips = ({ source := src, stamp := stamp } :: x.trips).take 8 ∧ d.sentry.cut = none ∧
    d.quads = [] ∧ d.contours = [] ∧ d.parts = [] ∧ d.grat = {} ∧ d.start.stage = .sentry ∧ d.start.bootNext = s.dev.start.bootNext ∧
    d.faults.sources = [] ∧ d.faults.log = s.dev.faults.log ∧ d.cad.journal = [] ∧
    d.cad.objects = s.dev.cad.objects.filter (fun o => decide (o.st ≠ .writing)) ∧ d.part = s.dev.part ∧ ∀ sub, sub < 256 → senNat d sub = senNat s.dev sub

/-- The loop of a quad with the clock and voltage that its state gives (15 R596 to R599). -/
def contourSet (d : Dev) (q : Nat) (c : Contour) : Contour :=
  let want := wantedMhz (d.quad q) c
  let fit := fitClock (tabGet [] d.start.curves q) (aboveCal d (d.quad q) c) c.extraMv want 40
  { c with clockMhz := if c.halved then fit.1 / 2 else fit.1, voltageMv := fit.2, limited := decide (fit.1 < want) }

/-- The command leaves the quad's loop `y` with its clock and voltage set anew, and every other loop as before. -/
def ContourBecomes (c : Instr) (s : State) (q : QuadAt) (y : Contour) : Prop :=
  Does c s fun d => d.contour q.quad.toNat = contourSet s.dev q.quad.toNat y ∧ ∀ n, n ≠ q.quad.toNat → d.contour n = s.dev.contour n

/-! ## Faults and start-up -/

/-- A clear of source k takes now: its status set, its cause gone, not raised at this stamp (16 R622). -/
def clearTakes (d : Dev) (k : Nat) : Bool :=
  (d.fault k).set && !causePresent d k && !(decide ((d.fault k).lastStamp = now d) && decide ((d.fault k).lastOrd = ordinal d))

/-- The command sets start-up's own state and touches nothing else but the moment and the write's count. -/
def StartBecomes (c : Instr) (s : State) (e : Nat) (y : Start) : Prop :=
  Does c s fun d => d = { s.dev.at e with start := y, changes := d.changes }

end Sys2Proof.Machine
end

