-- ==== Sys2Proof/Certificates/Slice0/Obligations.lean ====
section
/-! DEFINITION. The statements for the provers. -/

open Sys2Proof Sys2Proof.Machine

/-- A step runs the command at the front of the queue. With a command at the front of the queue a step is that command's effect on the machine with the queue's rest; with no command waiting the machine stays as it is (the model's choice, log 20). -/
def Obligations.StepTakesFront : Prop :=
  ∀ (s : State), (∀ c rest, s.pending = c :: rest → step s = exec c { s with pending := rest }) ∧ (s.pending = [] → step s = .next s)

/-- Every command on a unit that exists completes, and no other does. Each command of the table whose unit exists on the device answers a next state and leaves the queue of waiting commands as it was, whatever the state; a command on a unit that does not exist stops with absentUnit. No command is refused. -/
def Obligations.FittedCommandsComplete : Prop :=
  ∀ (c : Instr) (s : State),
    (unitFitted s.dev c = true → ∃ t, exec c s = .next t ∧ t.pending = s.pending) ∧
    (unitFitted s.dev c = false → exec c s = .fault .absentUnit)

/-- No step lowers the security floor, withdraws a revocation or alters a key-set hash. For every state in which the fuses are given ones or tighter, a step that answers a next state leaves them so: the floor is never lowered, a revoked key set stays revoked and the four key-set hashes stay, whatever command runs: a direct write, a commit, an Ezith request or the start-up object. -/
def Obligations.FusesOnlyTighten : Prop :=
  ∀ (f : Fuses) (s t : State), FusesKept f s → step s = .next t → FusesKept f t

/-- The machine right after reset. At reset no command waits, start-up is at SENTRY with reset not released, the sentry is OFF with PG_N negated, every entry of the Legend has its default, every partition is FREE, every job FREE, every object port IDLE, no fault source is set, stamps are held at 0, and the fuses are those of the part; registers and memory read zero, which is the model's choice (logs 1 and 6). -/
def Obligations.ResetState : Prop :=
  let s := State.reset
  s.pending = [] ∧ s.dev.start.stage = .sentry ∧ s.dev.start.released = false ∧ s.dev.sentry.st = .off ∧ s.dev.sentry.pg = false ∧
    (∀ idx sub, legVal s.dev idx sub = legDefault idx sub) ∧ (∀ p, (s.dev.partition p).st = .free) ∧ (∀ n, (s.dev.job n).st = .free) ∧
    (∀ n, (s.dev.objPort n).st = .idle) ∧ (∀ k, (s.dev.fault k).set = false ∧ (s.dev.fault k).count = 0) ∧ held s.dev = true ∧ now s.dev = 0 ∧
    FusesKept s.fuses s ∧ (∀ n r a, (s.dev.quad n).reg r = 0 ∧ memByte (s.dev.quad n).mem a = 0 ∧ memByte s.dev.stackMem a = 0)

/-- What a tick edge does. TICK_EDGE after first lock and outside a dwell, and where the graticule times its own edges (in HOLDOVER, in ADRIFT and in dormant) once the count since the last edge has reached T, completes: the tick number grows by 1, the count of cycles starts again, one sub-tick of a slew is taken, the holdover count grows in HOLDOVER and ADRIFT up to 8,000, T takes one step of a first-order filter of 64 ticks in LOCKED outside dormant (how it is rounded is open, log 4) and stays otherwise, slots of every quad whose tick is met become READY, every shaper gains its rate up to its burst, and stack memory, strips and the part's own numbers are as before. Before first lock, in a dwell, and where T is not reached, nothing changes. Premise: the tables of quads and shapers are canonical. -/
def Obligations.TickEdges : Prop :=
  ∀ (s : State) (sp : Nat), let g := s.dev.grat
    let own := g.state = .holdover ∨ g.state = .adrift ∨ s.dev.dormant.st ≠ .running
    let due := g.everLocked = true ∧ g.state ≠ .dwell ∧ (own → tickLen s.dev ≤ max sp (g.e * 256))
    (due → tabWf {} s.dev.quads = true → tabWf {} s.dev.sched.shapers = true →
      Does (.tickEdge sp) s fun d => d.grat.tick = g.tick + 1 ∧ d.grat.e = 0 ∧ d.grat.state = g.state ∧ d.grat.source = g.source ∧
        (0 < g.slew → d.grat.slew = g.slew - 1) ∧ (g.slew < 0 → d.grat.slew = g.slew + 1) ∧ (g.slew = 0 → d.grat.slew = 0) ∧
        d.grat.holdoverElapsed = (if g.state = .holdover ∨ g.state = .adrift then min 8000 (g.holdoverElapsed + 1) else g.holdoverElapsed) ∧
        ((g.state ≠ .locked ∨ s.dev.dormant.st ≠ .running) → d.grat.tickLength = g.tickLength) ∧
        (g.state = .locked → s.dev.dormant.st = .running → sp < 2 ^ 32 →
          (63 * g.tickLength.toNat + sp) / 64 ≤ d.grat.tickLength.toNat ∧ d.grat.tickLength.toNat ≤ (63 * g.tickLength.toNat + sp + 63) / 64) ∧
        (∀ n, d.quad n = { s.dev.quad n with slots := (s.dev.quad n).slots.map (Slot.wakeTick (g.tick + 1)) }) ∧
        (∀ h, h < 16 → (tabGet {} d.sched.shapers h).tokens =
          min (legNat s.dev (0x5450 + h) 0x01) ((tabGet {} s.dev.sched.shapers h).tokens + legNat s.dev (0x5450 + h) 0x00)) ∧
        d.stackMem = s.dev.stackMem ∧ d.strips = s.dev.strips ∧ d.part = s.dev.part) ∧
    (¬ due → Does (.tickEdge sp) s fun d => d = s.dev)

/-- Steps, dwells, holdover and the consistency check. GRATICULE_STEP with a step decided, at the source's next edge and with its tick number ahead of the local one, adopts it, counts the step and enters LOCKED on that source; with no step decided, or not at that edge, only the moment passes. DWELL_END in a dwell, for the next local tick and once the source has come to its edge, begins the next local tick LOCKED, with what the source is ahead by left to slew; before that, and outside a dwell, only the moment passes. HOLDOVER_LIMIT at the 8,000th edge in HOLDOVER enters ADRIFT, with the fault 0xB9, and does nothing earlier. FABRIC_UPDATE_TIMEOUT after first lock with no update for 8 ticks ends the FABRIC run: with FABRIC not followed it touches the graticule only, and with FABRIC followed and no other qualified source it enters HOLDOVER with the fault 0xB8; with an update within 8 ticks only the moment passes. SPLIT_COMPARISON when due records the difference and its run of comparisons beyond or within one tick; when not due only the moment passes. None of them touches stack memory, quads but for the slots that an edge readies, or strips. -/
def Obligations.StepsDwellsAndHoldover : Prop :=
  ∀ (s : State) (e : Nat), let g := s.dev.grat; let now' := s.dev.at e
    let kept (d : Dev) : Prop := d.stackMem = s.dev.stackMem ∧ d.strips = s.dev.strips ∧ d.part = s.dev.part
    (∀ (t : TickNo) x, g.stepTo = some x → sourceNext now' x t = true → t ≠ g.tick → (t - g.tick).toNat < 2 ^ 47 →
      Does (.graticuleStep ⟨e, t⟩) s fun d => d.grat.tick = t ∧ d.grat.e = 0 ∧ d.grat.state = .locked ∧ d.grat.source = x ∧ d.grat.stepTo = none ∧
        d.grat.slew = 0 ∧ d.grat.stepCount = g.stepCount + 1 ∧ d.grat.tickLength = g.tickLength ∧ kept d) ∧
    (∀ (t : TickNo) x, g.stepTo = some x → sourceNext now' x t = false → Passes (.graticuleStep ⟨e, t⟩) s e) ∧
    (∀ t, g.stepTo = none → Passes (.graticuleStep ⟨e, t⟩) s e) ∧
    (g.everLocked = true → g.state = .dwell → 0 ≤ deltaOf now' g.source → Does (.dwellEnd e (g.tick + 1)) s fun d =>
      d.grat.tick = g.tick + 1 ∧ d.grat.e = 0 ∧ d.grat.state = .locked ∧ d.grat.source = g.source ∧ d.grat.slew = deltaOf now' g.source - 1 ∧
        d.grat.tickLength = g.tickLength ∧ kept d) ∧
    (∀ t, g.state ≠ .dwell ∨ t ≠ g.tick + 1 ∨ deltaOf now' g.source < 0 → Passes (.dwellEnd e t) s e) ∧
    (g.state = .holdover → 8000 ≤ g.holdoverElapsed → tabWf {} s.dev.faults.sources = true → Does (.holdoverLimit e) s fun d =>
      d.grat = { g with e := max g.e e, state := .adrift } ∧ (d.fault 0xB9).cause = true ∧ d.quads = s.dev.quads ∧ kept d) ∧
    ((g.state ≠ .holdover ∨ g.holdoverElapsed < 8000) → Passes (.holdoverLimit e) s e) ∧
    (g.everLocked = true → 8 ≤ g.updateAge → g.state ≠ .acquiring → g.source ≠ .fabric → Does (.fabricUpdateTimeout e) s fun d =>
      d.grat = { g with e := max g.e e, runFabric := {}, stepTo := if g.stepTo = some .fabric then none else g.stepTo } ∧ GratOnly s d) ∧
    (g.everLocked = true → 8 ≤ g.updateAge → g.state = .locked → g.source = .fabric → tabWf {} s.dev.faults.sources = true →
      (∀ x ∈ sourceOrder s.dev, x = .fabric ∨ qualified g x = false) → Does (.fabricUpdateTimeout e) s fun d =>
        d.grat.state = .holdover ∧ d.grat.source = .none ∧ d.grat.slew = 0 ∧ d.grat.stepTo = none ∧ d.grat.tick = g.tick ∧ d.grat.runFabric = {} ∧
        (d.fault 0xB8).cause = true ∧ d.quads = s.dev.quads ∧ kept d) ∧
    (g.everLocked = true → g.updateAge < 8 → Passes (.fabricUpdateTimeout e) s e) ∧
    (∀ fabric, let due := ethMode s.dev = false ∧ g.state = .locked ∧ g.source = .pon ∧ s.dev.aksia.isDatum = false ∧ s.dev.aksia.upstream.isSome = true ∧
        8 ≤ (g.tick - g.splitTick).toNat
      let diff := stampDiff fabric (now now'); let beyond := 4096 < diff.natAbs
      (due → Does (.splitComparison e fabric) s fun d =>
        d.grat = { g with e := max g.e e, splitLast := diff, splitTick := g.tick, splitOver := if beyond then min 4 (g.splitOver + 1) else 0, splitWithin := if beyond then 0 else min 4 (g.splitWithin + 1) } ∧
        d.quads = s.dev.quads ∧ kept d) ∧
      (¬ due → Passes (.splitComparison e fabric) s e))

/-- General registers. There are 32 general registers of 32 bits: a register written reads back what was written, every other register reads as before, g0 reads as zero, and a write of g0 leaves the quad unchanged; premise: the register file's table is in its canonical form. -/
def Obligations.RegisterFile : Prop :=
  ∀ (x : Quad) (i j : Nat) (v : Word), i < 32 → j < 32 → tabWf 0 x.g = true →
    (x.setReg i v).reg j = (if j = 0 then 0 else if j = i then v else x.reg j) ∧
    tabWf 0 (x.setReg i v).g = true ∧ (x.setReg 0 v) = x ∧ x.reg 0 = 0

/-- Register arithmetic, logic, shifts and compares, of two registers and with an immediate. ADD, SUB, AND, OR, XOR, MUL, MULH and MULHU complete: gd takes the result of gs1 and gs2 (MULH and MULHU the high half of the 64-bit product), MUL forms cost 3 cycles and the others 1, the PC moves on by 4, and nothing else of the device is touched but the quad's busy stamp and its partition's watchdog window. SLL, SRL, SRA, SLT and SLTU complete: gd takes gs1 shifted by gs2[4:0] (logical shifts as multiplication and division by a power of two, the arithmetic one as division of the signed value) or 1 when gs1 is less than gs2, else 0; frame as for the arithmetic operations. ADDI, ANDI, ORI, XORI, SLTI, SLLI, SRLI, SRAI and LUI complete: the immediate is sign-extended by ADDI and SLTI and zero-extended by the logical operations, shifts take imm[4:0] under the selector imm[9:8], LUI loads the immediate times 65,536; frame as for the arithmetic operations. -/
def Obligations.RegisterOperations : Prop :=
  (∀ (s : State) (q : QuadAt), let w := coreWord s q
    let a := (coreQuad s q).reg (fGs1 w); let b := (coreQuad s q).reg (fGs2 w)
    (AtFn s q 0 → WritesReg (.add q) s q 1 (a + b)) ∧
    (AtFn s q 1 → WritesReg (.sub q) s q 1 (a - b)) ∧
    (AtFn s q 2 → WritesReg (.and_ q) s q 1 (a &&& b)) ∧
    (AtFn s q 3 → WritesReg (.or_ q) s q 1 (a ||| b)) ∧
    (AtFn s q 4 → WritesReg (.xor_ q) s q 1 (a ^^^ b)) ∧
    (AtFn s q 10 → WritesReg (.mul q) s q 3 ((a.setWidth 64 * b.setWidth 64).setWidth 32)) ∧
    (AtFn s q 11 → WritesReg (.mulh q) s q 3 ((a.signExtend 64 * b.signExtend 64).extractLsb' 32 32)) ∧
    (AtFn s q 12 → WritesReg (.mulhu q) s q 3 ((a.setWidth 64 * b.setWidth 64).extractLsb' 32 32))) ∧
  (∀ (s : State) (q : QuadAt), let w := coreWord s q
    let a := (coreQuad s q).reg (fGs1 w); let b := (coreQuad s q).reg (fGs2 w)
    (AtFn s q 5 → WritesReg (.sll q) s q 1 (BitVec.ofNat 32 (a.toNat * 2 ^ (b.toNat % 32)))) ∧
    (AtFn s q 6 → WritesReg (.srl q) s q 1 (BitVec.ofNat 32 (a.toNat / 2 ^ (b.toNat % 32)))) ∧
    (AtFn s q 7 → WritesReg (.sra q) s q 1 (BitVec.ofInt 32 (a.toInt / 2 ^ (b.toNat % 32)))) ∧
    (AtFn s q 8 → WritesReg (.slt q) s q 1 (if a.toInt < b.toInt then 1 else 0)) ∧
    (AtFn s q 9 → WritesReg (.sltu q) s q 1 (if a.toNat < b.toNat then 1 else 0))) ∧
  (∀ (s : State) (q : QuadAt), let w := coreWord s q
    let a := (coreQuad s q).reg (fGs1 w); let i := w % 65536
    let si : Int := if i < 32768 then i else (i : Int) - 65536
    (AtOp s q 0x01 → WritesReg (.addi q) s q 1 (BitVec.ofInt 32 (a.toInt + si))) ∧
    (AtOp s q 0x02 → WritesReg (.andi q) s q 1 (a &&& BitVec.ofNat 32 i)) ∧
    (AtOp s q 0x03 → WritesReg (.ori q) s q 1 (a ||| BitVec.ofNat 32 i)) ∧
    (AtOp s q 0x04 → WritesReg (.xori q) s q 1 (a ^^^ BitVec.ofNat 32 i)) ∧
    (AtOp s q 0x05 → WritesReg (.slti q) s q 1 (if a.toInt < si then 1 else 0)) ∧
    (AtOp s q 0x06 → w / 256 % 4 = 0 → WritesReg (.slli q) s q 1 (BitVec.ofNat 32 (a.toNat * 2 ^ (i % 32)))) ∧
    (AtOp s q 0x06 → w / 256 % 4 = 1 → WritesReg (.srli q) s q 1 (BitVec.ofNat 32 (a.toNat / 2 ^ (i % 32)))) ∧
    (AtOp s q 0x06 → w / 256 % 4 = 2 → WritesReg (.srai q) s q 1 (BitVec.ofInt 32 (a.toInt / 2 ^ (i % 32)))) ∧
    (AtOp s q 0x07 → WritesReg (.lui q) s q 1 (BitVec.ofNat 32 (i * 65536))))

/-- Branches and jumps. BEQ, BNE, BLT, BGE, BLTU and BGEU complete, taken exactly when their comparison of gs1 and gs2 holds, to PC plus 4 times the immediate, after 3 cycles taken and 1 not taken; JAL and JALR link PC plus 4 in gd and jump after 3 cycles, JALR to gs1 plus the immediate with bits [1:0] cleared; frame as for the arithmetic operations. -/
def Obligations.BranchesAndJumps : Prop :=
  ∀ (s : State) (q : QuadAt), let w := coreWord s q; let x := coreQuad s q
    let a := x.reg (fGs1 w); let b := x.reg (fGd w)
    (AtOp s q 0x10 → Branches (.beq q) s q (decide (a = b))) ∧
    (AtOp s q 0x11 → Branches (.bne q) s q (decide (a ≠ b))) ∧
    (AtOp s q 0x12 → Branches (.blt q) s q (decide (a.toInt < b.toInt))) ∧
    (AtOp s q 0x13 → Branches (.bge q) s q (decide (b.toInt ≤ a.toInt))) ∧
    (AtOp s q 0x14 → Branches (.bltu q) s q (decide (a.toNat < b.toNat))) ∧
    (AtOp s q 0x15 → Branches (.bgeu q) s q (decide (b.toNat ≤ a.toNat))) ∧
    (AtOp s q 0x16 → Retires (.jal q) s q (coreCycle s q 3) (x.setReg (fGd w) (x.pc + 4)) (x.pc + 4 * (BitVec.ofNat 21 w).signExtend 32)) ∧
    (AtOp s q 0x17 → Retires (.jalr q) s q (coreCycle s q 3) (x.setReg (fGd w) (x.pc + 4))
      (BitVec.ofNat 32 ((a + sImm w).toNat / 4 * 4)))

/-- A load sees every earlier store. LB, LH, LW, LBU and LHU at an aligned address in data memory, weight bank or activation bank complete: the value loaded is the extension of the octets that the program sees, those of the youngest buffered store where one covers the octet and of memory elsewhere, whether the load is forwarded or waits for drains; no octet that the program sees changes, and the frame is that of a retiring instruction. Premise: no injected error in the quad, and a store buffer as every run leaves it. -/
def Obligations.LoadsSeeBufferedStores : Prop :=
  ∀ (s : State) (q : QuadAt),
    (LoadReady s q 0x08 1 → LoadsView (.lb q) s q 1 fun v => (BitVec.ofNat 8 v).signExtend 32) ∧
    (LoadReady s q 0x09 2 → LoadsView (.lh q) s q 2 fun v => (BitVec.ofNat 16 v).signExtend 32) ∧
    (LoadReady s q 0x0A 4 → LoadsView (.lw q) s q 4 fun v => BitVec.ofNat 32 v) ∧
    (LoadReady s q 0x0B 1 → LoadsView (.lbu q) s q 1 fun v => BitVec.ofNat 32 v) ∧
    (LoadReady s q 0x0C 2 → LoadsView (.lhu q) s q 2 fun v => BitVec.ofNat 32 v)

/-- A store enters the store buffer, which drains oldest first. SB, SH and SW at an aligned address in data memory or the activation bank complete: one entry with the low octets of the stored register joins the store buffer, the oldest entry having drained to memory first when the buffer held 8; memory is otherwise as before and the frame is that of a retiring instruction. STORE_BUFFER_DRAIN with a buffered entry written in an earlier cycle, no other drain in the cycle and no load on the port of the entry's memory completes: the oldest entry's octets are written to memory and the entry leaves, nothing else of the device but the moment being touched; under any of the three contrary conditions, or with an empty buffer, only the moment passes. -/
def Obligations.StoresEnterAndDrain : Prop :=
  (∀ (s : State) (q : QuadAt),
    Stores (.sb q) s q 0x0D 1 ∧ Stores (.sh q) s q 0x0E 2 ∧ Stores (.sw q) s q 0x0F 4) ∧
  (∀ (s : State) (q : QuadAt), q.quad.toNat < quadsFitted s.dev →
    let x := coreQuad s q
    (∀ t r, x.sb = t :: r → Clean s q →
      if t.cyc < q.cyc ∧ x.drained ≤ q.cyc ∧ x.loadAt ≠ some (q.cyc, bankCode t.addr) then
        Does (.storeBufferDrain q) s fun d =>
          d.quad q.quad.toNat = drainedOnce x q.cyc ∧ (∀ n, n ≠ q.quad.toNat → d.quad n = s.dev.quad n) ∧
          d = { s.dev.at q.e with quads := d.quads }
      else Passes (.storeBufferDrain q) s q.e) ∧
    (x.sb = [] → Passes (.storeBufferDrain q) s q.e))

/-- What traps a plotter core. TRAP traps with cause SOFTWARE and its code; an undefined operation traps with ILLEGAL; a read of a control register not in Table 3.1 and a write of one other than SLOTREG trap with ILLEGAL; a misaligned load, store or message address traps with MISALIGNED and one outside the memories that Table 3.4 allows with FORBIDDEN; an address both misaligned and forbidden, and a PC that names no instruction word, trap in the same way, MISALIGNED before FORBIDDEN, which is the model's choice (logs 9 and 52); a trap halts the quad, records PC and cause and raises SHEET_TRAP. An instruction whose word's parity fails does not retire: it keeps PC and registers, and the quad holds PMEM_ERROR until it is reloaded. -/
def Obligations.CoreTraps : Prop :=
  ∀ (s : State) (q : QuadAt), let x := coreQuad s q; let w := coreWord s q; let a := dataAddr s q
    let m := (x.reg (fGs1 w)).toNat
    (AtOp s q 0x3F → Traps (.trap q) s q 4 (BitVec.ofNat 16 w)) ∧
    (CoreRuns s q → illegalWord w = true → Traps (.illegalInstruction q) s q 1 0) ∧
    (AtOp s q 0x19 → w % 256 ∉ [0, 1, 2, 3, 4, 5, 6, 8] → Traps (.csrr q) s q 1 0) ∧
    (AtOp s q 0x1A → w % 256 ≠ 8 → Traps (.csrw q) s q 1 0) ∧
    (AtOp s q 0x09 → a % 2 ≠ 0 → Traps (.lh q) s q 2 0) ∧
    (AtOp s q 0x0A → a % 4 ≠ 0 → Traps (.lw q) s q 2 0) ∧
    (AtOp s q 0x0C → a % 2 ≠ 0 → Traps (.lhu q) s q 2 0) ∧
    (AtOp s q 0x0E → a % 2 ≠ 0 → Traps (.sh q) s q 2 0) ∧
    (AtOp s q 0x0F → a % 4 ≠ 0 → Traps (.sw q) s q 2 0) ∧
    (AtOp s q 0x08 → ¬ Loadable a 1 → Traps (.lb q) s q 3 0) ∧
    (AtOp s q 0x0A → a % 4 = 0 → ¬ Loadable a 4 → Traps (.lw q) s q 3 0) ∧
    (AtOp s q 0x0D → ¬ Storable a 1 → Traps (.sb q) s q 3 0) ∧
    (AtOp s q 0x0F → a % 4 = 0 → ¬ Storable a 4 → Traps (.sw q) s q 3 0) ∧
    (AtOp s q 0x20 → m % 64 ≠ 0 → Traps (.send q) s q 2 0) ∧
    (AtOp s q 0x21 → m % 64 ≠ 0 → Traps (.recv q) s q 2 0) ∧
    (AtOp s q 0x22 → m % 64 ≠ 0 → Traps (.recvw q) s q 2 0) ∧
    (AtOp s q 0x20 → m % 64 = 0 → bankSpan m 64 ≠ some .dmem → Traps (.send q) s q 3 0) ∧
    (AtOp s q 0x21 → m % 64 = 0 → bankSpan m 64 ≠ some .dmem → Traps (.recv q) s q 3 0) ∧
    (AtOp s q 0x22 → m % 64 = 0 → bankSpan m 64 ≠ some .dmem → Traps (.recvw q) s q 3 0) ∧
    (q.quad.toNat < quadsFitted s.dev → quadLive x = true → (runningSlot x).isSome = true →
      (x.pc.toNat % 4 ≠ 0 → Traps (.illegalInstruction q) s q 2 0) ∧
      (x.pc.toNat % 4 = 0 → 0x8000 ≤ x.pc.toNat → Traps (.illegalInstruction q) s q 3 0) ∧
      (∀ v, pcOk x.pc = true → fetchError x = some v → 0 < v.2 →
        ∀ c ∈ [Instr.add q, .addi q, .lw q, .sw q, .beq q, .jal q, .fence q, .csrr q, .send q, .recv q, .cmd q, .done q],
          Does c s fun d => (d.quad q.quad.toNat).pc = x.pc ∧ (d.quad q.quad.toNat).g = x.g ∧ 0x44 ∈ (d.quad q.quad.toNat).causes))

/-- Control registers, stamps and depths. CSRR reads PC, slot, logical quad, physical quad, partition, device, cycle count and SLOTREG by number; CSRW of SLOTREG writes the running slot's; RDT latches the present stamp and returns its tick bits [31:0], RDTH returns bits [47:32] of the latched stamp's tick with its sub-tick at bit 16; QLEN returns a queue's depth at the cycle's start and USTAT the commands queued at a unit; each retires after 1 cycle with the frame of a retiring instruction. -/
def Obligations.ControlRegistersAndStamps : Prop :=
  ∀ (s : State) (q : QuadAt), let x := coreQuad s q; let w := coreWord s q; let c := coreCycle s q 1
    let n := q.quad.toNat; let owner := quadOwner s.dev n; let t := now (s.dev.at q.e)
    (AtOp s q 0x19 →
      (w % 256 = 0 → WritesReg (.csrr q) s q 1 x.pc) ∧
      (w % 256 = 1 → WritesReg (.csrr q) s q 1 (BitVec.ofNat 32 (runSlot s q))) ∧
      (w % 256 = 2 → WritesReg (.csrr q) s q 1 (BitVec.ofNat 32 ((owner.map (·.2)).getD 0))) ∧
      (w % 256 = 3 → WritesReg (.csrr q) s q 1 (BitVec.ofNat 32 n)) ∧
      (w % 256 = 4 → WritesReg (.csrr q) s q 1 (BitVec.ofNat 32 ((owner.map (·.1)).getD 0))) ∧
      (w % 256 = 5 → WritesReg (.csrr q) s q 1 (BitVec.ofNat 32 (deviceNumber s.dev))) ∧
      (w % 256 = 6 → WritesReg (.csrr q) s q 1 (BitVec.ofNat 32 c)) ∧
      (w % 256 = 8 → WritesReg (.csrr q) s q 1 (runTask s q).slotreg)) ∧
    (AtOp s q 0x1A → w % 256 = 8 →
      RetiresNext (.csrw q) s q 1 (withRunSlot s q { runTask s q with slotreg := x.reg (fGs1 w) })) ∧
    (AtOp s q 0x29 → RetiresNext (.rdt q) s q 1 (({ x with latched := t }).setReg (fGd w) (BitVec.ofNat 32 (t.toNat / 4096)))) ∧
    (AtOp s q 0x2A → WritesReg (.rdth q) s q 1 (BitVec.ofNat 32 (x.latched.toNat / 2 ^ 44 % 65536 + x.latched.toNat % 4096 * 65536))) ∧
    (AtOp s q 0x23 → WritesReg (.qlen q) s q 1 (BitVec.ofNat 32 (x.depthAt (w % 4) c))) ∧
    (AtOp s q 0x32 → w % 8 < 6 → WritesReg (.ustat q) s q 1 (BitVec.ofNat 32 (nth [] x.units (w % 8)).length))

/-- Fences and unit commands. CMD with room in the unit's queue of 4 copies the 32-byte descriptor at an aligned data-memory address with the completion spec and joins the queue, an idle CIM unit being idle no longer; with any other address the command joins without a descriptor, which is the model's choice (log 9); with the queue full it has not retired. UWAIT retires when the unit has no command, FENCE when every condition of its immediate holds, imm[0] draining the store buffer, each entry in its own cycle, and retiring no earlier than the cycle after the last drain and, under imm[1], than the cycle after the last completion; otherwise only the moment passes. Premise for CMD and FENCE: no injected error in the quad. -/
def Obligations.FencesAndCommands : Prop :=
  ∀ (s : State) (q : QuadAt), let x := coreQuad s q; let w := coreWord s q; let u := w % 8
    let a := (x.reg (fGs1 w)).toNat
    let queued (desc : Bytes) : Quad :=
      let us := setNth x.units u (nth [] x.units u ++ [{ desc := desc, spec := x.reg (fGs2 w), tag := issueTag x u desc }])
      { x with units := us, idleTo := if nth [] x.units 2 = [] ∧ nth [] us 2 ≠ [] then some (now (s.dev.at q.e)) else x.idleTo }
    (AtOp s q 0x30 → Clean s q → u < 6 → (nth [] x.units u).length < 4 → a % 32 = 0 → bankSpan a 32 = some .dmem →
      RetiresNext (.cmd q) s q 1 (queued (memRead x.mem a 32))) ∧
    (AtOp s q 0x30 → u < 6 → (nth [] x.units u).length < 4 → (a % 32 ≠ 0 ∨ bankSpan a 32 ≠ some .dmem) →
      RetiresNext (.cmd q) s q 1 (queued [])) ∧
    (AtOp s q 0x30 → u < 6 → 4 ≤ (nth [] x.units u).length → Passes (.cmd q) s q.e) ∧
    (AtOp s q 0x31 → u < 6 → nth [] x.units u = [] → RetiresNext (.uwait q) s q 1 x) ∧
    (AtOp s q 0x31 → u < 6 → nth [] x.units u ≠ [] → Passes (.uwait q) s q.e) ∧
    (AtOp s q 0x18 → Clean s q → x.sb.length ≤ 8 → (w / 2 % 2 = 0 ∨ ∀ l ∈ x.units, l = []) →
      let y := if w % 2 = 1 then drainedAll x 8 else x
      let c := waitCycle (decide (w % 2 = 1)) y (coreCycle s q 1)
      Retires (.fence q) s q (if w / 2 % 2 = 1 then max c x.unitDone else c) y (x.pc + 4) ∧ (drainedAll x 8).sb = []) ∧
    (AtOp s q 0x18 → w / 2 % 2 = 1 → (∃ l ∈ x.units, l ≠ []) → Passes (.fence q) s q.e)

/-- Sending and receiving messages. SEND with room in the outbound buffer of 2 appends the 64 bytes at gs1 once overlapping stores have drained, and waits otherwise; RECV with a message at the cycle's start pops the oldest of the named queue into data memory and gives 0, and gives 1 and writes nothing when the queue is empty; RECVW pops as RECV, with the queue empty makes the slot WAITING on it, and of a cancelled task stops the slot without popping. An instruction that waited for drains retires no earlier than the first cycle at whose start they have. Premise: no injected error in the quad. -/
def Obligations.MessagesLeaveAndArrive : Prop :=
  ∀ (s : State) (q : QuadAt), let x := coreQuad s q; let w := coreWord s q; let k := w % 4
    let a := (x.reg (fGs1 w)).toNat; let n := q.quad.toNat
    let y := drainedOver x a 64 8
    let waited := x.sb.any (·.overlaps a 64)
    let c := waitCycle waited y (coreCycle s q 2)
    Clean s q → a % 64 = 0 → bankSpan a 64 = some .dmem →
    (AtOp s q 0x20 → x.outbound.length < 2 →
      Retires (.send q) s q (waitCycle waited y (coreCycle s q 1)) { y with outbound := x.outbound ++ [{ bytes := memRead y.mem a 64, tag := x.coreTag }] } (x.pc + 4)) ∧
    (AtOp s q 0x20 → 2 ≤ x.outbound.length → Passes (.send q) s q.e) ∧
    (∀ m z, popMsg y k c = some (m, z) →
      let r := { z with mem := memWrite z.mem a m.bytes, coreTag := z.coreTag ||| m.tag }
      (AtOp s q 0x21 → Retires (.recv q) s q c (r.setReg (fGd w) 0) (x.pc + 4)) ∧
      (AtOp s q 0x22 → (runTask s q).cancelled = false → Retires (.recvw q) s q c (r.setReg (fGd w) 0) (x.pc + 4))) ∧
    (popMsg y k c = none →
      (AtOp s q 0x21 → Retires (.recv q) s q c (y.setReg (fGd w) 1) (x.pc + 4)) ∧
      (AtOp s q 0x22 → (runTask s q).cancelled = false → Does (.recvw q) s fun d =>
        d.quad n = { y with cyc := c, fresh := false, slots := setNth y.slots (runSlot s q) (
          { runTask s q with st := .waiting, wait := some (.queue (BitVec.ofNat 2 k) false), resume := x.pc + 4, since := c }) } ∧
        d = { s.dev.at q.e with quads := d.quads } ∧
        (∀ m, m ≠ n → d.quad m = s.dev.quad m))) ∧
    (AtOp s q 0x22 → (runTask s q).cancelled = true → RetiresNext (.recvw q) s q 2 (withRunSlot s q (cancelledSlot (runTask s q))))

/-- Arming, cancelling, stopping and ending tasks; the lowest-numbered READY slot is dispatched. ARM and ARMT of another slot arm it on a queue or a tick and of the running slot record a pending arming; CANCEL idles an armed, ready or waiting slot, leaves an idle one, and marks the running one; YIELD returns the slot to READY, WAITT makes it WAITING on a tick, DONE ends it, re-arming by a pending arming or a persistent queue; a cancelled slot becomes IDLE at each of the three. Each retires after 1 cycle with the frame of a retiring instruction. TASK_DISPATCH on a live quad with no slot running takes a cycle after that in which the last task stopped: a slot armed on, or waiting for, a queue since an earlier cycle is READY when the queue holds a message at that cycle's start, and the lowest-numbered READY slot runs from where it resumes, its first instruction to retire 2 cycles later; one that stopped at RECVW makes its pop first, which gives 0 in gd. With a slot running only the moment passes, and with none READY no slot runs. Nothing else of the device is touched but what a retiring instruction touches. -/
def Obligations.TaskSlotsAndDispatch : Prop :=
  (∀ (s : State) (q : QuadAt), let x := coreQuad s q; let w := coreWord s q; let i := w % 8; let r := runSlot s q
    let t := nth {} x.slots i; let u := runTask s q
    let onQueue : Arming := { trig := .queue (BitVec.ofNat 2 (w / 8 % 4)) (decide (w / 32 % 2 = 1)), entry := x.reg (fGs1 w) }
    let onTick : Arming := { trig := .tick (x.reg (fGs2 w)), entry := x.reg (fGs1 w) }
    let put (j : Nat) (v : Slot) : Quad := { x with slots := setNth x.slots j v }
    let armed (a : Arming) (v : Slot) : Slot :=
      { v with st := .armed, trig := some a.trig, entry := a.entry, resume := a.entry, wait := none, pending := none, cancelled := false, since := coreCycle s q 1 }
    (AtOp s q 0x24 → i ≠ r → RetiresNext (.arm q) s q 1 (put i (armed onQueue t))) ∧
    (AtOp s q 0x24 → i = r → RetiresNext (.arm q) s q 1 (put i { t with pending := some onQueue, cancelled := false })) ∧
    (AtOp s q 0x25 → i ≠ r → RetiresNext (.armt q) s q 1 (put i (armed onTick t))) ∧
    (AtOp s q 0x25 → i = r → RetiresNext (.armt q) s q 1 (put i { t with pending := some onTick, cancelled := false })) ∧
    (AtOp s q 0x26 → RetiresNext (.cancel q) s q 1 (put i (match t.st with
      | .idle => t
      | .running => { t with cancelled := true, pending := none }
      | _ => { t with st := .idle, trig := none, wait := none, pending := none }))) ∧
    (AtOp s q 0x27 → RetiresNext (.yield q) s q 1 (put r (if u.cancelled then cancelledSlot u
      else { u with st := .ready, wait := none, resume := x.pc + 4 }))) ∧
    (AtOp s q 0x2B → RetiresNext (.waitt q) s q 1 (put r (if u.cancelled then cancelledSlot u
      else { u with st := .waiting, wait := some (.tick (x.reg (fGs1 w))), resume := x.pc + 4 }))) ∧
    (AtOp s q 0x28 →
      (u.cancelled = true → RetiresNext (.done q) s q 1 (put r (cancelledSlot u))) ∧
      (∀ a, u.cancelled = false → u.pending = some a → RetiresNext (.done q) s q 1 (put r (armed a u))) ∧
      (∀ k, u.cancelled = false → u.pending = none → u.trig = some (.queue k true) →
        RetiresNext (.done q) s q 1 (put r (armed { trig := .queue k true, entry := u.entry } u))) ∧
      (u.cancelled = false → u.pending = none → (∀ k, u.trig ≠ some (.queue k true)) →
        RetiresNext (.done q) s q 1 (put r { u with st := .idle, trig := none, wait := none })))) ∧
  (∀ (s : State) (q : QuadAt), q.quad.toNat < quadsFitted s.dev → quadLive (coreQuad s q) = true →
    let x := coreQuad s q; let n := q.quad.toNat; let c := max q.cyc (x.cyc + 1); let y := x.settled c
    let started (z : Quad) (i : Nat) : Quad := { z with
      slots := setNth z.slots i { nth {} z.slots i with st := .running, wait := none }
      pc := (nth {} z.slots i).resume, cyc := c, fresh := true, st := .running }
    (y = { x with slots := y.slots } ∧ ∀ i, let t := nth {} x.slots i
      ((nth {} y.slots i).st = .ready ↔ t.st = .ready ∨ (t.since < c ∧ ∃ j p, 0 < x.depthAt j.toNat c ∧
        ((t.st = .armed ∧ t.trig = some (.queue j p)) ∨ (t.st = .waiting ∧ t.wait = some (.queue j p)))))) ∧
    (∀ i, i < 8 → runningSlot x = none → (nth {} y.slots i).st = .ready → (∀ j, j < i → (nth {} y.slots j).st ≠ .ready) →
      ((∀ k p, (nth {} y.slots i).wait ≠ some (.queue k p)) →
        Does (.taskDispatch q) s fun d => d.quad n = started y i ∧ (∀ m, m ≠ n → d.quad m = s.dev.quad m) ∧ d = { s.dev.at q.e with quads := d.quads }) ∧
      (∀ k p m z, (nth {} y.slots i).wait = some (.queue k p) → popMsg y k.toNat c = some (m, z) → Clean s q →
        let w := leVal (memRead x.mem ((nth {} x.slots i).resume.toNat - 4) 4); let a := (x.reg (fGs1 w)).toNat
        a % 64 = 0 → bankSpan a 64 = some .dmem →
        let v := drainedOver (started z i) a 64 8
        Does (.taskDispatch q) s fun d => CoreFrame s q d ∧
          d.quad n = ({ v with mem := memWrite v.mem a m.bytes, coreTag := v.coreTag ||| m.tag } : Quad).setReg (fGd w) 0)) ∧
    ((runningSlot x).isSome = true → Passes (.taskDispatch q) s q.e) ∧
    ((∀ i, i < 8 → (nth {} y.slots i).st ≠ .ready) → runningSlot x = none → Does (.taskDispatch q) s fun d =>
      d.quad n = y ∧ (∀ m, m ≠ n → d.quad m = s.dev.quad m) ∧ d = { s.dev.at q.e with quads := d.quads }))

/-- Messages are delivered with the sender's own numbers. MESSAGE_DELIVERY of the head of a mapped quad's outbound buffer to a mapped quad of a partition that the isolation rules allow, whose queue has room at the cycle's start, has taken no push in the cycle and is offered no completion, completes: the message leaves the buffer and joins the queue with the sender's DEV, PART and QUAD in its header, and nothing else but the two quads and the moment is touched; with no room it stays. One that the isolation rules do not allow is discarded with the isolation fault on the side that finds the breach, and one that carries a pencil tag and would leave its partition stays. A bearing notice and an ingress message are pushed likewise, the ingress message leaving its place. -/
def Obligations.MessageDelivery : Prop :=
  ∀ (s : State) (e c : Nat),
    (∀ (n : BitVec 8) m r p l, let x := s.dev.quad n.toNat; let h := leAt 0 8 m.bytes
      n.toNat < quadsFitted s.dev → x.outbound = m :: r → quadOwner s.dev n.toNat = some (p, l) →
      (leavesPencilled s.dev p m = true → Passes (.messageDelivery e c (.quad n)) s e) ∧
      (leavesPencilled s.dev p m = false → msgDev h = deviceNumber s.dev % 2048 →
        (∀ side, localBreach s.dev p (msgPart h) = some side →
          Does (.messageDelivery e c (.quad n)) s fun d => d = isolationFault ((s.dev.at e).setQuad n.toNat { x with outbound := r }) side) ∧
        (∀ t, localBreach s.dev p (msgPart h) = none → physQuad s.dev (msgPart h) (msgQuad h) = some t →
          (∀ y, pushMesh (s.dev.quad t) (msgQueue h) c (stampHeader s.dev p l m) = some y → y ≠ {} → { x with outbound := r } ≠ ({} : Quad) →
            Does (.messageDelivery e c (.quad n)) s fun d =>
              (t ≠ n.toNat → d.quad t = y ∧ d.quad n.toNat = { x with outbound := r }) ∧
              (t = n.toNat → { y with outbound := r } ≠ ({} : Quad) → d.quad t = { y with outbound := r }) ∧
              (∀ k, k ≠ t → k ≠ n.toNat → d.quad k = s.dev.quad k) ∧ d = { s.dev.at e with quads := d.quads }) ∧
          (pushMesh (s.dev.quad t) (msgQueue h) c (stampHeader s.dev p l m) = none → Passes (.messageDelivery e c (.quad n)) s e)))) ∧
    (∀ p l i r t y, p < 64 → l < 256 → takeFirst (fun (i : Notice) => decide (i.partition = p) && decide (i.quad = l)) s.dev.notices = some (i, r) →
      physQuad s.dev p l = some t → pushMesh (s.dev.quad t) i.queue.toNat c i.msg = some y → y ≠ {} →
      Does (.messageDelivery e c (.notice p l)) s fun d =>
        d.quad t = y ∧ (∀ k, k ≠ t → d.quad k = s.dev.quad k) ∧ d = { s.dev.at e with quads := d.quads, notices := r }) ∧
    (∀ p l k i r t y, p < 64 → l < 256 →
      takeFirst (fun (i : Ingress) => decide (i.partition = p) && decide (i.quad = l) && decide (i.queue = k)) s.dev.aksia.ingress = some (i, r) →
      physQuad s.dev p l = some t → pushMesh (s.dev.quad t) k.toNat c i.msg = some y → y ≠ {} →
      Does (.messageDelivery e c (.ingress p l k)) s fun d =>
        d.quad t = y ∧ (∀ n, n ≠ t → d.quad n = s.dev.quad n) ∧ d.aksia.ingress = r ∧ d.stackMem = s.dev.stackMem ∧ d.strips = s.dev.strips)

/-- Integer lane arithmetic is exact and saturates once. For the integer types: ADD, SUB, MUL, MAC, NEG, ABS and SHL give the exact integer clamped to the range of the type and set SAT exactly when it was clamped; SHR gives the exact floor of the division by a power of two and AND, OR and XOR the bitwise result, none of them setting a flag. -/
def Obligations.LaneIntegersSaturate : Prop :=
  ∀ (x : Lanes) (a : LaneArgs) (l : Nat), a.type.toNat ≤ 2 →
    let t := a.type.toNat
    let n := typeBits t
    let i (r : BitVec 4) : Int := iVal t (laneOp x t l r.toNat)
    let lo : Int := -(2 ^ (n - 1) : Nat)
    let hi : Int := (2 ^ (n - 1) : Nat) - 1
    let exact (op : Nat) (z : Int) : Prop := ∃ v, laneValue x { op := op, a := a } l = some v ∧
      v.1 < 2 ^ n ∧ iVal t v.1 = max lo (min hi z) ∧ v.2 = (if lo ≤ z ∧ z ≤ hi then 0 else 1)
    exact 0x05 (i a.va + i a.vb) ∧ exact 0x06 (i a.va - i a.vb) ∧ exact 0x07 (i a.va * i a.vb) ∧
    exact 0x08 (i a.vd + i a.va * i a.vb) ∧ exact 0x0B |i a.va| ∧ exact 0x0C (- i a.va) ∧
    exact 0x0D (i a.va * 2 ^ (a.imm.toNat % 32)) ∧
    (∃ v, laneValue x { op := 0x0E, a := a } l = some v ∧ v.1 < 2 ^ n ∧ iVal t v.1 = i a.va / 2 ^ (a.imm.toNat % 32) ∧ v.2 = 0) ∧
    laneValue x { op := 0x0F, a := a } l = some (laneOp x t l a.va.toNat &&& laneOp x t l a.vb.toNat, 0) ∧
    laneValue x { op := 0x10, a := a } l = some (laneOp x t l a.va.toNat ||| laneOp x t l a.vb.toNat, 0) ∧
    laneValue x { op := 0x11, a := a } l = some (laneOp x t l a.va.toNat ^^^ laneOp x t l a.vb.toNat, 0)

/-- Lane arithmetic in every executing lane. LANE_ADD, SUB, MUL, MAC, MIN, MAX, ABS, NEG, SHL, SHR, AND, OR and XOR complete: in every executing lane vd takes the operation's result on the lane's operands at the instruction's type and its flags are gathered; every other register, the masks, moduli and streams, and the rest of the device are as before. -/
def Obligations.LaneArithmetic : Prop :=
  ∀ (s : State) (q : QuadAt) (a : LaneArgs), let t := a.type.toNat; let k := a.imm.toNat % 32
    let va := fun l => laneArg s q a l a.va; let vb := fun l => laneArg s q a l a.vb
    LaneWrites (.laneAdd q a) s q 0x05 a (fun l => tAdd t (va l) (vb l)) ∧
    LaneWrites (.laneSub q a) s q 0x06 a (fun l => tSub t (va l) (vb l)) ∧
    LaneWrites (.laneMul q a) s q 0x07 a (fun l => tMul t (va l) (vb l)) ∧
    LaneWrites (.laneMac q a) s q 0x08 a (fun l => tMac t (laneArg s q a l a.vd) (va l) (vb l)) ∧
    LaneWrites (.laneMin q a) s q 0x09 a (fun l => tMin t (va l) (vb l)) ∧
    LaneWrites (.laneMax q a) s q 0x0A a (fun l => tMax t (va l) (vb l)) ∧
    LaneWrites (.laneAbs q a) s q 0x0B a (fun l => tAbs t (va l)) ∧
    LaneWrites (.laneNeg q a) s q 0x0C a (fun l => tNeg t (va l)) ∧
    LaneWrites (.laneShl q a) s q 0x0D a (fun l => satInt t (iVal t (va l) * 2 ^ k)) ∧
    LaneWrites (.laneShr q a) s q 0x0E a (fun l => (ofInt (typeBits t) (iVal t (va l) / 2 ^ k), 0)) ∧
    LaneWrites (.laneAnd q a) s q 0x0F a (fun l => (va l &&& vb l, 0)) ∧
    LaneWrites (.laneOr q a) s q 0x10 a (fun l => (va l ||| vb l, 0)) ∧
    LaneWrites (.laneXor q a) s q 0x11 a (fun l => (va l ^^^ vb l, 0))

/-- Lane moves, conversions and modular arithmetic. LANE_MOVI, MOV, CVT, SEL, MADD, MSUB, MMUL, MMAC, LANEID and ITER complete, each writing vd of every executing lane (SEL of every active lane, from va or vb by the mask) with the frame of lane arithmetic; where the lane's q is odd and in (2^29, 2^36) and the operands are below it, the modular results are the exact ones modulo q. -/
def Obligations.LaneMovesAndResidues : Prop :=
  ∀ (s : State) (q : QuadAt) (a : LaneArgs), let t := a.type.toNat; let x := laneArray s q
    let va := fun l => laneArg s q a l a.va; let vb := fun l => laneArg s q a l a.vb
    let ra := fun l => laneRes s q l a.va; let rb := fun l => laneRes s q l a.vb; let rd := fun l => laneRes s q l a.vd
    LaneWrites (.laneMovi q a) s q 0x03 a (fun l => convert 2 t (x.modulus l) a.imm.toNat) ∧
    LaneWrites (.laneMov q a) s q 0x04 a (fun l => (va l, 0)) ∧
    LaneWrites (.laneCvt q a) s q 0x12 a (fun l => convert t a.type2.toNat (x.modulus l) (va l)) ∧
    LaneWrites (.laneSel q a) s q 0x16 a (fun l => (if (x.mask a.mask.toNat).getLsbD l != a.minv then va l else vb l, 0)) ∧
    LaneWrites (.laneLaneid q a) s q 0x22 a (fun l => (l, 0)) ∧
    LaneWrites (.laneIter q a) s q 0x23 a (fun _ => (x.iter % 2 ^ 32, 0)) ∧
    (∃ f : Nat → Int → List Nat → Nat,
      (∀ l z os, modulusOk (x.modulus l) = true → (∀ o ∈ os, o < x.modulus l) → (f l z os : Int) = z % x.modulus l) ∧
      LaneWrites (.laneMadd q a) s q 0x1E a (fun l => (f l (ra l + rb l) [ra l, rb l], 0)) ∧
      LaneWrites (.laneMsub q a) s q 0x1F a (fun l => (f l (ra l - rb l) [ra l, rb l], 0)) ∧
      LaneWrites (.laneMmul q a) s q 0x20 a (fun l => (f l (ra l * rb l) [ra l, rb l], 0)) ∧
      LaneWrites (.laneMmac q a) s q 0x21 a (fun l => (f l (rd l + ra l * rb l) [ra l, rb l, rd l], 0)))

/-- Lane compares and mask operations. LANE_CEQ, CLT and CLE complete: the mask register IMM[1:0] (1 to 3) takes the comparison in every lane that executes and 0 in every other, where no residue that the spec leaves undefined is compared; LANE_MAND, MOR and MNOT combine mask registers bitwise; LANE_NOP changes nothing but the pencil tag and LANE_SETQ sets the modulus of the executing lanes. The other masks, the registers and the rest of the device are as before. -/
def Obligations.LaneComparesAndMasks : Prop :=
  ∀ (s : State) (q : QuadAt) (a : LaneArgs), let t := a.type.toNat; let x := laneArray s q; let m := a.imm.toNat % 4
    let va := fun l => laneArg s q a l a.va; let vb := fun l => laneArg s q a l a.vb
    let defined : Prop := t = 8 → ∀ l, l < 64 → modulusOk (x.modulus l) = true ∧ va l < x.modulus l ∧ vb l < x.modulus l
    let compares (c : Instr) (op : Nat) (p : Nat → Bool) : Prop := LaneReady s q op a → defined →
      ∃ v, LaneLeaves c s q (x.setMask m v) ∧ ∀ l, l < 64 → v.getLsbD l = (laneRuns s q op a l && p l)
    compares (.laneCeq q a) 0x13 (fun l => tEq t (va l) (vb l)) ∧
    compares (.laneClt q a) 0x14 (fun l => tLt t (va l) (vb l)) ∧
    compares (.laneCle q a) 0x15 (fun l => tEq t (va l) (vb l) || tLt t (va l) (vb l)) ∧
    (LaneReady s q 0x17 a → LaneLeaves (.laneMand q a) s q (x.setMask m (x.mask (a.va.toNat % 4) &&& x.mask (a.vb.toNat % 4)))) ∧
    (LaneReady s q 0x18 a → LaneLeaves (.laneMor q a) s q (x.setMask m (x.mask (a.va.toNat % 4) ||| x.mask (a.vb.toNat % 4)))) ∧
    (LaneReady s q 0x19 a → LaneLeaves (.laneMnot q a) s q (x.setMask m (~~~ x.mask (a.va.toNat % 4)))) ∧
    (LaneReady s q 0x00 a → LaneLeaves (.laneNop q a) s q x) ∧
    (LaneReady s q 0x1D a → tabWf 0 x.q = true → ∃ y, LaneLeaves (.laneSetq q a) s q y ∧ y = { x with q := y.q } ∧
      ∀ l, l < 64 → y.modulus l = if laneRuns s q 0x1D a l = true then x.reg l a.va.toNat % 2 ^ 36 else x.modulus l)

/-- Reductions over the executing lanes. LANE_XSUM, XMAX and XMIN with a lane executing complete: vd of every executing lane takes one value with the frame of lane arithmetic, the integer sum saturated once, a floating sum in the fixed tree of 64 leaves with +0 for a lane that does not execute, the sum of residues modulo the q of the lowest executing lane, or the maximum or minimum taken lane by lane in rising order; with no lane executing nothing but the pencil tag changes. -/
def Obligations.LaneReductions : Prop :=
  ∀ (s : State) (q : QuadAt) (a : LaneArgs), let t := a.type.toNat; let x := laneArray s q
    let va := fun l => laneArg s q a l a.va
    let ls := fun op => laneList s q op a
    let best (f : Nat → Nat → Nat → LaneRes) (op : Nat) : LaneRes :=
      ((ls op).drop 1).foldl (fun acc l => ((f t acc.1 (va l)).1, acc.2 ||| (f t acc.1 (va l)).2)) (va (nth 0 (ls op) 0), 0)
    (t ≤ 2 → ls 0x1A ≠ [] → LaneWrites (.laneXsum q a) s q 0x1A a
      (fun _ => satInt t (((ls 0x1A).map fun l => iVal t (va l)).sum))) ∧
    (3 ≤ t → t ≤ 7 → ls 0x1A ≠ [] → LaneWrites (.laneXsum q a) s q 0x1A a
      (fun _ => treeSum t 6 ((List.range 64).map fun l => (if laneRuns s q 0x1A a l then va l else 0, 0)))) ∧
    (t = 8 → ls 0x1A ≠ [] → let m := x.modulus (nth 0 (ls 0x1A) 0)
      modulusOk m = true → (∀ l ∈ ls 0x1A, va l < m) →
      LaneWrites (.laneXsum q a) s q 0x1A a (fun _ => (((ls 0x1A).map va).sum % m, 0))) ∧
    (ls 0x1B ≠ [] → LaneWrites (.laneXmax q a) s q 0x1B a (fun _ => best tMax 0x1B)) ∧
    (ls 0x1C ≠ [] → LaneWrites (.laneXmin q a) s q 0x1C a (fun _ => best tMin 0x1C)) ∧
    (LaneReady s q 0x1A a → ls 0x1A = [] → LaneLeaves (.laneXsum q a) s q x) ∧
    (LaneReady s q 0x1B a → ls 0x1B = [] → LaneLeaves (.laneXmax q a) s q x) ∧
    (LaneReady s q 0x1C a → ls 0x1C = [] → LaneLeaves (.laneXmin q a) s q x)

/-- Lane loads and stores through a stream. LANE_LD with no injected error in the quad completes: vd of every executing lane takes its stream element, zero-extended, and memory is as before. LANE_ST completes: the elements of the executing lanes are written in rising lane order, so that of lanes with one address the highest stays, every address outside them reads as before, and of the quad nothing but memory and pencil tags is touched. -/
def Obligations.LaneLoadsAndStores : Prop :=
  ∀ (s : State) (q : QuadAt) (a : LaneArgs), let x := laneArray s q; let w := coreQuad s q
    let st := nth ⟨0, 0, 0, 0⟩ x.streams (a.imm.toNat % 8); let n := typeBytes st.type
    (Clean s q → LaneReady s q 0x01 a → tabWf 0 x.v = true → ∃ (y : Lanes) (g : PTag),
      (Does (.laneLd q a) s fun d => d = (s.dev.at q.e).setQuad q.quad.toNat { w with lanes := y, laneTag := laneTagNow w ||| g }) ∧
      (∀ l r, l < 64 → r < 16 → y.reg l r = if r = a.vd.toNat ∧ laneRuns s q 0x01 a l = true
        then leVal (memRead w.mem (laneElem s q a l) n) % 2 ^ 64 else x.reg l r) ∧
      y = { x with v := y.v }) ∧
    (Clean s q → LaneReady s q 0x02 a → Memory.wf w.mem = true →
      Does (.laneSt q a) s fun d => ∃ m tg,
        d = (s.dev.at q.e).setQuad q.quad.toNat { w with mem := m, tags := tg, laneTag := laneTagNow w } ∧
        (∀ b, (∀ l, l < 64 → laneRuns s q 0x02 a l = true → b < laneElem s q a l ∨ laneElem s q a l + n ≤ b) → memByte m b = memByte w.mem b) ∧
        (∀ l, l < 64 → laneRuns s q 0x02 a l = true →
          (∀ k, l < k → k < 64 → laneRuns s q 0x02 a k = true → laneElem s q a k + n ≤ laneElem s q a l ∨ laneElem s q a l + n ≤ laneElem s q a k) →
          leVal (memRead m (laneElem s q a l) n) = (x.reg l a.va.toNat % 2 ^ typeBits st.type) % 2 ^ (8 * n)))

/-- A lane command is checked before it reads an operand. LANE_COMMAND on a fitted live quad whose lane unit is at a command not yet done completes: the command's work ends with a status and a cycle at which it completes, 8 cycles after its start or later; when its descriptor, kernel or stream table fails the check, the status is INVALID after 8 cycles and nothing else of the quad or the device changes. Premise: no injected error in the quad. -/
def Obligations.LaneCommandChecks : Prop :=
  ∀ (s : State) (q : QuadAt) (c : UnitCmd) (r : List UnitCmd), q.quad.toNat < quadsFitted s.dev → quadLive (coreQuad s q) = true →
    nth [] (coreQuad s q).units 1 = c :: r → c.done = none → Clean s q →
    let x := coreQuad s q; let start := max q.cyc x.cyc; let f := c.desc
    let kernel := (chunks 8 (leAt 4 2 f) (memRead x.mem (leAt 0 4 f) (8 * leAt 4 2 f))).map fun b => laneDecode (leVal b)
    let table := chunks 16 (leAt 28 1 f) (memRead x.mem (leAt 20 4 f) (16 * leAt 28 1 f))
    (laneCheck f kernel table = false → Does (.laneCommand q) s fun d =>
      d = (s.dev.at q.e).setQuad q.quad.toNat { x with units := setNth x.units 1 ({ c with done := some (2, 0), due := start + 8 } :: r) }) ∧
    (laneCheck f kernel table = true → Does (.laneCommand q) s fun d =>
      ∃ y, nth [] (d.quad q.quad.toNat).units 1 = y :: r ∧ y.desc = f ∧ y.spec = c.spec ∧ y.done = some (0, 0) ∧
        y.due = start + 8 + leAt 16 4 f * ((kernel.map (laneCycles (table.map streamOf))).sum))

/-- A unit command that breaks its table completes with INVALID. COPY, GATHER, SCATTER and ZERO outside the limits of R105, or with an address in their list that names no memory, CIM_LOAD, DOT, HAD and BENCH that fail R144 or R146, FWD and INV that fail R177, AUTOMORPHISM_EVAL and AUTOMORPHISM_COEF that fail R181, BEXT that fails Table 5.4 and KFETCH that fails Table 5.7, and a command without a descriptor, each at the head of its unit's queue, end with status INVALID and change nothing else of the device. Premise: no injected error in the quad. -/
def Obligations.UnitCommandsRefuseBadDescriptors : Prop :=
  ∀ (s : State) (q : QuadAt) (cmd : UnitCmd) (r : List UnitCmd), Clean s q →
    let x := coreQuad s q; let b := cmd.desc
    let invalid (c : Instr) (u : Nat) : Prop := UnitEnds c s q u cmd r 2 0 (unitCycle s q u) fun y => y = x
    (UnitAt s q 0 cmd r → cmd.started = false → b.length = 32 → movesOf b (readList (s.dev.at q.e) q.quad.toNat b).1 = none →
      (leAt 20 1 b = 0 → invalid (.copy q) 0) ∧ (leAt 20 1 b = 1 → invalid (.gather q) 0) ∧
      (leAt 20 1 b = 2 → invalid (.scatter q) 0) ∧ (3 ≤ leAt 20 1 b → invalid (.zero q) 0)) ∧
    (UnitAt s q 0 cmd r → cmd.started = false → b.length ≠ 32 → invalid (.copy q) 0) ∧
    (UnitAt s q 2 cmd r → b.length = 32 →
      (leAt 0 1 b = 0 → loadOk b = false → invalid (.cimLoad q) 2) ∧
      (leAt 0 1 b = 1 → dotOk x b false = false → invalid (.dot q) 2) ∧
      (leAt 0 1 b = 2 → dotOk x b true = false → invalid (.had q) 2) ∧
      (3 ≤ leAt 0 1 b → (leAt 0 1 b ≠ 3 ∨ leAt 2 1 b = 0 ∨ leAt 3 1 b ≠ 0 ∨ allZero (slice 18 2 b) = false ∨
        ∃ k ∈ arraysOf (leAt 2 1 b), (x.array k).st = .unloaded) → invalid (.bench q) 2)) ∧
    (UnitAt s q 2 cmd r → b.length ≠ 32 → invalid (.cimLoad q) 2) ∧
    (UnitAt s q 3 cmd r → nttOk b = false →
      (b.length = 32 → leAt 0 1 b = 0 → invalid (.fwd q) 3) ∧ ((b.length ≠ 32 ∨ leAt 0 1 b ≠ 0) → invalid (.inv q) 3)) ∧
    (UnitAt s q 4 cmd r → autoOk b = false →
      (b.length = 32 → leAt 0 1 b = 0 → invalid (.automorphismEval q) 4) ∧ ((b.length ≠ 32 ∨ leAt 0 1 b ≠ 0) → invalid (.automorphismCoef q) 4)) ∧
    (UnitAt s q 5 cmd r → bextOk b = false → (b.length ≠ 32 ∨ leAt 0 1 b ≤ 1 ∨ 5 ≤ leAt 0 1 b) → invalid (.bext q) 5) ∧
    (UnitAt s q 5 cmd r → b.length = 32 → leAt 0 1 b = 3 → kfetchOk b = false → invalid (.kfetch q) 5)

/-- The block mover copies, gathers, scatters and zeroes. COPY, GATHER and SCATTER between local addresses of the quad, with records that do not meet one another, end with status OK and the bytes moved, every destination record holding what its source record held before; ZERO leaves zeros in its destination. No address outside the destinations changes, and of the quad only memory and pencil tags are touched. Premise: no injected error in the quad, memory in canonical form. -/
def Obligations.BlockMoverMovesWithinAQuad : Prop :=
  ∀ (s : State) (q : QuadAt) (cmd : UnitCmd) (r : List UnitCmd), UnitAt s q 0 cmd r → cmd.started = false →
    Clean s q → Memory.wf (coreQuad s q).mem = true →
    let x := coreQuad s q; let b := cmd.desc; let len := leAt 16 4 b
    let op := leAt 20 1 b
    let moved (c : Instr) (n : Nat) (dsts : List Nat) (P : Quad → Prop) : Prop :=
      UnitEnds c s q 0 cmd r 0 (n * len) (unitCycle s q 0 + n * len / 64) fun y => MemTags x y ∧ P y ∧
        (∀ a, (∀ t ∈ dsts, a < t ∨ t + len ≤ a) → memByte y.mem a = memByte x.mem a)
    (∀ (srcs dsts : List Nat), LocalMoves s q b srcs dsts → dsts.Pairwise (Apart len) → (∀ a ∈ srcs, ∀ t ∈ dsts, Apart len a t) →
      (op = 1 ∨ op = 2 → listOk b = true ∧ ∀ t ∈ dsts, t + len ≤ leAt 24 4 b ∨ leAt 24 4 b + 8 * leAt 22 2 b ≤ t) →
      let P := fun (y : Quad) => ∀ p ∈ srcs.zip dsts, memRead y.mem p.2 len = memRead x.mem p.1 len
      (op = 0 → moved (.copy q) srcs.length dsts P) ∧ (op = 1 → moved (.gather q) srcs.length dsts P) ∧
      (op = 2 → moved (.scatter q) srcs.length dsts P)) ∧
    (∀ a, op = 3 → b.length = 32 → movesOf b [] = some [⟨none, .local_ a, len⟩] →
      moved (.zero q) 1 [a] fun y => ∀ i, a ≤ i → i < a + len → memByte y.mem i = 0)

/-- CIM_LOAD loads weights and reference sums. CIM_LOAD that passes its check ends with status OK after 16 cycles and one cycle for each 32 bytes of an array's image: every selected array is LOADED with the descriptor's mode, rows, columns and modulus, the weights of its image, fresh survey counts and, as reference sums, the dot products of the two benchmark inputs; every other array stays, and of the quad only the arrays and their pencil tags are touched. Premise: no injected error in the quad. -/
def Obligations.CimArraysLoad : Prop :=
  ∀ (s : State) (q : QuadAt) (cmd : UnitCmd) (r : List UnitCmd), UnitAt s q 2 cmd r → Clean s q → cmd.desc.length = 32 →
    leAt 0 1 cmd.desc = 0 → loadOk cmd.desc = true →
    let x := coreQuad s q; let b := cmd.desc; let mode := leAt 1 1 b
    let size := leAt 4 2 b * leAt 6 2 b * cimIn mode
    x.cim.length = 8 →
    UnitEnds (.cimLoad q) s q 2 cmd r 0 0 (unitCycle s q 2 + 16 + (size + 31) / 32) fun y =>
      y = { x with cim := y.cim, cimTag := y.cimTag } ∧ ∀ k, k < 8 →
        if bitsAt k 1 (leAt 2 1 b) = 1 then
          let w := (elements (cimIn mode) (memRead x.mem (leAt 8 4 b + k * leAt 20 4 b) size)).map (BitVec.ofNat 64)
          let a : CimArray := { st := .loaded, mode := BitVec.ofNat 8 mode, rows := leAt 4 2 b, cols := leAt 6 2 b, q := BitVec.ofNat 36 (loadQ b), w := w }
          y.array k = { a with s1 := (benchSums a).1.map (BitVec.ofNat 64), s2 := (benchSums a).2.map (BitVec.ofNat 64) }
        else y.array k = x.array k

/-- DOT and HAD write the products of inputs and weights. DOT and HAD of one input vector on one loaded array of mode INT8, E4M3 or E5M2 without ACC and REDUCE, whose output does not meet its input, end with status OK: the output holds, for each column, the sum over the rows of input times weight (for INT8 the exact sum saturated once to 32 bits), every other address reads as before, and of the quad only memory and pencil tags are touched. Premise: no injected error in the quad. -/
def Obligations.CimDotProducts : Prop :=
  ∀ (s : State) (q : QuadAt) (cmd : UnitCmd) (r : List UnitCmd) (k : Nat), UnitAt s q 2 cmd r → Clean s q →
    Memory.wf (coreQuad s q).mem = true →
    let x := coreQuad s q; let b := cmd.desc; let a := x.array k; let mode := a.mode.toNat
    let hadamard := decide (leAt 0 1 b = 2)
    let xs := elements (cimIn mode) (memRead x.mem (inputAddr b k 0) (cimIn mode * inputCount hadamard a))
    let ys := if hadamard then cimHad a xs else cimDot a xs
    k < 8 → arraysOf (leAt 2 1 b) = [k] → leAt 3 1 b = 0 → leAt 16 2 b = 1 → mode < 3 →
    (leAt 0 1 b = 1 ∨ leAt 0 1 b = 2) → dotOk x b hadamard = true →
    (∀ due, due = unitCycle s q 2 + 16 + ((a.rows + 1) / 2 - (if hadamard then 0 else skipped mode xs)) →
      UnitEnds (if hadamard then .had q else .dot q) s q 2 cmd r 0 0 due fun y => MemTags x y ∧
        elements (cimOut mode) (memRead y.mem (outputAddr b k 0) (cimOut mode * a.cols)) = ys.map (· % 2 ^ 32) ∧
        (∀ i, i < outputAddr b k 0 ∨ outputAddr b k 0 + cimOut mode * a.cols ≤ i → memByte y.mem i = memByte x.mem i)) ∧
    (mode = 0 → ∀ c, c < a.cols →
      nth 0 ys c = ofInt 32 (max (-2147483648) (min 2147483647 (((List.range (min xs.length a.rows)).map fun i =>
        toInt 8 (nth 0 xs (if hadamard then i * a.cols + c else i)) * toInt 8 (nth 0 (a.w.map (·.toNat)) (i * a.cols + c))).sum))))

/-- Benchmark passes of the CIM arrays. BENCH that passes its check ends with status OK after 32 cycles and two for each row pair of the longest array; BENCH_SLOT_PASS with a BENCH slot open, unit 2 without a command and no pass in the slot runs one, once in each slot, and holds unit 2 for its cycles. When every selected loaded array gives its reference sums, BENCH_PASSES grows by 1 and nothing else is touched; when one does not, BENCH_FAILS grows by 1. BENCH_SLOT_MISSED when the slot has closed without a pass and unit 2 had a command throughout counts BENCH_MISSED and raises the fault 0x63; with a pass in the slot, or unit 2 idle in it, only the moment passes. -/
def Obligations.CimBenchmarks : Prop :=
  ∀ (s : State) (q : QuadAt), let x := coreQuad s q; let n := q.quad.toNat; let d0 := s.dev.at q.e
    let sound (ks : List Nat) : Prop := ∀ k ∈ ks, (x.array k).st ≠ .unloaded → benchArray (x.array k) = none
    let counted (d : Dev) : Dev := { d with cim := { d.cim with benchPasses := d.cim.benchPasses + 1 } }
    let failed (d : Dev) : Prop := d.cim.benchFails = s.dev.cim.benchFails + 1 ∧ d.cim.benchPasses = s.dev.cim.benchPasses
    (∀ cmd r, UnitAt s q 2 cmd r → cmd.desc.length = 32 → leAt 0 1 cmd.desc = 3 → leAt 2 1 cmd.desc ≠ 0 → leAt 3 1 cmd.desc = 0 →
      allZero (slice 18 2 cmd.desc) = true → let ks := arraysOf (leAt 2 1 cmd.desc)
      (∀ k ∈ ks, (x.array k).st ≠ .unloaded) →
      (sound ks → Does (.bench q) s fun d => d = counted (d0.setQuad n { x with
        units := setNth x.units 2 ({ cmd with tag := ks.foldl (fun t k => t ||| tabGet 0 x.cimTag k) cmd.tag, done := some (0, 0), due := unitCycle s q 2 + 32 + 2 * longestRows x ks } :: r) })) ∧
      (¬ sound ks → Does (.bench q) s failed)) ∧
    (∀ i t st, n < quadsFitted s.dev → quadLive x = true → i < 64 → x.bench[i]? = some t → occurrence d0 n t 0 = some st →
      tabGet 0 x.benchSeen i ≠ st → before (now d0) (st + BitVec.ofNat 60 t.len) = true → nth [] x.units 2 = [] →
      let ks := (arraysOf t.units.toNat).filter fun k => decide ((x.array k).st ≠ .unloaded)
      (sound ks → Does (.benchSlotPass q i) s fun d =>
        d = counted (d0.setQuad n { x with benchSeen := tabSet 0 x.benchSeen i st, passUntil := max q.cyc x.cyc + 32 + 2 * longestRows x ks })) ∧
      (¬ sound ks → Does (.benchSlotPass q i) s failed)) ∧
    (∀ i t st, n < quadsFitted s.dev → quadLive x = true → i < 64 → x.bench[i]? = some t → occurrence d0 n t t.len = some st →
      let seen := tabGet 0 x.benchSeen i
      ((seen = 0 ∨ before seen st = true) → busyThrough x st (st + BitVec.ofNat 60 t.len) = true → Does (.benchSlotMissed q i) s fun d =>
        let e := d0.setQuad n { x with benchSeen := tabSet 0 x.benchSeen i st }
        d = raiseQuad { e with cim := { e.cim with benchMissed := e.cim.benchMissed + 1 } } 0x63 n 0 0 [] false) ∧
      ((seen ≠ 0 ∧ before seen st = false) ∨ busyThrough x st (st + BitVec.ofNat 60 t.len) = false → Passes (.benchSlotMissed q i) s q.e)) ∧
    (∀ i t st, n < quadsFitted s.dev → i < 64 → x.bench[i]? = some t → occurrence d0 n t 0 = some st →
      (tabGet 0 x.benchSeen i = st ∨ nth [] x.units 2 ≠ []) → Passes (.benchSlotPass q i) s q.e)

/-- FWD evaluates a polynomial at the odd powers of the root, INV interpolates. FWD and INV that pass the check, on a prime modulus with a primitive 2N-th root and residues below it, end with status OK after 64 cycles and N/2 · log2 N / 32 for each limb: element i of a FWD limb is the polynomial's value at PSI^(2·brv(i)+1) modulo Q, and an INV limb is N^(-1) times the sum with the inverse powers; no other address and nothing else of the quad but pencil tags changes. Premise: no injected error in the quad, limbs that do not overlap one another. -/
def Obligations.NttTransforms : Prop :=
  ∀ (s : State) (q : QuadAt) (cmd : UnitCmd) (r : List UnitCmd), UnitAt s q 3 cmd r → Clean s q →
    Memory.wf (coreQuad s q).mem = true → nttOk cmd.desc = true →
    let b := cmd.desc; let n := leAt 1 1 b; let m := leAt 16 8 b; let psi := leAt 24 8 b
    rootOk m psi n = true →
    let due := unitCycle s q 3 + 64 + leAt 2 1 b * (2 ^ n / 2) * n / 32
    let residues := fun (l : List Nat) => ∀ v ∈ l, v < m
    (leAt 0 1 b = 0 → TransformsLimbs (.fwd q) s q 3 cmd r due residues fun l o => o.length = 2 ^ n ∧ ∀ i, i < 2 ^ n →
      nth 0 o i = ((List.range (2 ^ n)).map fun j => nth 0 l j * psi ^ (j * (2 * brv n i + 1))).sum % m) ∧
    (leAt 0 1 b = 1 → TransformsLimbs (.inv q) s q 3 cmd r due residues fun l o => o = nttInv m psi n l)

/-- INV undoes FWD. For a prime modulus of the form that R172 supports and a primitive 2N-th root of unity, the inverse transform of the forward transform of N residues is those residues, for every N of 2 to 2^17. -/
def Obligations.NttInverse : Prop :=
  ∀ (q psi n : Nat) (x : List Nat), 1 ≤ n → n ≤ 17 → primeForm q n = true → rootOk q psi n = true →
    x.length = 2 ^ n → (∀ v ∈ x, v < q) → nttInv q psi n (nttFwd q psi n x) = x

/-- The automorphism unit permutes limbs. AUTOMORPHISM_EVAL and AUTOMORPHISM_COEF that pass the check end with status OK after 64 cycles and N/32 for each limb: in EVAL form output j takes input k with 2·brv(k)+1 ≡ (2·brv(j)+1)·G mod 2N, in COEF form coefficient i goes to i·G mod 2N, or with its sign changed N below it; no other address and nothing else of the quad but pencil tags changes. Premise: no injected error in the quad, limbs that do not overlap one another. -/
def Obligations.AutomorphismsPermute : Prop :=
  ∀ (s : State) (q : QuadAt) (cmd : UnitCmd) (r : List UnitCmd), UnitAt s q 4 cmd r → Clean s q →
    Memory.wf (coreQuad s q).mem = true → autoOk cmd.desc = true →
    let b := cmd.desc; let n := leAt 1 1 b; let g := leAt 24 4 b; let m := leAt 16 8 b
    let due := unitCycle s q 4 + 64 + leAt 2 1 b * 2 ^ n / 32
    (leAt 0 1 b = 0 → TransformsLimbs (.automorphismEval q) s q 4 cmd r due (fun _ => True) fun l o => o.length = 2 ^ n ∧
      ∀ j k, j < 2 ^ n → k < 2 ^ n → (2 * brv n k + 1) % (2 * 2 ^ n) = (2 * brv n j + 1) * g % (2 * 2 ^ n) → nth 0 o j = nth 0 l k) ∧
    (leAt 0 1 b = 1 → TransformsLimbs (.automorphismCoef q) s q 4 cmd r due (fun l => ∀ v ∈ l, v < m) fun l o => o.length = 2 ^ n ∧
      ∀ i, i < 2 ^ n → if i * g % (2 * 2 ^ n) < 2 ^ n then nth 0 o (i * g % (2 * 2 ^ n)) = nth 0 l i
        else nth 0 o (i * g % (2 * 2 ^ n) - 2 ^ n) = (m - nth 0 l i) % m)

/-- BEXT extends slices to new primes. BEXT that passes its check, with a constant table correct for its primes and source residues below theirs, whose target slices meet neither one another nor the sources and the table, ends with status OK after its cycles: residue n of target j is the sum over the sources of (x·q̂^(-1) mod q) times q̂ modulo p; no other address changes, and of the quad only memory and pencil tags are touched. Premise: no injected error in the quad. -/
def Obligations.BaseExtension : Prop :=
  ∀ (s : State) (q : QuadAt) (cmd : UnitCmd) (r : List UnitCmd), UnitAt s q 5 cmd r → Clean s q →
    Memory.wf (coreQuad s q).mem = true → bextOk cmd.desc = true →
    let x := coreQuad s q; let b := cmd.desc; let ns := leAt 2 1 b; let nt := leAt 3 1 b; let len := leAt 16 4 b
    let table := elements 8 (memRead x.mem (leAt 12 4 b) (16 * ns + 8 * nt + 8 * ns * nt))
    let src := fun i => elements 8 (memRead x.mem (leAt 4 4 b + i * leAt 20 4 b) (8 * len))
    let dst := fun j => leAt 8 4 b + j * leAt 24 4 b
    bextTableOk ns nt table = true → (∀ i, i < ns → ∀ v ∈ src i, v < nth 0 table (2 * i)) →
    (nt = 1 ∨ 8 * len ≤ leAt 24 4 b) →
    UnitEnds (.bext q) s q 5 cmd r 0 0 (unitCycle s q 5 + 64 + (len * ns * (nt + 1) + 31) / 32) fun y => MemTags x y ∧
      (∀ j k, j < nt → k < len → nth 0 (elements 8 (memRead y.mem (dst j) (8 * len))) k =
        ((List.range ns).map fun i => nth 0 (src i) k * nth 0 table (2 * i + 1) % nth 0 table (2 * i) * nth 0 table (2 * ns + nt + i * nt + j)).sum %
          nth 0 table (2 * ns + j)) ∧
      (∀ a, (∀ j, j < nt → a < dst j ∨ dst j + 8 * len ≤ a) → memByte y.mem a = memByte x.mem a)

/-- A finished command completes in order and tells its queue. UNIT_COMMAND_COMPLETE of a unit whose head command is done and due completes when it asks for no message or its queue has room in the cycle and no lower unit offers one: the command leaves the unit, and with NOTIFY set a completion message of 64 bytes with the tag, unit, status and bytes moved joins the named queue. A refused message is marked to be offered again. Before its due cycle only the moment passes. -/
def Obligations.UnitCompletion : Prop :=
  ∀ (s : State) (q : QuadAt) (u : Nat) (cmd : UnitCmd) (r : List UnitCmd) (st : Byte) (mv : Nat), q.quad.toNat < quadsFitted s.dev →
    u < 6 → let x := coreQuad s q; let n := q.quad.toNat; let t := now (s.dev.at q.e)
    quadLive x = true → nth [] x.units u = cmd :: r → cmd.done = some (st, mv) →
    (q.cyc < cmd.due → Passes (.unitCommandComplete q u) s q.e) ∧
    (cmd.due ≤ q.cyc →
      let tag := cmd.spec.toNat % 65536; let k := cmd.spec.toNat / 65536 % 4
      let left (y : Quad) : Quad := { y with
        unitDone := max x.unitDone (q.cyc + 1), idleFrom := if u = 2 ∧ r = [] then t else x.idleFrom, idleTo := if u = 2 ∧ r = [] then none else x.idleTo }
      let ends (y : Quad) : Prop := Does (.unitCommandComplete q u) s fun d =>
        d.quad n = left y ∧ (∀ m, m ≠ n → d.quad m = s.dev.quad m) ∧ ((u ≠ 0 ∨ cmd.wrote = []) → CoreFrame s q d)
      (cmd.spec.toNat / 2 ^ 18 % 2 = 0 → ends { x with units := setNth x.units u r }) ∧
      (cmd.spec.toNat / 2 ^ 18 % 2 = 1 → ∀ p l m, quadOwner s.dev n = some (p, l) →
        m = completionMsg s.dev p l u cmd st mv →
        (m.bytes.length = 64 ∧ leAt 0 4 m.bytes = tag ∧ leAt 8 1 m.bytes = u ∧ leAt 9 1 m.bytes = st.toNat ∧
          leAt 12 4 m.bytes = (if u = 0 then mv % 2 ^ 32 else 0)) ∧
        (∀ y, pushDone { x with units := setNth x.units u r } u k q.cyc m = some y → ends y) ∧
        (pushDone { x with units := setNth x.units u r } u k q.cyc m = none → Does (.unitCommandComplete q u) s fun d =>
          d = (s.dev.at q.e).setQuad n { x with units := setNth x.units u ({ cmd with offered := true } :: r) })))

/-- KMAC multiplies a digit by a key limb, EXPAND writes the other half. KMAC without ACC and EXPAND on a landed key page of the quad's own partition, that pass Table 5.8, end with status OK after 64 cycles and one for each 32 residues: the b-half is the digit times the key's b residue and the a-half the digit times the expanded a residue, modulo the limb's prime (EXPAND writes the expanded residues themselves); no other address changes, and of the quad only memory and pencil tags are touched. While an open fetch entry has the page as its destination the command has not run. Premise: no injected error in the quad or the page. -/
def Obligations.KeyMultiplyAndExpand : Prop :=
  ∀ (s : State) (q : QuadAt) (cmd : UnitCmd) (r : List UnitCmd) (p l page off a : Nat), UnitAt s q 5 cmd r → cmd.desc.length = 32 →
    let x := coreQuad s q; let b := cmd.desc
    leAt 0 1 b = 2 ∨ leAt 0 1 b = 4 →
    ((x.fetch.any fun t => decide (t.dst.toNat = leAt 8 8 b)) = true →
      (leAt 0 1 b = 2 → Passes (.kmac q) s q.e) ∧ (leAt 0 1 b = 4 → Passes (.expand q) s q.e)) ∧
    ((x.fetch.any fun t => decide (t.dst.toNat = leAt 8 8 b)) = false → quadOwner s.dev q.quad.toNat = some (p, l) →
      stackGlobal (leAt 8 8 b) = some (page, off) → pageAddr s.dev p page off = some a → off + 4096 ≤ 4194304 →
      Clean s q → s.dev.stackInj = [] → Memory.wf x.mem = true →
      let h := memRead s.dev.stackMem a 4096; let n := leAt 6 1 h; let k := leAt 2 1 b; let size := 9 * 2 ^ n / 2
      let m := leAt (80 + 8 * k) 8 h; let c0 := leAt 24 4 b; let len := leAt 28 4 b
      slice 0 4 h = ascii "ZXKP" → leAt 4 2 h = 1 → nlogOk n = true →
      kmacOk b n (leAt 7 1 h) = true → off + 4096 + leAt 7 1 h * size ≤ 4194304 → leAt 12 4 h = tenant s.dev p → modulusOk m = true →
      let key := fun i => pack36 (memRead s.dev.stackMem (a + 4096 + k * size) size) (c0 + i)
      let half := fun i => expandA (slice 24 32 h) (leAt 20 1 h) (leAt (64 + k) 1 h) n m (c0 + i)
      let digit := elements 8 (memRead x.mem (leAt 4 4 b) (8 * len))
      let due := unitCycle s q 5 + 64 + len / 32
      (leAt 0 1 b = 4 → UnitEnds (.expand q) s q 5 cmd r 0 0 due fun y => MemTags x y ∧
        (∀ i, i < len → nth 0 (elements 8 (memRead y.mem (leAt 20 4 b) (8 * len))) i = half i % 2 ^ 64) ∧
        (∀ i, i < leAt 20 4 b ∨ leAt 20 4 b + 8 * len ≤ i → memByte y.mem i = memByte x.mem i)) ∧
      (leAt 0 1 b = 2 → leAt 3 1 b = 0 → Apart (8 * len) (leAt 16 4 b) (leAt 20 4 b) →
        (∀ i, i < len → nth 0 digit i < m ∧ key i < m ∧ half i < m) →
        UnitEnds (.kmac q) s q 5 cmd r 0 0 due fun y => MemTags x y ∧
          (∀ i, i < len → nth 0 (elements 8 (memRead y.mem (leAt 16 4 b) (8 * len))) i = nth 0 digit i * key i % m) ∧
          (∀ i, i < len → nth 0 (elements 8 (memRead y.mem (leAt 20 4 b) (8 * len))) i = nth 0 digit i * half i % m) ∧
          (∀ i, (i < leAt 16 4 b ∨ leAt 16 4 b + 8 * len ≤ i) → (i < leAt 20 4 b ∨ leAt 20 4 b + 8 * len ≤ i) → memByte y.mem i = memByte x.mem i)))

/-- Fetching key pages. KFETCH with a free fetch-table entry and a routed vault opens an entry that asks that vault, and waits with the table full or the destination already open; KEY_PAGE_LANDING writes the page into the partition's stack memory and counts it late, with KEY_LATE raised, when NEED has passed: one whose header matches closes the entry and counts as landed, and one whose header differs leaves it open and asks the next vault; KEY_RETRY at its stamp raises KEY_TIMEOUT and asks the next vault in the list's cyclic order, all vaults being unasked again; KEY_NACK counts, raises KEY_NACKED and asks the next vault not yet asked. -/
def Obligations.KeyFetching : Prop :=
  ∀ (s : State) (q : QuadAt) (p l : Nat), q.quad.toNat < quadsFitted s.dev → quadOwner s.dev q.quad.toNat = some (p, l) →
    let x := coreQuad s q; let n := q.quad.toNat; let d0 := s.dev.at q.e
    let asks (t : FetchEntry) (k v : Nat) : FetchEntry := { t with tags := t.tags ++ [s.dev.key.nextTag], lastIdx := some k, lastVault := some v, asked := t.asked ++ [v] }
    (∀ cmd r i v, UnitAt s q 5 cmd r → cmd.desc.length = 32 → leAt 0 1 cmd.desc = 3 → kfetchOk cmd.desc = true →
      (pageAddr s.dev p (((stackGlobal (leAt 8 8 cmd.desc)).map (·.1)).getD 0) 0).isSome = true → nextVault s.dev p none [] = some (i, v) →
      let b := cmd.desc; let need : Stamp := BitVec.ofNat 60 (leAt 16 8 b)
      let entry : FetchEntry := { dst := BitVec.ofNat 64 (leAt 8 8 b), keyId := BitVec.ofNat 32 (leAt 4 4 b), digit := BitVec.ofNat 8 (leAt 2 1 b), page := BitVec.ofNat 8 (leAt 3 1 b), urgency := BitVec.ofNat 8 (leAt 1 1 b), need := need, tags := [], lastIdx := none, asked := [], retryAt := after need (legNat s.dev 0x6080 0x00) }
      (x.fetch.length < 16 → (x.fetch.any fun t => decide (t.dst.toNat = leAt 8 8 b)) = false →
        Does (.kfetch q) s fun d => (d.quad n).fetch = x.fetch ++ [asks entry i v] ∧ d.key.nextTag = s.dev.key.nextTag + 1 ∧
          (∃ z, nth [] (d.quad n).units 5 = z :: r ∧ z.done = some (0, 0)) ∧ d.stackMem = s.dev.stackMem ∧ d.parts = s.dev.parts) ∧
      ((16 ≤ x.fetch.length ∨ (x.fetch.any fun t => decide (t.dst.toNat = leAt 8 8 b)) = true) → Passes (.kfetch q) s q.e)) ∧
    (∀ tag i t, entryOf x tag = some (i, t) →
      (∀ page pg off, stackGlobal t.dst.toNat = some (pg, off) →
        let lands (d : Dev) : Prop := d.stackMem = (writePage d0 p pg off page).stackMem ∧
          d.key.pagesLate = (if reached d0 t.need then s.dev.key.pagesLate + 1 else s.dev.key.pagesLate)
        let hit := leAt 8 4 page = t.keyId.toNat ∧ leAt 20 1 page = t.digit.toNat ∧ leAt 22 1 page = t.page.toNat ∧ leAt 12 4 page = tenant s.dev p
        (hit → Does (.keyPageLanding q tag page) s fun d => lands d ∧ (d.quad n).fetch = x.fetch.eraseIdx i ∧
          d.key.pagesLanded = s.dev.key.pagesLanded + 1 ∧ d.wire = s.dev.wire) ∧
        (∀ k v, ¬ hit → nextVault s.dev p t.lastIdx [] = some (k, v) → Does (.keyPageLanding q tag page) s fun d => lands d ∧
          (d.quad n).fetch = setNth x.fetch i (asks t k v) ∧ d.key.pagesLanded = s.dev.key.pagesLanded ∧ d.key.rerequests = s.dev.key.rerequests + 1)) ∧
      (∀ k v, nextVault s.dev p t.lastIdx [] = some (k, v) → reached d0 t.retryAt = true →
        Does (.keyRetry q tag) s fun d => d.key.rerequests = s.dev.key.rerequests + 1 ∧ d.key.nextTag = s.dev.key.nextTag + 1 ∧
          (d.quad n).fetch = setNth x.fetch i (asks { t with retryAt := after t.retryAt (legNat s.dev 0x6080 0x00), asked := [] } k v) ∧ d.stackMem = s.dev.stackMem) ∧
      (reached d0 t.retryAt = false → Passes (.keyRetry q tag) s q.e) ∧
      (∀ k v, nextVault s.dev p t.lastIdx t.asked = some (k, v) →
        Does (.keyNack q tag) s fun d => d.key.nacks = s.dev.key.nacks + 1 ∧ d.key.rerequests = s.dev.key.rerequests + 1 ∧
          (d.quad n).fetch = setNth x.fetch i (asks t k v) ∧ d.stackMem = s.dev.stackMem))

/-- A vault takes requests, spends credits and loads archives. KEY_REQUEST_RECEIVED at a vault that is not halted, holds the page and has room in its table of 4,096 appends the request, and else answers with a NACK; VAULT_PAGE_SEND sends of the first request in service order that has credits as many 4 KiB as they allow and spends them, and does nothing with no request; KEY_CREDIT_SEND for a partition that fetches from a vault, within 64 unspent credits and its KEY rate, adds 4,096 bytes of credit; VAULT_KEY of zeros unloads, and of a key archive begins loading; VAULT_KEY_LOAD_COMPLETE makes a loading entry loaded or failed. -/
def Obligations.VaultsServeKeys : Prop :=
  ∀ (s : State) (e : Nat), s.dev.handed = [] → let d0 := s.dev.at e
    (∀ (m : KeyReq), if vaultHalted s.dev = false ∧ (vaultPage s.dev m.keyId m.tenant m.digit m.page).isSome = true ∧ s.dev.key.requests.length < 4096
      then Does (.keyRequestReceived e m) s fun d => d = { d0 with key := { d0.key with requests := d0.key.requests ++ [
        { device := m.device, partition := m.partition, tenant := m.tenant, keyId := m.keyId, digit := m.digit, page := m.page, urgency := m.urgency, need := m.need, tag := m.tag }] } }
      else Does (.keyRequestReceived e m) s fun d => d = sendNack d0 m.device m.partition m.tag) ∧
    (s.dev.key.requests = [] → Passes (.vaultPageSend e) s e) ∧
    (∀ m a, ((serviceOrder s.dev.key.requests).find? fun r => decide (0 < tabGet 0 s.dev.key.credits (creditKey r)) || (vaultPage s.dev r.keyId r.tenant r.digit r.page).isNone) = some m →
      vaultHalted s.dev = false → vaultPage s.dev m.keyId m.tenant m.digit m.page = some a → s.dev.stackInj = [] →
      let size := 4096 + (memByte s.dev.stackMem (a + 7)).toNat * (9 * 2 ^ (memByte s.dev.stackMem (a + 6)).toNat / 2)
      let n := min (tabGet 0 s.dev.key.credits (creditKey m)) ((size - m.sent + 4095) / 4096)
      Does (.vaultPageSend e) s fun d =>
        d.key.credits = tabSet 0 s.dev.key.credits (creditKey m) (tabGet 0 s.dev.key.credits (creditKey m) - n) ∧
        (if size ≤ m.sent + min (4096 * n) (size - m.sent) then d.key.requests = s.dev.key.requests.erase m ∧ d.key.pagesServed = s.dev.key.pagesServed + 1
          else d.key.requests = (s.dev.key.requests.map fun x => if x = m then { m with sent := m.sent + min (4096 * n) (size - m.sent) } else x) ∧
            d.key.pagesServed = s.dev.key.pagesServed) ∧
        d.stackMem = s.dev.stackMem) ∧
    (∀ p (v : BitVec 16), p < 64 → fetchingFrom s.dev p v.toNat = true →
      let key := p * 2 ^ 16 + v.toNat
      tabGet 0 s.dev.aksia.keyCredits key + 4096 ≤ 262144 → tabGet 0 s.dev.aksia.keySentNow p + 4096 ≤ keyRate s.dev p →
      Does (.keyCreditSend e p v) s fun d => d = sendPacket { d0 with aksia := { d0.aksia with
        keyCredits := tabSet 0 d0.aksia.keyCredits key (tabGet 0 d0.aksia.keyCredits key + 4096)
        keySentNow := tabSet 0 d0.aksia.keySentNow p (tabGet 0 d0.aksia.keySentNow p + 4096) } } .resp (.keyCredit 1) v.toNat 0xFF p 0 []) ∧
    (∀ n, n < 256 → tabWf {} s.dev.key.keys = true →
      Does (.vaultKey e n (zeros 16)) s fun d => vaultKeyOf d n = {} ∧ (∀ m, m ≠ n → vaultKeyOf d m = vaultKeyOf s.dev m) ∧ d.stackMem = s.dev.stackMem) ∧
    (∀ n o (keyId tenant : BitVec 32) (object : BitVec 64), n < 256 → tabWf {} s.dev.key.keys = true → object ≠ 0 →
      objectOf s.dev object.toNat = some o → o.kind = 4 → o.st ≠ .writing →
      Does (.vaultKey e n (be 4 keyId.toNat ++ be 4 tenant.toNat ++ be 8 object.toNat)) s fun d =>
        (vaultKeyOf d n).keyId = keyId ∧ (vaultKeyOf d n).tenant = tenant ∧ (vaultKeyOf d n).object = object ∧
        ((vaultKeyOf d n).st = 1 ∧ (vaultKeyOf d n).count = (o.size - 4096) / 0x200000 ∧ (vaultKeyOf d n).pages.length = ((o.size - 4096) / 0x200000 + 1) / 2 ∨
          (vaultKeyOf d n).st = 3)) ∧
    (∀ n, n < 256 → (vaultKeyOf s.dev n).st = 1 → tabWf {} s.dev.key.keys = true →
      Does (.vaultKeyLoadComplete e n) s fun d => ((vaultKeyOf d n).st = 2 ∧ (vaultKeyOf d n).pages = (vaultKeyOf s.dev n).pages) ∨
        ((vaultKeyOf d n).st = 3 ∧ (vaultKeyOf d n).pages = []))

/-- Bearings open, pause, time out and resolve. POINT_OPEN of a point that is due counts an opened bearing and gives it the strip's next BSEQ, and with no entry free resolves it at once by DECLARED, counted inked and defaulted; BEARING_ANSWER for the only entry of the table, before its windows close and well formed, frees the entry and counts it inked when the answer matches the prediction and rerun when it does not; an answer to no open bearing is a stray; PENCIL_BUDGET when due counts a pause and BEARING_TIMEOUT of the only entry frees it by DECLARED and counts a default; before their windows only the moment passes. Premise: canonical tables. -/
def Obligations.BearingsOpenAndResolve : Prop :=
  ∀ (s : State) (e p : Nat), BearingTables s p → let c := s.dev.bearing
    (∀ point beat strip t pt, PointDue s e p point beat strip t pt → let st := ptStrip pt
      Does (.pointOpen e p point beat) s (fun d => d.bearing.opened = c.opened + 1 ∧ (d.strip st).bseq = (s.dev.strip st).bseq + 1) ∧
      ((∀ i, i < 16 → (entryAt s.dev p i).isSome = true) → Does (.pointOpen e p point beat) s fun d =>
        d.bearing = { c with opened := c.opened + 1, inked := c.inked + 1, defaults := c.defaults + 1 })) ∧
    (∀ i b strip octets at_, OnlyEntry s p i b → (s.dev.ptx p).answers = [(strip, octets, at_)] → b.strip = strip → b.st = .sent →
      b.answer = none → BitVec.ofNat 32 (beAt 0 4 octets) = b.bseq → budgetDue (s.dev.at e) p b = false → timeoutDue (s.dev.at e) b = false →
      beAt 4 1 octets = b.point → beAt 5 1 octets = ptKind b.plan → beAt 6 1 octets = ptTopk b.plan → beAt 7 1 octets = 0 →
      let v := toRecordOrder (ptKind b.plan) (fit 256 (octets.drop 8))
      valuesOk b.plan v b.present = true → Does (.bearingAnswer e p) s fun d => entryAt d p i = none ∧ (d.ptx p).answers = [] ∧
        (if matchesPred b.plan b.pred v b.present then d.bearing = { c with inked := c.inked + 1 } else d.bearing = { c with reruns := c.reruns + 1 })) ∧
    (∀ strip octets at_, p < 64 → (s.dev.ptx p).answers = [(strip, octets, at_)] → (∀ i, i < 16 → entryAt s.dev p i = none) →
      Does (.bearingAnswer e p) s fun d => d.bearing = { c with strays := c.strays + 1 }) ∧
    (∀ i b, OnlyEntry s p i b →
      (budgetDue (s.dev.at e) p b = true → b.answer = none → Does (.pencilBudget e p i) s fun d => d.bearing.pauses = c.pauses + 1 ∧ d.wire = s.dev.wire) ∧
      (budgetDue (s.dev.at e) p b = false → Passes (.pencilBudget e p i) s e) ∧
      (timeoutDue (s.dev.at e) b = true → Does (.bearingTimeout e p i) s fun d => entryAt d p i = none ∧ d.bearing.defaults = c.defaults + 1) ∧
      (timeoutDue (s.dev.at e) b = false → Passes (.bearingTimeout e p i) s e))

/-- Gazetteers: page, counts and epochs. GAZ_PAGE sets the page, with slot 0 in force, both epochs 0 and no counts, and zeroes both slots of the page; GAZ_NEXT of a whole image, with the slot not in force retired, writes the image into that slot and puts it in force as the next epoch, and otherwise changes nothing; GAZ_COUNT_INTERVAL at an edge whose tick is a multiple of the interval, or which stepped over one, restarts every gazetteer's counts at that multiple, and at any other edge does nothing. Premise: canonical table of partitions, no injected error in stack memory. -/
def Obligations.Gazetteers : Prop :=
  ∀ (s : State) (e p : Nat), p < 64 → tabWf {} s.dev.parts = true → s.dev.stackInj = [] → let g := (s.dev.partition p).gaz
    (∀ (page : BitVec 32), Does (.gazPage e p page) s fun d =>
      (d.partition p).gaz = { page := page, countStart := now (s.dev.at e) } ∧ (∀ n, n ≠ p → d.partition n = s.dev.partition n) ∧
      (page = 0xFFFFFFFF → d.stackMem = s.dev.stackMem) ∧ d.quads = s.dev.quads ∧ d.wire = s.dev.wire) ∧
    (∀ image, image.length = 0x10000 → g.page ≠ 0xFFFFFFFF → g.unretired = false → Does (.gazNext e p image) s fun d =>
      let n := gazEpoch g + 1; let slot := 1 - g.current.toNat
      (d.partition p).gaz = { g with current := BitVec.ofNat 1 slot, unretired := true, epoch0 := if slot = 0 then n else g.epoch0, epoch1 := if slot = 1 then n else g.epoch1 } ∧
      gazEpoch (d.partition p).gaz = n ∧ d.quads = s.dev.quads ∧ d.wire = s.dev.wire) ∧
    (∀ image, (image.length ≠ 0x10000 ∨ g.page = 0xFFFFFFFF ∨ g.unretired = true) → Passes (.gazNext e p image) s e) ∧
    (let t := s.dev.grat.tick; let last : TickNo := BitVec.ofNat 48 (t.toNat - t.toNat % 2 ^ legNat s.dev 0x4800 0x00)
      let due := s.dev.grat.everLocked = true ∧ 0 < (last - s.dev.grat.prevTick).toNat ∧ (last - s.dev.grat.prevTick).toNat ≤ (t - s.dev.grat.prevTick).toNat
      (due → g.page ≠ 0xFFFFFFFF → g.countStart ≠ stampOf last 0 → Does (.gazCountInterval e) s fun d =>
        (d.partition p).gaz = { g with counts := [], countStart := stampOf last 0 } ∧ d.quads = s.dev.quads ∧ d.wire = s.dev.wire) ∧
      (¬ due → Passes (.gazCountInterval e) s e))

/-- Partitions: run, load, first beat, beats, halt, restart, stall, handover. RUN = 1 in STOPPED enters LOADING, in conflict does nothing, and RUN = 0 in RUNNING or REPLAYING waits for the next opening; SHEET_LOAD of an accepted container loads the quad, of a rejected one stops the partition; the first due opening runs a LOADING partition, each next opening numbers the next beat or stops a partition that stops; PARTITION_HALT when due empties the bearing table and marks the quads that its raises failed, and with no failed quad the partition recovers, or loads again where no beat had opened; PARTITION_RESTART when due counts a recovery and opens the newest checkpoint's beat; STALL_WATCHDOG closes its window, in a tick that counts, and counts a stall only with work pending; HANDOVER hands over a partition in any state (assumption log 28) and names it to its buddy; a failed quad takes no sheet (assumption log 24). Outside those conditions the moment passes. Premise: canonical tables. -/
def Obligations.PartitionsLoadRunAndStop : Prop :=
  ∀ (s : State) (e p : Nat), PartTables s → p < 64 → let d0 := s.dev.at e; let x := s.dev.partition p
    (runConflict d0 p = true → Passes (.run e p true) s e) ∧
    (runConflict d0 p = false → x.st = .stopped → Does (.run e p true) s fun d =>
      (d.partition p).st = .loading ∧ (d.partition p).run = true ∧ (d.partition p).loaded = [] ∧ (d.partition p).quadMap = x.quadMap) ∧
    (x.st = .running ∨ x.st = .replaying → Does (.run e p false) s fun d =>
      d.partition p = { x with run := false, stopping := true } ∧ (∀ q, q ≠ p → d.partition q = s.dev.partition q) ∧
      d.quads = s.dev.quads ∧ d.strips = s.dev.strips ∧ d.stackMem = s.dev.stackMem) ∧
    (∀ l off len n, l < 256 → x.st = .loading ∨ x.st = .recovering → l ∉ x.loaded → x.containers[l]? = some (off, len) → physQuad s.dev p l = some n →
      s.dev.stackInj = [] → (s.dev.quad n).st ≠ .failed → let b := (readSpan d0 x.sheetCopy off len).1
      (sheetOk s.dev b l = true → Does (.sheetLoad e p l) s fun d =>
        (d.partition p).loaded = x.loaded ++ [l] ∧ (d.partition p).loadedAt = now d0 ∧ (d.partition p).st = x.st ∧
        (d.quad n).mem = (loadedQuad (s.dev.quad n) b).mem ∧ (d.quad n).slots = (loadedQuad (s.dev.quad n) b).slots ∧ (d.quad n).sheetId = BitVec.ofNat 64 (leAt 8 8 b)) ∧
      (sheetOk s.dev b l = false → Does (.sheetLoad e p l) s fun d => (d.partition p).st = .stopped ∧ (d.partition p).run = false ∧ (d.partition p).sheetCopy = [])) ∧
    (∀ l n, l < 256 → (x.st ≠ .loading ∧ x.st ≠ .recovering) ∨ l ∈ x.loaded ∨ (physQuad d0 p l = some n ∧ (s.dev.quad n).st = .failed) → Passes (.sheetLoad e p l) s e) ∧
    (s.dev.grat.everLocked = false → Passes (.beatOpening e p) s e) ∧
    (s.dev.grat.everLocked = true → NoOwedFeeds s p →
      (∀ k, firstDue d0 p = some k → Does (.beatOpening e p) s fun d =>
        (d.partition p).st = .running ∧ (d.partition p).firstBeat = k ∧ (d.partition p).nextBeat = k + 1 ∧ (d.partition p).opening = beatStamp s.dev p k) ∧
      (partLive x = true → reached d0 (nextOpening d0 p) = true → x.stopping = false → Does (.beatOpening e p) s fun d =>
        (d.partition p).nextBeat = x.nextBeat + 1 ∧ (d.partition p).opening = nextOpening d0 p ∧ (d.partition p).begun = true ∧ partLive (d.partition p) = true) ∧
      (partLive x = true → reached d0 (nextOpening d0 p) = true → x.stopping = true → x.quadMap ≠ [] → Does (.beatOpening e p) s fun d =>
        (d.partition p).st = .stopped ∧ (d.partition p).run = false) ∧
      (partLive x = true → reached d0 (nextOpening d0 p) = false → Passes (.beatOpening e p) s e)) ∧
    (∀ t src, x.haltDue = some (t, src) → x.st = .running ∨ x.st = .replaying ∨ x.st = .loading →
      (reached d0 (t + 1) = true → Does (.partitionHalt e p) s fun d =>
        (d.partition p).table = [] ∧ (d.partition p).failing = [] ∧ (d.partition p).haltAt = now d0 ∧ (d.partition p).cause = src ∧
        (∀ q ∈ x.failing, (d.quad q).st = .failed) ∧
        (x.failing = [] → failedLogical s.dev p = [] → (d.partition p).haltDue = none ∧ (d.partition p).quadMap = x.quadMap ∧
          (d.partition p).st = (if x.begun = false ∧ x.takenOver = false then .loading else .recovering))) ∧
      (reached d0 (t + 1) = false → Passes (.partitionHalt e p) s e)) ∧
    (x.haltDue = none → Passes (.partitionHalt e p) s e) ∧
    (∀ slot c, x.st = .recovering → x.haltDue = none → allLoaded x = true → reached d0 (restartAt x) = true → x.stopping = false → newestCkpt ((completeCkpt d0 p).partition p) = some (slot, c) →
      Does (.partitionRestart e p) s fun d => (d.partition p).recoveries = x.recoveries + 1 ∧ (d.partition p).cause = 0 ∧ (d.partition p).nextBeat = c.beat + 1 ∧
        (d.partition p).opening = restartAt x ∧ (d.partition p).lastRecovery = recoveryRecord x (restartAt x) c.beat ∧ partLive (d.partition p) = true) ∧
    (x.st ≠ .recovering → Passes (.partitionRestart e p) s e) ∧
    (partLive x = true → x.wdClosed = false → reached d0 (after x.wdBase 16) = true → x.wdSkip = false → uncounted d0 p = false →
      (((quadsOf s.dev p).any fun n => quadPending (s.dev.quad n)) = true → Does (.stallWatchdog e p) s fun d => (d.partition p).wdClosed = true ∧ (d.partition p).stalls = x.stalls + 1 ∧ d.strips = s.dev.strips) ∧
      (((quadsOf s.dev p).any fun n => quadPending (s.dev.quad n)) = false → Does (.stallWatchdog e p) s fun d => d.partition p = { x with wdClosed := true } ∧ d.quads = s.dev.quads ∧ d.faults = s.dev.faults)) ∧
    (partLive x = false ∨ x.wdClosed = true ∨ x.wdSkip = true ∨ uncounted d0 p = true → Passes (.stallWatchdog e p) s e) ∧
    (OpenForWrites s e (0x3000 + p) 0x0E → Does (.handover e p) s fun d =>
      (d.partition p).st = .handedOver ∧ (d.partition p).table = [] ∧ (d.partition p).haltDue = none ∧ (d.partition p).haltAt = now d0 ∧
      (partNat d0 p 0x09 ≠ 0xFFFF → (tabGet {} d.aksia.buddies (partNat d0 p 0x09)).handover.getLsbD p = true))

/-- Session aborts, checkpoints and mirrors. ABORT answers for each slot named by its mask: no session 0, a completed one 2, one aborted before stays with status 1, else the session is aborted at this stamp with status 1, and no other slot changes; CHECKPOINT_COMPLETE completes the checkpoint being written, in either slot, and with none being written changes nothing and its beat is the last checkpointed one of its strips, and with a buddy its mirror waits for an acknowledgement; MIRROR_WRITE for a holder with pages writes them and puts the mirror in front of the one before it, in the other slot, and without a holder or a page writes nothing; MIRROR_ACK of the mirror sent clears the wait and any other changes nothing but the arrivals handed. Premise: canonical tables. -/
def Obligations.SessionsAbortAndCheckpointsComplete : Prop :=
  ∀ (s : State) (e : Nat), PartTables s → let d0 := s.dev.at e
    (∀ k mask, k < 256 → OpenForWrites s e (0x4000 + k) 0x0B → (s.dev.strip k).abortStatus.length = 64 → Does (.abort_ e k mask) s fun d =>
      (∀ n, n < 64 → AbortedSlot (now d0) (ordinal d0) (mask.getLsbD n) (s.dev.strip k) (d.strip k) n) ∧ (∀ j, j ≠ k → d.strip j = s.dev.strip j) ∧
      d.parts = s.dev.parts ∧ d.quads = s.dev.quads ∧ d.wire = s.dev.wire) ∧
    (∀ p c, p < 64 → (s.dev.partition p).ckpt0 = some c → c.complete = false → Does (.checkpointComplete e p) s fun d =>
      (d.partition p).ckpt0 = some { c with complete := true } ∧ (d.partition p).ckpt1 = (s.dev.partition p).ckpt1 ∧ (∀ t ∈ c.strips, (d.strip t.strip).ckptBeat = c.beat) ∧
      (if partNat s.dev p 0x09 = 0xFFFF then d.wire = s.dev.wire ∧ (d.partition p).mirrorSent = (s.dev.partition p).mirrorSent else (d.partition p).mirrorSent = some c.beat)) ∧
    (∀ p c, p < 64 → (s.dev.partition p).ckpt1 = some c → c.complete = false → (∀ b, (s.dev.partition p).ckpt0 = some b → b.complete = true) → Does (.checkpointComplete e p) s fun d =>
      (d.partition p).ckpt1 = some { c with complete := true } ∧ (d.partition p).ckpt0 = (s.dev.partition p).ckpt0 ∧ (∀ t ∈ c.strips, (d.strip t.strip).ckptBeat = c.beat)) ∧
    (∀ p, p < 64 → (∀ b, (s.dev.partition p).ckpt0 = some b → b.complete = true) → (∀ b, (s.dev.partition p).ckpt1 = some b → b.complete = true) → Passes (.checkpointComplete e p) s e) ∧
    (∀ device partition ten beat phase strips pages h, holderOf s.dev device partition = some h →
      let n := (pages.length + pageBytes - 1) / pageBytes
      let slot := match (s.dev.partition h).mirrors with
        | m :: _ => 1 - m.slot
        | [] => 0
      (∀ i, i < n → (physPage s.dev h (partNat s.dev h 0x14 + slot * n + i)).isSome = true) →
      Does (.mirrorWrite e device partition ten beat phase strips pages) s fun d =>
        (∀ i j, i < n → j < pageBytes → ∀ a, physPage s.dev h (partNat s.dev h 0x14 + slot * n + i) = some a → (s.dev.partition h).pages.Nodup → Memory.wf s.dev.stackMem = true → memByte d.stackMem (a * pageBytes + j) = nth 0 pages (i * pageBytes + j)) ∧
        (d.partition h).mirrors = { beat := beat, slot := slot, phase := phase, tenant := ten, pages := n, strips := strips.map unmirrorStrip } :: (s.dev.partition h).mirrors.take 1 ∧
        d.strips = s.dev.strips) ∧
    (∀ device partition ten beat phase strips pages h i, holderOf s.dev device partition = some h →
      let n := (pages.length + pageBytes - 1) / pageBytes
      let slot := match (s.dev.partition h).mirrors with
        | m :: _ => 1 - m.slot
        | [] => 0
      i < n → physPage s.dev h (partNat s.dev h 0x14 + slot * n + i) = none → Does (.mirrorWrite e device partition ten beat phase strips pages) s fun d =>
        d.parts = s.dev.parts ∧ d.stackMem = s.dev.stackMem ∧ d.wire = s.dev.wire) ∧
    (∀ device partition ten beat phase strips pages, holderOf s.dev device partition = none →
      Does (.mirrorWrite e device partition ten beat phase strips pages) s fun d => d.parts = s.dev.parts ∧ d.stackMem = s.dev.stackMem ∧ d.wire = s.dev.wire) ∧
    (∀ p beat, p < 64 → (s.dev.partition p).mirrorSent = some beat → Does (.mirrorAck e p beat) s fun d =>
      d.partition p = { s.dev.partition p with mirrorSent := none, mirrorFail := false } ∧ (∀ k ∈ stripsOf s.dev p, (d.strip k).mirrorBeat = beat) ∧ d.wire = s.dev.wire) ∧
    (∀ p beat, p < 64 → (s.dev.partition p).mirrorSent ≠ some beat → Does (.mirrorAck e p beat) s fun d => d.parts = s.dev.parts ∧ d.strips = s.dev.strips ∧ d.wire = s.dev.wire)

/-- PON delineation, TO1, TO2 and the activation back-off. While the terminal listens: a correct PSBd moves HUNT to PRE-SYNC, PRE-SYNC to SYNC on the next count and to HUNT on another, RE-SYNC to SYNC, and in O6 back to O5 or off once TO2 has closed; an incorrect or missing one moves SYNC to RE-SYNC, counts in RE-SYNC and at the third loses synchronization, O5 becoming O6; TO1 in O4 and TO2 in O6 enter O1 and release the identities; ACTIVATION_BACKOFF_END notes the end of the back-off. Not listening, in HUNT with nothing received, or before a window closes, only the moment passes. -/
def Obligations.PonDelineationAndTimers : Prop :=
  ∀ (s : State) (e : Nat), let d0 := s.dev.at e; let p := s.dev.pon
    (listening d0 = false → ∀ errors ok count, Passes (.psbdReceived e errors ok count) s e ∧ Passes (.psbdMissing e) s e) ∧
    (listening d0 = true → ∀ errors ok count,
      (p.sync = .hunt → errors = 0 → ok = true → Does (.psbdReceived e errors ok count) s fun d => d = { d0 with pon := { p with sync := .preSync, lastCount := count } }) ∧
      (p.sync = .hunt → 2 < errors ∨ ok = false → Does (.psbdReceived e errors ok count) s fun d => d = { d0 with pon := { p with hecErrors := p.hecErrors + 1 } }) ∧
      (p.sync = .hunt → Passes (.psbdMissing e) s e) ∧
      (p.sync = .preSync → errors ≤ 2 → ok = true → count ≠ p.lastCount + 1 → Does (.psbdReceived e errors ok count) s fun d => d = { d0 with pon := { p with sync := .hunt } }) ∧
      (errors ≤ 2 → ok = true → (p.sync = .preSync ∧ count = p.lastCount + 1) ∨ p.sync = .reSync ∨ p.sync = .sync → Does (.psbdReceived e errors ok count) s fun d =>
        d.pon.sync = .sync ∧ d.pon.badPsbd = 0 ∧ d.pon.lastCount = count ∧ d.sec = s.dev.sec ∧ d.cad = s.dev.cad ∧
        (p.act = .o11 → d.pon.act = .o12) ∧ (p.act = .o5 → d.pon.act = .o5 ∧ d.pon.onuId = p.onuId) ∧
        (p.act = .o6 → (timerOver d0 800 = false → d.pon.act = .o5 ∧ d.pon.onuId = p.onuId) ∧ (timerOver d0 800 = true → d.pon.act = .o12 ∧ d.pon.onuId = 0xFFFF))) ∧
      (p.sync = .sync → Does (.psbdMissing e) s fun d => d = { d0 with pon := { p with hecErrors := p.hecErrors + 1, sync := .reSync, badPsbd := 1 } }) ∧
      (p.sync = .reSync → p.badPsbd < 2 → Does (.psbdMissing e) s fun d => d = { d0 with pon := { p with hecErrors := p.hecErrors + 1, badPsbd := p.badPsbd + 1 } }) ∧
      (p.sync = .reSync → 2 ≤ p.badPsbd → Does (.psbdMissing e) s fun d => d.pon.sync = .hunt ∧ d.pon.badPsbd = 0 ∧ d.pon.hecErrors = p.hecErrors + 1 ∧
        (p.act = .o5 → d.pon.act = .o6 ∧ d.pon.onuId = p.onuId) ∧ (p.act = .o4 → EntersOff p d.pon) ∧ (s.dev.grat.state ≠ .dwell → d.strips = s.dev.strips ∧ d.wire = s.dev.wire))) ∧
    (p.act = .o4 → timerOver d0 80000 = true → Does (.to1Expiry e) s fun d => EntersOff p d.pon ∧ d = { d0 with pon := d.pon }) ∧
    (p.act ≠ .o4 ∨ timerOver d0 80000 = false → Passes (.to1Expiry e) s e) ∧
    (p.act = .o6 → p.watchful = false → timerOver d0 800 = true → Does (.to2Expiry e) s fun d => EntersOff p d.pon ∧ d.strips = s.dev.strips ∧ d.wire = s.dev.wire) ∧
    (p.act ≠ .o6 ∨ p.watchful = true ∨ timerOver d0 800 = false → Passes (.to2Expiry e) s e) ∧
    (backoffOver d0 = true → Does (.activationBackoffEnd e) s fun d => d = { d0 with pon := { p with backoffDone := true } }) ∧
    (backoffOver d0 = false → Passes (.activationBackoffEnd e) s e)

/-- PLOAM messages take effect. A message that does not reach the terminal changes nothing; one with a bad MIC leaves the terminal as it was; a unicast repeat of the last one executed is acknowledged as that was, and no more; a taken one has its effect: a burst profile 0 to 3 is stored and ends O1.2 once the back-off is over; Assign_ONU-ID with this serial number enters O4; Ranging_Time sets the delay and enters O5; Deactivate in O4 or O5 enters O2-3 without identities; Disable enters O7, an attempt under way staying one, and Enable leaves it, failing the attempt; Request_Registration queues Registration; Assign_Alloc-ID adds or removes, refusing a 33rd with code 4; Key_Control 1 or 2 makes a key of 16 octets or confirms it, and reports; Sleep_Allow is noted; an unknown type counts and is acknowledged with code 3. -/
def Obligations.PloamMessagesTakeEffect : Prop :=
  ∀ (s : State) (h : Ploam), let d0 := s.dev.at h.e; let p := s.dev.pon
    let rows : List Instr → (Instr → Prop) → Prop := fun l f => ∀ c ∈ l, f c
    (∀ n a b fec serial onu ns rel opt en alloc rem idx conf ty, ploamReaches d0 h = false →
      rows [.burstProfile h n a b fec, .assignOnuId h serial onu, .rangingTime h ns rel, .deactivateOnuId h, .disableSerialNumber h opt en, .requestRegistration h,
        .assignAllocId h alloc rem, .keyControl h idx conf, .sleepAllow h en, .ploamUnsupported h ty] fun c => Passes c s h.e) ∧
    (∀ n a b fec serial onu ns rel opt en alloc rem idx conf ty, ploamReaches d0 h = true → h.micOk = false →
      rows [.burstProfile h n a b fec, .assignOnuId h serial onu, .rangingTime h ns rel, .deactivateOnuId h, .disableSerialNumber h opt en, .requestRegistration h,
        .assignAllocId h alloc rem, .keyControl h idx conf, .sleepAllow h en, .ploamUnsupported h ty] fun c => Does c s fun d => d.pon = p ∧ d.grat = d0.grat ∧ d.dormant = s.dev.dormant) ∧
    (∀ n a b fec serial onu ns rel opt en alloc rem idx conf ty, ploamReaches d0 h = true → h.micOk = true → h.onuId ≠ 1023 → p.lastSeq = some h.seq →
      rows [.burstProfile h n a b fec, .assignOnuId h serial onu, .rangingTime h ns rel, .deactivateOnuId h, .disableSerialNumber h opt en, .requestRegistration h,
        .assignAllocId h alloc rem, .keyControl h idx conf, .sleepAllow h en, .ploamUnsupported h ty] fun c => Does c s fun d =>
          PloamQueued s d 0x09 h.seq (be 1 p.lastAck.toNat) ∧ d.pon = { p with ploamUp := d.pon.ploamUp } ∧ d.grat = d0.grat) ∧
    (PloamTaken s h →
      (∀ n a b fec, n < 4 → Does (.burstProfile h n a b fec) s fun d => (d.pon.profiles.filter fun x => decide (x.index = n)) = [{ index := n, preamble := a, delimiter := b, fec := fec }] ∧
        (d.pon.profiles.filter fun x => decide (x.index ≠ n)) = (p.profiles.filter fun x => decide (x.index ≠ n)) ∧ AckedIfUnicast s d h 0 ∧
        d.pon.act = (if p.act = .o12 ∧ backoffOver d0 = true then .o23 else p.act) ∧ d.pon.attempting = (if p.act = .o12 ∧ backoffOver d0 = true then true else p.attempting)) ∧
      (∀ n a b fec, 4 ≤ n → Passes (.burstProfile h n a b fec) s h.e) ∧
      (∀ serial onu, p.act = .o23 → serial = serialNumber d0 → Does (.assignOnuId h serial onu) s fun d =>
        d.pon.act = .o4 ∧ d.pon.onuId = onu.setWidth 16 ∧ d.pon.allocs = [onu.toNat] ∧ d.pon.timerAt = now d0 ∧ d.grat = d0.grat) ∧
      (∀ serial onu, p.act ≠ .o23 ∨ serial ≠ serialNumber d0 → Does (.assignOnuId h serial onu) s fun d => d.pon.act = p.act ∧ d.pon.onuId = p.onuId ∧ d.pon.allocs = p.allocs) ∧
      (∀ ns rel, p.act = .o4 ∨ p.act = .o5 → Does (.rangingTime h ns rel) s fun d => d.pon.act = .o5 ∧ d.pon.eqdLog.head? = some (countTick p.lastCount, d.pon.eqdNs) ∧ AckedIfUnicast s d h 0 ∧
        d.pon.eqdNs = BitVec.ofNat 32 (if rel then (p.eqdNs.toNat : Int) + ns else ns).toNat) ∧
      (p.act = .o4 ∨ p.act = .o5 → Does (.deactivateOnuId h) s fun d => d.pon.act = .o23 ∧ d.pon.onuId = 0xFFFF ∧ d.pon.allocs = []) ∧
      (∀ opt, opt = none ∨ opt = some (serialNumber d0) →
        (p.act ≠ .o7 → Does (.disableSerialNumber h opt false) s fun d => d.pon.act = .o7 ∧ d.pon.onuId = 0xFFFF ∧ d.pon.allocs = [] ∧ d.pon.attempting = p.attempting ∧ d.pon.attemptsFailed = p.attemptsFailed) ∧
        (p.act = .o7 → Does (.disableSerialNumber h opt true) s fun d => EntersOff p d.pon ∧ d.pon.sync = p.sync)) ∧
      (p.onuId ≠ 0xFFFF →
        Does (.requestRegistration h) s (fun d => PloamQueued s d 0x02 h.seq (zeros 36) ∧ d.pon.act = p.act) ∧
        (∀ a, Does (.assignAllocId h a true) s fun d => d.pon.allocs = p.allocs.filter (· ≠ a) ∧ AckedIfUnicast s d h 0) ∧
        (∀ a, a ∉ p.allocs → p.allocs.length < 32 → Does (.assignAllocId h a false) s fun d => d.pon.allocs = p.allocs ++ [a] ∧ AckedIfUnicast s d h 0) ∧
        (∀ a, a ∉ p.allocs → 32 ≤ p.allocs.length → Does (.assignAllocId h a false) s fun d => d.pon.allocs = p.allocs ∧ PloamQueued s d 0x09 h.seq (be 1 4)) ∧
        (∀ i, i = 1 ∨ i = 2 → Does (.keyControl h i false) s fun d => ∃ key, key.length = 16 ∧ d.pon.keyPending = some (i, key) ∧ d.pon.uni1 = (if i = 1 then some key else p.uni1) ∧
          d.pon.uni2 = (if i = 2 then some key else p.uni2) ∧ PloamQueued s d 0x05 h.seq (be 1 0 ++ be 1 i ++ zeros 2 ++ key)) ∧
        (∀ i key, i = 1 ∨ i = 2 → p.keyPending = some (i, key) → Does (.keyControl h i true) s fun d => d.pon.keyPending = none ∧ d.pon.uni1 = p.uni1 ∧ d.pon.uni2 = p.uni2 ∧ d.pon.txKey = some i)) ∧
      (∀ i conf, i ≠ 1 ∧ i ≠ 2 → Passes (.keyControl h i conf) s h.e) ∧
      (∀ allowed, p.watchful = false → Does (.sleepAllow h allowed) s fun d => d.pon.sleepAllowed = allowed ∧ AckedIfUnicast s d h 0 ∧ d.dormant = s.dev.dormant) ∧
      (∀ ty, Does (.ploamUnsupported h ty) s fun d => d.pon.ploamUnsupported = p.ploamUnsupported + 1 ∧ d.pon.lastSeq = p.lastSeq ∧ PloamQueued s d 0x09 h.seq (be 1 3)))

/-- OMCI, downstream frames, allocations, optics, FLAVOUR and watchful sleep. OMCI: an unsupported class answers 4 and counts a refused Create or Set, Create of a GEM port without a clash makes it, Delete removes it, Get changes no entity, MIB reset empties what OMCI created, and a Set of the time of day sets its stamp and value, each with its reply, which waits for an allocation of the default Alloc-ID (assumption log 32), and a software download is refused (assumption log 33). Frames: each lost codeword counts once, a port with no binding is passed by, the OMCC hands its OMCI on, an undecryptable frame counts. Allocations transmit one burst, or go on with the one before, and drive BURST_EN from its lead to its lag; overlap counts; filling keeps contents at its stamp and once, idle where sleep was refused; the guard negates BURST_EN. Optics: a reading is stored, misses count to 3. FLAVOUR restarts delineation. A due reception gives its count. Otherwise the moment passes. Premise: canonical tables. -/
def Obligations.OmciFramesBurstsAndOptics : Prop :=
  ∀ (s : State) (e : Nat), tabWf none s.dev.legend = true → tabWf none s.dev.pon.gemPorts = true → let d0 := s.dev.at e; let p := s.dev.pon
    (∀ m : Omci, omciReaches d0 m.micOk = true → m.extended = false →
      (m.cls ∉ omciClasses → Does (.omciMessage e m) s fun d => OmciReplied s d m.tci (omciType m.action) m.cls m.inst 4 ∧
        d.pon = { p with omciUp := d.pon.omciUp, omciRefused := if m.action = .create ∨ m.action = .set then p.omciRefused + 1 else p.omciRefused } ∧ d.wire = s.dev.wire) ∧
      (m.cls ∈ omciClasses → m.action = .get → Does (.omciMessage e m) s fun d => OmciReplied s d m.tci 9 m.cls m.inst 0 ∧ d.pon = { p with omciUp := d.pon.omciUp } ∧ d.wire = s.dev.wire) ∧
      (m.cls ∈ omciClasses → m.action = .download → Does (.omciMessage e m) s fun d => OmciReplied s d m.tci 19 m.cls m.inst 2 ∧ d.pon = { p with omciUp := d.pon.omciUp } ∧ d.wire = s.dev.wire) ∧
      (m.cls = 268 → m.action = .create → tabGet none p.gemPorts m.inst = none → gemClash d0 m (gemOf m none) = false → Does (.omciMessage e m) s fun d =>
        OmciReplied s d m.tci 4 268 m.inst 0 ∧ tabGet none d.pon.gemPorts m.inst = some (gemOf m none) ∧ (∀ i, i ≠ m.inst → tabGet none d.pon.gemPorts i = tabGet none p.gemPorts i) ∧ d.pon.mibSync = mibStep p.mibSync) ∧
      (m.cls = 268 → m.action = .delete → tabGet none p.gemPorts m.inst ≠ none → Does (.omciMessage e m) s fun d => OmciReplied s d m.tci 6 268 m.inst 0 ∧ tabGet none d.pon.gemPorts m.inst = none)) ∧
    (∀ m : Omci, omciReaches d0 m.micOk = false ∨ m.extended = true → Does (.omciMessage e m) s fun d => d.pon = p ∧ d.wire = s.dev.wire) ∧
    (∀ tci, omciReaches d0 true = true → Does (.mibReset e true tci) s fun d => d.pon = { p with gemPorts := [], tconts := [], gemIwtp := [], mcastIwtp := [], mibSync := 0, omciUp := d.pon.omciUp } ∧ OmciReplied s d tci 15 2 0 0) ∧
    (∀ tci sq stamp, omciReaches d0 true = true → Does (.timeOfDaySet e true tci sq stamp) s fun d => d.grat.todValue = fit 10 stamp ∧
      d.grat.todStamp = stampOf (nearestTick (stampTick (now d0)) sq) 0 ∧ d.grat.tick = s.dev.grat.tick ∧ d.pon = { p with omciUp := d.pon.omciUp } ∧ OmciReplied s d tci 8 131 0 0) ∧
    (∀ port key cor lost ctr pay,
      (listening d0 = false ∨ p.sync = .hunt ∨ p.sync = .preSync → Passes (.xgemFrameReceived e port key cor lost ctr pay) s e) ∧
      (listening d0 = true → p.sync = .sync ∨ p.sync = .reSync → let q := { p with fecCorrected := p.fecCorrected + BitVec.ofNat 64 cor }
        (lost ≠ [] → lost.Pairwise (· < ·) → Does (.xgemFrameReceived e port key cor lost ctr pay) s fun d => d.handed = s.dev.handed ∧ (∀ n ∈ lost, n < d.pon.lostSeen) ∧
          d.pon = { q with lostSeen := d.pon.lostSeen, fecUncorrectable := p.fecUncorrectable + BitVec.ofNat 64 (lost.filter fun n => decide (p.lostSeen ≤ n)).length }) ∧
        (lost = [] → p.onuId ≠ 0xFFFF → port = p.onuId.toNat → key = 0 → Does (.xgemFrameReceived e port key cor lost ctr pay) s fun d => d = { d0 with pon := q, handed := s.dev.handed ++ [.omci pay] }) ∧
        (lost = [] → p.onuId ≠ 0xFFFF → port = p.onuId.toNat → 5 ≤ key → Does (.xgemFrameReceived e port key cor lost ctr pay) s fun d =>
          d.pon = { q with dsUndecryptable := p.dsUndecryptable + 1 } ∧ d.handed = s.dev.handed) ∧
        (lost = [] → (p.onuId = 0xFFFF ∨ port ≠ p.onuId.toNat) → (∀ b ∈ ponBindings s.dev, beAt 2 1 b.2 = 0 ∨ beAt 0 2 b.2 ≠ port) → Does (.xgemFrameReceived e port key cor lost ctr pay) s fun d => d = { d0 with pon := q }))) ∧
    (∀ a : Alloc, let use := permitted d0 a; let lead := legNat s.dev 0x5000 0x0C; let lag := legNat s.dev 0x5000 0x0E
      (p.watchful = true → receiving d0 = false ∨ a.forcedWake = false ∨ a.allocId ∉ p.allocs → Passes (.allocation e a) s e) ∧
      (p.watchful = false → use = 0 → Does (.allocation e a) s fun d => d = { d0 with pon := { p with burstOpen := false } }) ∧
      (p.watchful = false → use ≠ 0 → a.goesOn = true → p.burstOpen = false ∨ p.burstOn = false → Passes (.allocation e a) s e) ∧
      (p.watchful = false → use ≠ 0 → a.goesOn = false → burstStart s.dev a < p.txEndNs → Does (.allocation e a) s fun d =>
        d.pon = { p with grantOverlaps := p.grantOverlaps + 1, burstOpen := false } ∧ d.wire = s.dev.wire) ∧
      (p.watchful = false → use ≠ 0 → (a.goesOn = false ∧ p.txEndNs ≤ burstStart s.dev a) ∨ (a.goesOn = true ∧ p.burstOpen = true ∧ p.burstOn = true) → Does (.allocation e a) s fun d =>
        let q := d.pon; let base := if a.goesOn then p.txEndNs - lag else burstStart s.dev a
        ∃ delay ploam dbru frames, d.wire = s.dev.wire ++ [.burst a.allocId (base + delay) a.profile a.goesOn (eqdOf s.dev a) ploam dbru frames,
            .burstEn q.burstFrom q.burstTo (decide (legNat s.dev 0x5000 0x0D = 0))] ∧
          q.burstOn = true ∧ q.burstOpen = true ∧ q.burstTo = base + delay + a.lengthNs + lag ∧ q.txEndNs = q.burstTo ∧
          q.burstFrom = (if a.goesOn then p.burstFrom else base + delay - lead) ∧ q.guardNs = (if a.goesOn then p.guardNs + a.lengthNs else a.lengthNs + lead + lag + 16) ∧
          (use ≠ 1 → delay = 0) ∧ delay ≤ 48000 ∧ (use ≠ 3 ∨ a.ploamu = true → ploam ≠ none) ∧ (use = 3 → (dbru ≠ none ↔ a.dbru = true))) ∧
      (fillsNow d0 a = true → Does (.allocationFill e a) s fun d => d.wire = s.dev.wire ∧ ∃ f : Filled, d.pon = { p with filled := p.filled ++ [f], omciUp := d.pon.omciUp } ∧
        f.allocId = a.allocId ∧ f.startNs = a.startNs ∧ (f.dbru ≠ none ↔ a.dbru = true) ∧ (p.sleepRefused = true → f.frames = [] ∧ d.pon.omciUp = p.omciUp ∧ d.partTx = s.dev.partTx)) ∧
      (fillsNow d0 a = false → Passes (.allocationFill e a) s e)) ∧
    (∀ ns, (p.burstOn = true → p.guardNs < ns → Does (.burstOverrun e ns) s fun d =>
        d.pon = { p with burstOn := false, burstOpen := false, burstTo := p.burstFrom + ns, txEndNs := p.burstFrom + ns } ∧
        d.wire = s.dev.wire ++ [.burstEn p.burstFrom (p.burstFrom + ns) (decide (legNat s.dev 0x5000 0x0D = 0))]) ∧
      (p.burstOn = false ∨ ns ≤ p.guardNs → Passes (.burstOverrun e ns) s e)) ∧
    (∀ reading, netUp d0 = true → reached d0 (after p.optAt 8000) = true → Does (.opticsPoll e reading) s fun d => d.pon = match reading with
      | some b => { p with optAt := now d0, optDiag := (fit 16 b).take 10, optFlags := slice 10 6 (fit 16 b), optMissed := 0 }
      | none => { p with optAt := now d0, optMissed := min 3 (p.optMissed + 1) }) ∧
    (∀ reading, netUp d0 = false ∨ reached d0 (after p.optAt 8000) = false → Passes (.opticsPoll e reading) s e) ∧
    (∀ v : Byte, (v.toNat ≤ 2 → Does (.flavour e v) s fun d => legVal d 0x5000 0x00 = [v] ∧ d.pon.sync = .hunt ∧ d.pon.act = (if p.act = .o7 then .o7 else .o11)) ∧ (2 < v.toNat → Passes (.flavour e v) s e)) ∧
    (∀ count wake, p.watchful = true → reached d0 (after p.rxAt (rxOffTicks d0)) = true → Does (.watchfulSleepReception e count wake) s fun d => d.pon = match count with
      | some c => { p with rxAt := now d0, sync := .sync, lastCount := c, badPsbd := 0 }
      | none => { p with rxAt := now d0 }) ∧
    (∀ count wake, p.watchful = false ∨ reached d0 (after p.rxAt (rxOffTicks d0)) = false → Passes (.watchfulSleepReception e count wake) s e)

/-- Segments and answers: police, assemble, land, time out. SEGMENT_RECEIVED on a strip that takes frames: at OFFSET 0 without tokens it is policed, with tokens it starts a frame in a claimed slot for one token; at the expected OFFSET its octets join the frame; with LAST a frame that passes its checks lands and one with a bad tag counts an authentication failure; at another OFFSET the frame is incomplete. ANSWER_SEGMENT likewise within the limit of the tick, a complete answer being stamped. ASSEMBLY_TIMEOUT ends what waited ASSEMBLY_TICKS. Other segments and earlier moments change nothing. Premise: canonical tables. -/
def Obligations.SegmentsAssembleAndLand : Prop :=
  ∀ (s : State) (e : Nat), TransportTables s → let d0 := s.dev.at e
    (∀ k b, k < 256 → let x := s.dev.stx k; let c := Instr.segmentReceived e k b
      (takesFrames (s.dev.strip k) = false ∨ segmentOk s.dev b = false → Does c s fun d => d = taken s e (.segment k b)) ∧
      (takesFrames (s.dev.strip k) = true → segmentOk s.dev b = true →
        (segOffset b = 0 → x.asm = none → x.tokens = 0 → Does c s fun d => d.stx k = { x with discarding := if segLast b then none else some (segFseq b), policed := x.policed + 1 } ∧
          (∀ j, j ≠ k → d.stx j = s.dev.stx j) ∧ d.stackMem = s.dev.stackMem) ∧
        (segOffset b = 0 → x.asm = none → 0 < x.tokens → segLast b = false → ¬ overlong (b.drop 16) → Does c s fun d => ∃ a, (d.stx k).asm = some a ∧
          a.buf = b.drop 16 ∧ a.slot = claimable x ∧ a.fseq = segFseq b ∧ a.lastAt = now d0 ∧ (d.stx k).tokens = x.tokens - 1 ∧ (d.stx k).framesLanded = x.framesLanded ∧ d.wire = s.dev.wire) ∧
        (∀ a, x.asm = some a → segOffset b ≠ 0 → segOffset b = a.buf.length → segLast b = false → ¬ overlong (a.buf ++ b.drop 16) → Does c s fun d =>
          d.stx k = { x with asm := some { a with buf := a.buf ++ b.drop 16, lastAt := now d0 } } ∧ (∀ j, j ≠ k → d.stx j = s.dev.stx j)) ∧
        (∀ a, x.asm = some a → segOffset b ≠ 0 → segOffset b = a.buf.length → segLast b = true → ¬ overlong (a.buf ++ b.drop 16) →
          let a' := { a with buf := a.buf ++ b.drop 16, lastAt := now d0 }; let fseq : BitVec 32 := BitVec.ofNat 32 (beAt 8 4 a'.buf)
          let good := tagOk a' && headerOk s.dev (s.dev.strip k).partition.toNat [1, 2] a'.buf && decide (beAt 4 4 a'.buf = streamId s.dev k)
          (good = true → x.landedOnce = false ∨ olderSeq x.highFseq fseq = true → Does c s fun d => (d.stx k).asm = none ∧ (d.stx k).framesLanded = x.framesLanded + 1 ∧
            (d.stx k).highFseq = fseq ∧ (d.stx k).slip.getLast? = some a.slot ∧ (tabGet none (d.stx k).ring a.slot).map (·.fseq) = some fseq) ∧
          (good = false → Does c s fun d => (d.stx k).asm = none ∧ (d.stx k).authFails = x.authFails + 1 ∧ (d.stx k).framesLanded = x.framesLanded ∧ (d.stx k).slip = x.slip)) ∧
        (∀ a, x.asm = some a → segOffset b ≠ 0 → segOffset b ≠ a.buf.length → Does c s fun d => (d.stx k).asm = none ∧ (d.stx k).incomplete = x.incomplete + 1 ∧ (d.stx k).slip = x.slip))) ∧
    (∀ p port b, p < 64 → tabWf none (s.dev.ptx p).answerAsm = true → let x := s.dev.ptx p; let c := Instr.answerSegment e p port b
      (segmentOk s.dev b = false → Does c s fun d => d = taken s e (.answer p port b)) ∧
      (segmentOk s.dev b = true →
        (segOffset b = 0 → answerOf s.dev p port = none → legNat s.dev 0x5400 0x03 ≤ x.answersNow → Does c s fun d => (d.ptx p).answersPoliced = x.answersPoliced + 1 ∧ (d.ptx p).answers = x.answers) ∧
        (segOffset b = 0 → answerOf s.dev p port = none → x.answersNow < legNat s.dev 0x5400 0x03 → segLast b = false → ¬ overlong (b.drop 16) → Does c s fun d =>
          (∃ a, answerOf d p port = some a ∧ a.buf = b.drop 16 ∧ a.fseq = segFseq b) ∧ (d.ptx p).answersNow = x.answersNow + 1 ∧ (∀ q, q ≠ port → answerOf d p q = answerOf s.dev p q)) ∧
        (∀ a k, answerOf s.dev p port = some a → segOffset b ≠ 0 → segOffset b = a.buf.length → segLast b = true → ¬ overlong (a.buf ++ b.drop 16) →
          strandOf s.dev p (beAt 4 4 (a.buf ++ b.drop 16)) = some k → (tagOk { a with buf := a.buf ++ b.drop 16, lastAt := now d0 } && headerOk s.dev p [3] (a.buf ++ b.drop 16)) = true →
          Does c s fun d => answerOf d p port = none ∧ (d.ptx p).answers = x.answers ++ [(k, slice 64 264 (a.buf ++ b.drop 16), now d0)] ∧ d.stripTx = s.dev.stripTx) ∧
        (∀ a, answerOf s.dev p port = some a → segOffset b ≠ 0 → segOffset b ≠ a.buf.length → Does c s fun d => answerOf d p port = none ∧ (d.ptx p).answers = x.answers))) ∧
    (∀ k a, k < 256 → (s.dev.stx k).asm = some a →
      (reached d0 (after a.lastAt (legNat s.dev 0x5400 0x04)) = true → Does (.assemblyTimeout e (.strip k)) s fun d => (d.stx k).asm = none ∧ (d.stx k).incomplete = (s.dev.stx k).incomplete + 1) ∧
      (reached d0 (after a.lastAt (legNat s.dev 0x5400 0x04)) = false → Passes (.assemblyTimeout e (.strip k)) s e)) ∧
    (∀ k, k < 256 → (s.dev.stx k).asm = none → Passes (.assemblyTimeout e (.strip k)) s e)

/-- Results enter the scheduler; datagrams, group queries and the local ports. ITEM_ENTRY: a record taken that carries no pencil tag enters the store as a result stamped now with the next RSEQ when it has room, waits when it has not, and is suppressed when a replay repeats it; a tagged one waits, and one held that breaks Table 9.5 is refused once its page is clean. UDP_DATAGRAM_RECEIVED hands the payload of a bound datagram on and discards any other. IGMP_QUERY sends one report for each bound group asked for. LOCAL_PORT_TRANSMIT, with its link up in Ethernet mode, sends one frame with the segment chosen, and nothing without one. Premise: canonical tables; no injected stack error. -/
def Obligations.ResultsEnterAndLocalPortsSend : Prop :=
  ∀ (s : State) (e : Nat), TransportTables s → s.dev.stackInj = [] → let d0 := s.dev.at e
    (∀ p, p < 64 → (s.dev.ptx p).taken = [] → Passes (.itemEntry e p) s e) ∧
    (∀ p t rest, p < 64 → (s.dev.ptx p).taken = t :: rest → let x := s.dev.strip t.strip; let again := x.entered && !olderSeq x.highSeq x.rseq
      let raw := (pageBytesOf d0 p t.srcPage t.srcOff t.length).1
      let body := if t.form = 1 then packWide raw else raw
      let fits := decide (itemBytes (zeros 64 ++ body) + legNat s.dev (0x5410 + p) 0x02 ≤ storeFree s.dev p)
      (t.refuse = true → pageTag s.dev p (legNat s.dev (0x5410 + p) 0x00) ≠ 0 → Passes (.itemEntry e p) s e) ∧
      (t.refuse = true → pageTag s.dev p (legNat s.dev (0x5410 + p) 0x00) = 0 → Does (.itemEntry e p) s fun d => (d.ptx p).taken = rest ∧ (d.ptx p).items = (s.dev.ptx p).items ∧
        (d.ptx p).emitRefused = (s.dev.ptx p).emitRefused + 1 ∧ d.strips = s.dev.strips ∧ d.wire = s.dev.wire) ∧
      (t.refuse = false →
      (takenTag s.dev p t ≠ 0 → Passes (.itemEntry e p) s e) ∧
      (takenTag s.dev p t = 0 → again = true → Does (.itemEntry e p) s fun d => (d.ptx p).taken = rest ∧ (d.ptx p).items = (s.dev.ptx p).items ∧
        (d.strip t.strip).replaySuppressed = x.replaySuppressed + 1 ∧ (d.strip t.strip).rseq = x.rseq + 1 ∧ (d.strip t.strip).highSeq = x.highSeq) ∧
      (takenTag s.dev p t = 0 → again = false → fits = false → Does (.itemEntry e p) s fun d => d.partTx = s.dev.partTx ∧ d.strips = s.dev.strips ∧ d.wire = s.dev.wire) ∧
      (takenTag s.dev p t = 0 → again = false → fits = true → Does (.itemEntry e p) s fun d => (d.ptx p).taken = rest ∧ (∃ it : Item, (d.ptx p).items = (s.dev.ptx p).items ++ [it] ∧
          it.cls = .result ∧ it.strip = t.strip ∧ it.partition = p ∧ it.entered = now d0 ∧ it.seq = s.dev.sched.nextSeq ∧ it.frame.drop 64 = body ∧ beAt 8 4 it.frame = x.rseq.toNat) ∧
        (d.strip t.strip).rseq = x.rseq + 1 ∧ (d.strip t.strip).highSeq = x.rseq ∧ (d.strip t.strip).entered = true))) ∧
    (∀ port address udpPort fragment payload, port = 1 ∨ port = 2 → let c := Instr.udpDatagramReceived e port address udpPort fragment payload; let d1 := taken s e (.datagram port address udpPort payload)
      (ethMode s.dev = false ∨ fragment = true ∨ udpMatch s.dev port address udpPort = none → Does c s fun d => d = d1) ∧
      (∀ b, ethMode s.dev = true → fragment = false → udpMatch s.dev port address udpPort = some b → Does c s fun d => d = { d1 with handed := d1.handed ++
        [if beAt 6 1 b = 3 then .answer (beAt 7 1 b) (0x10000 + udpPort.toNat) payload else .segment (beAt 7 1 b) payload] })) ∧
    (∀ port group, port = 1 ∨ port = 2 →
      (ethMode s.dev = false → Does (.igmpQuery e port group) s fun d => d = taken s e (.igmp port group)) ∧
      (ethMode s.dev = true → (s.dev.ethPort port).link = true → Does (.igmpQuery e port group) s fun d => ∃ frames : List Bytes, d.wire = s.dev.wire ++ frames.map (.eth port) ∧
        frames.length = ((boundGroups s.dev).eraseDups.filter fun g => decide (group = 0) || decide (g = group)).length ∧ d.strips = s.dev.strips ∧ d.stripTx = s.dev.stripTx)) ∧
    (∀ port, port = 1 ∨ port = 2 → let point := 0x10000 + (port - 1); let dp := passOver d0 point
      (ethMode s.dev = false ∨ (s.dev.ethPort port).link = false → Passes (.localPortTransmit e port) s e) ∧
      (ethMode s.dev = true → (s.dev.ethPort port).link = true → peekRoute dp point = none → Does (.localPortTransmit e port) s fun d => d.wire = s.dev.wire) ∧
      (∀ r m c sdu it d', ethMode s.dev = true → (s.dev.ethPort port).link = true → peekRoute dp point = some r → macTo dp port r.address = some m → (chooseNext dp point).1 = some c →
        takeNext (chooseNext dp point).2 c = some (sdu, it, d') → (s.dev.ethPort port).txq = [] → sdu.length ≤ 131072 →
        Does (.localPortTransmit e port) s fun d => (∃ frame, d.wire = s.dev.wire ++ [.eth port frame]) ∧ (d.ethPort port).txFrames = (s.dev.ethPort port).txFrames + 1))

/-- Aksia ports train, identify, fall, retransmit, measure and forward. Outside SYNC and READY a port's commands only let the moment pass. In them: an attempt advances DETECT, EQUALISE, ALIGN, IDENT, where the device sends its identity and a delay request, and fails into BACKOFF when its 800 ticks have passed; BACKOFF ends in DETECT; IDENT that agrees makes the port UP with 8 lanes, its delay and no failed attempts, one that does not fails the attempt as miscabled; an UP port that lost lanes or resent over 256 frames falls to DETECT and counts a retrain; a retransmission resends the buffer from the sequence on, each frame raising AKSIA_FRAME_RETRY; the lowest eye is kept; a due delay exchange sets the delay and sends the next request; a LINK_STATE notice not yet seen is kept as seen, and updates the link map when no newer one has; a frame returns credits; a packet for another device leaves on its route when its credits are there and waits for them otherwise, and a claim for this one is kept, each returning its own credits. -/
def Obligations.PortsTrainFallAndForward : Prop :=
  ∀ (s : State) (e i : Nat), i < portsFitted s.dev → tabWf {} s.dev.aksia.ports = true → let d0 := s.dev.at e; let x := s.dev.port i
    let dir0 := portDir s.dev i; let request := timePacket s.dev dir0 .delayRequest
    (netUp s.dev = false → ∀ phase m lost seq eyes t dev dir up n cor f, ∀ c ∈ portCommands e i phase m lost seq eyes t dev dir up n cor f, Passes c s e) ∧
    (netUp s.dev = true →
      (attemptOver d0 i = false →
        (x.st = .detect → PortBecomes (.portAttempt e i .equalise) s e i { x with st := .equalise }) ∧
        (x.st = .equalise → PortBecomes (.portAttempt e i .align) s e i { x with st := .align }) ∧
        (x.st = .align → Does (.portAttempt e i .ident) s fun d => (d.port i).st = .ident ∧ (d.port i).lanesUp = 8 ∧ (d.port i).attempts = x.attempts ∧ (d.port i).since = x.since ∧
          (∀ j, j ≠ i → d.port j = s.dev.port j) ∧ ∃ m tail, d.wire = s.dev.wire ++ .ident i m :: tail ∧
            m.device = BitVec.ofNat 16 (deviceNumber s.dev) ∧ m.uid = s.dev.part.uniqueId ∧ m.port = BitVec.ofNat 8 i ∧ m.gradeL = decide (s.dev.part.grade = 3) ∧
            m.atlasId = BitVec.ofNat 32 (legNat s.dev 0x6000 0x04) ∧ [m.dimX, m.dimY, m.dimZ] = [0, 1, 2].map (fun k => BitVec.ofNat 8 (dimSize s.dev k)) ∧
            (x.queue = [] → creditsFor s.dev dir0 request = true → ∃ f, tail = [.packet i f] ∧ f.packet = request ∧ f.seq = x.txSeq)) ∧
        (attempting x = true → PortBecomes (.portAttempt e i .failed) s e i { x with st := .backoff, attempts := x.attempts + 1, since := now d0 }) ∧
        Passes (.portAttemptTimeout e i) s e) ∧
      (attemptOver d0 i = true → ∀ phase, PortBecomes (.portAttempt e i phase) s e i { x with st := .backoff, attempts := x.attempts + 1, since := now d0 } ∧
        PortBecomes (.portAttemptTimeout e i) s e i { x with st := .backoff, attempts := x.attempts + 1, since := now d0 } ∧
        ∀ m times, PortBecomes (.ident e i m times) s e i { x with st := .backoff, attempts := x.attempts + 1, since := now d0 }) ∧
      (x.st = .backoff → reached d0 (after x.since (portBackoff x.attempts.toNat)) = true → PortBecomes (.portBackoffEnd e i) s e i { x with st := .detect, since := now d0 }) ∧
      (x.st ≠ .backoff ∨ reached d0 (after x.since (portBackoff x.attempts.toNat)) = false → Passes (.portBackoffEnd e i) s e) ∧
      (∀ m (times : DelayTimes),
        (x.st = .ident → attemptOver d0 i = false →
          (identOk s.dev i m = true → portOff s.dev i = false → Does (.ident e i m times) s fun d => (d.port i).st = .up ∧ (d.port i).lanesUp = 8 ∧ (d.port i).attempts = 0 ∧
            (d.port i).delay = delayOf times.t1 times.t2 times.t3 times.t4 ∧ (d.port i).exchangeAge = 0 ∧ (d.port i).partnerDev = m.device ∧ (d.port i).partnerPort = m.port ∧
            d.strips = s.dev.strips ∧ d.stackMem = s.dev.stackMem) ∧
          (identOk s.dev i m = false → Does (.ident e i m times) s fun d => d.port i = { x with st := .backoff, attempts := x.attempts + 1, since := now d0, miscabled := true, partnerDev := m.device, partnerPort := m.port } ∧
            (∀ j, j ≠ i → d.port j = s.dev.port j) ∧ d.wire = s.dev.wire)) ∧
        (attempting x = false → Passes (.ident e i m times) s e)) ∧
      (∀ lost, x.st = .up → lost = true ∨ 256 < x.resent → Does (.portDown e i lost) s fun d => (d.port i).st = .detect ∧ (d.port i).lanesUp = 0 ∧
        (d.port i).retrains = x.retrains + 1 ∧ (d.port i).fell = true ∧ (d.port i).retry = [] ∧ (d.port i).queue = []) ∧
      (∀ lost, x.st ≠ .up ∨ (lost = false ∧ x.resent ≤ 256) → Passes (.portDown e i lost) s e) ∧
      (∀ before_ seq p rest, x.st = .up → x.retry = before_ ++ (seq, p) :: rest → (∀ f ∈ before_, f.1 ≠ seq) → Does (.linkFrameRetransmit e i seq) s fun d =>
        d.wire = s.dev.wire ++ ((seq, p) :: rest).map (fun f => .resend i (sentFrame f.1 f.2 false)) ∧ (d.port i).resent = x.resent + rest.length + 1 ∧ (d.port i).retry = x.retry ∧
        (severityOf s.dev 0x8B ≠ 0 → (d.fault 0x8B).count.toNat = min 0xFFFFFFFF ((s.dev.fault 0x8B).count.toNat + rest.length + 1))) ∧
      (∀ seq, x.st ≠ .up ∨ (∀ f ∈ x.retry, f.1 ≠ seq) → Passes (.linkFrameRetransmit e i seq) s e) ∧
      (∀ eyes, x.st = .up → eyes ≠ [] → Does (.eyeMeasurement e i eyes) s fun d => d.port i = { x with eyeMv := BitVec.ofNat 16 (eyes.foldl min 65535) } ∧ (∀ j, j ≠ i → d.port j = s.dev.port j) ∧ d.wire = s.dev.wire) ∧
      (∀ t1 t2 t3 t4 : Int, x.st = .up → 1024 ≤ x.exchangeAge → Does (.delayExchange e i t1 t2 t3 t4) s fun d =>
        (d.port i).delay = delayOf t1 t2 t3 t4 ∧ (d.port i).exchangeAge = 0 ∧ (d.port i).st = .up ∧ (∀ j, j ≠ i → d.port j = s.dev.port j) ∧
        (x.queue = [] → creditsFor s.dev dir0 request = true → ∃ f, d.wire = s.dev.wire ++ [.packet i f] ∧ f.packet = request) ∧
        (x.queue = [] → creditsFor s.dev dir0 request = false → d.wire = s.dev.wire ∧ (d.port i).queue = [{ pkt := request, holds := none }])) ∧
      (∀ t1 t2 t3 t4, x.st ≠ .up ∨ x.exchangeAge < 1024 → Passes (.delayExchange e i t1 t2 t3 t4) s e) ∧
      (∀ (dev : BitVec 16) dir up (seq : BitVec 16), let seen := tabGet [] s.dev.aksia.seenSeq dev.toNat; let key := dev.toNat * 8 + dir; let last := tabGet 0 s.dev.aksia.linkSeq key
        let newer := last = 0 ∨ seqLater seq (BitVec.ofNat 16 (last - 1)) = true
        (x.st ≠ .up ∨ 6 ≤ dir ∨ dev.toNat = deviceNumber s.dev ∨ seq ∈ seen → Passes (.linkState e i dev dir up seq) s e) ∧
        (x.st = .up → dir < 6 → dev.toNat ≠ deviceNumber s.dev → seq ∉ seen → Does (.linkState e i dev dir up seq) s fun d =>
          seq ∈ tabGet [] d.aksia.seenSeq dev.toNat ∧ (¬ newer → d.aksia.linkMap = s.dev.aksia.linkMap ∧ d.aksia.linkSeq = s.dev.aksia.linkSeq) ∧
          (newer → (({ device := dev, direction := dir } : LinkDown) ∈ d.aksia.linkMap ↔ up = false) ∧
            (∀ l : LinkDown, l ≠ { device := dev, direction := dir } → (l ∈ d.aksia.linkMap ↔ l ∈ s.dev.aksia.linkMap)) ∧ tabGet 0 d.aksia.linkSeq key = seq.toNat + 1))) ∧
      (∀ cor res, x.st = .up →
        PortBecomes (.packetReceived e i cor { credits := [], packet := none, residence := res }) s e i { x with fecCorrected := x.fecCorrected + BitVec.ofNat 64 cor } ∧
        (∀ c : LinkCredit, tabWf 0 s.dev.aksia.linkUsed = true → (∀ q ∈ upPorts s.dev dir0, (s.dev.port q).queue = []) → Does (.packetReceived e i cor { credits := [c], packet := none, residence := res }) s fun d =>
          tabGet 0 d.aksia.linkUsed (creditSlot dir0 c.cls c.dl) = tabGet 0 s.dev.aksia.linkUsed (creditSlot dir0 c.cls c.dl) - c.units ∧ d.wire = s.dev.wire) ∧
        (∀ p pr uid hops dev low, p.dst.toNat = deviceNumber s.dev → p.kind = .claim pr uid hops dev → (upPorts s.dev dir0).head? = some low →
          Does (.packetReceived e i cor { credits := [], packet := some p, residence := res }) s fun d =>
            d.aksia.claims = s.dev.aksia.claims ++ [(i, { priority := pr, uid := uid, hops := hops, device := dev })] ∧ (d.port i).fecCorrected = x.fecCorrected + BitVec.ofNat 64 cor ∧
            d.wire = s.dev.wire ++ [.credit low { cls := p.cls, dl := p.dl, units := packetUnits p }]) ∧
        (∀ p dir q low, p.dst.toNat ≠ deviceNumber s.dev → nextHop s.dev p = some dir → flowPort s.dev dir p = some q → (upPorts s.dev dir0).head? = some low → (s.dev.port q).queue = [] →
          let p' := { p with dl := crossesDateline s.dev dir || (decide (dir / 2 = dir0 / 2) && p.dl) }; let c := Instr.packetReceived e i cor { credits := [], packet := some p, residence := res }
          (creditsFor s.dev dir p' = true → portDir s.dev q = dir → Does c s fun d => (d.port q).txSeq = (s.dev.port q).txSeq + 1 ∧
            ∃ f, f.packet = p' ∧ f.header = packetHeader p' ∧ d.wire = s.dev.wire ++ [.packet q f, .credit low { cls := p'.cls, dl := p.dl, units := packetUnits p' }]) ∧
          (creditsFor s.dev dir p' = false → portDir s.dev q = dir → Does c s fun d => d.wire = s.dev.wire ∧ (d.port q).queue = [{ pkt := p', holds := some (dir0, p.dl) }])) ∧
        (∀ p dir, p.dst.toNat ≠ deviceNumber s.dev → nextHop s.dev p = some dir → flowPort s.dev dir p = none →
          Does (.packetReceived e i cor { credits := [], packet := some p, residence := res }) s fun d => d.aksia.dropped = s.dev.aksia.dropped + 1)))

/-- The datum, its updates, heartbeats, fencing and takeover. DATUM_CLAIM at an edge takes the best of the candidates and empties the claims received; UPDATE from the upstream link sets the datum's state and its age to 0, and at the datum itself does nothing; HEARTBEAT_SEND begins the wait for an acknowledgement of each buddy that has none open; HEARTBEAT_RECEIVED restarts the watch of a holder it concerns, starts one, or has the holder take over when it tells of the loss or comes after the window; HEARTBEAT_ACK from a buddy ends its wait; FENCE_TIMEOUT, 12 periods after the last acknowledgement, hands over what runs and sets FENCED; BUDDY_LOSS_TIMEOUT and TAKEOVER of a peer lost for 16 periods take over when the checks pass and are blocked when not. Before their windows they do nothing. Premise: canonical tables. -/
def Obligations.DatumHeartbeatsAndTakeovers : Prop :=
  ∀ (s : State) (e : Nat), PartTables s → tabWf {} s.dev.aksia.watches = true → tabWf {} s.dev.aksia.buddies = true → let d0 := s.dev.at e; let a := s.dev.aksia
    (netUp s.dev = true → Does (.datumClaim e) s fun d => d.aksia.best = (bestClaim (candidates d0)).map (·.2) ∧ d.aksia.claims = [] ∧
      d.aksia.isDatum = decide ((bestClaim (candidates d0)).map (·.1) = some none) ∧ d.strips = s.dev.strips ∧ d.stackMem = s.dev.stackMem) ∧
    (netUp s.dev = false → Passes (.datumClaim e) s e ∧ Passes (.heartbeatSend e) s e ∧ ∀ dev r h f, Passes (.heartbeatReceived e dev r h f) s e) ∧
    (∀ i tick state cor res, i < portsFitted s.dev → netUp s.dev = true → (s.dev.port i).st = .up →
      (a.isDatum = true → Passes (.update e i tick state cor res) s e) ∧
      (a.isDatum = false → a.upstream.map (portDir s.dev) = some (portDir s.dev i) → Does (.update e i tick state cor res) s fun d =>
        d.grat.updateAge = 0 ∧ d.grat.datumState = gratOfCode state ∧ d.sec = s.dev.sec ∧ d.cad = s.dev.cad)) ∧
    (netUp s.dev = true → Does (.heartbeatSend e) s fun d => d.strips = s.dev.strips ∧ d.parts = s.dev.parts ∧ d.aksia.watches = a.watches ∧
      (∀ x ∈ buddiesOf s.dev, let b := tabGet {} a.buddies x.2; tabGet {} d.aksia.buddies x.2 = { b with ackAt := some (b.ackAt.getD (clockNow d0)), sentHandover := b.handover }) ∧
      (∀ k, (∀ x ∈ buddiesOf s.dev, x.2 ≠ k) → tabGet {} d.aksia.buddies k = tabGet {} a.buddies k)) ∧
    (∀ dev running handover fenced h q, netUp s.dev = true → h < 64 → mirrorOf s.dev h = some (dev.toNat, q) → let w := watchOf s.dev h; let c := Instr.heartbeatReceived e dev running handover fenced
      let told := handover.getLsbD q = true ∨ (fenced = true ∧ w.lastRunning = true)
      (running ≠ 0 → Does c s fun d => d.aksia.runningHeard = some (clockNow d0)) ∧
      (w.st = .watching → peerLost d0 h = false → ¬ told → Does c s fun d => watchOf d h = { w with heardAt := clockNow d0, lastRunning := running.getLsbD q }) ∧
      (w.st = .watching → peerLost d0 h = true ∨ told → Does c s fun d => (watchOf d h).st ≠ .watching ∧ (watchOf d h).takeoverAt = now d0) ∧
      (w.st = .idle ∨ w.st = .takenOver → running.getLsbD q = true → Does c s fun d => watchOf d h = { w with st := .watching, heardAt := clockNow d0, lastRunning := true }) ∧
      (w.st = .blocked ∨ ((w.st = .idle ∨ w.st = .takenOver) ∧ running.getLsbD q = false) → Does c s fun d => watchOf d h = w)) ∧
    (∀ dev : BitVec 16, let b := tabGet {} a.buddies dev.toNat
      (((buddiesOf s.dev).any fun x => decide (x.2 = dev.toNat)) = true → Does (.heartbeatAck e dev) s fun d =>
        tabGet {} d.aksia.buddies dev.toNat = { b with ackAt := some (clockNow d0), handover := b.handover &&& ~~~b.sentHandover, sentHandover := 0, fenced := false } ∧ d.parts = s.dev.parts ∧ d.wire = s.dev.wire) ∧
      (((buddiesOf s.dev).any fun x => decide (x.2 = dev.toNat)) = false → Passes (.heartbeatAck e dev) s e) ∧
      (buddySilent d0 dev.toNat = true → Does (.fenceTimeout e dev) s fun d => (tabGet {} d.aksia.buddies dev.toNat).fenced = true ∧
        ∀ p, p < 64 → partNat s.dev p 0x09 = dev.toNat → beating (s.dev.partition p) = true → (d.partition p).st = .handedOver ∧ (d.partition p).table = []) ∧
      (buddySilent d0 dev.toNat = false → Passes (.fenceTimeout e dev) s e)) ∧
    (∀ h, h < 64 → let w := watchOf s.dev h
      let lost (c : Instr) : Prop :=
        (mirrorOf s.dev h = none ∨ takeoverReady s.dev h = none → Does c s fun d => (watchOf d h).st = .blocked ∧ (watchOf d h).takeoverAt = now d0 ∧ d.strips = s.dev.strips) ∧
        (mirrorOf s.dev h ≠ none → takeoverReady s.dev h ≠ none → Does c s fun d => (watchOf d h).st = .takenOver ∧ (watchOf d h).takeovers = w.takeovers + 1 ∧
          (d.partition h).st = .recovering ∧ (d.partition h).takenOver = true ∧ (d.partition h).haltAt = now d0)
      (peerLost d0 h = true → lost (.buddyLossTimeout e h) ∧ lost (.takeover e h)) ∧
      (peerLost d0 h = false → Passes (.buddyLossTimeout e h) s e ∧ Passes (.takeover e h) s e))

/-- Ethernet ports: links, frames, ARP, the PHY, speed and wake patterns. Before firmware runs a port's commands only let the moment pass. A link goes down with speed 0, and comes up with the speed of its interface (11 R446); a frame with a bad FCS, or with tags of another mode, is discarded under that cause; a frame for another address counts nowhere; an ARP request for the port's address is answered; a UDP datagram to port 6620 of MGMT is handed to Ezith; ARP_REQUEST_SEND and ARP_REFRESH send one request when due; an MDIO poll asks the PHY at PHY_ADDR in its clause and reads missed count to 3; at a tick edge a quiet gigabit link is negotiated down and a busy 100 Mb/s link up, counting the octets of the ticks before; a wake match within dormant is recorded. In dormant the ports ask, poll and judge nothing. Undue commands let the moment pass. -/
def Obligations.EthernetPortsServe : Prop :=
  ∀ (s : State) (e n : Nat), n < 3 → let d0 := s.dev.at e; let x := s.dev.ethPort n; let m := s.dev.eth.mgmt
    (firmwareUp s.dev = false → ∀ up speed ok f ip st, ∀ c ∈ [Instr.ethLinkChange e n up speed, .ethFrameReceived e n ok f, .arpRequestSend e n ip, .arpRefresh e n ip, .mdioPoll e st,
      .speedJudgement e, .wakeMatch e n ok f, .ptpTimeout e], Passes c s e) ∧
    (firmwareUp s.dev = true →
      (∀ speed, x.link = true → Does (.ethLinkChange e n false speed) s fun d => (d.ethPort n).link = false ∧ (d.ethPort n).speedMbps = 0 ∧ (d.ethPort n).rxFrames = x.rxFrames ∧ (s.dev.grat.state ≠ .dwell → d.wire = s.dev.wire)) ∧
      (∀ speed, x.link = false → Passes (.ethLinkChange e n false speed) s e) ∧
      (∀ speed, s.dev.dormant.st = .running → x.txq = [] → Does (.ethLinkChange e n true speed) s fun d => d.ethPort n = { x with link := true, speedMbps := linkSpeed s.dev n speed, fell := false } ∧
        (n = 0 → d.eth.mgmt.changing = false ∧ d.eth.mgmt.upTick = (if x.link = true ∧ x.speedMbps = linkSpeed s.dev 0 speed then m.upTick else s.dev.grat.tick)) ∧ d.wire = s.dev.wire ∧ d.faults = s.dev.faults) ∧
      (∀ ok f, x.link = false → Passes (.ethFrameReceived e n ok f) s e) ∧
      (ethAsleep s.dev = true → ∀ ip st, ∀ c ∈ [Instr.arpRequestSend e n ip, .arpRefresh e n ip, .mdioPoll e st, .speedJudgement e], Passes c s e) ∧
      (∀ ip a, ethAsleep s.dev = false → arpOf x ip = some a → x.link = true →
        (a.mac = none → reached d0 (after a.at_ 8) = true → Does (.arpRequestSend e n ip) s fun d => (∃ f, d.wire = s.dev.wire ++ [.eth n f]) ∧ arpOf (d.ethPort n) ip = some { a with at_ := now d0 } ∧ d.faults = s.dev.faults) ∧
        (a.mac ≠ none ∨ reached d0 (after a.at_ 8) = false → Passes (.arpRequestSend e n ip) s e) ∧
        (a.mac ≠ none → reached d0 (after a.at_ 480000) = true → Does (.arpRefresh e n ip) s fun d => (∃ f, d.wire = s.dev.wire ++ [.eth n f]) ∧ arpOf (d.ethPort n) ip = some { a with at_ := now d0 } ∧ d.faults = s.dev.faults) ∧
        (a.mac = none ∨ reached d0 (after a.at_ 480000) = false → Passes (.arpRefresh e n ip) s e)) ∧
      (ethAsleep s.dev = false → reached d0 (after m.mdioAt 80) = true → let asked := s.dev.wire ++ [.mdioRead (legNat s.dev 0x5820 0x02) (legNat s.dev 0x5820 0x01)]
        Does (.mdioPoll e none) s (fun d => d.eth.mgmt = { m with mdioAt := now d0, mdioMissed := min 3 (m.mdioMissed + 1) } ∧ d.wire = asked) ∧
        Does (.mdioPoll e (some true)) s (fun d => d.eth.mgmt = { m with mdioAt := now d0, mdioMissed := 0 } ∧ d.wire = asked)) ∧
      (reached d0 (after m.mdioAt 80) = false → ∀ st, Passes (.mdioPoll e st) s e) ∧
      (let p := s.dev.ethPort 0; let lowest := legNat s.dev 0x5820 0x04; let highest := legNat s.dev 0x5820 0x05; let phy := phyAt s.dev
        (ethAsleep s.dev = false → legNat s.dev 0x5820 0x00 = 2 → legNat s.dev 0x5820 0x03 = 1 → p.link = true → stampSub (now d0) = 0 →
          (p.speedMbps = 1000 → 8000 ≤ (s.dev.grat.tick - m.upTick).toNat → (∀ t, m.raiseTick = some t → 80000 < (s.dev.grat.tick - t).toNat) → movedIn m 8000 < lowest → Does (.speedJudgement e) s fun d =>
            d.eth.mgmt.changing = true ∧ d.eth.mgmt.lowered = true ∧ d.eth.mgmt.speedChanges = m.speedChanges + 1 ∧ d.eth.mgmt.raiseTick = m.raiseTick ∧ (d.ethPort 0).link = false ∧
            (s.dev.grat.state ≠ .dwell → d.wire = s.dev.wire ++ [.mdio phy.1 phy.2 true])) ∧
          (p.speedMbps = 100 → highest < movedIn m 800 → Does (.speedJudgement e) s fun d =>
            d.eth.mgmt.changing = true ∧ d.eth.mgmt.lowered = false ∧ d.eth.mgmt.speedChanges = m.speedChanges + 1 ∧ d.eth.mgmt.raiseTick = some s.dev.grat.tick ∧ (d.ethPort 0).link = false ∧
            (s.dev.grat.state ≠ .dwell → d.wire = s.dev.wire ++ [.mdio phy.1 phy.2 false])) ∧
          (p.speedMbps = 1000 → (s.dev.grat.tick - m.upTick).toNat < 8000 ∨ (∃ t, m.raiseTick = some t ∧ (s.dev.grat.tick - t).toNat ≤ 80000) ∨ lowest ≤ movedIn m 8000 → Passes (.speedJudgement e) s e) ∧
          (p.speedMbps = 100 → movedIn m 800 ≤ highest → Passes (.speedJudgement e) s e)) ∧
        (stampSub (now d0) ≠ 0 ∨ legNat s.dev 0x5820 0x00 ≠ 2 ∨ legNat s.dev 0x5820 0x03 ≠ 1 ∨ p.link = false → Passes (.speedJudgement e) s e)) ∧
      (∀ f, x.link = true → wakeCode s.dev n f ≠ 0 → s.dev.dormant.st = .dormant → s.dev.eth.wakeCause = 0 → Does (.wakeMatch e n true f) s fun d =>
        d.eth.wakeCause = BitVec.ofNat 8 (16 * n + wakeCode s.dev n f) ∧ d.eth.wakeStamp = now d0 ∧ d.dormant.wake.isSome = true ∧ d.wire = s.dev.wire) ∧
      (∀ ok f, x.link = false ∨ ok = false ∨ wakeCode s.dev n f = 0 ∨ s.dev.dormant.st = .waking → Passes (.wakeMatch e n ok f) s e)) ∧
    (PortServes s n →
      (∀ f, Does (.ethFrameReceived e n false f) s fun d => DiscardedAs s d n 0) ∧
      (∀ f, untagFrame s.dev n f = none → Does (.ethFrameReceived e n true f) s fun d => DiscardedAs s d n 2) ∧
      (∀ f type body, untagFrame s.dev n f = some (type, body) →
        (macAccepted s.dev n f = false → Does (.ethFrameReceived e n true f) s fun d => (d.ethPort n) = x ∧ d.handed = s.dev.handed ∧ d.wire = s.dev.wire) ∧
        (macAccepted s.dev n f = true → type ≠ 0x0800 → type ≠ 0x0806 → type ≠ 0x88F7 → Does (.ethFrameReceived e n true f) s fun d => DiscardedAs s d n 3) ∧
        (macAccepted s.dev n f = true → type = 0x0806 → 28 ≤ body.length → beAt 6 2 body = 1 → BitVec.ofNat 32 (beAt 24 4 body) = portIp s.dev n → portIp s.dev n ≠ 0 →
          Does (.ethFrameReceived e n true f) s fun d => d.wire = s.dev.wire ++ [.eth n (ethFrame s.dev n .other (BitVec.ofNat 48 (beAt 8 6 body)) 0x0806
            (arpBody s.dev n 2 (BitVec.ofNat 48 (beAt 8 6 body)) (BitVec.ofNat 32 (beAt 14 4 body))))] ∧ (d.ethPort n).rxFrames = x.rxFrames + 1 ∧ d.handed = s.dev.handed) ∧
        (let ihl := beAt 0 1 body % 16 * 4; let dst := BitVec.ofNat 32 (beAt 16 4 body); let src := BitVec.ofNat 32 (beAt 12 4 body); let udpBody := (body.take (beAt 2 2 body)).drop ihl;
          n = 0 → macAccepted s.dev n f = true → type = 0x0800 → beAt 2 2 body ≤ ethNat s.dev n 0x0A → ipv4Ok body = true → beAt 6 2 body % 0x4000 = 0 → beAt 9 1 body = 17 →
          layer4Ok src dst 17 udpBody = true → dst = portIp s.dev n → dst ≠ 0 → beAt 2 2 udpBody = 6620 → Does (.ethFrameReceived e n true f) s fun d =>
            d.handed = s.dev.handed ++ [.ezith (.mgmt src (BitVec.ofNat 16 (beAt 0 2 udpBody))) (udpBody.drop 8)] ∧ (d.ethPort n).rxFrames = x.rxFrames + 1 ∧ d.wire = s.dev.wire)))

/-- PTP: master selection, measurement, time-out and the epoch offset. ANNOUNCE heard with no master makes its sender the master in UNCALIBRATED, a better one replaces the master, a worse one does not; SYNC of the master, on its port and in the domain, is kept with the ingress latency and one Delay_Req is sent; DELAY_RESP completes the exchange: offset and mean delay are set, the first measurement only steps the time, the sixteenth small one in UNCALIBRATED enters SLAVE, a large one there restarts the count, and the fourth large one in SLAVE returns to UNCALIBRATED; without a Sync it changes nothing; PTP_TIMEOUT in UNCALIBRATED or SLAVE enters LISTENING without a master once three Announce intervals have passed without an Announce of the master or four Sync intervals without its Sync, and not before; PTP_EPOCH_OFFSET is stored, counts as a change and moves the PTP source by the difference. -/
def Obligations.PtpSelectsMeasuresAndLoses : Prop :=
  ∀ (s : State) (e : Nat), firmwareUp s.dev = true → tabWf none s.dev.legend = true → let d0 := s.dev.at e; let p := s.dev.eth.ptp
    (∀ a : AnnounceMsg, AnnounceHeard s a →
      (p.master = none → Does (.announce e a) s fun d => d.eth.ptp.st = .uncalibrated ∧ d.eth.ptp.master = some (announceOf a) ∧ d.eth.ptp.good = 0 ∧ d.strips = s.dev.strips ∧
        d.eth.ptp.announceAt = clockNow d0 ∧ d.eth.ptp.announceEvery = ptpInterval s.dev a.logInterval ∧ d.eth.ptp.syncAt = clockNow d0 ∧ d.eth.ptp.syncEvery = ptpInterval s.dev 0) ∧
      (∀ m, p.master = some m → (m.sender ≠ a.sender ∨ m.port ≠ a.port) →
        (rankBefore (announceRank (announceOf a)) (announceRank m) = true → Does (.announce e a) s fun d => d.eth.ptp.st = .uncalibrated ∧ d.eth.ptp.master = some (announceOf a) ∧ d.eth.ptp.sync = none) ∧
        (rankBefore (announceRank (announceOf a)) (announceRank m) = false → Does (.announce e a) s fun d => d = dropHandedPtp d0)) ∧
      (∀ m, p.master = some m → m.sender = a.sender → m.port = a.port → Does (.announce e a) s fun d => d.eth.ptp = { p with master := some (announceOf a), announceAt := clockNow d0, announceEvery := ptpInterval s.dev a.logInterval } ∧ d.grat = d0.grat)) ∧
    (∀ a : AnnounceMsg, a.port < 3 → ethAsleep s.dev = false → ¬ AnnounceHeard s a → Does (.announce e a) s fun d => d = dropHandedPtp d0) ∧
    (ethAsleep s.dev = true → (∀ a : AnnounceMsg, a.port < 3 → Passes (.announce e a) s e) ∧ (∀ port x t1 t2, port < 3 → Passes (.sync e port x t1 t2) s e) ∧ (∀ t3 t4, Passes (.delayResp e t3 t4) s e)) ∧
    (∀ port x t1 t2, port < 3 → ethAsleep s.dev = false →
      (SyncOfMaster s port x → (s.dev.ethPort port).link = true → Does (.sync e port x t1 t2) s fun d =>
        d.eth.ptp = { p with sync := some (t1, t2 - latency s.dev port 0x0E), syncAt := clockNow d0, syncEvery := ptpInterval s.dev x.logInterval, seq := p.seq + 1 } ∧ (∃ f, d.wire = s.dev.wire ++ [.eth port f]) ∧ d.grat = d0.grat) ∧
      (¬ SyncOfMaster s port x → Does (.sync e port x t1 t2) s fun d => d = dropHandedPtp d0)) ∧
    (∀ t3 t4 : Int, ethAsleep s.dev = false → p.sync = none → Does (.delayResp e t3 t4) s fun d => d = dropHandedPtp d0) ∧
    (∀ t1 t2 t3 t4 : Int, ethAsleep s.dev = false → p.sync = some (t1, t2) → let gap := t4 - (t3 + latency s.dev (ptpPort s.dev) 0x0F); let delay := ((t2 - t1) + gap) / 2; let offset := t2 - t1 - delay
      Does (.delayResp e t3 t4) s fun d => d.eth.ptp.offsetNs = offset ∧ d.eth.ptp.meanDelayNs = delay ∧ d.eth.ptp.sync = none ∧
        (p.st = .uncalibrated → p.stepped = false → d.eth.ptp.stepped = true ∧ d.eth.ptp.st = .uncalibrated ∧ d.eth.ptp.good = p.good ∧ d.grat = d0.grat) ∧
        (p.st = .uncalibrated → p.stepped = true → 1000 < offset.natAbs → d.eth.ptp.good = 0 ∧ d.eth.ptp.st = .uncalibrated) ∧
        (p.st = .uncalibrated → p.stepped = true → offset.natAbs ≤ 1000 → p.good < 15 → d.eth.ptp.good = p.good + 1 ∧ d.eth.ptp.st = .uncalibrated) ∧
        (p.st = .uncalibrated → p.stepped = true → offset.natAbs ≤ 1000 → 15 ≤ p.good → d.eth.ptp.st = .slave) ∧
        (p.st = .slave → offset.natAbs ≤ 10000 → d.eth.ptp.bad = 0 ∧ d.eth.ptp.st = .slave) ∧
        (p.st = .slave → 10000 < offset.natAbs → p.bad < 3 → d.eth.ptp.bad = p.bad + 1 ∧ d.eth.ptp.st = .slave) ∧
        (p.st = .slave → 10000 < offset.natAbs → 3 ≤ p.bad → d.eth.ptp.st = .uncalibrated)) ∧
    (p.st = .uncalibrated ∨ p.st = .slave → p.announceAt + 3 * p.announceEvery ≤ clockNow d0 ∨ p.syncAt + 4 * p.syncEvery ≤ clockNow d0 → Does (.ptpTimeout e) s fun d => d.eth.ptp.st = .listening ∧ d.eth.ptp.master = none ∧ d.strips = s.dev.strips) ∧
    (p.st ≠ .uncalibrated → p.st ≠ .slave → Passes (.ptpTimeout e) s e) ∧
    (clockNow d0 < p.announceAt + 3 * p.announceEvery → clockNow d0 < p.syncAt + 4 * p.syncEvery → Passes (.ptpTimeout e) s e) ∧
    (∀ v, Does (.ptpEpochOffset e v) s fun d => legVal d 0x2000 0x10 = be 8 v.toNat ∧ (s.dev.grat.source ≠ .ptp → s.dev.grat.stepTo ≠ some .ptp →
      let by_ : Int := legNat s.dev 0x2000 0x10 - v.toNat
      d.grat = { d0.grat with runPtp := { d0.grat.runPtp with last := d0.grat.runPtp.last + BitVec.ofInt 48 (by_ / 125000), delta := (BitVec.ofInt 60 (d0.grat.runPtp.delta + by_ * 4096 / 125000)).toInt } } ∧
      d.changes = tabSet 0 s.dev.changes 0x200010 (tabGet 0 s.dev.changes 0x200010 + 1)))

/-- Jobs: submission, start, yield, completion, abort and freeing. Each verify operation, AGREE and ATTEST submitted in a writable record queues a job of its class, or fails it with result 3 when the input is too short; JOB_FREE empties a writable record; JOB_START starts the next job on a free engine outside dormant, half a microsecond after a suspension at the soonest, failing one whose fields break their table; YIELD_STATION suspends a job for a queued one of a lower class, keeping the time it ran, and stops an aborted one; JOB_COMPLETE, once the job has run its time, gives a verify job result 1 or 2, an ATTEST 3,429 octets, an AGREE 4,517 octets and an installed key, and a class-2 job at its limit result 4, while the job of an aborted record only stops, unless the abort has the same stamp; JOB_ABORT aborts what has not ended and marks what has. Otherwise nothing but the moment changes. Premise: canonical tables. -/
def Obligations.JobsQueueRunAndEnd : Prop :=
  ∀ (s : State) (e : Nat), SecurityTables s → let d0 := s.dev.at e
    (∀ n b, Submits (.ed25519Verify e n b) s e n 0x01 0 b ∧ Submits (.p256Verify e n b) s e n 0x02 0 b ∧ Submits (.p384Verify e n b) s e n 0x03 1 b ∧
      Submits (.rsaVerify e n b) s e n 0x04 1 b ∧ Submits (.mldsa65Verify e n b) s e n 0x05 1 b ∧ Submits (.agree e n b) s e n 0x10 2 b ∧ Submits (.attest e n b) s e n 0x11 2 b) ∧
    (∀ n, n < 16 → OpenForWrites s e 0x7020 n → let j := s.dev.job n
      (jobWritable j = true → Does (.jobFree e n) s fun d => d.job n = { aborting := j.aborting } ∧ (∀ m, m ≠ n → d.job m = s.dev.job m) ∧ d.sec.slots = s.dev.sec.slots) ∧
      (jobWritable j = false → Passes (.jobFree e n) s e)) ∧
    (∀ n, s.dev.dormant.st = .running → engineJob s.dev = none → s.dev.sec.engineFree ≤ clockNow d0 → nextJob s.dev = some n → let j := s.dev.job n
      (j.st = .suspended → Does (.jobStart e) s fun d => d.job n = { j with st := .running, runsFrom := clockNow d0 + halfUs s.dev } ∧ d.faults = s.dev.faults) ∧
      (j.st = .queued → jobInputOk j.op.toNat j.input = true → Does (.jobStart e) s fun d => d.job n = { j with st := .running, started := now d0, runsFrom := clockNow d0, ran := 0 } ∧ d.faults = s.dev.faults) ∧
      (j.st = .queued → jobInputOk j.op.toNat j.input = false → Does (.jobStart e) s fun d => d.job n = { j with st := .failed, started := now d0, ended := now d0, result := 3, output := [], outLen := 0, runsFrom := clockNow d0, ran := 0 })) ∧
    (s.dev.dormant.st ≠ .running ∨ engineJob s.dev ≠ none ∨ nextJob s.dev = none ∨ clockNow d0 < s.dev.sec.engineFree → Passes (.jobStart e) s e) ∧
    (engineJob s.dev = none → Passes (.yieldStation e) s e ∧ ∀ retry, Passes (.jobComplete e retry) s e) ∧
    (∀ n, engineJob s.dev = some n → let j := s.dev.job n
      (j.aborting = true → Does (.yieldStation e) s fun d => d.job n = { j with aborting := false } ∧ d.faults = s.dev.faults) ∧
      (j.aborting = false → (∃ m, m < 16 ∧ (s.dev.job m).st = .queued ∧ (s.dev.job m).cls.toNat < j.cls.toNat) → Does (.yieldStation e) s fun d =>
        d.job n = { j with st := .suspended, ran := j.ran + max 0 (clockNow d0 - j.runsFrom) } ∧ d.sec.engineFree = clockNow d0 + halfUs s.dev ∧ d.faults = s.dev.faults) ∧
      (j.aborting = false → s.dev.dormant.st = .running → (∀ m, m < 16 → (s.dev.job m).st = .queued → j.cls.toNat ≤ (s.dev.job m).cls.toNat) → Passes (.yieldStation e) s e) ∧
      (jobRunOver d0 j = false → ∀ retry, Passes (.jobComplete e retry) s e) ∧
      (j.aborting = true → jobRunOver d0 j = true → ∀ retry, let own := j.st = .aborted ∧ j.ended = now d0 ∧ j.abortOrd = ordinal d0
        (own → Does (.jobComplete e retry) s fun d => (d.job n).st = .abortLate ∧ (d.job n).aborting = false) ∧
        (¬ own → Does (.jobComplete e retry) s fun d => d.job n = { j with aborting := false } ∧ d.faults = s.dev.faults)) ∧
      (j.aborting = false → jobRunOver d0 j = true →
        (j.cls = 2 → Does (.jobComplete e true) s fun d => d.job n = { j with st := .failed, result := 4, ended := now d0, output := [], outLen := 0 }) ∧
        (j.op.toNat ≤ 5 → j.cls ≠ 2 → ∀ retry, Does (.jobComplete e retry) s fun d => d.job n = { j with st := .done, result := (if verifyJob j.op.toNat j.input then 1 else 2), ended := now d0, outLen := 0 } ∧ d.sec.slots = s.dev.sec.slots) ∧
        (j.op = 0x11 → Does (.jobComplete e false) s fun d => (d.job n).st = .done ∧ (d.job n).result = 0 ∧ (d.job n).outLen = 3429 ∧ (d.job n).ended = now d0 ∧ d.sec.slots = s.dev.sec.slots) ∧
        (j.op = 0x10 → beAt 1 1 j.input = 1 → Does (.jobComplete e false) s fun d => (d.job n).st = .done ∧ (d.job n).result = 0 ∧ (d.job n).outLen = 4517 ∧ (d.job n).output.length = 4517 ∧
          let k := beAt 0 1 j.input
          (d.keySlot k).installs = (s.dev.keySlot k).installs + 1 ∧ (d.keySlot k).cur.isSome = true ∧ (d.keySlot k).tenant = BitVec.ofNat 32 (beAt 4 4 j.input) ∧ (d.keySlot k).installAt = now d0))) ∧
    (∀ v : Byte, v.toNat < 16 → OpenForWrites s e 0x7000 0x0B → let n := v.toNat; let j := s.dev.job n
      (j.st = .queued ∨ j.st = .suspended → Does (.jobAbort e v) s fun d => d.job n = { j with st := .aborted, ended := now d0, output := [], outLen := 0 }) ∧
      (j.st = .running → Does (.jobAbort e v) s fun d => d.job n = { j with st := .aborted, ended := now d0, abortOrd := ordinal d0, output := [], outLen := 0, aborting := true }) ∧
      (j.st = .done ∨ j.st = .failed → Does (.jobAbort e v) s fun d => d.job n = { j with st := .abortLate }) ∧
      (j.st = .free ∨ j.st = .aborted ∨ j.st = .abortLate → Does (.jobAbort e v) s fun d => d.sec = s.dev.sec ∧ d.faults = s.dev.faults))

/-- Key slots end their overlap and are erased; the floor and the key sets are burnt. KEY_OVERLAP_END after its stamp ends the former generation and before it does nothing; KEY_ERASE of a slot leaves only its count of installs, and a check in progress loses its copies of the key; RAISE_FLOOR with the running image's version above the floor sets the floor and otherwise changes nothing; REVOKE_KEYSET of a key set that the running image does not use adds it to the revoked ones and otherwise changes nothing. Premise: canonical tables. -/
def Obligations.KeySlotsAndFuses : Prop :=
  ∀ (s : State) (e : Nat), SecurityTables s → let d0 := s.dev.at e
    (∀ n key end_, n < 128 → (s.dev.keySlot n).prev = some (key, end_) →
      (reached d0 end_ = true → Does (.keyOverlapEnd e n) s fun d => d.keySlot n = { s.dev.keySlot n with prev := none } ∧ (∀ m, m ≠ n → d.keySlot m = s.dev.keySlot m) ∧ d.sec.jobs = s.dev.sec.jobs) ∧
      (reached d0 end_ = false → Passes (.keyOverlapEnd e n) s e)) ∧
    (∀ n, n < 128 → (s.dev.keySlot n).prev = none → Passes (.keyOverlapEnd e n) s e) ∧
    (∀ v : Byte, v.toNat < 128 → OpenForWrites s e 0x7000 0x0A → Does (.keyErase e v) s fun d => d.keySlot v.toNat = { installs := (s.dev.keySlot v.toNat).installs } ∧
      (∀ m, m ≠ v.toNat → d.keySlot m = s.dev.keySlot m) ∧ (∀ x ∈ d.stripTx, ∀ a, x.2.asm = some a → a.keySlot.toNat = v.toNat → a.keys = []) ∧ d.sec.jobs = s.dev.sec.jobs) ∧
    (∀ v : Byte, OpenForWrites s e 0x7000 0x07 →
      (v.toNat = s.dev.sec.imageVersion.toNat → s.fuses.floor.toNat < v.toNat → Burns (.raiseFloor e v) s { s.fuses with floor := BitVec.ofNat 6 v.toNat } fun d => d.sec = s.dev.sec ∧ d.wire = s.dev.wire) ∧
      (v.toNat ≠ s.dev.sec.imageVersion.toNat ∨ v.toNat ≤ s.fuses.floor.toNat → Passes (.raiseFloor e v) s e)) ∧
    (∀ v : Byte, OpenForWrites s e 0x7000 0x08 →
      (v.toNat < 4 → v.toNat ≠ s.dev.sec.keyset.toNat → Burns (.revokeKeyset e v) s { s.fuses with revoked := s.fuses.revoked ||| BitVec.ofNat 4 (2 ^ v.toNat) } fun d => d.sec = s.dev.sec ∧ d.wire = s.dev.wire) ∧
      (4 ≤ v.toNat ∨ v.toNat = s.dev.sec.keyset.toNat → Passes (.revokeKeyset e v) s e))

/-- Reads, writes, transactions, judgement and roll-back. Before the end of CONFIG nothing but a read is executed. BEGIN takes a free record with the next number; WRITE in an open transaction of its owner stages its value with the entry's change count; REGISTER_WRITE of a plain entry that passes its checks puts the value in force and counts a change, and refused it changes nothing; COMMIT for a tick at most 2^23 ahead makes the transaction PENDING; ROLLBACK of an open one discards what is staged; COMMIT_JUDGEMENT of the one due transaction fails it with its reason, or applies its plain entry and commits it; ROLLBACK_REVERT when due reverts; an idle transaction is rolled back with reason 4. Premise: canonical tables. -/
def Obligations.WritesAndTransactions : Prop :=
  ∀ (s : State) (e : Nat), LegendTables s → let d0 := s.dev.at e
    (ezithExecutes s.dev = false → ∀ slot num idx sub sl off data tick, ∀ c ∈ [Instr.write e slot num idx sub sl off data, .begin_ e slot, .commit e slot num tick, .rollback e slot num,
      .registerWrite e idx sub sl off data], Passes c s e) ∧
    (ezithExecutes s.dev = true →
      (∀ slot r, beginRecord s.dev = some r → Does (.begin_ e slot) s fun d => d.txn r = { st := .open_, owner := ownerOf s.dev slot, number := s.dev.ez.nextTxn, beginAt := now d0 } ∧
        (∀ k, k ≠ r → d.txn k = s.dev.txn k) ∧ d.ez.nextTxn ≠ 0 ∧ d.legend = s.dev.legend) ∧
      (∀ slot, beginRecord s.dev = none → Passes (.begin_ e slot) s e) ∧
      (∀ slot num (idx : BitVec 16) (sub : Byte) sl off data r v, let key := legKey idx.toNat sub.toNat; let t := s.dev.txn r
        OpenTxn s slot num r → PlainEntry idx.toNat sub.toNat → stagedOf t key = none →
        checkWrite s.fuses d0 true idx.toNat sub.toNat sl off data (entryValue s.fuses d0 idx.toNat sub.toNat) = (.ok, v) → t.staged.length < 256 → stagedBytes t + v.length ≤ 131072 →
        Does (.write e slot num idx sub sl off data) s fun d => d.txn r = { t with idle := 0, staged := t.staged ++ [{ key := key, value := v, count := tabGet 0 s.dev.changes key }] } ∧
          d.legend = s.dev.legend ∧ d.changes = s.dev.changes) ∧
      (∀ (idx : BitVec 16) (sub : Byte) sl off data v, let key := legKey idx.toNat sub.toNat
        PlainEntry idx.toNat sub.toNat → checkWrite s.fuses d0 true idx.toNat sub.toNat sl off data (entryValue s.fuses d0 idx.toNat sub.toNat) = (.ok, v) →
        (locked s.dev none key = false → brokenKeys d0 [(key, v)] = [] → Does (.registerWrite e idx sub sl off data) s fun d => legVal d idx.toNat sub.toNat = v ∧
          tabGet 0 d.changes key = tabGet 0 s.dev.changes key + 1 ∧ d.sec = s.dev.sec) ∧
        (locked s.dev none key = true ∨ brokenKeys d0 [(key, v)] ≠ [] → Passes (.registerWrite e idx sub sl off data) s e)) ∧
      (∀ (idx : BitVec 16) (sub : Byte) sl off data, entryRow idx.toNat sub.toNat = none → Passes (.registerWrite e idx sub sl off data) s e) ∧
      (∀ slot num r (T : BitVec 48), OpenTxn s slot num r → s.dev.grat.everLocked = true → T ≠ 0 → 1 ≤ (T - s.dev.grat.tick).toNat → (T - s.dev.grat.tick).toNat ≤ 2 ^ 23 →
        Does (.commit e slot num (T.setWidth 64)) s fun d => d.txn r = { s.dev.txn r with st := .pending, idle := 0, t0 := stampOf T 0, commitOrder := s.dev.ez.commitOrder + 1 } ∧ d.legend = s.dev.legend) ∧
      (∀ slot num r (T : BitVec 48), OpenTxn s slot num r → s.dev.grat.everLocked = true → T ≠ 0 → 2 ^ 23 < (T - s.dev.grat.tick).toNat →
        Does (.commit e slot num (T.setWidth 64)) s fun d => d.txn r = { s.dev.txn r with idle := 0 } ∧ d.legend = s.dev.legend) ∧
      (∀ slot num r, OpenTxn s slot num r → Does (.rollback e slot num) s fun d => d.txn r = { s.dev.txn r with st := .rolledBack, staged := [], reason := 0, endAt := now d0, endOrd := ordinal d0 } ∧
        d.ez.rollbacks = s.dev.ez.rollbacks + 1 ∧ d.stripTx = s.dev.stripTx)) ∧
    (commitsDue d0 = [] → Passes (.commitJudgement e) s e) ∧
    (∀ r, commitsDue d0 = [r] → let t := s.dev.txn r
      (∀ key reason, judge d0 r = some (key, reason) → Does (.commitJudgement e) s fun d => (d.txn r).st = .failed ∧ (d.txn r).failIndex = BitVec.ofNat 16 (key / 256) ∧ (d.txn r).failSub = BitVec.ofNat 8 key ∧
        (d.txn r).reason = reason ∧ d.ez.conflicts = s.dev.ez.conflicts + 1 ∧ d.strips = s.dev.strips) ∧
      (∀ x, judge d0 r = none → t.staged = [x] → PlainEntry (x.key / 256) (x.key % 256) → Does (.commitJudgement e) s fun d => (d.txn r).st = .committed ∧ (d.txn r).number = t.number ∧
        legVal d (x.key / 256) (x.key % 256) = x.value)) ∧
    (∀ r, r < 16 → let t := s.dev.txn r
      (revertDue d0 r = true → t.applied = [] → t.before = [] → Does (.rollbackRevert e r) s fun d => (d.txn r).st = .rolledBack ∧ (d.txn r).reverted = true ∧ d.stripTx = s.dev.stripTx) ∧
      (revertDue d0 r = false → Passes (.rollbackRevert e r) s e) ∧
      (t.st = .open_ → legNat s.dev 0xA000 0x04 ≤ t.idle → Does (.txnIdleRollback e r) s fun d => d.txn r = { t with st := .rolledBack, staged := [], reason := 4, endAt := now d0, endOrd := ordinal d0 } ∧
        d.ez.rollbacks = s.dev.ez.rollbacks + 1 ∧ d.stripTx = s.dev.stripTx) ∧
      (t.st ≠ .open_ ∨ t.idle < legNat s.dev 0xA000 0x04 → Passes (.txnIdleRollback e r) s e))

/-- Ezith requests, reads and events. A REQUEST that is not served or whose header is wrong is only taken; one that fails authentication counts; an accepted one with a SEQ kept is answered again, with an older SEQ counts as stale, and a new one of reads is executed and its reply kept and sent; READ of an entry that exists, may be read and fits answers OK with its octets, of no entry NO_ENTRY, and in dormant DORMANT, each reply going out on its path; EVENT_SEND puts up to 16 records in flight with the next SEQ; EVENT_RETRY when due sends them again; EVENT_ACK of what is in flight ends it. Otherwise the moment passes. Premise: canonical tables. -/
def Obligations.EzithMessagesAndEvents : Prop :=
  ∀ (s : State) (e : Nat), LegendTables s → tabWf none s.dev.ez.kept = true → let d0 := s.dev.at e
    (∀ path m, let c := Instr.ezithRequest e path m; let d1 := taken s e (.ezith path m); let slot := BitVec.ofNat 8 (beAt 4 1 m); let seq := BitVec.ofNat 32 (beAt 8 4 m); let owner := (ownerOf s.dev slot).toNat
      (ezServed s.dev path = false ∨ ezHeaderOk s.dev path 1 m = false → Does c s fun d => d = d1) ∧
      (ezServed s.dev path = true → ezHeaderOk s.dev path 1 m = true → beAt 24 8 m = 0 → (ezAuth d1 m).1 = .failed → Does c s fun d => d.ez.authFails = s.dev.ez.authFails + 1 ∧ d.ez.kept = s.dev.ez.kept ∧ d.sec = s.dev.sec) ∧
      (EzithAccepted s e path 1 m → ∀ ops, parseOps 128 (slice 32 (m.length - 48) m) = some ops →
        (∀ k, tabGet none s.dev.ez.kept owner = some k → seq = k.seq → k.reply ≠ [] → path = .xgem → Does c s fun d => (∃ it : Item, d.sched.mgmt = s.dev.sched.mgmt ++ [it] ∧ it.frame = k.reply) ∧ d.ez = s.dev.ez) ∧
        (∀ k, tabGet none s.dev.ez.kept owner = some k → seq ≠ k.seq → seqAfter seq k.seq = false → Does c s fun d => d.ez.staleRequests = s.dev.ez.staleRequests + 1 ∧ d.ez.kept = s.dev.ez.kept ∧ d.wire = s.dev.wire) ∧
        (tabGet none s.dev.ez.kept owner = none ∨ (∃ k, tabGet none s.dev.ez.kept owner = some k ∧ seqAfter seq k.seq = true) → (∀ o ∈ ops, o.op = 1) → s.dev.dormant.st = .running → path = .xgem →
          Does c s fun d => ∃ k it, tabGet none d.ez.kept owner = some k ∧ k.seq = seq ∧ d.sched.mgmt = s.dev.sched.mgmt ++ [it] ∧ it.frame = k.reply ∧ it.cls = .mgmt))) ∧
    (∀ path (idx : BitVec 16) (sub : Byte) off len, let c := Instr.read e path idx sub off len; let v := entryValue s.fuses d0 idx.toNat sub.toNat; let o := readRecord idx.toNat sub.toNat off len
      (ezServed s.dev path = false → Passes c s e) ∧
      (ezServed s.dev path = true → s.dev.dormant.st = .running →
        (entryRow idx.toNat sub.toNat = none → Does c s (Answers s e path (replyRecord o .noEntry []))) ∧
        (∀ row, entryRow idx.toNat sub.toNat = some row → ¬ (0x4810 ≤ idx.toNat ∧ idx.toNat < 0x4850 ∧ sub = 0x01) →
          (mayRead row.acc = false → Does c s (Answers s e path (replyRecord o .access []))) ∧
          (mayRead row.acc = true → off + len ≤ v.length → 0 < len → len ≤ (ezLimit s.dev path - 60) / 4 * 4 → Does c s (Answers s e path (replyRecord o .ok (slice off len v)))) ∧
          (mayRead row.acc = true → v.length < off + len → Does c s (Answers s e path (replyRecord o .range [])))) ) ∧
      (ezServed s.dev path = true → s.dev.dormant.st ≠ .running → idx ≠ 0x1000 → Does c s (Answers s e path (replyRecord o .dormant [])))) ∧
    (∀ n, n < 8 → let x := s.dev.sub n
      (∀ path key, subPath s.dev n = some path → subKey s.dev n = some key → eventsFlow s.dev = true → let k := min 16 ((ezLimit s.dev path - 48) / 48)
        (x.inFlight = none → x.queue ≠ [] → Does (.eventSend e n) s fun d => d.sub n = { x with queue := x.queue.drop k, nextSeq := x.nextSeq + 1, lostFlag := false, inFlight := some (x.queue.take k, x.nextSeq, x.lostFlag, now d0) } ∧ d.ez.txns = s.dev.ez.txns) ∧
        (∀ rs sq lost t, x.inFlight = some (rs, sq, lost, t) → Passes (.eventSend e n) s e ∧
          (reached d0 (after t (legNat s.dev 0xA000 0x0C)) = true → Does (.eventRetry e n) s fun d => d.sub n = { x with inFlight := some (rs, sq, lost, now d0) } ∧ d.ez.txns = s.dev.ez.txns) ∧
          (reached d0 (after t (legNat s.dev 0xA000 0x0C)) = false → Passes (.eventRetry e n) s e))) ∧
      (x.inFlight = none → Passes (.eventRetry e n) s e) ∧
      (x.queue = [] → Passes (.eventSend e n) s e)) ∧
    (∀ path m, let c := Instr.eventAck e path m; let d1 := taken s e (.ezith path m); let seq : BitVec 32 := BitVec.ofNat 32 (beAt 8 4 m)
      (ezServed s.dev path = false ∨ ezHeaderOk s.dev path 4 m = false → Does c s fun d => d = d1) ∧
      (∀ n, ezServed s.dev path = true → ezHeaderOk s.dev path 4 m = true → (ezAuth d1 m).1 ≠ .failed → ackedSub s.dev path (beAt 4 1 m) seq = some n →
        Does c s fun d => d.sub n = { s.dev.sub n with inFlight := none, acked := seq } ∧ d.ez.txns = s.dev.ez.txns ∧ d.wire = s.dev.wire))

/-- Object ports: create, write, seal, read, load, archive, delete, abort, complete. An idle port takes CREATE of a new ID with room (result 1 when it exists, 2 without room), OPEN and DELETE of a sealed object (8 when there is none, 7 in use), LOAD in range (10 out of range) and ARCHIVE of a checkpoint (8 without one); PORT_DATA joins an object being written, PORT_POS moves a reading port; SEAL programs its buffer, unless EWARN stops it, and its record is due at its end when its checks hold; CLOSE ends reading; PORT_ABORT aborts what has not ended and drops an object being written, and an operation that completes at its stamp stands as ABORT_LATE; PORT_OPERATION_COMPLETE and JOURNAL_RECORD_PROGRAMMED make the operation's change, the pending records before it first, and while EWARN stops programs no object is sealed. A port busy, or idle when aborted, refuses. Premise: canonical tables, writes executed. -/
def Obligations.ObjectPortsOperate : Prop :=
  ∀ (s : State) (e n : Nat), CadastreTables s → n < 8 → let d0 := s.dev.at e; let x := s.dev.objPort n
    (OpenForWrites s e 0x7810 n →
      (∀ (kind : Byte) (id size : BitVec 64), (portIdle x = false → Passes (.create e n kind id size) s e) ∧
        (portIdle x = true → (kind = 2 ∨ kind = 3 ∨ kind = 4 ∨ kind = 7) → 1 ≤ id.toNat → id.toNat < 2 ^ 63 →
          ((objectOf s.dev id.toNat).isSome = true → Does (.create e n kind id size) s fun d => PortEnds s e d n .failed 1 ∧ OnlyPort s d n) ∧
          (objectOf s.dev id.toNat = none → hasSpace s.dev size.toNat = false → Does (.create e n kind id size) s fun d => PortEnds s e d n .failed 2 ∧ OnlyPort s d n) ∧
          (objectOf s.dev id.toNat = none → hasSpace s.dev size.toNat = true → Does (.create e n kind id size) s fun d => d.objPort n = { st := .writing, lastOp := 1, object := id } ∧
            (∃ o, objectOf d id.toNat = some o ∧ o.st = .writing ∧ o.kind = kind ∧ o.size = size.toNat ∧ o.bytes = []) ∧ (∀ k, k ≠ id.toNat → objectOf d k = objectOf s.dev k) ∧
            d.cad.journal = s.dev.cad.journal ++ [.create id]))) ∧
      (∀ digest, (x.st ≠ .writing → Passes (.seal e n digest) s e) ∧ (∀ o, x.st = .writing → objectOf s.dev x.object.toNat = some o → let out := sealOutcome s.fuses x.pos (fit 32 digest) o
        Does (.seal e n digest) s fun d => (d.objPort n).st = .busy ∧ (d.objPort n).lastOp = 2 ∧ (d.objPort n).outcome = out ∧ (d.objPort n).buffered = (if s.dev.cad.stopping then x.buffered else 0) ∧
          d.cad.closing = (if out = 0 then s.dev.cad.closing ++ [n] else s.dev.cad.closing) ∧ d.cad.objects = s.dev.cad.objects ∧
          ∃ l, d.cad.journal = s.dev.cad.journal ++ l ∧ ∀ r ∈ l, ∃ c b, r = .alloc c b)) ∧
      (∀ id : BitVec 64, portIdle x = true → id.toNat ≠ logObject →
        (objectOf s.dev id.toNat = none → Does (.open_ e n id) s (fun d => PortEnds s e d n .failed 8 ∧ OnlyPort s d n) ∧ Does (.delete e n id) s (fun d => PortEnds s e d n .failed 8 ∧ OnlyPort s d n)) ∧
        (∀ o, objectOf s.dev id.toNat = some o → o.st ≠ .writing → Does (.open_ e n id) s (fun d => d.objPort n = { st := .reading, lastOp := 3, object := id } ∧ OnlyPort s d n) ∧
          (inUse s.dev id.toNat = true → Does (.delete e n id) s fun d => PortEnds s e d n .failed 7 ∧ OnlyPort s d n) ∧
          (inUse s.dev id.toNat = false → Does (.delete e n id) s fun d => d.objPort n = { st := .busy, lastOp := 5, object := id } ∧ d.cad.journal = s.dev.cad.journal ++ [.delete n] ∧ d.cad.objects = s.dev.cad.objects))) ∧
      (x.st = .reading → Does (.close e n) s fun d => d.objPort n = { x with st := .idle, lastOp := 4, snapshot := [], result := 0, endAt := now d0, endOrd := ordinal d0 } ∧ OnlyPort s d n) ∧
      (x.st ≠ .reading → Passes (.close e n) s e) ∧
      (∀ (id : BitVec 64) (p : Byte) (page : BitVec 32) (off len : BitVec 64) o, portIdle x = true → p.toNat < 64 → off.toNat % 64 = 0 → len.toNat % 64 = 0 → objectOf s.dev id.toNat = some o → o.st ≠ .writing →
        let fits := off.toNat + len.toNat ≤ o.size ∧ page.toNat * pageBytes + len.toNat ≤ (s.dev.partition p.toNat).pages.length * pageBytes
        (fits → Does (.load e n id p page off len) s fun d => d.objPort n = { st := .busy, lastOp := 6, object := id, partition := p, page := page.toNat, offset := off.toNat, length := len.toNat } ∧ OnlyPort s d n) ∧
        (¬ fits → Does (.load e n id p page off len) s fun d => PortEnds s e d n .failed 10 ∧ OnlyPort s d n)) ∧
      (∀ (id : BitVec 64) (p : Byte), portIdle x = true → p.toNat < 64 → 1 ≤ id.toNat → id.toNat < 2 ^ 63 → objectOf s.dev id.toNat = none →
        (newestCkpt (s.dev.partition p.toNat) = none → Does (.archive e n id p) s fun d => PortEnds s e d n .failed 8 ∧ OnlyPort s d n) ∧
        (∀ slot c, newestCkpt (s.dev.partition p.toNat) = some (slot, c) → hasSpace s.dev (4096 + partNat s.dev p.toNat 0x05 * pageBytes) = true → Does (.archive e n id p) s fun d =>
          d.objPort n = { st := .busy, lastOp := 7, object := id, partition := p, ckptBeat := c.beat } ∧ d.cad.journal = s.dev.cad.journal ++ [.create id] ∧ d.cad.closing = s.dev.cad.closing ++ [n] ∧ (objectOf d id.toNat).isSome = true)) ∧
      (x.st = .writing → Does (.portAbort e n) s fun d => PortEnds s e d n .aborted 0 ∧ objectOf d x.object.toNat = none) ∧
      (x.st = .reading → Does (.portAbort e n) s fun d => PortEnds s e d n .aborted 0 ∧ OnlyPort s d n) ∧
      (x.st = .busy → (x.lastOp = 5 → Does (.portAbort e n) s fun d => PortEnds s e d n .aborted 0 ∧ d.cad.objects = s.dev.cad.objects ∧ .delete n ∉ d.cad.journal) ∧
        (x.lastOp = 2 ∨ x.lastOp = 7 → Does (.portAbort e n) s fun d => PortEnds s e d n .aborted 0 ∧ objectOf d x.object.toNat = none ∧ n ∉ d.cad.closing) ∧
        (x.lastOp = 6 → Does (.portAbort e n) s fun d => PortEnds s e d n .aborted 0 ∧ d.cad.objects = s.dev.cad.objects)) ∧
      (x.st = .idle → Passes (.portAbort e n) s e)) ∧
    (∀ data o, OpenForWrites s e 0x7811 n → x.st = .writing → 1 ≤ data.length → data.length ≤ 1024 → objectOf s.dev x.object.toNat = some o →
      (x.pos + data.length ≤ o.size → x.buffered + data.length ≤ pageBytes → Does (.portData e n data) s fun d =>
        d.objPort n = { x with pos := x.pos + data.length, buffered := x.buffered + data.length } ∧ (∃ o', objectOf d x.object.toNat = some o' ∧ o'.bytes = o.bytes ++ data ∧ o'.st = o.st)) ∧
      (o.size < x.pos + data.length ∨ pageBytes < x.buffered + data.length → Passes (.portData e n data) s e)) ∧
    (∀ pos : BitVec 64, OpenForWrites s e 0x7812 n →
      (x.st = .reading → pos.toNat ≤ readingSize s.dev x → Does (.portPos e n pos) s fun d => d.objPort n = { x with pos := pos.toNat } ∧ OnlyPort s d n) ∧
      (x.st ≠ .reading ∨ readingSize s.dev x < pos.toNat → Passes (.portPos e n pos) s e)) ∧
    (let own := x.st = .aborted ∧ x.undone.isSome = true ∧ x.endAt = now d0 ∧ x.endOrd = ordinal d0;
      (x.st ≠ .busy → ¬ own → Passes (.portOperationComplete e n) s e) ∧
      (own → Does (.portOperationComplete e n) s fun d => (d.objPort n).st = .abortLate ∧ (d.objPort n).lastOp = 8 ∧ (d.objPort n).undone = none)) ∧
    (x.st = .busy →
      (x.outcome ≠ 0 → Does (.portOperationComplete e n) s fun d => PortEnds s e d n .failed x.outcome ∧ objectOf d x.object.toNat = none) ∧
      (x.outcome = 0 → x.lastOp = 5 → Does (.portOperationComplete e n) s fun d => PortEnds s e d n .done 0 ∧ objectOf d x.object.toNat = none) ∧
      (x.outcome = 0 → x.lastOp = 2 ∨ x.lastOp = 7 → s.dev.cad.stopping = true → Passes (.portOperationComplete e n) s e) ∧
      (∀ o, x.outcome = 0 → x.lastOp = 2 → objectOf s.dev x.object.toNat = some o → s.dev.cad.stopping = false →
        ((∀ m, .delete m ∈ s.dev.cad.journal → m ≠ n ∧ (s.dev.objPort m).object ≠ x.object) →
          Does (.portOperationComplete e n) s fun d => PortEnds s e d n .done 0 ∧ objectOf d x.object.toNat = some { o with st := .sealed, sealAt := now d0, digest := x.digest } ∧ d.cad.journal = []) ∧
        (s.dev.cad.journal = [] → s.dev.cad.closing = [n] → Does (.journalRecordProgrammed e) s fun d => PortEnds s e d n .done 0 ∧
          objectOf d x.object.toNat = some { o with st := .sealed, sealAt := now d0, digest := x.digest } ∧ d.cad.closing = [] ∧ d.cad.cleanStop = false)) ∧
      (∀ o, x.outcome = 0 → x.lastOp = 6 → objectOf s.dev x.object.toNat = some o → Does (.portOperationComplete e n) s fun d =>
        PortEnds s e d n .done (if (objectBytes o x.offset x.length).2 then 6 else 0) ∧ d.cad.objects = s.dev.cad.objects)) ∧
    (∀ r rest, s.dev.cad.journal = r :: rest → (∃ i, r = .create i) ∨ (∃ c b, r = .alloc c b ∨ r = .retire c b) →
      Does (.journalRecordProgrammed e) s fun d => d = { d0 with cad := { s.dev.cad with journal := rest, cleanStop := false } }) ∧
    (∀ rest, s.dev.cad.journal = .delete n :: rest → x.st = .busy → x.lastOp = 5 → x.outcome = 0 → .delete n ∉ rest →
      Does (.journalRecordProgrammed e) s fun d => PortEnds s e d n .done 0 ∧ objectOf d x.object.toNat = none ∧ d.cad.journal = rest ∧ d.cad.cleanStop = false) ∧
    (s.dev.cad.journal = [] → s.dev.cad.closing = [] ∨ s.dev.cad.stopping = true → Passes (.journalRecordProgrammed e) s e)

/-- The patrol, wear, bad blocks, lost codewords, the EWARN stop and the mount. PATROL_READ counts corrected and retried pages, begins the refresh of a parcel above its limit into a new block, and marks the end of a pass; WEAR_RELOCATION beyond the spread moves the least erased parcel of the device to the most erased free block; a move's journal record gives the new parcel the old one's owner and pages and frees the old one; PROGRAM_FAILURE makes the block bad and writes its pages to a new block, or owes that while EWARN stops programs; CODEWORD_READ_RETRY counts a recovery or loses the codeword and damages its object; EWARN_STOP programs what is pending and stops; MOUNT attaches the targets and enters TRAIN. Unmounted or not called for, they do nothing. Premise: canonical tables. -/
def Obligations.CadastreCaresForItsFlash : Prop :=
  ∀ (s : State) (e c : Nat), CadastreTables s → c < 8 → let d0 := s.dev.at e; let k := s.dev.cad
    (∀ b bits retried last, (k.mounted = false ∨ s.dev.grat.everLocked = false ∨ s.dev.dormant.st ≠ .running ∨ (channelOf s.dev c).blocks ≤ b → Passes (.patrolRead e c b bits retried last) s e) ∧
      (k.mounted = true → s.dev.grat.everLocked = true → s.dev.dormant.st = .running → b < (channelOf s.dev c).blocks →
        Does (.patrolRead e c b bits retried last) s (fun d => d.cad.corrected = (if bits ≠ 0 ∧ retried = false then k.corrected + 1 else k.corrected) ∧ d.cad.retried = (if retried then k.retried + 1 else k.retried) ∧
          d.cad.patrolLast = (if last then now d0 else k.patrolLast) ∧ d.cad.objects = k.objects) ∧
        (∀ id m, (parcelOf s.dev c b).owner = some id → cadNat s.dev 0x0A < bits ∨ retried = true → moving s.dev c b = false → k.stopping = false → rewriteTarget s.dev c b id = some m →
          Does (.patrolRead e c b bits retried last) s fun d => d.cad.journal = k.journal ++ [.move c b c m true] ∧ (parcelOf d c m).erases = (parcelOf s.dev c m).erases + 1))) ∧
    (∀ b w hi t, k.mounted = true → s.dev.dormant.st = .running → leastErased (allCounts s.dev) = some ((c, b), w) → mostErased (allCounts s.dev) = some hi → wornMost s.dev = some t →
      w + cadNat s.dev 0x05 < hi.2 → (parcelOf s.dev c b).owner.isSome = true → moving s.dev c b = false → k.stopping = false →
      Does (.wearRelocation e c) s fun d => d.cad.journal = k.journal ++ [.move c b t.1 t.2 false] ∧ (parcelOf d t.1 t.2).erases = (parcelOf s.dev t.1 t.2).erases + 1 ∧ d.cad.objects = k.objects) ∧
    (k.mounted = false ∨ s.dev.dormant.st ≠ .running ∨ k.stopping = true ∨ wornMost s.dev = none ∨
      (∀ lo hi, leastErased (allCounts s.dev) = some lo → mostErased (allCounts s.dev) = some hi → hi.2 ≤ lo.2 + cadNat s.dev 0x05) → Passes (.wearRelocation e c) s e) ∧
    (∀ old c2 new refresh rest, k.journal = .move c old c2 new refresh :: rest → c ≠ c2 ∨ old ≠ new → Does (.journalRecordProgrammed e) s fun d => d.cad.journal = rest ∧ (parcelOf d c old).owner = none ∧
      (parcelOf d c2 new).owner = (parcelOf s.dev c old).owner ∧ (parcelOf d c2 new).oldest = now d0 ∧ (parcelOf d c2 new).pages.map (·.offset) = (parcelOf s.dev c old).pages.map (·.offset) ∧ d.cad.refreshes = (if refresh then k.refreshes + 1 else k.refreshes) ∧
      d.cad.relocations = (if refresh then k.relocations else k.relocations + 1) ∧ d.cad.objects = k.objects) ∧
    (∀ b, (k.mounted = true → b < (channelOf s.dev c).blocks → (parcelOf s.dev c b).good = true → Does (.programFailure e c b) s fun d => (parcelOf d c b).good = false ∧ (∃ l, d.cad.journal = k.journal ++ .retire c b :: l) ∧
        ((parcelOf s.dev c b).owner = none → (parcelOf d c b).owner = none) ∧
        (∀ id, (parcelOf s.dev c b).owner = some id →
          (∀ m, k.stopping = false → rewriteTarget s.dev c b id = some m → (parcelOf d c b).owner = none ∧ (parcelOf d c m).owner = some id ∧
            (parcelOf d c m).pages.map (·.offset) = (parcelOf s.dev c b).pages.map (·.offset)) ∧
          (k.stopping = true ∨ rewriteTarget s.dev c b id = none → (parcelOf d c b).owner = some id ∧ (c, b) ∈ d.cad.owed)) ∧
        (∀ j, j ≠ c → channelOf d j = channelOf s.dev j) ∧ d.cad.objects = k.objects) ∧
      (k.mounted = false ∨ (parcelOf s.dev c b).good = false → Passes (.programFailure e c b) s e)) ∧
    (∀ (id : BitVec 64) w, (objectOf s.dev id.toNat = none → ∀ r, Passes (.codewordReadRetry e c id w r) s e) ∧
      (∀ o, objectOf s.dev id.toNat = some o → Does (.codewordReadRetry e c id w true) s (fun d => d = { d0 with cad := { k with retried := k.retried + 1 } }) ∧
        Does (.codewordReadRetry e c id w false) s (fun d => d.cad.lost = k.lost + 1 ∧ (channelOf d c).lost = (channelOf s.dev c).lost + 1 ∧
          ∃ o', objectOf d id.toNat = some o' ∧ w ∈ o'.lost ∧ o'.st = (if o.st = .writing then .writing else .damaged) ∧ o'.bytes = o.bytes))) ∧
    (s.dev.sentry.ewarn = true → k.mounted = true → k.stopping = false → Does (.ewarnStop e) s fun d => d.cad.stopping = true ∧ d.cad.cleanStop = true ∧ d.cad.journal = [] ∧ d.faults.buffer = []) ∧
    (s.dev.sentry.ewarn = false ∨ k.mounted = false ∨ k.stopping = true → Passes (.ewarnStop e) s e) ∧
    (∀ ts, (s.dev.start.stage = .mount → Does (.mount e ts) s fun d => d.start.stage = .train ∧ d.cad.mounted = true ∧ d.cad.cleanStop = false ∧
        (channelOf d c).targets = ((judgeTargets ts).1.filter fun t => decide (t.channel = c)).length ∧ d.cad.unsafeStops = (if k.cleanStop then k.unsafeStops else k.unsafeStops + 1) ∧ d.cad.objects = k.objects) ∧
      (s.dev.start.stage ≠ .mount → Passes (.mount e ts) s e))

/-- The sentry measures, starts, trips, cuts, backs off, warns and guards its pins. Each sentry command acts when it is due and otherwise only lets the moment pass. VIN_QUALIFIED and the end of a back-off with VIN in range begin a start; START_COMPLETE enters ON; inrush, gate, over-current, over- and under-voltage cut off under sources 4, 6, 2, 1, 0, a sample above SHORT_MA under 3, a hot pass device under 5, a controlled cut at the end of its lead, which a second cut leaves as it is, under its own source; the current is the shunt's voltage over SHUNT_UOHM; PG_N follows 1 ms of ON, n returns to 0 after 60 s of it. A valid TSNS reading becomes the anchor, an invalid one widens the margin. EWARN, FET short, pin contention and its test, and POWER_ON act as their rules say, POWER_ON keeping the energy total alone of the sentry. Premise: canonical tables. -/
def Obligations.SentryGuardsTheInput : Prop :=
  ∀ (s : State) (e : Nat), tabWf {} s.dev.faults.sources = true → tabWf none s.dev.legend = true → let d0 := s.dev.at e; let x := s.dev.sentry
    ((x.st = .off ∧ 10000 ≤ x.inRangeUs → StartBegins (.vinQualified e) s e) ∧ (¬ (x.st = .off ∧ 10000 ≤ x.inRangeUs) → Passes (.vinQualified e) s e)) ∧
    ((x.st = .starting ∧ x.fetShort = false ∧ startDone x = true → SentryBecomes (.startComplete e) s e { x with st := .on, stateUs := 0, ewarn := false, ewarnHeld := false, overUs := 0 }) ∧
      (¬ (x.st = .starting ∧ x.fetShort = false ∧ startDone x = true) → Passes (.startComplete e) s e)) ∧
    (let due := x.st = .starting ∧ ¬ (x.inrush.mode = 0 ∧ startDone x = true) ∧ x.inrush.timerMs * 1000 ≤ (if x.inrush.mode = 0 then x.stateUs else x.limitUs);
      (due → Does (.sentryInrushFail e) s (CutsOff s (sentryStamp d0) 0x04 false)) ∧ (¬ due → Passes (.sentryInrushFail e) s e)) ∧
    (let due := x.st = .starting ∧ ((x.gateRose = false ∧ 1000 ≤ x.stateUs) ∨ (2000 ≤ x.nearUs ∧ x.voutMv + x.gateMv < (x.vinMv : Int) + 10000));
      (due → Does (.sentryGateStuck e) s (CutsOff s (sentryStamp d0) 0x06 false)) ∧ (¬ due → Passes (.sentryGateStuck e) s e)) ∧
    ((x.st = .on ∧ senNat s.dev 0x06 ≤ x.overUs → Does (.sentryOvercurrent e) s (CutsOff s (sentryStamp d0) 0x02 true)) ∧ (¬ (x.st = .on ∧ senNat s.dev 0x06 ≤ x.overUs) → Passes (.sentryOvercurrent e) s e)) ∧
    ((x.st = .on ∧ 20 ≤ x.ovUs → Does (.sentryOv e) s (CutsOff s (sentryStamp d0) 0x01 true)) ∧ (¬ (x.st = .on ∧ 20 ≤ x.ovUs) → Passes (.sentryOv e) s e)) ∧
    ((x.st = .on ∧ 20 ≤ x.uvUs → Does (.sentryUv e) s (CutsOff s (sentryStamp d0) 0x00 true)) ∧ (¬ (x.st = .on ∧ 20 ≤ x.uvUs) → Passes (.sentryUv e) s e)) ∧
    (∀ m, let m1 := measure d0 m; let ma := m.senseUv * 1000 / (senNat s.dev 0x0C : Int); let short := (senNat s.dev 0x07 : Int) < ma;
      Does (.sentrySample e m) s (fun d => d.sentry.us = x.us + 1 ∧ d.sentry.vinMv = m.vinMv ∧ d.sentry.voutMv = m.voutMv ∧ d.sentry.gateMv = m.gateMv ∧ d.sentry.iinMa = ma ∧
        d.sentry.deltaT = lag s.dev x.deltaT (((m.vinMv : Int) - m.voutMv) * ma) ∧
        d.sentry.ovUs = (if senNat s.dev 0x09 < m.vinMv then x.ovUs + 1 else 0) ∧ d.sentry.uvUs = (if m.vinMv < senNat s.dev 0x08 then x.uvUs + 1 else 0) ∧
        (x.st = .off ∨ x.st = .backoff → d.sentry.st = x.st ∧ d.quads = s.dev.quads)) ∧
      (x.st = .on → short → Does (.sentrySample e m) s (CutsOff s (sentryStamp m1) 0x03 true)) ∧
      (x.st = .on → ¬ short → isHot m1 = true → Does (.sentrySample e m) s (CutsOff s (sentryStamp m1) 0x05 true)) ∧
      (x.st = .starting → isHot m1 = true → Does (.sentrySample e m) s (CutsOff s (sentryStamp m1) 0x05 false)) ∧
      (∀ k, x.st = .on → ¬ short → isHot m1 = false → x.cut = some k → k ≤ 1 → x.stateUs < 59999999 → Does (.sentrySample e m) s (CutsOff s (sentryStamp m1) x.cutSource true)) ∧
      (x.st = .on → ¬ short → isHot m1 = false → x.cut = none → Does (.sentrySample e m) s fun d => d.sentry.st = .on ∧ (999 ≤ x.stateUs → d.sentry.pg = true ∧
        (x.pg = false → s.dev.start.stage = .sentry → d.start.stage = .rails)) ∧ (59999999 ≤ x.stateUs → d.sentry.n = 0))) ∧
    (∀ t : Int, -40 * 65536 ≤ t → t ≤ 150 * 65536 → Does (.tsnsReading e (some t)) s fun d => d.sentry = { x with anchor := t, margin := 0, tsns := t, validAt := some x.us } ∧ (d.fault 0x08).cause = false) ∧
    (∀ r : Option Int, (∀ t, r = some t → t < -40 * 65536 ∨ 150 * 65536 < t) → Does (.tsnsReading e r) s fun d => d.sentry.anchor = x.anchor ∧ d.sentry.validAt = x.validAt ∧ (d.fault 0x08).cause = true ∧
      (x.validAt = none → d.sentry.margin = 60 * 65536) ∧ (∀ v, x.validAt = some v → d.sentry.margin = ((min 60 ((x.us - v) / 1000000) * 65536 : Nat) : Int))) ∧
    ((x.cutDue = false → Passes (.controlledCut e) s e) ∧
      (x.cutDue = true → x.st = .on → x.cut = none → SentryBecomes (.controlledCut e) s e { x with cutDue := false, ewarn := true, ewarnHeld := true, cut := some (senNat s.dev 0x0B * 125) }) ∧
      (x.cutDue = true → x.st ≠ .on ∨ x.cut.isSome = true → SentryBecomes (.controlledCut e) s e { x with cutDue := false })) ∧
    (let due := x.st = .on ∧ x.ewarn = false ∧ 20 ≤ x.ewarnUs;
      (due → Does (.ewarnInput e) s fun d => d.sentry.ewarn = true ∧ (d.fault 0x09).cause = true) ∧ (¬ due → Passes (.ewarnInput e) s e)) ∧
    (let due := x.ewarn = true ∧ x.ewarnHeld = false ∧ 10000 ≤ x.ewarnOkUs;
      (due → Does (.ewarnNegate e) s fun d => d.sentry = { x with ewarn := false } ∧ (d.fault 0x09).cause = false ∧ d.cad.stopping = false ∧ d.cad.objects = s.dev.cad.objects ∧
        (s.dev.cad.stopping = true → d.cad.cleanStop = false)) ∧ (¬ due → Passes (.ewarnNegate e) s e)) ∧
    (let due := x.st = .backoff ∧ min (2 ^ (x.n - 1)) 60 * 1000000 ≤ x.stateUs;
      (due → vinInRange s.dev x.vinMv = true → StartBegins (.sentryBackoffEnd e) s e) ∧
      (due → vinInRange s.dev x.vinMv = false → SentryBecomes (.sentryBackoffEnd e) s e { x with st := .off, stateUs := 0 }) ∧ (¬ due → Passes (.sentryBackoffEnd e) s e)) ∧
    (let due := gateOff x = true ∧ x.fetShort = false ∧ 10000 ≤ x.shortUs;
      (due → Does (.sentryFetShort e) s fun d => d.sentry.fetShort = true ∧ (d.fault 0x07).cause = true) ∧ (¬ due → Passes (.sentryFetShort e) s e)) ∧
    (∀ pin, pin < 5 → x.hiz.length = 5 → tabWf 0 x.testUs = true →
      (let due := nth false x.hiz pin = false ∧ 10000 ≤ tabGet 0 x.contUs pin;
        (due → Does (.pinContention e pin) s fun d => nth false d.sentry.hiz pin = true ∧ (∀ k, k ≠ pin → nth false d.sentry.hiz k = nth false x.hiz k) ∧ (d.fault (if pin < 2 then 0x0A else 0x0B)).cause = true) ∧
        (¬ due → Passes (.pinContention e pin) s e)) ∧
      (let due := nth false x.hiz pin = true ∧ tabGet 0 x.testUs pin + 1000000 ≤ x.us;
        (due → Does (.pinTest e pin true) s (fun d => d.sentry.hiz = x.hiz ∧ tabGet 0 d.sentry.testUs pin = x.us ∧ d.faults = s.dev.faults) ∧
          Does (.pinTest e pin false) s (fun d => nth false d.sentry.hiz pin = false ∧ (∀ k, k ≠ pin → nth false d.sentry.hiz k = nth false x.hiz k) ∧
            ((∀ k, k < 5 → k ≠ pin → nth false x.hiz k = false) → (d.fault (if pin < 2 then 0x0A else 0x0B)).cause = false))) ∧
        (¬ due → ∀ b, Passes (.pinTest e pin b) s e))) ∧
    Does .powerOn s (fun d => d.sentry = { energyNj := x.energyNj, edgeNj := x.energyNj } ∧ d.start = {} ∧ d.legend = [] ∧ d.quads = [] ∧ d.parts = [] ∧ d.grat = {} ∧ d.faults = { log := s.dev.faults.log } ∧
      d.cad.objects = s.dev.cad.objects.filter (fun o => decide (o.st ≠ .writing)) ∧ d.part = s.dev.part)

/-- Contour loops follow hints, droops, holes and heat; dormant is entered, woken and left. A contour command of an unpowered loop only lets its moment pass; of a powered one it leaves the loop as its rule says, with clock and voltage set anew, the voltage at most 850 mV, and every other loop as before: a due hint or hint lead, a margin below DROOP_TRIP_MV (clock halved, 5 mV more), its recovery after 256 cycles, the end of a used hole, starvation after 16,384 ticks, a temperature. DORMANT_ENTER begins the entry or leaves its reason; its completion powers the compute dies off; WAKE_AT and WAKE take the first event; WAKE_COMPLETE is 200 ticks after it. Premises: canonical tables, writes executed. -/
def Obligations.ContourLoopsAndDormant : Prop :=
  ∀ (s : State), tabWf {} s.dev.contours = true → tabWf none s.dev.legend = true → tabWf {} s.dev.faults.sources = true →
    (∀ q : QuadAt, q.quad.toNat < quadsFitted s.dev → let n := q.quad.toNat; let d0 := s.dev.at q.e; let x := s.dev.quad n; let c := s.dev.contour n;
      (∀ y, (contourSet s.dev n y).voltageMv ≤ 850) ∧
      (c.powered = false → (∀ k l, Passes (.hintChange q k l) s q.e) ∧ (∀ mv, Passes (.droop ⟨q, mv⟩) s q.e) ∧ Passes (.droopRecovery q) s q.e ∧ (∀ k, Passes (.calibrationHoleEnd q k) s q.e) ∧
        Passes (.holeStarvation q) s q.e ∧ (∀ t, Passes (.thermalSample q t) s q.e)) ∧
      (c.powered = true →
        (∀ k phase r, sheetPhase d0 n = some phase → x.hints[k]? = some r →
          (hintAt x phase = some k → ContourBecomes (.hintChange q k false) s q { c with level := BitVec.ofNat 8 r.level, leadLevel := none, extraMv := 0 }) ∧
          (hintAt x phase ≠ some k → Passes (.hintChange q k false) s q.e) ∧
          (let place := (phase + legNat s.dev 0x8800 0x00) % (x.period * 4096);
            (hintAt x place = some k → ContourBecomes (.hintChange q k true) s q { c with leadLevel := some (BitVec.ofNat 8 r.level) }) ∧ (hintAt x place ≠ some k → Passes (.hintChange q k true) s q.e))) ∧
        (sheetPhase d0 n = none → ∀ k l, Passes (.hintChange q k l) s q.e) ∧
        (∀ mv : Int, ¬ mv < legNat s.dev 0x8800 0x03 → Passes (.droop ⟨q, mv⟩) s q.e) ∧
        (∀ mv : Int, mv < legNat s.dev 0x8800 0x03 → ContourBecomes (.droop ⟨q, mv⟩) s q { c with halved := true, extraMv := c.extraMv + 5, droops := c.droops + 1, droopCyc := q.cyc } ∧
          Does (.droop ⟨q, mv⟩) s (fun d => d.dormant = { s.dev.dormant with droops := s.dev.dormant.droops + 1 })) ∧
        (c.halved = true → c.droopCyc + 256 ≤ q.cyc → ContourBecomes (.droopRecovery q) s q { c with halved := false }) ∧
        (c.halved = false ∨ q.cyc < c.droopCyc + 256 → Passes (.droopRecovery q) s q.e) ∧
        (sheetOn x = false → ∀ k, (reached d0 (after c.holeEnd 1024) = true → ContourBecomes (.calibrationHoleEnd q k) s q { c with holeEnd := now d0, guarded := false }) ∧
          (reached d0 (after c.holeEnd 1024) = false → Passes (.calibrationHoleEnd q k) s q.e)) ∧
        (sheetOn x = true → ∀ k phase r, sheetPhase d0 n = some phase → x.holes[k]? = some r → let period := x.period * 4096; let since := (phase + period - (recStart r + r.len) % period) % period; let endAt := now d0 - BitVec.ofNat 60 since;
          (since < 4096 → before c.holeEnd endAt = true → before c.lastBusy (endAt - BitVec.ofNat 60 r.len) = true → (∀ u ∈ x.units, u = []) → ContourBecomes (.calibrationHoleEnd q k) s q { c with holeEnd := endAt, guarded := false }) ∧
          ((∃ u ∈ x.units, u ≠ []) ∨ before c.lastBusy (endAt - BitVec.ofNat 60 r.len) = false → Passes (.calibrationHoleEnd q k) s q.e)) ∧
        (let due := sheetOn x = true ∧ c.guarded = false ∧ reached d0 (after c.holeEnd 16384) = true;
          (due → ContourBecomes (.holeStarvation q) s q { c with guarded := true }) ∧ (¬ due → Passes (.holeStarvation q) s q.e)) ∧
        (∀ t : Int, let limit := (legNat s.dev 0x8800 0x04 : Int); let hot := decide (limit ≤ t) || (c.throttled && decide (limit - 5 ≤ t));
          ContourBecomes (.thermalSample q t) s q { c with tempC := t, throttled := hot } ∧
          (120 ≤ t → c.tempC < 120 → limit ≤ 120 → Does (.thermalSample q t) s fun d => (d.fault 0x24).cause = true)))) ∧
    (∀ e : Nat, let d0 := s.dev.at e; let o := s.dev.dormant;
      (OpenForWrites s e 0x8800 0x10 → let r := dormantRefusal d0;
        (r = 0 → Does (.dormantEnter e) s fun d => d.dormant.st = .entering ∧ d.dormant.enterAt = now d0 ∧ d.dormant.refusal = 0 ∧ d.dormant.wake = none ∧
          (∀ k, k < 3 → ethNat s.dev k 0x0B = 0 → (d.ethPort k).link = false) ∧ (ethMode s.dev = false → s.dev.pon.sleepAllowed = true → d.pon.sleepRequest = 1) ∧
          (ethMode s.dev = false → netUp s.dev = true → s.dev.pon.sleepAllowed = false → d.pon.sleepRefused = true ∧ d.pon.sleepRequest = s.dev.pon.sleepRequest)) ∧
        (r ≠ 0 → Does (.dormantEnter e) s fun d => d = { d0 with dormant := { o with refusal := r, lastEvent := if r = 4 then none else o.lastEvent } })) ∧
      (o.st ≠ .entering → Passes (.dormantEntryComplete e) s e) ∧
      (o.st = .entering → Does (.dormantEntryComplete e) s fun d => d.dormant = { o with st := .dormant } ∧ ∀ k, (d.contour k).powered = false ∧ (d.contour k).droops = (s.dev.contour k).droops) ∧
      (let w := BitVec.ofNat 60 (wakeAtNat s.dev); let due := wakeAtNat s.dev ≠ 0 ∧ dueNow s.dev (stampTick w) = true ∧ s.dev.grat.everLocked = true; let ev := ((3 : Byte), stampOf s.dev.grat.tick 0);
        (due → (o.st = .running → Does (.wakeAt e) s fun d => d = { d0 with dormant := { o with lastEvent := some ev, lastEventOrd := ordinal d0 } }) ∧
          ((o.st = .entering ∨ o.st = .dormant) → o.wake = none → Does (.wakeAt e) s fun d => d = { d0 with dormant := { o with wake := some ev } }) ∧
          ((o.st = .entering ∨ o.st = .dormant) → o.wake.isSome = true → Passes (.wakeAt e) s e)) ∧
        (¬ due → Passes (.wakeAt e) s e)) ∧
      (o.st = .dormant ∧ o.wake.isSome = true → Does (.wake e) s fun d => d.dormant = { o with st := .waking } ∧ wakeAtNat d = 0 ∧
        (∀ k, k < quadsFitted s.dev → (d.contour k).powered = true ∧ (d.contour k).voltageMv ≤ 850)) ∧
      (¬ (o.st = .dormant ∧ o.wake.isSome = true) → Passes (.wake e) s e) ∧
      (o.wake = none → Passes (.wakeComplete e) s e) ∧
      (∀ cause w, o.wake = some (cause, w) →
        (o.st = .waking → reached d0 (after w 200) = true → Does (.wakeComplete e) s fun d => d = { d0 with grat := { d0.grat with realignDue := true }, pon := { s.dev.pon with sleepRefused := false }, dormant := { o with st := .running, wake := none, lastWake := be 1 cause.toNat ++ zeros 7 ++ tickBytes w ++ tickBytes (after w 200) } }) ∧
        (o.st ≠ .waking ∨ reached d0 (after w 200) = false → Passes (.wakeComplete e) s e)))

/-- The fault collector raises, clears, injects, sets severities, halts and logs. A raise at severity 0 does nothing, at 1 only counts and records, at 2 or above sets the status and applies the greatest severity, a 3 of a device-attributed source as NOTIFY; the count stays at its greatest value. A clear takes only of a set source whose cause is gone and that was not raised at this stamp, of one source or of all; an injection within Table 16.5 inverts bits or spoils frames; SEVERITY takes the values its source may have; DEVICE_HALT when due halts the device and leaves no partition running; FAULT_LOG_PROGRAM programs the buffer. Not due or refused, they do nothing. Premises: canonical tables, writes executed. -/
def Obligations.FaultCollectorActs : Prop :=
  ∀ (s : State) (e : Nat), tabWf {} s.dev.faults.sources = true → tabWf none s.dev.legend = true → tabWf {} s.dev.quads = true → tabWf 0 s.dev.stackInj = true →
      tabWf {} s.dev.aksia.ports = true → tabWf {} s.dev.parts = true → let d0 := s.dev.at e; let f := s.dev.faults
    (∀ r : Raise, r.boot = none → r.src ≠ 0xF2 → let v := severityOf s.dev r.src; let x := s.dev.fault r.src; let y := (raise s.dev r).fault r.src
      (v = 0 → raise s.dev r = s.dev) ∧
      (v ≠ 0 → y.count = (if x.count = 0xFFFFFFFF#32 then x.count else x.count + 1) ∧ y.lastStamp = now s.dev ∧ y.cause = x.cause ∧ (∀ k, k ≠ r.src → k ≠ 0xF2 → (raise s.dev r).fault k = s.dev.fault k)) ∧
      (v = 1 → y.set = x.set ∧ y.applied = x.applied) ∧
      (2 ≤ v → v ≤ 5 → y.set = true ∧ y.applied.toNat = max x.applied.toNat (if v = 3 ∧ attribution r = .device then 2 else v))) ∧
    (∀ value : BitVec 16, OpenForWrites s e 0x9000 0x05 → let k := value.toNat
      (k ≠ 0x100 → (256 ≤ k ∨ sourceKnown k = false) → Passes (.clear e value) s e) ∧
      (k < 256 → sourceKnown k = true →
        (clearTakes d0 k = true → Does (.clear e value) s fun d => d.fault k = { s.dev.fault k with set := false, applied := 0 } ∧ (∀ j, j ≠ k → d.fault j = s.dev.fault j) ∧
          d.faults.first = (if f.first = some (BitVec.ofNat 8 k) then none else f.first) ∧ (f.first ≠ some (BitVec.ofNat 8 k) → d.faults.firstStamp = f.firstStamp ∧ d.faults.firstOrd = f.firstOrd)) ∧
        (clearTakes d0 k = false → Does (.clear e value) s fun d => d.faults = f)) ∧
      (k = 0x100 → Does (.clear e value) s fun d => ∀ j, j < 256 → (d.fault j).set = ((s.dev.fault j).set && !clearTakes d0 j) ∧ (d.fault j).count = (s.dev.fault j).count)) ∧
    (∀ r : Bytes, OpenForWrites s e 0x9000 0x06 →
      (r.length ≠ 16 ∨ injectOk s.dev r = false → Passes (.inject e r) s e) ∧
      (r.length = 16 → injectOk s.dev r = true → let unit := beAt 2 2 r; let addr := beAt 4 8 r; let target := beAt 0 1 r;
        Does (.inject e r) s fun d => d.faults = { f with injections := f.injections + 1 } ∧
          (target = 1 ∨ target = 2 → tabWf 0 (s.dev.quad unit).inj = true → tabGet 0 (d.quad unit).inj addr = beAt 1 1 r ∧ (∀ n, n ≠ unit → d.quad n = s.dev.quad n) ∧ d.stackInj = s.dev.stackInj) ∧
          (target = 3 → tabGet 0 d.stackInj (unit * 2 ^ 28 + addr) = beAt 1 1 r ∧ d.quads = s.dev.quads) ∧
          (target = 4 → d.port unit = { s.dev.port unit with badCrc := max (s.dev.port unit).badCrc (beAt 12 4 r) } ∧ d.quads = s.dev.quads ∧ d.stackInj = s.dev.stackInj))) ∧
    (∀ source value : Byte, OpenForWrites s e (0x9100 + source.toNat) 0x00 →
      (severityOk source.toNat value.toNat = true → Does (.severity e source value) s fun d => severityOf d source.toNat = value.toNat ∧ (∀ k, k < 256 → k ≠ source.toNat → severityOf d k = severityOf s.dev k) ∧ d.faults = f) ∧
      (severityOk source.toNat value.toNat = false → Passes (.severity e source value) s e)) ∧
    (f.haltDue = none → Passes (.deviceHalt e) s e) ∧
    (∀ t v, f.haltDue = some (t, v) →
      (reached d0 (t + 1) = false → held d0 = false → Passes (.deviceHalt e) s e) ∧
      (reached d0 (t + 1) = true ∨ held d0 = true → Does (.deviceHalt e) s fun d => d.faults.halted = true ∧
        (∀ p, p < 64 → (d.partition p).st = .free ∨ (d.partition p).st = .stopped ∨ (d.partition p).st = .handedOver))) ∧
    (s.dev.cad.mounted = true → s.dev.cad.stopping = false → Does (.faultLogProgram e) s fun d => d = { d0 with faults := { f with log := d.faults.log, buffer := [] } } ∧
      d.faults.log.length ≤ 262144 ∧ ((f.log ++ f.buffer).length ≤ 262144 → d.faults.log = f.log ++ f.buffer)) ∧
    (s.dev.cad.mounted = false ∨ s.dev.cad.stopping = true → Passes (.faultLogProgram e) s e)

/-- Start-up: reset, boot rounds, training, calibration, the start-up object, sweeps, EXTEST. With the rails in range and PG_N asserted reset is released and ROM begins; a boot round runs the first image whose checks all hold and enters MOUNT, or counts a failed round, whose back-off ends after min(2^(n-1), 32) s; a stack trains or backs off; a quad's curve is written once, a quad without 1,600 MHz marked failed; the start-up object's outcome is noted and SYNC begins; a sweep that may start starts, completes with its result and is aborted, the result standing where the abort has its stamp; EXTEST drives the lands in ROM only. Out of their stage they only let the moment pass. Premises: canonical tables, writes executed. -/
def Obligations.StartUpProceeds : Prop :=
  ∀ (s : State) (e : Nat), tabWf {} s.dev.start.stackTrain = true → tabWf [] s.dev.start.curves = true → tabWf {} s.dev.quads = true → let d0 := s.dev.at e; let b := s.dev.start; let w := s.dev.start.sweep
    (let due := b.stage = .rails ∧ s.dev.sentry.pg = true;
      (due → Does (.railsInRange e) s fun d => d.start.stage = .rom ∧ d.start.released = true ∧ d.grat.e = 0 ∧ d.cad = s.dev.cad) ∧ (¬ due → Passes (.railsInRange e) s e)) ∧
    (b.stage ≠ .rom ∨ b.roundAt.isSome = true → ∀ ok, Passes (.bootRound e ok) s e) ∧
    (b.stage = .rom → b.roundAt = none →
      Does (.bootRound e false) s (fun d => d = { d0 with start := { b with bootNext := 0xFF, rounds := b.rounds + 1, roundAt := some (releaseUs d0), roundReject := 0 } }) ∧
      (∀ a rest img, candidates_ d0 b.bootNext = a :: rest → bootImage d0 a = some img → imageFailures s.fuses img = [] → Does (.bootRound e true) s fun d =>
        d.start.stage = .mount ∧ d.start.bootArea = BitVec.ofNat 8 a ∧ d.start.bootNext = 0xFF ∧ d.start.bootRounds = BitVec.ofNat 32 b.rounds ∧ d.sec.keyset = BitVec.ofNat 2 (beAt 6 1 img) ∧
          d.sec.imageVersion = BitVec.ofNat 6 (beAt 7 1 img) ∧ d.part.firmware = BitVec.ofNat 32 (beAt 8 4 img) ∧ d.jtag.driving = false ∧ d.sentry.unreported = 0 ∧ d.cad = s.dev.cad) ∧
      ((∀ a ∈ candidates_ d0 b.bootNext, ∀ img, bootImage d0 a = some img → imageFailures s.fuses img ≠ []) → Does (.bootRound e true) s fun d =>
        d.start.stage = .rom ∧ d.start.bootNext = 0xFF ∧ d.start.rounds = b.rounds + 1 ∧ d.start.roundAt.isSome = true ∧ d.part = s.dev.part ∧ d.cad = s.dev.cad)) ∧
    (b.roundAt = none → Passes (.bootRoundBackoffEnd e) s e) ∧
    (∀ t, b.roundAt = some t →
      (t + min (2 ^ (b.rounds - 1)) 32 * 1000000 ≤ releaseUs d0 → Does (.bootRoundBackoffEnd e) s fun d => d = { d0 with start := { b with roundAt := none } }) ∧
      (releaseUs d0 < t + min (2 ^ (b.rounds - 1)) 32 * 1000000 → Passes (.bootRoundBackoffEnd e) s e)) ∧
    (∀ k, k < stacksFitted s.dev → let y := stackOf s.dev k; let due := b.stage = .train ∧ (y.st = 1 ∨ (y.st = 3 ∧ y.since + min (2 ^ (y.failed - 1)) 32 * 1000000 ≤ releaseUs d0));
      (due → Does (.stackTrainingAttempt e k true) s (fun d => stackOf d k = { st := 2 } ∧ (∀ j, j ≠ k → stackOf d j = stackOf s.dev j) ∧
          d.start.stage = (if (∀ j, j < stacksFitted s.dev → j ≠ k → (stackOf s.dev j).st = 2) ∧ (∀ j, j < quadsFitted s.dev → j ∈ b.calibrated) then .config else .train)) ∧
        Does (.stackTrainingAttempt e k false) s (fun d => stackOf d k = { st := 3, failed := y.failed + 1, since := releaseUs d0 } ∧ d.start.stage = .train)) ∧
      (¬ due → ∀ ok, Passes (.stackTrainingAttempt e k ok) s e)) ∧
    (∀ (quad : BitVec 8) passMv, quad.toNat < quadsFitted s.dev → let q := quad.toNat; let due := b.stage = .train ∧ q ∉ b.calibrated;
      (due → Does (.quadCalibration e quad passMv) s fun d => d.start.calibrated = b.calibrated ++ [q] ∧ tabGet [] d.start.curves q = curvePoints s.dev passMv ∧
        (nth none passMv 7 = none → (d.quad q).st = .failed) ∧ ∀ j, j ≠ q → tabGet [] d.start.curves j = tabGet [] b.curves j) ∧
      (¬ due → Passes (.quadCalibration e quad passMv) s e)) ∧
    (b.stage ≠ .config → Passes (.startupObjectApply e) s e) ∧
    (b.stage = .config →
      (startupObject s.dev = none → Does (.startupObjectApply e) s fun d => d.start.stage = .sync ∧ d.start.startupResult = startResult 0 0 0) ∧
      (∀ o, startupObject s.dev = some o →
        (o.st = .damaged → Does (.startupObjectApply e) s fun d => d.start.stage = .sync ∧ d.start.startupResult = startResult 2 0xFFFF 0 ∧ d.start.heldRuns = b.heldRuns) ∧
        (o.st ≠ .damaged →
          (∀ n code, startJudge s.fuses d0 (objectBytes o 0 o.size).1 = .inl (n, code) → Does (.startupObjectApply e) s fun d => d.start.stage = .sync ∧ d.start.startupResult = startResult 2 n code ∧ d.start.heldRuns = b.heldRuns) ∧
          (∀ ws runs, startJudge s.fuses d0 (objectBytes o 0 o.size).1 = .inr (ws, runs) → ∃ t, exec (.startupObjectApply e) s = .next t ∧ t.dev.start.stage = .sync ∧ t.dev.start.startupResult = startResult 1 0 0 ∧ t.dev.start.heldRuns = runs)))) ∧
    (∀ c : Bytes, OpenForWrites s e 0xF030 0x00 →
      (let y := { w with st := 1, kind := nth 0 c 0, flags := nth 0 c 1, unit := BitVec.ofNat 16 (beAt 2 2 c), startAt := now d0, endAt := 0, result := [] };
        (c.length = 16 → sweepOk d0 c = true → (nth 0 c 0 = 1 → StartBecomes (.laneSweep e c) s e { b with sweep := y }) ∧ (nth 0 c 0 = 2 → StartBecomes (.stackSweep e c) s e { b with sweep := y }) ∧
          (nth 0 c 0 = 3 → StartBecomes (.coreSweep e c) s e { b with sweep := y }))) ∧
      (c.length ≠ 16 ∨ sweepOk d0 c = false → Passes (.laneSweep e c) s e ∧ Passes (.stackSweep e c) s e ∧ Passes (.coreSweep e c) s e)) ∧
    (OpenForWrites s e 0xF030 0x01 → (w.st = 1 → StartBecomes (.sweepAbort e) s e { b with sweep := { w with st := 3, endAt := now d0, endOrd := ordinal d0 } }) ∧
      (w.st = 2 → StartBecomes (.sweepAbort e) s e { b with sweep := { w with st := 4 } }) ∧ (w.st ≠ 1 → w.st ≠ 2 → StartBecomes (.sweepAbort e) s e b)) ∧
    (∀ r, let late := w.st = 3 ∧ w.endAt = now d0 ∧ w.endOrd = ordinal d0; let due := (w.st = 1 ∨ late) ∧ sweepOver d0 = true;
      (due → Does (.sweepComplete e r) s fun d => d.start.sweep = { w with st := if w.st = 1 then 2 else 4, endAt := now d0, result := fit (sweepResultLen w.kind.toNat) r } ∧
        (w.kind = 3 → bitsAt 0 1 w.flags.toNat = 1 → tabGet [] d.start.curves w.unit.toNat = (chunks 2 10 (fit 20 r)).map fun p => BitVec.ofNat 16 (beVal p))) ∧
      (¬ due → Passes (.sweepComplete e r) s e)) ∧
    (∀ cells, (b.stage = .rom → Does (.extest cells) s fun d => d = { s.dev with jtag := { ir := 0x00, boundary := cells, driving := true } }) ∧
      (b.stage ≠ .rom → Does (.extest cells) s fun d => d = { s.dev with jtag := { s.dev.jtag with ir := 0x3F, boundary := [], driving := false } }))
end

