-- ==== Sys2Proof/Laws/State.lean ====
section
/-! SUPPORT. What each one-field update of the device leaves: one equation for each field, all by computation. -/

namespace Sys2Proof.Machine

variable (d : Dev) (s : State)

@[simp] theorem State.withDev_pending : (s.withDev d).pending = s.pending := rfl
@[simp] theorem State.withDev_fuses : (s.withDev d).fuses = s.fuses := rfl
@[simp] theorem State.withDev_dev : (s.withDev d).dev = d := rfl
@[simp] theorem State.withDev_withDev (d' : Dev) : (s.withDev d).withDev d' = s.withDev d' := rfl

/-! ## Dev.at -/

@[simp] theorem Dev.at_part (e : Nat) : (d.at e).part = d.part := rfl
@[simp] theorem Dev.at_quads (e : Nat) : (d.at e).quads = d.quads := rfl
@[simp] theorem Dev.at_contours (e : Nat) : (d.at e).contours = d.contours := rfl
@[simp] theorem Dev.at_parts (e : Nat) : (d.at e).parts = d.parts := rfl
@[simp] theorem Dev.at_partTx (e : Nat) : (d.at e).partTx = d.partTx := rfl
@[simp] theorem Dev.at_strips (e : Nat) : (d.at e).strips = d.strips := rfl
@[simp] theorem Dev.at_stripTx (e : Nat) : (d.at e).stripTx = d.stripTx := rfl
@[simp] theorem Dev.at_sched (e : Nat) : (d.at e).sched = d.sched := rfl
@[simp] theorem Dev.at_pon (e : Nat) : (d.at e).pon = d.pon := rfl
@[simp] theorem Dev.at_aksia (e : Nat) : (d.at e).aksia = d.aksia := rfl
@[simp] theorem Dev.at_key (e : Nat) : (d.at e).key = d.key := rfl
@[simp] theorem Dev.at_eth (e : Nat) : (d.at e).eth = d.eth := rfl
@[simp] theorem Dev.at_sec (e : Nat) : (d.at e).sec = d.sec := rfl
@[simp] theorem Dev.at_ez (e : Nat) : (d.at e).ez = d.ez := rfl
@[simp] theorem Dev.at_cad (e : Nat) : (d.at e).cad = d.cad := rfl
@[simp] theorem Dev.at_sentry (e : Nat) : (d.at e).sentry = d.sentry := rfl
@[simp] theorem Dev.at_dormant (e : Nat) : (d.at e).dormant = d.dormant := rfl
@[simp] theorem Dev.at_faults (e : Nat) : (d.at e).faults = d.faults := rfl
@[simp] theorem Dev.at_start (e : Nat) : (d.at e).start = d.start := rfl
@[simp] theorem Dev.at_jtag (e : Nat) : (d.at e).jtag = d.jtag := rfl
@[simp] theorem Dev.at_cim (e : Nat) : (d.at e).cim = d.cim := rfl
@[simp] theorem Dev.at_bearing (e : Nat) : (d.at e).bearing = d.bearing := rfl
@[simp] theorem Dev.at_notices (e : Nat) : (d.at e).notices = d.notices := rfl
@[simp] theorem Dev.at_stackMem (e : Nat) : (d.at e).stackMem = d.stackMem := rfl
@[simp] theorem Dev.at_stackInj (e : Nat) : (d.at e).stackInj = d.stackInj := rfl
@[simp] theorem Dev.at_legend (e : Nat) : (d.at e).legend = d.legend := rfl
@[simp] theorem Dev.at_changes (e : Nat) : (d.at e).changes = d.changes := rfl
@[simp] theorem Dev.at_handed (e : Nat) : (d.at e).handed = d.handed := rfl
@[simp] theorem Dev.at_wire (e : Nat) : (d.at e).wire = d.wire := rfl
@[simp] theorem Dev.at_free (e : Nat) : (d.at e).free = d.free := rfl
@[simp] theorem Dev.at_entropy (e : Nat) : (d.at e).entropy = d.entropy := rfl
@[simp] theorem Dev.at_legVal (e : Nat) (ix sb : Nat) : legVal (d.at e) ix sb = legVal d ix sb := rfl

/-! ## Dev.setQuad -/

@[simp] theorem Dev.setQuad_part (n : Nat) (x : Quad) : (d.setQuad n x).part = d.part := rfl
@[simp] theorem Dev.setQuad_grat (n : Nat) (x : Quad) : (d.setQuad n x).grat = d.grat := rfl
@[simp] theorem Dev.setQuad_contours (n : Nat) (x : Quad) : (d.setQuad n x).contours = d.contours := rfl
@[simp] theorem Dev.setQuad_parts (n : Nat) (x : Quad) : (d.setQuad n x).parts = d.parts := rfl
@[simp] theorem Dev.setQuad_partTx (n : Nat) (x : Quad) : (d.setQuad n x).partTx = d.partTx := rfl
@[simp] theorem Dev.setQuad_strips (n : Nat) (x : Quad) : (d.setQuad n x).strips = d.strips := rfl
@[simp] theorem Dev.setQuad_stripTx (n : Nat) (x : Quad) : (d.setQuad n x).stripTx = d.stripTx := rfl
@[simp] theorem Dev.setQuad_sched (n : Nat) (x : Quad) : (d.setQuad n x).sched = d.sched := rfl
@[simp] theorem Dev.setQuad_pon (n : Nat) (x : Quad) : (d.setQuad n x).pon = d.pon := rfl
@[simp] theorem Dev.setQuad_aksia (n : Nat) (x : Quad) : (d.setQuad n x).aksia = d.aksia := rfl
@[simp] theorem Dev.setQuad_key (n : Nat) (x : Quad) : (d.setQuad n x).key = d.key := rfl
@[simp] theorem Dev.setQuad_eth (n : Nat) (x : Quad) : (d.setQuad n x).eth = d.eth := rfl
@[simp] theorem Dev.setQuad_sec (n : Nat) (x : Quad) : (d.setQuad n x).sec = d.sec := rfl
@[simp] theorem Dev.setQuad_ez (n : Nat) (x : Quad) : (d.setQuad n x).ez = d.ez := rfl
@[simp] theorem Dev.setQuad_cad (n : Nat) (x : Quad) : (d.setQuad n x).cad = d.cad := rfl
@[simp] theorem Dev.setQuad_sentry (n : Nat) (x : Quad) : (d.setQuad n x).sentry = d.sentry := rfl
@[simp] theorem Dev.setQuad_dormant (n : Nat) (x : Quad) : (d.setQuad n x).dormant = d.dormant := rfl
@[simp] theorem Dev.setQuad_faults (n : Nat) (x : Quad) : (d.setQuad n x).faults = d.faults := rfl
@[simp] theorem Dev.setQuad_start (n : Nat) (x : Quad) : (d.setQuad n x).start = d.start := rfl
@[simp] theorem Dev.setQuad_jtag (n : Nat) (x : Quad) : (d.setQuad n x).jtag = d.jtag := rfl
@[simp] theorem Dev.setQuad_cim (n : Nat) (x : Quad) : (d.setQuad n x).cim = d.cim := rfl
@[simp] theorem Dev.setQuad_bearing (n : Nat) (x : Quad) : (d.setQuad n x).bearing = d.bearing := rfl
@[simp] theorem Dev.setQuad_notices (n : Nat) (x : Quad) : (d.setQuad n x).notices = d.notices := rfl
@[simp] theorem Dev.setQuad_stackMem (n : Nat) (x : Quad) : (d.setQuad n x).stackMem = d.stackMem := rfl
@[simp] theorem Dev.setQuad_stackInj (n : Nat) (x : Quad) : (d.setQuad n x).stackInj = d.stackInj := rfl
@[simp] theorem Dev.setQuad_legend (n : Nat) (x : Quad) : (d.setQuad n x).legend = d.legend := rfl
@[simp] theorem Dev.setQuad_changes (n : Nat) (x : Quad) : (d.setQuad n x).changes = d.changes := rfl
@[simp] theorem Dev.setQuad_handed (n : Nat) (x : Quad) : (d.setQuad n x).handed = d.handed := rfl
@[simp] theorem Dev.setQuad_wire (n : Nat) (x : Quad) : (d.setQuad n x).wire = d.wire := rfl
@[simp] theorem Dev.setQuad_free (n : Nat) (x : Quad) : (d.setQuad n x).free = d.free := rfl
@[simp] theorem Dev.setQuad_entropy (n : Nat) (x : Quad) : (d.setQuad n x).entropy = d.entropy := rfl
@[simp] theorem Dev.setQuad_now (n : Nat) (x : Quad) : now (d.setQuad n x) = now d := rfl
@[simp] theorem Dev.setQuad_legVal (n : Nat) (x : Quad) (ix sb : Nat) : legVal (d.setQuad n x) ix sb = legVal d ix sb := rfl

/-! ## Dev.setContour -/

@[simp] theorem Dev.setContour_part (n : Nat) (x : Contour) : (d.setContour n x).part = d.part := rfl
@[simp] theorem Dev.setContour_grat (n : Nat) (x : Contour) : (d.setContour n x).grat = d.grat := rfl
@[simp] theorem Dev.setContour_quads (n : Nat) (x : Contour) : (d.setContour n x).quads = d.quads := rfl
@[simp] theorem Dev.setContour_parts (n : Nat) (x : Contour) : (d.setContour n x).parts = d.parts := rfl
@[simp] theorem Dev.setContour_partTx (n : Nat) (x : Contour) : (d.setContour n x).partTx = d.partTx := rfl
@[simp] theorem Dev.setContour_strips (n : Nat) (x : Contour) : (d.setContour n x).strips = d.strips := rfl
@[simp] theorem Dev.setContour_stripTx (n : Nat) (x : Contour) : (d.setContour n x).stripTx = d.stripTx := rfl
@[simp] theorem Dev.setContour_sched (n : Nat) (x : Contour) : (d.setContour n x).sched = d.sched := rfl
@[simp] theorem Dev.setContour_pon (n : Nat) (x : Contour) : (d.setContour n x).pon = d.pon := rfl
@[simp] theorem Dev.setContour_aksia (n : Nat) (x : Contour) : (d.setContour n x).aksia = d.aksia := rfl
@[simp] theorem Dev.setContour_key (n : Nat) (x : Contour) : (d.setContour n x).key = d.key := rfl
@[simp] theorem Dev.setContour_eth (n : Nat) (x : Contour) : (d.setContour n x).eth = d.eth := rfl
@[simp] theorem Dev.setContour_sec (n : Nat) (x : Contour) : (d.setContour n x).sec = d.sec := rfl
@[simp] theorem Dev.setContour_ez (n : Nat) (x : Contour) : (d.setContour n x).ez = d.ez := rfl
@[simp] theorem Dev.setContour_cad (n : Nat) (x : Contour) : (d.setContour n x).cad = d.cad := rfl
@[simp] theorem Dev.setContour_sentry (n : Nat) (x : Contour) : (d.setContour n x).sentry = d.sentry := rfl
@[simp] theorem Dev.setContour_dormant (n : Nat) (x : Contour) : (d.setContour n x).dormant = d.dormant := rfl
@[simp] theorem Dev.setContour_faults (n : Nat) (x : Contour) : (d.setContour n x).faults = d.faults := rfl
@[simp] theorem Dev.setContour_start (n : Nat) (x : Contour) : (d.setContour n x).start = d.start := rfl
@[simp] theorem Dev.setContour_jtag (n : Nat) (x : Contour) : (d.setContour n x).jtag = d.jtag := rfl
@[simp] theorem Dev.setContour_cim (n : Nat) (x : Contour) : (d.setContour n x).cim = d.cim := rfl
@[simp] theorem Dev.setContour_bearing (n : Nat) (x : Contour) : (d.setContour n x).bearing = d.bearing := rfl
@[simp] theorem Dev.setContour_notices (n : Nat) (x : Contour) : (d.setContour n x).notices = d.notices := rfl
@[simp] theorem Dev.setContour_stackMem (n : Nat) (x : Contour) : (d.setContour n x).stackMem = d.stackMem := rfl
@[simp] theorem Dev.setContour_stackInj (n : Nat) (x : Contour) : (d.setContour n x).stackInj = d.stackInj := rfl
@[simp] theorem Dev.setContour_legend (n : Nat) (x : Contour) : (d.setContour n x).legend = d.legend := rfl
@[simp] theorem Dev.setContour_changes (n : Nat) (x : Contour) : (d.setContour n x).changes = d.changes := rfl
@[simp] theorem Dev.setContour_handed (n : Nat) (x : Contour) : (d.setContour n x).handed = d.handed := rfl
@[simp] theorem Dev.setContour_wire (n : Nat) (x : Contour) : (d.setContour n x).wire = d.wire := rfl
@[simp] theorem Dev.setContour_free (n : Nat) (x : Contour) : (d.setContour n x).free = d.free := rfl
@[simp] theorem Dev.setContour_entropy (n : Nat) (x : Contour) : (d.setContour n x).entropy = d.entropy := rfl
@[simp] theorem Dev.setContour_now (n : Nat) (x : Contour) : now (d.setContour n x) = now d := rfl
@[simp] theorem Dev.setContour_legVal (n : Nat) (x : Contour) (ix sb : Nat) : legVal (d.setContour n x) ix sb = legVal d ix sb := rfl

/-! ## Dev.setPartition -/

@[simp] theorem Dev.setPartition_part (n : Nat) (x : Partition) : (d.setPartition n x).part = d.part := rfl
@[simp] theorem Dev.setPartition_grat (n : Nat) (x : Partition) : (d.setPartition n x).grat = d.grat := rfl
@[simp] theorem Dev.setPartition_quads (n : Nat) (x : Partition) : (d.setPartition n x).quads = d.quads := rfl
@[simp] theorem Dev.setPartition_contours (n : Nat) (x : Partition) : (d.setPartition n x).contours = d.contours := rfl
@[simp] theorem Dev.setPartition_partTx (n : Nat) (x : Partition) : (d.setPartition n x).partTx = d.partTx := rfl
@[simp] theorem Dev.setPartition_strips (n : Nat) (x : Partition) : (d.setPartition n x).strips = d.strips := rfl
@[simp] theorem Dev.setPartition_stripTx (n : Nat) (x : Partition) : (d.setPartition n x).stripTx = d.stripTx := rfl
@[simp] theorem Dev.setPartition_sched (n : Nat) (x : Partition) : (d.setPartition n x).sched = d.sched := rfl
@[simp] theorem Dev.setPartition_pon (n : Nat) (x : Partition) : (d.setPartition n x).pon = d.pon := rfl
@[simp] theorem Dev.setPartition_aksia (n : Nat) (x : Partition) : (d.setPartition n x).aksia = d.aksia := rfl
@[simp] theorem Dev.setPartition_key (n : Nat) (x : Partition) : (d.setPartition n x).key = d.key := rfl
@[simp] theorem Dev.setPartition_eth (n : Nat) (x : Partition) : (d.setPartition n x).eth = d.eth := rfl
@[simp] theorem Dev.setPartition_sec (n : Nat) (x : Partition) : (d.setPartition n x).sec = d.sec := rfl
@[simp] theorem Dev.setPartition_ez (n : Nat) (x : Partition) : (d.setPartition n x).ez = d.ez := rfl
@[simp] theorem Dev.setPartition_cad (n : Nat) (x : Partition) : (d.setPartition n x).cad = d.cad := rfl
@[simp] theorem Dev.setPartition_sentry (n : Nat) (x : Partition) : (d.setPartition n x).sentry = d.sentry := rfl
@[simp] theorem Dev.setPartition_dormant (n : Nat) (x : Partition) : (d.setPartition n x).dormant = d.dormant := rfl
@[simp] theorem Dev.setPartition_faults (n : Nat) (x : Partition) : (d.setPartition n x).faults = d.faults := rfl
@[simp] theorem Dev.setPartition_start (n : Nat) (x : Partition) : (d.setPartition n x).start = d.start := rfl
@[simp] theorem Dev.setPartition_jtag (n : Nat) (x : Partition) : (d.setPartition n x).jtag = d.jtag := rfl
@[simp] theorem Dev.setPartition_cim (n : Nat) (x : Partition) : (d.setPartition n x).cim = d.cim := rfl
@[simp] theorem Dev.setPartition_bearing (n : Nat) (x : Partition) : (d.setPartition n x).bearing = d.bearing := rfl
@[simp] theorem Dev.setPartition_notices (n : Nat) (x : Partition) : (d.setPartition n x).notices = d.notices := rfl
@[simp] theorem Dev.setPartition_stackMem (n : Nat) (x : Partition) : (d.setPartition n x).stackMem = d.stackMem := rfl
@[simp] theorem Dev.setPartition_stackInj (n : Nat) (x : Partition) : (d.setPartition n x).stackInj = d.stackInj := rfl
@[simp] theorem Dev.setPartition_legend (n : Nat) (x : Partition) : (d.setPartition n x).legend = d.legend := rfl
@[simp] theorem Dev.setPartition_changes (n : Nat) (x : Partition) : (d.setPartition n x).changes = d.changes := rfl
@[simp] theorem Dev.setPartition_handed (n : Nat) (x : Partition) : (d.setPartition n x).handed = d.handed := rfl
@[simp] theorem Dev.setPartition_wire (n : Nat) (x : Partition) : (d.setPartition n x).wire = d.wire := rfl
@[simp] theorem Dev.setPartition_free (n : Nat) (x : Partition) : (d.setPartition n x).free = d.free := rfl
@[simp] theorem Dev.setPartition_entropy (n : Nat) (x : Partition) : (d.setPartition n x).entropy = d.entropy := rfl
@[simp] theorem Dev.setPartition_now (n : Nat) (x : Partition) : now (d.setPartition n x) = now d := rfl
@[simp] theorem Dev.setPartition_legVal (n : Nat) (x : Partition) (ix sb : Nat) : legVal (d.setPartition n x) ix sb = legVal d ix sb := rfl

/-! ## Dev.setPtx -/

@[simp] theorem Dev.setPtx_part (n : Nat) (x : PartTx) : (d.setPtx n x).part = d.part := rfl
@[simp] theorem Dev.setPtx_grat (n : Nat) (x : PartTx) : (d.setPtx n x).grat = d.grat := rfl
@[simp] theorem Dev.setPtx_quads (n : Nat) (x : PartTx) : (d.setPtx n x).quads = d.quads := rfl
@[simp] theorem Dev.setPtx_contours (n : Nat) (x : PartTx) : (d.setPtx n x).contours = d.contours := rfl
@[simp] theorem Dev.setPtx_parts (n : Nat) (x : PartTx) : (d.setPtx n x).parts = d.parts := rfl
@[simp] theorem Dev.setPtx_strips (n : Nat) (x : PartTx) : (d.setPtx n x).strips = d.strips := rfl
@[simp] theorem Dev.setPtx_stripTx (n : Nat) (x : PartTx) : (d.setPtx n x).stripTx = d.stripTx := rfl
@[simp] theorem Dev.setPtx_sched (n : Nat) (x : PartTx) : (d.setPtx n x).sched = d.sched := rfl
@[simp] theorem Dev.setPtx_pon (n : Nat) (x : PartTx) : (d.setPtx n x).pon = d.pon := rfl
@[simp] theorem Dev.setPtx_aksia (n : Nat) (x : PartTx) : (d.setPtx n x).aksia = d.aksia := rfl
@[simp] theorem Dev.setPtx_key (n : Nat) (x : PartTx) : (d.setPtx n x).key = d.key := rfl
@[simp] theorem Dev.setPtx_eth (n : Nat) (x : PartTx) : (d.setPtx n x).eth = d.eth := rfl
@[simp] theorem Dev.setPtx_sec (n : Nat) (x : PartTx) : (d.setPtx n x).sec = d.sec := rfl
@[simp] theorem Dev.setPtx_ez (n : Nat) (x : PartTx) : (d.setPtx n x).ez = d.ez := rfl
@[simp] theorem Dev.setPtx_cad (n : Nat) (x : PartTx) : (d.setPtx n x).cad = d.cad := rfl
@[simp] theorem Dev.setPtx_sentry (n : Nat) (x : PartTx) : (d.setPtx n x).sentry = d.sentry := rfl
@[simp] theorem Dev.setPtx_dormant (n : Nat) (x : PartTx) : (d.setPtx n x).dormant = d.dormant := rfl
@[simp] theorem Dev.setPtx_faults (n : Nat) (x : PartTx) : (d.setPtx n x).faults = d.faults := rfl
@[simp] theorem Dev.setPtx_start (n : Nat) (x : PartTx) : (d.setPtx n x).start = d.start := rfl
@[simp] theorem Dev.setPtx_jtag (n : Nat) (x : PartTx) : (d.setPtx n x).jtag = d.jtag := rfl
@[simp] theorem Dev.setPtx_cim (n : Nat) (x : PartTx) : (d.setPtx n x).cim = d.cim := rfl
@[simp] theorem Dev.setPtx_bearing (n : Nat) (x : PartTx) : (d.setPtx n x).bearing = d.bearing := rfl
@[simp] theorem Dev.setPtx_notices (n : Nat) (x : PartTx) : (d.setPtx n x).notices = d.notices := rfl
@[simp] theorem Dev.setPtx_stackMem (n : Nat) (x : PartTx) : (d.setPtx n x).stackMem = d.stackMem := rfl
@[simp] theorem Dev.setPtx_stackInj (n : Nat) (x : PartTx) : (d.setPtx n x).stackInj = d.stackInj := rfl
@[simp] theorem Dev.setPtx_legend (n : Nat) (x : PartTx) : (d.setPtx n x).legend = d.legend := rfl
@[simp] theorem Dev.setPtx_changes (n : Nat) (x : PartTx) : (d.setPtx n x).changes = d.changes := rfl
@[simp] theorem Dev.setPtx_handed (n : Nat) (x : PartTx) : (d.setPtx n x).handed = d.handed := rfl
@[simp] theorem Dev.setPtx_wire (n : Nat) (x : PartTx) : (d.setPtx n x).wire = d.wire := rfl
@[simp] theorem Dev.setPtx_free (n : Nat) (x : PartTx) : (d.setPtx n x).free = d.free := rfl
@[simp] theorem Dev.setPtx_entropy (n : Nat) (x : PartTx) : (d.setPtx n x).entropy = d.entropy := rfl
@[simp] theorem Dev.setPtx_now (n : Nat) (x : PartTx) : now (d.setPtx n x) = now d := rfl
@[simp] theorem Dev.setPtx_legVal (n : Nat) (x : PartTx) (ix sb : Nat) : legVal (d.setPtx n x) ix sb = legVal d ix sb := rfl

/-! ## Dev.setStrip -/

@[simp] theorem Dev.setStrip_part (n : Nat) (x : Strip) : (d.setStrip n x).part = d.part := rfl
@[simp] theorem Dev.setStrip_grat (n : Nat) (x : Strip) : (d.setStrip n x).grat = d.grat := rfl
@[simp] theorem Dev.setStrip_quads (n : Nat) (x : Strip) : (d.setStrip n x).quads = d.quads := rfl
@[simp] theorem Dev.setStrip_contours (n : Nat) (x : Strip) : (d.setStrip n x).contours = d.contours := rfl
@[simp] theorem Dev.setStrip_parts (n : Nat) (x : Strip) : (d.setStrip n x).parts = d.parts := rfl
@[simp] theorem Dev.setStrip_partTx (n : Nat) (x : Strip) : (d.setStrip n x).partTx = d.partTx := rfl
@[simp] theorem Dev.setStrip_stripTx (n : Nat) (x : Strip) : (d.setStrip n x).stripTx = d.stripTx := rfl
@[simp] theorem Dev.setStrip_sched (n : Nat) (x : Strip) : (d.setStrip n x).sched = d.sched := rfl
@[simp] theorem Dev.setStrip_pon (n : Nat) (x : Strip) : (d.setStrip n x).pon = d.pon := rfl
@[simp] theorem Dev.setStrip_aksia (n : Nat) (x : Strip) : (d.setStrip n x).aksia = d.aksia := rfl
@[simp] theorem Dev.setStrip_key (n : Nat) (x : Strip) : (d.setStrip n x).key = d.key := rfl
@[simp] theorem Dev.setStrip_eth (n : Nat) (x : Strip) : (d.setStrip n x).eth = d.eth := rfl
@[simp] theorem Dev.setStrip_sec (n : Nat) (x : Strip) : (d.setStrip n x).sec = d.sec := rfl
@[simp] theorem Dev.setStrip_ez (n : Nat) (x : Strip) : (d.setStrip n x).ez = d.ez := rfl
@[simp] theorem Dev.setStrip_cad (n : Nat) (x : Strip) : (d.setStrip n x).cad = d.cad := rfl
@[simp] theorem Dev.setStrip_sentry (n : Nat) (x : Strip) : (d.setStrip n x).sentry = d.sentry := rfl
@[simp] theorem Dev.setStrip_dormant (n : Nat) (x : Strip) : (d.setStrip n x).dormant = d.dormant := rfl
@[simp] theorem Dev.setStrip_faults (n : Nat) (x : Strip) : (d.setStrip n x).faults = d.faults := rfl
@[simp] theorem Dev.setStrip_start (n : Nat) (x : Strip) : (d.setStrip n x).start = d.start := rfl
@[simp] theorem Dev.setStrip_jtag (n : Nat) (x : Strip) : (d.setStrip n x).jtag = d.jtag := rfl
@[simp] theorem Dev.setStrip_cim (n : Nat) (x : Strip) : (d.setStrip n x).cim = d.cim := rfl
@[simp] theorem Dev.setStrip_bearing (n : Nat) (x : Strip) : (d.setStrip n x).bearing = d.bearing := rfl
@[simp] theorem Dev.setStrip_notices (n : Nat) (x : Strip) : (d.setStrip n x).notices = d.notices := rfl
@[simp] theorem Dev.setStrip_stackMem (n : Nat) (x : Strip) : (d.setStrip n x).stackMem = d.stackMem := rfl
@[simp] theorem Dev.setStrip_stackInj (n : Nat) (x : Strip) : (d.setStrip n x).stackInj = d.stackInj := rfl
@[simp] theorem Dev.setStrip_legend (n : Nat) (x : Strip) : (d.setStrip n x).legend = d.legend := rfl
@[simp] theorem Dev.setStrip_changes (n : Nat) (x : Strip) : (d.setStrip n x).changes = d.changes := rfl
@[simp] theorem Dev.setStrip_handed (n : Nat) (x : Strip) : (d.setStrip n x).handed = d.handed := rfl
@[simp] theorem Dev.setStrip_wire (n : Nat) (x : Strip) : (d.setStrip n x).wire = d.wire := rfl
@[simp] theorem Dev.setStrip_free (n : Nat) (x : Strip) : (d.setStrip n x).free = d.free := rfl
@[simp] theorem Dev.setStrip_entropy (n : Nat) (x : Strip) : (d.setStrip n x).entropy = d.entropy := rfl
@[simp] theorem Dev.setStrip_now (n : Nat) (x : Strip) : now (d.setStrip n x) = now d := rfl
@[simp] theorem Dev.setStrip_legVal (n : Nat) (x : Strip) (ix sb : Nat) : legVal (d.setStrip n x) ix sb = legVal d ix sb := rfl

/-! ## Dev.setStx -/

@[simp] theorem Dev.setStx_part (n : Nat) (x : StripTx) : (d.setStx n x).part = d.part := rfl
@[simp] theorem Dev.setStx_grat (n : Nat) (x : StripTx) : (d.setStx n x).grat = d.grat := rfl
@[simp] theorem Dev.setStx_quads (n : Nat) (x : StripTx) : (d.setStx n x).quads = d.quads := rfl
@[simp] theorem Dev.setStx_contours (n : Nat) (x : StripTx) : (d.setStx n x).contours = d.contours := rfl
@[simp] theorem Dev.setStx_parts (n : Nat) (x : StripTx) : (d.setStx n x).parts = d.parts := rfl
@[simp] theorem Dev.setStx_partTx (n : Nat) (x : StripTx) : (d.setStx n x).partTx = d.partTx := rfl
@[simp] theorem Dev.setStx_strips (n : Nat) (x : StripTx) : (d.setStx n x).strips = d.strips := rfl
@[simp] theorem Dev.setStx_sched (n : Nat) (x : StripTx) : (d.setStx n x).sched = d.sched := rfl
@[simp] theorem Dev.setStx_pon (n : Nat) (x : StripTx) : (d.setStx n x).pon = d.pon := rfl
@[simp] theorem Dev.setStx_aksia (n : Nat) (x : StripTx) : (d.setStx n x).aksia = d.aksia := rfl
@[simp] theorem Dev.setStx_key (n : Nat) (x : StripTx) : (d.setStx n x).key = d.key := rfl
@[simp] theorem Dev.setStx_eth (n : Nat) (x : StripTx) : (d.setStx n x).eth = d.eth := rfl
@[simp] theorem Dev.setStx_sec (n : Nat) (x : StripTx) : (d.setStx n x).sec = d.sec := rfl
@[simp] theorem Dev.setStx_ez (n : Nat) (x : StripTx) : (d.setStx n x).ez = d.ez := rfl
@[simp] theorem Dev.setStx_cad (n : Nat) (x : StripTx) : (d.setStx n x).cad = d.cad := rfl
@[simp] theorem Dev.setStx_sentry (n : Nat) (x : StripTx) : (d.setStx n x).sentry = d.sentry := rfl
@[simp] theorem Dev.setStx_dormant (n : Nat) (x : StripTx) : (d.setStx n x).dormant = d.dormant := rfl
@[simp] theorem Dev.setStx_faults (n : Nat) (x : StripTx) : (d.setStx n x).faults = d.faults := rfl
@[simp] theorem Dev.setStx_start (n : Nat) (x : StripTx) : (d.setStx n x).start = d.start := rfl
@[simp] theorem Dev.setStx_jtag (n : Nat) (x : StripTx) : (d.setStx n x).jtag = d.jtag := rfl
@[simp] theorem Dev.setStx_cim (n : Nat) (x : StripTx) : (d.setStx n x).cim = d.cim := rfl
@[simp] theorem Dev.setStx_bearing (n : Nat) (x : StripTx) : (d.setStx n x).bearing = d.bearing := rfl
@[simp] theorem Dev.setStx_notices (n : Nat) (x : StripTx) : (d.setStx n x).notices = d.notices := rfl
@[simp] theorem Dev.setStx_stackMem (n : Nat) (x : StripTx) : (d.setStx n x).stackMem = d.stackMem := rfl
@[simp] theorem Dev.setStx_stackInj (n : Nat) (x : StripTx) : (d.setStx n x).stackInj = d.stackInj := rfl
@[simp] theorem Dev.setStx_legend (n : Nat) (x : StripTx) : (d.setStx n x).legend = d.legend := rfl
@[simp] theorem Dev.setStx_changes (n : Nat) (x : StripTx) : (d.setStx n x).changes = d.changes := rfl
@[simp] theorem Dev.setStx_handed (n : Nat) (x : StripTx) : (d.setStx n x).handed = d.handed := rfl
@[simp] theorem Dev.setStx_wire (n : Nat) (x : StripTx) : (d.setStx n x).wire = d.wire := rfl
@[simp] theorem Dev.setStx_free (n : Nat) (x : StripTx) : (d.setStx n x).free = d.free := rfl
@[simp] theorem Dev.setStx_entropy (n : Nat) (x : StripTx) : (d.setStx n x).entropy = d.entropy := rfl
@[simp] theorem Dev.setStx_now (n : Nat) (x : StripTx) : now (d.setStx n x) = now d := rfl
@[simp] theorem Dev.setStx_legVal (n : Nat) (x : StripTx) (ix sb : Nat) : legVal (d.setStx n x) ix sb = legVal d ix sb := rfl

/-! ## Dev.setPort -/

@[simp] theorem Dev.setPort_part (n : Nat) (x : AksPort) : (d.setPort n x).part = d.part := rfl
@[simp] theorem Dev.setPort_grat (n : Nat) (x : AksPort) : (d.setPort n x).grat = d.grat := rfl
@[simp] theorem Dev.setPort_quads (n : Nat) (x : AksPort) : (d.setPort n x).quads = d.quads := rfl
@[simp] theorem Dev.setPort_contours (n : Nat) (x : AksPort) : (d.setPort n x).contours = d.contours := rfl
@[simp] theorem Dev.setPort_parts (n : Nat) (x : AksPort) : (d.setPort n x).parts = d.parts := rfl
@[simp] theorem Dev.setPort_partTx (n : Nat) (x : AksPort) : (d.setPort n x).partTx = d.partTx := rfl
@[simp] theorem Dev.setPort_strips (n : Nat) (x : AksPort) : (d.setPort n x).strips = d.strips := rfl
@[simp] theorem Dev.setPort_stripTx (n : Nat) (x : AksPort) : (d.setPort n x).stripTx = d.stripTx := rfl
@[simp] theorem Dev.setPort_sched (n : Nat) (x : AksPort) : (d.setPort n x).sched = d.sched := rfl
@[simp] theorem Dev.setPort_pon (n : Nat) (x : AksPort) : (d.setPort n x).pon = d.pon := rfl
@[simp] theorem Dev.setPort_key (n : Nat) (x : AksPort) : (d.setPort n x).key = d.key := rfl
@[simp] theorem Dev.setPort_eth (n : Nat) (x : AksPort) : (d.setPort n x).eth = d.eth := rfl
@[simp] theorem Dev.setPort_sec (n : Nat) (x : AksPort) : (d.setPort n x).sec = d.sec := rfl
@[simp] theorem Dev.setPort_ez (n : Nat) (x : AksPort) : (d.setPort n x).ez = d.ez := rfl
@[simp] theorem Dev.setPort_cad (n : Nat) (x : AksPort) : (d.setPort n x).cad = d.cad := rfl
@[simp] theorem Dev.setPort_sentry (n : Nat) (x : AksPort) : (d.setPort n x).sentry = d.sentry := rfl
@[simp] theorem Dev.setPort_dormant (n : Nat) (x : AksPort) : (d.setPort n x).dormant = d.dormant := rfl
@[simp] theorem Dev.setPort_faults (n : Nat) (x : AksPort) : (d.setPort n x).faults = d.faults := rfl
@[simp] theorem Dev.setPort_start (n : Nat) (x : AksPort) : (d.setPort n x).start = d.start := rfl
@[simp] theorem Dev.setPort_jtag (n : Nat) (x : AksPort) : (d.setPort n x).jtag = d.jtag := rfl
@[simp] theorem Dev.setPort_cim (n : Nat) (x : AksPort) : (d.setPort n x).cim = d.cim := rfl
@[simp] theorem Dev.setPort_bearing (n : Nat) (x : AksPort) : (d.setPort n x).bearing = d.bearing := rfl
@[simp] theorem Dev.setPort_notices (n : Nat) (x : AksPort) : (d.setPort n x).notices = d.notices := rfl
@[simp] theorem Dev.setPort_stackMem (n : Nat) (x : AksPort) : (d.setPort n x).stackMem = d.stackMem := rfl
@[simp] theorem Dev.setPort_stackInj (n : Nat) (x : AksPort) : (d.setPort n x).stackInj = d.stackInj := rfl
@[simp] theorem Dev.setPort_legend (n : Nat) (x : AksPort) : (d.setPort n x).legend = d.legend := rfl
@[simp] theorem Dev.setPort_changes (n : Nat) (x : AksPort) : (d.setPort n x).changes = d.changes := rfl
@[simp] theorem Dev.setPort_handed (n : Nat) (x : AksPort) : (d.setPort n x).handed = d.handed := rfl
@[simp] theorem Dev.setPort_wire (n : Nat) (x : AksPort) : (d.setPort n x).wire = d.wire := rfl
@[simp] theorem Dev.setPort_free (n : Nat) (x : AksPort) : (d.setPort n x).free = d.free := rfl
@[simp] theorem Dev.setPort_entropy (n : Nat) (x : AksPort) : (d.setPort n x).entropy = d.entropy := rfl
@[simp] theorem Dev.setPort_now (n : Nat) (x : AksPort) : now (d.setPort n x) = now d := rfl
@[simp] theorem Dev.setPort_legVal (n : Nat) (x : AksPort) (ix sb : Nat) : legVal (d.setPort n x) ix sb = legVal d ix sb := rfl

/-! ## Dev.setKeySlot -/

@[simp] theorem Dev.setKeySlot_part (n : Nat) (x : KeySlot) : (d.setKeySlot n x).part = d.part := rfl
@[simp] theorem Dev.setKeySlot_grat (n : Nat) (x : KeySlot) : (d.setKeySlot n x).grat = d.grat := rfl
@[simp] theorem Dev.setKeySlot_quads (n : Nat) (x : KeySlot) : (d.setKeySlot n x).quads = d.quads := rfl
@[simp] theorem Dev.setKeySlot_contours (n : Nat) (x : KeySlot) : (d.setKeySlot n x).contours = d.contours := rfl
@[simp] theorem Dev.setKeySlot_parts (n : Nat) (x : KeySlot) : (d.setKeySlot n x).parts = d.parts := rfl
@[simp] theorem Dev.setKeySlot_partTx (n : Nat) (x : KeySlot) : (d.setKeySlot n x).partTx = d.partTx := rfl
@[simp] theorem Dev.setKeySlot_strips (n : Nat) (x : KeySlot) : (d.setKeySlot n x).strips = d.strips := rfl
@[simp] theorem Dev.setKeySlot_stripTx (n : Nat) (x : KeySlot) : (d.setKeySlot n x).stripTx = d.stripTx := rfl
@[simp] theorem Dev.setKeySlot_sched (n : Nat) (x : KeySlot) : (d.setKeySlot n x).sched = d.sched := rfl
@[simp] theorem Dev.setKeySlot_pon (n : Nat) (x : KeySlot) : (d.setKeySlot n x).pon = d.pon := rfl
@[simp] theorem Dev.setKeySlot_aksia (n : Nat) (x : KeySlot) : (d.setKeySlot n x).aksia = d.aksia := rfl
@[simp] theorem Dev.setKeySlot_key (n : Nat) (x : KeySlot) : (d.setKeySlot n x).key = d.key := rfl
@[simp] theorem Dev.setKeySlot_eth (n : Nat) (x : KeySlot) : (d.setKeySlot n x).eth = d.eth := rfl
@[simp] theorem Dev.setKeySlot_ez (n : Nat) (x : KeySlot) : (d.setKeySlot n x).ez = d.ez := rfl
@[simp] theorem Dev.setKeySlot_cad (n : Nat) (x : KeySlot) : (d.setKeySlot n x).cad = d.cad := rfl
@[simp] theorem Dev.setKeySlot_sentry (n : Nat) (x : KeySlot) : (d.setKeySlot n x).sentry = d.sentry := rfl
@[simp] theorem Dev.setKeySlot_dormant (n : Nat) (x : KeySlot) : (d.setKeySlot n x).dormant = d.dormant := rfl
@[simp] theorem Dev.setKeySlot_faults (n : Nat) (x : KeySlot) : (d.setKeySlot n x).faults = d.faults := rfl
@[simp] theorem Dev.setKeySlot_start (n : Nat) (x : KeySlot) : (d.setKeySlot n x).start = d.start := rfl
@[simp] theorem Dev.setKeySlot_jtag (n : Nat) (x : KeySlot) : (d.setKeySlot n x).jtag = d.jtag := rfl
@[simp] theorem Dev.setKeySlot_cim (n : Nat) (x : KeySlot) : (d.setKeySlot n x).cim = d.cim := rfl
@[simp] theorem Dev.setKeySlot_bearing (n : Nat) (x : KeySlot) : (d.setKeySlot n x).bearing = d.bearing := rfl
@[simp] theorem Dev.setKeySlot_notices (n : Nat) (x : KeySlot) : (d.setKeySlot n x).notices = d.notices := rfl
@[simp] theorem Dev.setKeySlot_stackMem (n : Nat) (x : KeySlot) : (d.setKeySlot n x).stackMem = d.stackMem := rfl
@[simp] theorem Dev.setKeySlot_stackInj (n : Nat) (x : KeySlot) : (d.setKeySlot n x).stackInj = d.stackInj := rfl
@[simp] theorem Dev.setKeySlot_legend (n : Nat) (x : KeySlot) : (d.setKeySlot n x).legend = d.legend := rfl
@[simp] theorem Dev.setKeySlot_changes (n : Nat) (x : KeySlot) : (d.setKeySlot n x).changes = d.changes := rfl
@[simp] theorem Dev.setKeySlot_handed (n : Nat) (x : KeySlot) : (d.setKeySlot n x).handed = d.handed := rfl
@[simp] theorem Dev.setKeySlot_wire (n : Nat) (x : KeySlot) : (d.setKeySlot n x).wire = d.wire := rfl
@[simp] theorem Dev.setKeySlot_free (n : Nat) (x : KeySlot) : (d.setKeySlot n x).free = d.free := rfl
@[simp] theorem Dev.setKeySlot_entropy (n : Nat) (x : KeySlot) : (d.setKeySlot n x).entropy = d.entropy := rfl
@[simp] theorem Dev.setKeySlot_now (n : Nat) (x : KeySlot) : now (d.setKeySlot n x) = now d := rfl
@[simp] theorem Dev.setKeySlot_legVal (n : Nat) (x : KeySlot) (ix sb : Nat) : legVal (d.setKeySlot n x) ix sb = legVal d ix sb := rfl

/-! ## Dev.setTxn -/

@[simp] theorem Dev.setTxn_part (n : Nat) (x : Txn) : (d.setTxn n x).part = d.part := rfl
@[simp] theorem Dev.setTxn_grat (n : Nat) (x : Txn) : (d.setTxn n x).grat = d.grat := rfl
@[simp] theorem Dev.setTxn_quads (n : Nat) (x : Txn) : (d.setTxn n x).quads = d.quads := rfl
@[simp] theorem Dev.setTxn_contours (n : Nat) (x : Txn) : (d.setTxn n x).contours = d.contours := rfl
@[simp] theorem Dev.setTxn_parts (n : Nat) (x : Txn) : (d.setTxn n x).parts = d.parts := rfl
@[simp] theorem Dev.setTxn_partTx (n : Nat) (x : Txn) : (d.setTxn n x).partTx = d.partTx := rfl
@[simp] theorem Dev.setTxn_strips (n : Nat) (x : Txn) : (d.setTxn n x).strips = d.strips := rfl
@[simp] theorem Dev.setTxn_stripTx (n : Nat) (x : Txn) : (d.setTxn n x).stripTx = d.stripTx := rfl
@[simp] theorem Dev.setTxn_sched (n : Nat) (x : Txn) : (d.setTxn n x).sched = d.sched := rfl
@[simp] theorem Dev.setTxn_pon (n : Nat) (x : Txn) : (d.setTxn n x).pon = d.pon := rfl
@[simp] theorem Dev.setTxn_aksia (n : Nat) (x : Txn) : (d.setTxn n x).aksia = d.aksia := rfl
@[simp] theorem Dev.setTxn_key (n : Nat) (x : Txn) : (d.setTxn n x).key = d.key := rfl
@[simp] theorem Dev.setTxn_eth (n : Nat) (x : Txn) : (d.setTxn n x).eth = d.eth := rfl
@[simp] theorem Dev.setTxn_sec (n : Nat) (x : Txn) : (d.setTxn n x).sec = d.sec := rfl
@[simp] theorem Dev.setTxn_cad (n : Nat) (x : Txn) : (d.setTxn n x).cad = d.cad := rfl
@[simp] theorem Dev.setTxn_sentry (n : Nat) (x : Txn) : (d.setTxn n x).sentry = d.sentry := rfl
@[simp] theorem Dev.setTxn_dormant (n : Nat) (x : Txn) : (d.setTxn n x).dormant = d.dormant := rfl
@[simp] theorem Dev.setTxn_faults (n : Nat) (x : Txn) : (d.setTxn n x).faults = d.faults := rfl
@[simp] theorem Dev.setTxn_start (n : Nat) (x : Txn) : (d.setTxn n x).start = d.start := rfl
@[simp] theorem Dev.setTxn_jtag (n : Nat) (x : Txn) : (d.setTxn n x).jtag = d.jtag := rfl
@[simp] theorem Dev.setTxn_cim (n : Nat) (x : Txn) : (d.setTxn n x).cim = d.cim := rfl
@[simp] theorem Dev.setTxn_bearing (n : Nat) (x : Txn) : (d.setTxn n x).bearing = d.bearing := rfl
@[simp] theorem Dev.setTxn_notices (n : Nat) (x : Txn) : (d.setTxn n x).notices = d.notices := rfl
@[simp] theorem Dev.setTxn_stackMem (n : Nat) (x : Txn) : (d.setTxn n x).stackMem = d.stackMem := rfl
@[simp] theorem Dev.setTxn_stackInj (n : Nat) (x : Txn) : (d.setTxn n x).stackInj = d.stackInj := rfl
@[simp] theorem Dev.setTxn_legend (n : Nat) (x : Txn) : (d.setTxn n x).legend = d.legend := rfl
@[simp] theorem Dev.setTxn_changes (n : Nat) (x : Txn) : (d.setTxn n x).changes = d.changes := rfl
@[simp] theorem Dev.setTxn_handed (n : Nat) (x : Txn) : (d.setTxn n x).handed = d.handed := rfl
@[simp] theorem Dev.setTxn_wire (n : Nat) (x : Txn) : (d.setTxn n x).wire = d.wire := rfl
@[simp] theorem Dev.setTxn_free (n : Nat) (x : Txn) : (d.setTxn n x).free = d.free := rfl
@[simp] theorem Dev.setTxn_entropy (n : Nat) (x : Txn) : (d.setTxn n x).entropy = d.entropy := rfl
@[simp] theorem Dev.setTxn_now (n : Nat) (x : Txn) : now (d.setTxn n x) = now d := rfl
@[simp] theorem Dev.setTxn_legVal (n : Nat) (x : Txn) (ix sb : Nat) : legVal (d.setTxn n x) ix sb = legVal d ix sb := rfl

/-! ## Dev.setSub -/

@[simp] theorem Dev.setSub_part (n : Nat) (x : Subscriber) : (d.setSub n x).part = d.part := rfl
@[simp] theorem Dev.setSub_grat (n : Nat) (x : Subscriber) : (d.setSub n x).grat = d.grat := rfl
@[simp] theorem Dev.setSub_quads (n : Nat) (x : Subscriber) : (d.setSub n x).quads = d.quads := rfl
@[simp] theorem Dev.setSub_contours (n : Nat) (x : Subscriber) : (d.setSub n x).contours = d.contours := rfl
@[simp] theorem Dev.setSub_parts (n : Nat) (x : Subscriber) : (d.setSub n x).parts = d.parts := rfl
@[simp] theorem Dev.setSub_partTx (n : Nat) (x : Subscriber) : (d.setSub n x).partTx = d.partTx := rfl
@[simp] theorem Dev.setSub_strips (n : Nat) (x : Subscriber) : (d.setSub n x).strips = d.strips := rfl
@[simp] theorem Dev.setSub_stripTx (n : Nat) (x : Subscriber) : (d.setSub n x).stripTx = d.stripTx := rfl
@[simp] theorem Dev.setSub_sched (n : Nat) (x : Subscriber) : (d.setSub n x).sched = d.sched := rfl
@[simp] theorem Dev.setSub_pon (n : Nat) (x : Subscriber) : (d.setSub n x).pon = d.pon := rfl
@[simp] theorem Dev.setSub_aksia (n : Nat) (x : Subscriber) : (d.setSub n x).aksia = d.aksia := rfl
@[simp] theorem Dev.setSub_key (n : Nat) (x : Subscriber) : (d.setSub n x).key = d.key := rfl
@[simp] theorem Dev.setSub_eth (n : Nat) (x : Subscriber) : (d.setSub n x).eth = d.eth := rfl
@[simp] theorem Dev.setSub_sec (n : Nat) (x : Subscriber) : (d.setSub n x).sec = d.sec := rfl
@[simp] theorem Dev.setSub_cad (n : Nat) (x : Subscriber) : (d.setSub n x).cad = d.cad := rfl
@[simp] theorem Dev.setSub_sentry (n : Nat) (x : Subscriber) : (d.setSub n x).sentry = d.sentry := rfl
@[simp] theorem Dev.setSub_dormant (n : Nat) (x : Subscriber) : (d.setSub n x).dormant = d.dormant := rfl
@[simp] theorem Dev.setSub_faults (n : Nat) (x : Subscriber) : (d.setSub n x).faults = d.faults := rfl
@[simp] theorem Dev.setSub_start (n : Nat) (x : Subscriber) : (d.setSub n x).start = d.start := rfl
@[simp] theorem Dev.setSub_jtag (n : Nat) (x : Subscriber) : (d.setSub n x).jtag = d.jtag := rfl
@[simp] theorem Dev.setSub_cim (n : Nat) (x : Subscriber) : (d.setSub n x).cim = d.cim := rfl
@[simp] theorem Dev.setSub_bearing (n : Nat) (x : Subscriber) : (d.setSub n x).bearing = d.bearing := rfl
@[simp] theorem Dev.setSub_notices (n : Nat) (x : Subscriber) : (d.setSub n x).notices = d.notices := rfl
@[simp] theorem Dev.setSub_stackMem (n : Nat) (x : Subscriber) : (d.setSub n x).stackMem = d.stackMem := rfl
@[simp] theorem Dev.setSub_stackInj (n : Nat) (x : Subscriber) : (d.setSub n x).stackInj = d.stackInj := rfl
@[simp] theorem Dev.setSub_legend (n : Nat) (x : Subscriber) : (d.setSub n x).legend = d.legend := rfl
@[simp] theorem Dev.setSub_changes (n : Nat) (x : Subscriber) : (d.setSub n x).changes = d.changes := rfl
@[simp] theorem Dev.setSub_handed (n : Nat) (x : Subscriber) : (d.setSub n x).handed = d.handed := rfl
@[simp] theorem Dev.setSub_wire (n : Nat) (x : Subscriber) : (d.setSub n x).wire = d.wire := rfl
@[simp] theorem Dev.setSub_free (n : Nat) (x : Subscriber) : (d.setSub n x).free = d.free := rfl
@[simp] theorem Dev.setSub_entropy (n : Nat) (x : Subscriber) : (d.setSub n x).entropy = d.entropy := rfl
@[simp] theorem Dev.setSub_now (n : Nat) (x : Subscriber) : now (d.setSub n x) = now d := rfl
@[simp] theorem Dev.setSub_legVal (n : Nat) (x : Subscriber) (ix sb : Nat) : legVal (d.setSub n x) ix sb = legVal d ix sb := rfl

/-! ## Dev.setFault -/

@[simp] theorem Dev.setFault_part (n : Nat) (x : FaultSrc) : (d.setFault n x).part = d.part := rfl
@[simp] theorem Dev.setFault_grat (n : Nat) (x : FaultSrc) : (d.setFault n x).grat = d.grat := rfl
@[simp] theorem Dev.setFault_quads (n : Nat) (x : FaultSrc) : (d.setFault n x).quads = d.quads := rfl
@[simp] theorem Dev.setFault_contours (n : Nat) (x : FaultSrc) : (d.setFault n x).contours = d.contours := rfl
@[simp] theorem Dev.setFault_parts (n : Nat) (x : FaultSrc) : (d.setFault n x).parts = d.parts := rfl
@[simp] theorem Dev.setFault_partTx (n : Nat) (x : FaultSrc) : (d.setFault n x).partTx = d.partTx := rfl
@[simp] theorem Dev.setFault_strips (n : Nat) (x : FaultSrc) : (d.setFault n x).strips = d.strips := rfl
@[simp] theorem Dev.setFault_stripTx (n : Nat) (x : FaultSrc) : (d.setFault n x).stripTx = d.stripTx := rfl
@[simp] theorem Dev.setFault_sched (n : Nat) (x : FaultSrc) : (d.setFault n x).sched = d.sched := rfl
@[simp] theorem Dev.setFault_pon (n : Nat) (x : FaultSrc) : (d.setFault n x).pon = d.pon := rfl
@[simp] theorem Dev.setFault_aksia (n : Nat) (x : FaultSrc) : (d.setFault n x).aksia = d.aksia := rfl
@[simp] theorem Dev.setFault_key (n : Nat) (x : FaultSrc) : (d.setFault n x).key = d.key := rfl
@[simp] theorem Dev.setFault_eth (n : Nat) (x : FaultSrc) : (d.setFault n x).eth = d.eth := rfl
@[simp] theorem Dev.setFault_sec (n : Nat) (x : FaultSrc) : (d.setFault n x).sec = d.sec := rfl
@[simp] theorem Dev.setFault_ez (n : Nat) (x : FaultSrc) : (d.setFault n x).ez = d.ez := rfl
@[simp] theorem Dev.setFault_cad (n : Nat) (x : FaultSrc) : (d.setFault n x).cad = d.cad := rfl
@[simp] theorem Dev.setFault_sentry (n : Nat) (x : FaultSrc) : (d.setFault n x).sentry = d.sentry := rfl
@[simp] theorem Dev.setFault_dormant (n : Nat) (x : FaultSrc) : (d.setFault n x).dormant = d.dormant := rfl
@[simp] theorem Dev.setFault_start (n : Nat) (x : FaultSrc) : (d.setFault n x).start = d.start := rfl
@[simp] theorem Dev.setFault_jtag (n : Nat) (x : FaultSrc) : (d.setFault n x).jtag = d.jtag := rfl
@[simp] theorem Dev.setFault_cim (n : Nat) (x : FaultSrc) : (d.setFault n x).cim = d.cim := rfl
@[simp] theorem Dev.setFault_bearing (n : Nat) (x : FaultSrc) : (d.setFault n x).bearing = d.bearing := rfl
@[simp] theorem Dev.setFault_notices (n : Nat) (x : FaultSrc) : (d.setFault n x).notices = d.notices := rfl
@[simp] theorem Dev.setFault_stackMem (n : Nat) (x : FaultSrc) : (d.setFault n x).stackMem = d.stackMem := rfl
@[simp] theorem Dev.setFault_stackInj (n : Nat) (x : FaultSrc) : (d.setFault n x).stackInj = d.stackInj := rfl
@[simp] theorem Dev.setFault_legend (n : Nat) (x : FaultSrc) : (d.setFault n x).legend = d.legend := rfl
@[simp] theorem Dev.setFault_changes (n : Nat) (x : FaultSrc) : (d.setFault n x).changes = d.changes := rfl
@[simp] theorem Dev.setFault_handed (n : Nat) (x : FaultSrc) : (d.setFault n x).handed = d.handed := rfl
@[simp] theorem Dev.setFault_wire (n : Nat) (x : FaultSrc) : (d.setFault n x).wire = d.wire := rfl
@[simp] theorem Dev.setFault_free (n : Nat) (x : FaultSrc) : (d.setFault n x).free = d.free := rfl
@[simp] theorem Dev.setFault_entropy (n : Nat) (x : FaultSrc) : (d.setFault n x).entropy = d.entropy := rfl
@[simp] theorem Dev.setFault_now (n : Nat) (x : FaultSrc) : now (d.setFault n x) = now d := rfl
@[simp] theorem Dev.setFault_legVal (n : Nat) (x : FaultSrc) (ix sb : Nat) : legVal (d.setFault n x) ix sb = legVal d ix sb := rfl

/-! ## Dev.setCause -/

@[simp] theorem Dev.setCause_part (n : Nat) (c : Bool) : (d.setCause n c).part = d.part := rfl
@[simp] theorem Dev.setCause_grat (n : Nat) (c : Bool) : (d.setCause n c).grat = d.grat := rfl
@[simp] theorem Dev.setCause_quads (n : Nat) (c : Bool) : (d.setCause n c).quads = d.quads := rfl
@[simp] theorem Dev.setCause_contours (n : Nat) (c : Bool) : (d.setCause n c).contours = d.contours := rfl
@[simp] theorem Dev.setCause_parts (n : Nat) (c : Bool) : (d.setCause n c).parts = d.parts := rfl
@[simp] theorem Dev.setCause_partTx (n : Nat) (c : Bool) : (d.setCause n c).partTx = d.partTx := rfl
@[simp] theorem Dev.setCause_strips (n : Nat) (c : Bool) : (d.setCause n c).strips = d.strips := rfl
@[simp] theorem Dev.setCause_stripTx (n : Nat) (c : Bool) : (d.setCause n c).stripTx = d.stripTx := rfl
@[simp] theorem Dev.setCause_sched (n : Nat) (c : Bool) : (d.setCause n c).sched = d.sched := rfl
@[simp] theorem Dev.setCause_pon (n : Nat) (c : Bool) : (d.setCause n c).pon = d.pon := rfl
@[simp] theorem Dev.setCause_aksia (n : Nat) (c : Bool) : (d.setCause n c).aksia = d.aksia := rfl
@[simp] theorem Dev.setCause_key (n : Nat) (c : Bool) : (d.setCause n c).key = d.key := rfl
@[simp] theorem Dev.setCause_eth (n : Nat) (c : Bool) : (d.setCause n c).eth = d.eth := rfl
@[simp] theorem Dev.setCause_sec (n : Nat) (c : Bool) : (d.setCause n c).sec = d.sec := rfl
@[simp] theorem Dev.setCause_ez (n : Nat) (c : Bool) : (d.setCause n c).ez = d.ez := rfl
@[simp] theorem Dev.setCause_cad (n : Nat) (c : Bool) : (d.setCause n c).cad = d.cad := rfl
@[simp] theorem Dev.setCause_sentry (n : Nat) (c : Bool) : (d.setCause n c).sentry = d.sentry := rfl
@[simp] theorem Dev.setCause_dormant (n : Nat) (c : Bool) : (d.setCause n c).dormant = d.dormant := rfl
@[simp] theorem Dev.setCause_start (n : Nat) (c : Bool) : (d.setCause n c).start = d.start := rfl
@[simp] theorem Dev.setCause_jtag (n : Nat) (c : Bool) : (d.setCause n c).jtag = d.jtag := rfl
@[simp] theorem Dev.setCause_cim (n : Nat) (c : Bool) : (d.setCause n c).cim = d.cim := rfl
@[simp] theorem Dev.setCause_bearing (n : Nat) (c : Bool) : (d.setCause n c).bearing = d.bearing := rfl
@[simp] theorem Dev.setCause_notices (n : Nat) (c : Bool) : (d.setCause n c).notices = d.notices := rfl
@[simp] theorem Dev.setCause_stackMem (n : Nat) (c : Bool) : (d.setCause n c).stackMem = d.stackMem := rfl
@[simp] theorem Dev.setCause_stackInj (n : Nat) (c : Bool) : (d.setCause n c).stackInj = d.stackInj := rfl
@[simp] theorem Dev.setCause_legend (n : Nat) (c : Bool) : (d.setCause n c).legend = d.legend := rfl
@[simp] theorem Dev.setCause_changes (n : Nat) (c : Bool) : (d.setCause n c).changes = d.changes := rfl
@[simp] theorem Dev.setCause_handed (n : Nat) (c : Bool) : (d.setCause n c).handed = d.handed := rfl
@[simp] theorem Dev.setCause_wire (n : Nat) (c : Bool) : (d.setCause n c).wire = d.wire := rfl
@[simp] theorem Dev.setCause_free (n : Nat) (c : Bool) : (d.setCause n c).free = d.free := rfl
@[simp] theorem Dev.setCause_entropy (n : Nat) (c : Bool) : (d.setCause n c).entropy = d.entropy := rfl
@[simp] theorem Dev.setCause_now (n : Nat) (c : Bool) : now (d.setCause n c) = now d := rfl
@[simp] theorem Dev.setCause_legVal (n : Nat) (c : Bool) (ix sb : Nat) : legVal (d.setCause n c) ix sb = legVal d ix sb := rfl

/-! ## Dev.emit -/

@[simp] theorem Dev.emit_part (x : Emission) : (d.emit x).part = d.part := rfl
@[simp] theorem Dev.emit_grat (x : Emission) : (d.emit x).grat = d.grat := rfl
@[simp] theorem Dev.emit_quads (x : Emission) : (d.emit x).quads = d.quads := rfl
@[simp] theorem Dev.emit_contours (x : Emission) : (d.emit x).contours = d.contours := rfl
@[simp] theorem Dev.emit_parts (x : Emission) : (d.emit x).parts = d.parts := rfl
@[simp] theorem Dev.emit_partTx (x : Emission) : (d.emit x).partTx = d.partTx := rfl
@[simp] theorem Dev.emit_strips (x : Emission) : (d.emit x).strips = d.strips := rfl
@[simp] theorem Dev.emit_stripTx (x : Emission) : (d.emit x).stripTx = d.stripTx := rfl
@[simp] theorem Dev.emit_sched (x : Emission) : (d.emit x).sched = d.sched := rfl
@[simp] theorem Dev.emit_pon (x : Emission) : (d.emit x).pon = d.pon := rfl
@[simp] theorem Dev.emit_aksia (x : Emission) : (d.emit x).aksia = d.aksia := rfl
@[simp] theorem Dev.emit_key (x : Emission) : (d.emit x).key = d.key := rfl
@[simp] theorem Dev.emit_eth (x : Emission) : (d.emit x).eth = d.eth := rfl
@[simp] theorem Dev.emit_sec (x : Emission) : (d.emit x).sec = d.sec := rfl
@[simp] theorem Dev.emit_ez (x : Emission) : (d.emit x).ez = d.ez := rfl
@[simp] theorem Dev.emit_cad (x : Emission) : (d.emit x).cad = d.cad := rfl
@[simp] theorem Dev.emit_sentry (x : Emission) : (d.emit x).sentry = d.sentry := rfl
@[simp] theorem Dev.emit_dormant (x : Emission) : (d.emit x).dormant = d.dormant := rfl
@[simp] theorem Dev.emit_faults (x : Emission) : (d.emit x).faults = d.faults := rfl
@[simp] theorem Dev.emit_start (x : Emission) : (d.emit x).start = d.start := rfl
@[simp] theorem Dev.emit_jtag (x : Emission) : (d.emit x).jtag = d.jtag := rfl
@[simp] theorem Dev.emit_cim (x : Emission) : (d.emit x).cim = d.cim := rfl
@[simp] theorem Dev.emit_bearing (x : Emission) : (d.emit x).bearing = d.bearing := rfl
@[simp] theorem Dev.emit_notices (x : Emission) : (d.emit x).notices = d.notices := rfl
@[simp] theorem Dev.emit_stackMem (x : Emission) : (d.emit x).stackMem = d.stackMem := rfl
@[simp] theorem Dev.emit_stackInj (x : Emission) : (d.emit x).stackInj = d.stackInj := rfl
@[simp] theorem Dev.emit_legend (x : Emission) : (d.emit x).legend = d.legend := rfl
@[simp] theorem Dev.emit_changes (x : Emission) : (d.emit x).changes = d.changes := rfl
@[simp] theorem Dev.emit_handed (x : Emission) : (d.emit x).handed = d.handed := rfl
@[simp] theorem Dev.emit_wire (x : Emission) : (d.emit x).wire = d.wire ++ [x] := rfl
@[simp] theorem Dev.emit_free (x : Emission) : (d.emit x).free = d.free := rfl
@[simp] theorem Dev.emit_entropy (x : Emission) : (d.emit x).entropy = d.entropy := rfl
@[simp] theorem Dev.emit_now (x : Emission) : now (d.emit x) = now d := rfl
@[simp] theorem Dev.emit_legVal (x : Emission) (ix sb : Nat) : legVal (d.emit x) ix sb = legVal d ix sb := rfl

/-! ## Dev.updAksia -/

@[simp] theorem Dev.updAksia_part (f : Aksia → Aksia) : (d.updAksia f).part = d.part := rfl
@[simp] theorem Dev.updAksia_grat (f : Aksia → Aksia) : (d.updAksia f).grat = d.grat := rfl
@[simp] theorem Dev.updAksia_quads (f : Aksia → Aksia) : (d.updAksia f).quads = d.quads := rfl
@[simp] theorem Dev.updAksia_contours (f : Aksia → Aksia) : (d.updAksia f).contours = d.contours := rfl
@[simp] theorem Dev.updAksia_parts (f : Aksia → Aksia) : (d.updAksia f).parts = d.parts := rfl
@[simp] theorem Dev.updAksia_partTx (f : Aksia → Aksia) : (d.updAksia f).partTx = d.partTx := rfl
@[simp] theorem Dev.updAksia_strips (f : Aksia → Aksia) : (d.updAksia f).strips = d.strips := rfl
@[simp] theorem Dev.updAksia_stripTx (f : Aksia → Aksia) : (d.updAksia f).stripTx = d.stripTx := rfl
@[simp] theorem Dev.updAksia_sched (f : Aksia → Aksia) : (d.updAksia f).sched = d.sched := rfl
@[simp] theorem Dev.updAksia_pon (f : Aksia → Aksia) : (d.updAksia f).pon = d.pon := rfl
@[simp] theorem Dev.updAksia_aksia (f : Aksia → Aksia) : (d.updAksia f).aksia = f d.aksia := rfl
@[simp] theorem Dev.updAksia_key (f : Aksia → Aksia) : (d.updAksia f).key = d.key := rfl
@[simp] theorem Dev.updAksia_eth (f : Aksia → Aksia) : (d.updAksia f).eth = d.eth := rfl
@[simp] theorem Dev.updAksia_sec (f : Aksia → Aksia) : (d.updAksia f).sec = d.sec := rfl
@[simp] theorem Dev.updAksia_ez (f : Aksia → Aksia) : (d.updAksia f).ez = d.ez := rfl
@[simp] theorem Dev.updAksia_cad (f : Aksia → Aksia) : (d.updAksia f).cad = d.cad := rfl
@[simp] theorem Dev.updAksia_sentry (f : Aksia → Aksia) : (d.updAksia f).sentry = d.sentry := rfl
@[simp] theorem Dev.updAksia_dormant (f : Aksia → Aksia) : (d.updAksia f).dormant = d.dormant := rfl
@[simp] theorem Dev.updAksia_faults (f : Aksia → Aksia) : (d.updAksia f).faults = d.faults := rfl
@[simp] theorem Dev.updAksia_start (f : Aksia → Aksia) : (d.updAksia f).start = d.start := rfl
@[simp] theorem Dev.updAksia_jtag (f : Aksia → Aksia) : (d.updAksia f).jtag = d.jtag := rfl
@[simp] theorem Dev.updAksia_cim (f : Aksia → Aksia) : (d.updAksia f).cim = d.cim := rfl
@[simp] theorem Dev.updAksia_bearing (f : Aksia → Aksia) : (d.updAksia f).bearing = d.bearing := rfl
@[simp] theorem Dev.updAksia_notices (f : Aksia → Aksia) : (d.updAksia f).notices = d.notices := rfl
@[simp] theorem Dev.updAksia_stackMem (f : Aksia → Aksia) : (d.updAksia f).stackMem = d.stackMem := rfl
@[simp] theorem Dev.updAksia_stackInj (f : Aksia → Aksia) : (d.updAksia f).stackInj = d.stackInj := rfl
@[simp] theorem Dev.updAksia_legend (f : Aksia → Aksia) : (d.updAksia f).legend = d.legend := rfl
@[simp] theorem Dev.updAksia_changes (f : Aksia → Aksia) : (d.updAksia f).changes = d.changes := rfl
@[simp] theorem Dev.updAksia_handed (f : Aksia → Aksia) : (d.updAksia f).handed = d.handed := rfl
@[simp] theorem Dev.updAksia_wire (f : Aksia → Aksia) : (d.updAksia f).wire = d.wire := rfl
@[simp] theorem Dev.updAksia_free (f : Aksia → Aksia) : (d.updAksia f).free = d.free := rfl
@[simp] theorem Dev.updAksia_entropy (f : Aksia → Aksia) : (d.updAksia f).entropy = d.entropy := rfl
@[simp] theorem Dev.updAksia_now (f : Aksia → Aksia) : now (d.updAksia f) = now d := rfl
@[simp] theorem Dev.updAksia_legVal (f : Aksia → Aksia) (ix sb : Nat) : legVal (d.updAksia f) ix sb = legVal d ix sb := rfl

/-! ## Dev.updBearing -/

@[simp] theorem Dev.updBearing_part (f : BearingCount → BearingCount) : (d.updBearing f).part = d.part := rfl
@[simp] theorem Dev.updBearing_grat (f : BearingCount → BearingCount) : (d.updBearing f).grat = d.grat := rfl
@[simp] theorem Dev.updBearing_quads (f : BearingCount → BearingCount) : (d.updBearing f).quads = d.quads := rfl
@[simp] theorem Dev.updBearing_contours (f : BearingCount → BearingCount) : (d.updBearing f).contours = d.contours := rfl
@[simp] theorem Dev.updBearing_parts (f : BearingCount → BearingCount) : (d.updBearing f).parts = d.parts := rfl
@[simp] theorem Dev.updBearing_partTx (f : BearingCount → BearingCount) : (d.updBearing f).partTx = d.partTx := rfl
@[simp] theorem Dev.updBearing_strips (f : BearingCount → BearingCount) : (d.updBearing f).strips = d.strips := rfl
@[simp] theorem Dev.updBearing_stripTx (f : BearingCount → BearingCount) : (d.updBearing f).stripTx = d.stripTx := rfl
@[simp] theorem Dev.updBearing_sched (f : BearingCount → BearingCount) : (d.updBearing f).sched = d.sched := rfl
@[simp] theorem Dev.updBearing_pon (f : BearingCount → BearingCount) : (d.updBearing f).pon = d.pon := rfl
@[simp] theorem Dev.updBearing_aksia (f : BearingCount → BearingCount) : (d.updBearing f).aksia = d.aksia := rfl
@[simp] theorem Dev.updBearing_key (f : BearingCount → BearingCount) : (d.updBearing f).key = d.key := rfl
@[simp] theorem Dev.updBearing_eth (f : BearingCount → BearingCount) : (d.updBearing f).eth = d.eth := rfl
@[simp] theorem Dev.updBearing_sec (f : BearingCount → BearingCount) : (d.updBearing f).sec = d.sec := rfl
@[simp] theorem Dev.updBearing_ez (f : BearingCount → BearingCount) : (d.updBearing f).ez = d.ez := rfl
@[simp] theorem Dev.updBearing_cad (f : BearingCount → BearingCount) : (d.updBearing f).cad = d.cad := rfl
@[simp] theorem Dev.updBearing_sentry (f : BearingCount → BearingCount) : (d.updBearing f).sentry = d.sentry := rfl
@[simp] theorem Dev.updBearing_dormant (f : BearingCount → BearingCount) : (d.updBearing f).dormant = d.dormant := rfl
@[simp] theorem Dev.updBearing_faults (f : BearingCount → BearingCount) : (d.updBearing f).faults = d.faults := rfl
@[simp] theorem Dev.updBearing_start (f : BearingCount → BearingCount) : (d.updBearing f).start = d.start := rfl
@[simp] theorem Dev.updBearing_jtag (f : BearingCount → BearingCount) : (d.updBearing f).jtag = d.jtag := rfl
@[simp] theorem Dev.updBearing_cim (f : BearingCount → BearingCount) : (d.updBearing f).cim = d.cim := rfl
@[simp] theorem Dev.updBearing_bearing (f : BearingCount → BearingCount) : (d.updBearing f).bearing = f d.bearing := rfl
@[simp] theorem Dev.updBearing_notices (f : BearingCount → BearingCount) : (d.updBearing f).notices = d.notices := rfl
@[simp] theorem Dev.updBearing_stackMem (f : BearingCount → BearingCount) : (d.updBearing f).stackMem = d.stackMem := rfl
@[simp] theorem Dev.updBearing_stackInj (f : BearingCount → BearingCount) : (d.updBearing f).stackInj = d.stackInj := rfl
@[simp] theorem Dev.updBearing_legend (f : BearingCount → BearingCount) : (d.updBearing f).legend = d.legend := rfl
@[simp] theorem Dev.updBearing_changes (f : BearingCount → BearingCount) : (d.updBearing f).changes = d.changes := rfl
@[simp] theorem Dev.updBearing_handed (f : BearingCount → BearingCount) : (d.updBearing f).handed = d.handed := rfl
@[simp] theorem Dev.updBearing_wire (f : BearingCount → BearingCount) : (d.updBearing f).wire = d.wire := rfl
@[simp] theorem Dev.updBearing_free (f : BearingCount → BearingCount) : (d.updBearing f).free = d.free := rfl
@[simp] theorem Dev.updBearing_entropy (f : BearingCount → BearingCount) : (d.updBearing f).entropy = d.entropy := rfl
@[simp] theorem Dev.updBearing_now (f : BearingCount → BearingCount) : now (d.updBearing f) = now d := rfl
@[simp] theorem Dev.updBearing_legVal (f : BearingCount → BearingCount) (ix sb : Nat) : legVal (d.updBearing f) ix sb = legVal d ix sb := rfl

/-! ## updCad -/

@[simp] theorem updCad_part (f : Cad → Cad) : (updCad d f).part = d.part := rfl
@[simp] theorem updCad_grat (f : Cad → Cad) : (updCad d f).grat = d.grat := rfl
@[simp] theorem updCad_quads (f : Cad → Cad) : (updCad d f).quads = d.quads := rfl
@[simp] theorem updCad_contours (f : Cad → Cad) : (updCad d f).contours = d.contours := rfl
@[simp] theorem updCad_parts (f : Cad → Cad) : (updCad d f).parts = d.parts := rfl
@[simp] theorem updCad_partTx (f : Cad → Cad) : (updCad d f).partTx = d.partTx := rfl
@[simp] theorem updCad_strips (f : Cad → Cad) : (updCad d f).strips = d.strips := rfl
@[simp] theorem updCad_stripTx (f : Cad → Cad) : (updCad d f).stripTx = d.stripTx := rfl
@[simp] theorem updCad_sched (f : Cad → Cad) : (updCad d f).sched = d.sched := rfl
@[simp] theorem updCad_pon (f : Cad → Cad) : (updCad d f).pon = d.pon := rfl
@[simp] theorem updCad_aksia (f : Cad → Cad) : (updCad d f).aksia = d.aksia := rfl
@[simp] theorem updCad_key (f : Cad → Cad) : (updCad d f).key = d.key := rfl
@[simp] theorem updCad_eth (f : Cad → Cad) : (updCad d f).eth = d.eth := rfl
@[simp] theorem updCad_sec (f : Cad → Cad) : (updCad d f).sec = d.sec := rfl
@[simp] theorem updCad_ez (f : Cad → Cad) : (updCad d f).ez = d.ez := rfl
@[simp] theorem updCad_cad (f : Cad → Cad) : (updCad d f).cad = f d.cad := rfl
@[simp] theorem updCad_sentry (f : Cad → Cad) : (updCad d f).sentry = d.sentry := rfl
@[simp] theorem updCad_dormant (f : Cad → Cad) : (updCad d f).dormant = d.dormant := rfl
@[simp] theorem updCad_faults (f : Cad → Cad) : (updCad d f).faults = d.faults := rfl
@[simp] theorem updCad_start (f : Cad → Cad) : (updCad d f).start = d.start := rfl
@[simp] theorem updCad_jtag (f : Cad → Cad) : (updCad d f).jtag = d.jtag := rfl
@[simp] theorem updCad_cim (f : Cad → Cad) : (updCad d f).cim = d.cim := rfl
@[simp] theorem updCad_bearing (f : Cad → Cad) : (updCad d f).bearing = d.bearing := rfl
@[simp] theorem updCad_notices (f : Cad → Cad) : (updCad d f).notices = d.notices := rfl
@[simp] theorem updCad_stackMem (f : Cad → Cad) : (updCad d f).stackMem = d.stackMem := rfl
@[simp] theorem updCad_stackInj (f : Cad → Cad) : (updCad d f).stackInj = d.stackInj := rfl
@[simp] theorem updCad_legend (f : Cad → Cad) : (updCad d f).legend = d.legend := rfl
@[simp] theorem updCad_changes (f : Cad → Cad) : (updCad d f).changes = d.changes := rfl
@[simp] theorem updCad_handed (f : Cad → Cad) : (updCad d f).handed = d.handed := rfl
@[simp] theorem updCad_wire (f : Cad → Cad) : (updCad d f).wire = d.wire := rfl
@[simp] theorem updCad_free (f : Cad → Cad) : (updCad d f).free = d.free := rfl
@[simp] theorem updCad_entropy (f : Cad → Cad) : (updCad d f).entropy = d.entropy := rfl
@[simp] theorem updCad_now (f : Cad → Cad) : now (updCad d f) = now d := rfl
@[simp] theorem updCad_legVal (f : Cad → Cad) (ix sb : Nat) : legVal (updCad d f) ix sb = legVal d ix sb := rfl

/-! ## Dev.updEthernet -/

@[simp] theorem Dev.updEthernet_part (f : Eth → Eth) : (d.updEthernet f).part = d.part := rfl
@[simp] theorem Dev.updEthernet_grat (f : Eth → Eth) : (d.updEthernet f).grat = d.grat := rfl
@[simp] theorem Dev.updEthernet_quads (f : Eth → Eth) : (d.updEthernet f).quads = d.quads := rfl
@[simp] theorem Dev.updEthernet_contours (f : Eth → Eth) : (d.updEthernet f).contours = d.contours := rfl
@[simp] theorem Dev.updEthernet_parts (f : Eth → Eth) : (d.updEthernet f).parts = d.parts := rfl
@[simp] theorem Dev.updEthernet_partTx (f : Eth → Eth) : (d.updEthernet f).partTx = d.partTx := rfl
@[simp] theorem Dev.updEthernet_strips (f : Eth → Eth) : (d.updEthernet f).strips = d.strips := rfl
@[simp] theorem Dev.updEthernet_stripTx (f : Eth → Eth) : (d.updEthernet f).stripTx = d.stripTx := rfl
@[simp] theorem Dev.updEthernet_sched (f : Eth → Eth) : (d.updEthernet f).sched = d.sched := rfl
@[simp] theorem Dev.updEthernet_pon (f : Eth → Eth) : (d.updEthernet f).pon = d.pon := rfl
@[simp] theorem Dev.updEthernet_aksia (f : Eth → Eth) : (d.updEthernet f).aksia = d.aksia := rfl
@[simp] theorem Dev.updEthernet_key (f : Eth → Eth) : (d.updEthernet f).key = d.key := rfl
@[simp] theorem Dev.updEthernet_eth (f : Eth → Eth) : (d.updEthernet f).eth = f d.eth := rfl
@[simp] theorem Dev.updEthernet_sec (f : Eth → Eth) : (d.updEthernet f).sec = d.sec := rfl
@[simp] theorem Dev.updEthernet_ez (f : Eth → Eth) : (d.updEthernet f).ez = d.ez := rfl
@[simp] theorem Dev.updEthernet_cad (f : Eth → Eth) : (d.updEthernet f).cad = d.cad := rfl
@[simp] theorem Dev.updEthernet_sentry (f : Eth → Eth) : (d.updEthernet f).sentry = d.sentry := rfl
@[simp] theorem Dev.updEthernet_dormant (f : Eth → Eth) : (d.updEthernet f).dormant = d.dormant := rfl
@[simp] theorem Dev.updEthernet_faults (f : Eth → Eth) : (d.updEthernet f).faults = d.faults := rfl
@[simp] theorem Dev.updEthernet_start (f : Eth → Eth) : (d.updEthernet f).start = d.start := rfl
@[simp] theorem Dev.updEthernet_jtag (f : Eth → Eth) : (d.updEthernet f).jtag = d.jtag := rfl
@[simp] theorem Dev.updEthernet_cim (f : Eth → Eth) : (d.updEthernet f).cim = d.cim := rfl
@[simp] theorem Dev.updEthernet_bearing (f : Eth → Eth) : (d.updEthernet f).bearing = d.bearing := rfl
@[simp] theorem Dev.updEthernet_notices (f : Eth → Eth) : (d.updEthernet f).notices = d.notices := rfl
@[simp] theorem Dev.updEthernet_stackMem (f : Eth → Eth) : (d.updEthernet f).stackMem = d.stackMem := rfl
@[simp] theorem Dev.updEthernet_stackInj (f : Eth → Eth) : (d.updEthernet f).stackInj = d.stackInj := rfl
@[simp] theorem Dev.updEthernet_legend (f : Eth → Eth) : (d.updEthernet f).legend = d.legend := rfl
@[simp] theorem Dev.updEthernet_changes (f : Eth → Eth) : (d.updEthernet f).changes = d.changes := rfl
@[simp] theorem Dev.updEthernet_handed (f : Eth → Eth) : (d.updEthernet f).handed = d.handed := rfl
@[simp] theorem Dev.updEthernet_wire (f : Eth → Eth) : (d.updEthernet f).wire = d.wire := rfl
@[simp] theorem Dev.updEthernet_free (f : Eth → Eth) : (d.updEthernet f).free = d.free := rfl
@[simp] theorem Dev.updEthernet_entropy (f : Eth → Eth) : (d.updEthernet f).entropy = d.entropy := rfl
@[simp] theorem Dev.updEthernet_now (f : Eth → Eth) : now (d.updEthernet f) = now d := rfl
@[simp] theorem Dev.updEthernet_legVal (f : Eth → Eth) (ix sb : Nat) : legVal (d.updEthernet f) ix sb = legVal d ix sb := rfl

/-! ## updFaults -/

@[simp] theorem updFaults_part (f : Faults → Faults) : (updFaults d f).part = d.part := rfl
@[simp] theorem updFaults_grat (f : Faults → Faults) : (updFaults d f).grat = d.grat := rfl
@[simp] theorem updFaults_quads (f : Faults → Faults) : (updFaults d f).quads = d.quads := rfl
@[simp] theorem updFaults_contours (f : Faults → Faults) : (updFaults d f).contours = d.contours := rfl
@[simp] theorem updFaults_parts (f : Faults → Faults) : (updFaults d f).parts = d.parts := rfl
@[simp] theorem updFaults_partTx (f : Faults → Faults) : (updFaults d f).partTx = d.partTx := rfl
@[simp] theorem updFaults_strips (f : Faults → Faults) : (updFaults d f).strips = d.strips := rfl
@[simp] theorem updFaults_stripTx (f : Faults → Faults) : (updFaults d f).stripTx = d.stripTx := rfl
@[simp] theorem updFaults_sched (f : Faults → Faults) : (updFaults d f).sched = d.sched := rfl
@[simp] theorem updFaults_pon (f : Faults → Faults) : (updFaults d f).pon = d.pon := rfl
@[simp] theorem updFaults_aksia (f : Faults → Faults) : (updFaults d f).aksia = d.aksia := rfl
@[simp] theorem updFaults_key (f : Faults → Faults) : (updFaults d f).key = d.key := rfl
@[simp] theorem updFaults_eth (f : Faults → Faults) : (updFaults d f).eth = d.eth := rfl
@[simp] theorem updFaults_sec (f : Faults → Faults) : (updFaults d f).sec = d.sec := rfl
@[simp] theorem updFaults_ez (f : Faults → Faults) : (updFaults d f).ez = d.ez := rfl
@[simp] theorem updFaults_cad (f : Faults → Faults) : (updFaults d f).cad = d.cad := rfl
@[simp] theorem updFaults_sentry (f : Faults → Faults) : (updFaults d f).sentry = d.sentry := rfl
@[simp] theorem updFaults_dormant (f : Faults → Faults) : (updFaults d f).dormant = d.dormant := rfl
@[simp] theorem updFaults_faults (f : Faults → Faults) : (updFaults d f).faults = f d.faults := rfl
@[simp] theorem updFaults_start (f : Faults → Faults) : (updFaults d f).start = d.start := rfl
@[simp] theorem updFaults_jtag (f : Faults → Faults) : (updFaults d f).jtag = d.jtag := rfl
@[simp] theorem updFaults_cim (f : Faults → Faults) : (updFaults d f).cim = d.cim := rfl
@[simp] theorem updFaults_bearing (f : Faults → Faults) : (updFaults d f).bearing = d.bearing := rfl
@[simp] theorem updFaults_notices (f : Faults → Faults) : (updFaults d f).notices = d.notices := rfl
@[simp] theorem updFaults_stackMem (f : Faults → Faults) : (updFaults d f).stackMem = d.stackMem := rfl
@[simp] theorem updFaults_stackInj (f : Faults → Faults) : (updFaults d f).stackInj = d.stackInj := rfl
@[simp] theorem updFaults_legend (f : Faults → Faults) : (updFaults d f).legend = d.legend := rfl
@[simp] theorem updFaults_changes (f : Faults → Faults) : (updFaults d f).changes = d.changes := rfl
@[simp] theorem updFaults_handed (f : Faults → Faults) : (updFaults d f).handed = d.handed := rfl
@[simp] theorem updFaults_wire (f : Faults → Faults) : (updFaults d f).wire = d.wire := rfl
@[simp] theorem updFaults_free (f : Faults → Faults) : (updFaults d f).free = d.free := rfl
@[simp] theorem updFaults_entropy (f : Faults → Faults) : (updFaults d f).entropy = d.entropy := rfl
@[simp] theorem updFaults_now (f : Faults → Faults) : now (updFaults d f) = now d := rfl
@[simp] theorem updFaults_legVal (f : Faults → Faults) (ix sb : Nat) : legVal (updFaults d f) ix sb = legVal d ix sb := rfl

/-! ## Dev.updGrat -/

@[simp] theorem Dev.updGrat_part (f : Grat → Grat) : (d.updGrat f).part = d.part := rfl
@[simp] theorem Dev.updGrat_grat (f : Grat → Grat) : (d.updGrat f).grat = f d.grat := rfl
@[simp] theorem Dev.updGrat_quads (f : Grat → Grat) : (d.updGrat f).quads = d.quads := rfl
@[simp] theorem Dev.updGrat_contours (f : Grat → Grat) : (d.updGrat f).contours = d.contours := rfl
@[simp] theorem Dev.updGrat_parts (f : Grat → Grat) : (d.updGrat f).parts = d.parts := rfl
@[simp] theorem Dev.updGrat_partTx (f : Grat → Grat) : (d.updGrat f).partTx = d.partTx := rfl
@[simp] theorem Dev.updGrat_strips (f : Grat → Grat) : (d.updGrat f).strips = d.strips := rfl
@[simp] theorem Dev.updGrat_stripTx (f : Grat → Grat) : (d.updGrat f).stripTx = d.stripTx := rfl
@[simp] theorem Dev.updGrat_sched (f : Grat → Grat) : (d.updGrat f).sched = d.sched := rfl
@[simp] theorem Dev.updGrat_pon (f : Grat → Grat) : (d.updGrat f).pon = d.pon := rfl
@[simp] theorem Dev.updGrat_aksia (f : Grat → Grat) : (d.updGrat f).aksia = d.aksia := rfl
@[simp] theorem Dev.updGrat_key (f : Grat → Grat) : (d.updGrat f).key = d.key := rfl
@[simp] theorem Dev.updGrat_eth (f : Grat → Grat) : (d.updGrat f).eth = d.eth := rfl
@[simp] theorem Dev.updGrat_sec (f : Grat → Grat) : (d.updGrat f).sec = d.sec := rfl
@[simp] theorem Dev.updGrat_ez (f : Grat → Grat) : (d.updGrat f).ez = d.ez := rfl
@[simp] theorem Dev.updGrat_cad (f : Grat → Grat) : (d.updGrat f).cad = d.cad := rfl
@[simp] theorem Dev.updGrat_sentry (f : Grat → Grat) : (d.updGrat f).sentry = d.sentry := rfl
@[simp] theorem Dev.updGrat_dormant (f : Grat → Grat) : (d.updGrat f).dormant = d.dormant := rfl
@[simp] theorem Dev.updGrat_faults (f : Grat → Grat) : (d.updGrat f).faults = d.faults := rfl
@[simp] theorem Dev.updGrat_start (f : Grat → Grat) : (d.updGrat f).start = d.start := rfl
@[simp] theorem Dev.updGrat_jtag (f : Grat → Grat) : (d.updGrat f).jtag = d.jtag := rfl
@[simp] theorem Dev.updGrat_cim (f : Grat → Grat) : (d.updGrat f).cim = d.cim := rfl
@[simp] theorem Dev.updGrat_bearing (f : Grat → Grat) : (d.updGrat f).bearing = d.bearing := rfl
@[simp] theorem Dev.updGrat_notices (f : Grat → Grat) : (d.updGrat f).notices = d.notices := rfl
@[simp] theorem Dev.updGrat_stackMem (f : Grat → Grat) : (d.updGrat f).stackMem = d.stackMem := rfl
@[simp] theorem Dev.updGrat_stackInj (f : Grat → Grat) : (d.updGrat f).stackInj = d.stackInj := rfl
@[simp] theorem Dev.updGrat_legend (f : Grat → Grat) : (d.updGrat f).legend = d.legend := rfl
@[simp] theorem Dev.updGrat_changes (f : Grat → Grat) : (d.updGrat f).changes = d.changes := rfl
@[simp] theorem Dev.updGrat_handed (f : Grat → Grat) : (d.updGrat f).handed = d.handed := rfl
@[simp] theorem Dev.updGrat_wire (f : Grat → Grat) : (d.updGrat f).wire = d.wire := rfl
@[simp] theorem Dev.updGrat_free (f : Grat → Grat) : (d.updGrat f).free = d.free := rfl
@[simp] theorem Dev.updGrat_entropy (f : Grat → Grat) : (d.updGrat f).entropy = d.entropy := rfl
@[simp] theorem Dev.updGrat_legVal (f : Grat → Grat) (ix sb : Nat) : legVal (d.updGrat f) ix sb = legVal d ix sb := rfl

/-! ## Dev.updStart -/

@[simp] theorem Dev.updStart_part (f : Start → Start) : (d.updStart f).part = d.part := rfl
@[simp] theorem Dev.updStart_grat (f : Start → Start) : (d.updStart f).grat = d.grat := rfl
@[simp] theorem Dev.updStart_quads (f : Start → Start) : (d.updStart f).quads = d.quads := rfl
@[simp] theorem Dev.updStart_contours (f : Start → Start) : (d.updStart f).contours = d.contours := rfl
@[simp] theorem Dev.updStart_parts (f : Start → Start) : (d.updStart f).parts = d.parts := rfl
@[simp] theorem Dev.updStart_partTx (f : Start → Start) : (d.updStart f).partTx = d.partTx := rfl
@[simp] theorem Dev.updStart_strips (f : Start → Start) : (d.updStart f).strips = d.strips := rfl
@[simp] theorem Dev.updStart_stripTx (f : Start → Start) : (d.updStart f).stripTx = d.stripTx := rfl
@[simp] theorem Dev.updStart_sched (f : Start → Start) : (d.updStart f).sched = d.sched := rfl
@[simp] theorem Dev.updStart_pon (f : Start → Start) : (d.updStart f).pon = d.pon := rfl
@[simp] theorem Dev.updStart_aksia (f : Start → Start) : (d.updStart f).aksia = d.aksia := rfl
@[simp] theorem Dev.updStart_key (f : Start → Start) : (d.updStart f).key = d.key := rfl
@[simp] theorem Dev.updStart_eth (f : Start → Start) : (d.updStart f).eth = d.eth := rfl
@[simp] theorem Dev.updStart_sec (f : Start → Start) : (d.updStart f).sec = d.sec := rfl
@[simp] theorem Dev.updStart_ez (f : Start → Start) : (d.updStart f).ez = d.ez := rfl
@[simp] theorem Dev.updStart_cad (f : Start → Start) : (d.updStart f).cad = d.cad := rfl
@[simp] theorem Dev.updStart_sentry (f : Start → Start) : (d.updStart f).sentry = d.sentry := rfl
@[simp] theorem Dev.updStart_dormant (f : Start → Start) : (d.updStart f).dormant = d.dormant := rfl
@[simp] theorem Dev.updStart_faults (f : Start → Start) : (d.updStart f).faults = d.faults := rfl
@[simp] theorem Dev.updStart_start (f : Start → Start) : (d.updStart f).start = f d.start := rfl
@[simp] theorem Dev.updStart_jtag (f : Start → Start) : (d.updStart f).jtag = d.jtag := rfl
@[simp] theorem Dev.updStart_cim (f : Start → Start) : (d.updStart f).cim = d.cim := rfl
@[simp] theorem Dev.updStart_bearing (f : Start → Start) : (d.updStart f).bearing = d.bearing := rfl
@[simp] theorem Dev.updStart_notices (f : Start → Start) : (d.updStart f).notices = d.notices := rfl
@[simp] theorem Dev.updStart_stackMem (f : Start → Start) : (d.updStart f).stackMem = d.stackMem := rfl
@[simp] theorem Dev.updStart_stackInj (f : Start → Start) : (d.updStart f).stackInj = d.stackInj := rfl
@[simp] theorem Dev.updStart_legend (f : Start → Start) : (d.updStart f).legend = d.legend := rfl
@[simp] theorem Dev.updStart_changes (f : Start → Start) : (d.updStart f).changes = d.changes := rfl
@[simp] theorem Dev.updStart_handed (f : Start → Start) : (d.updStart f).handed = d.handed := rfl
@[simp] theorem Dev.updStart_wire (f : Start → Start) : (d.updStart f).wire = d.wire := rfl
@[simp] theorem Dev.updStart_free (f : Start → Start) : (d.updStart f).free = d.free := rfl
@[simp] theorem Dev.updStart_entropy (f : Start → Start) : (d.updStart f).entropy = d.entropy := rfl
@[simp] theorem Dev.updStart_now (f : Start → Start) : now (d.updStart f) = now d := rfl
@[simp] theorem Dev.updStart_legVal (f : Start → Start) (ix sb : Nat) : legVal (d.updStart f) ix sb = legVal d ix sb := rfl

/-! ## Dev.updDormant -/

@[simp] theorem Dev.updDormant_part (f : Dormant → Dormant) : (d.updDormant f).part = d.part := rfl
@[simp] theorem Dev.updDormant_grat (f : Dormant → Dormant) : (d.updDormant f).grat = d.grat := rfl
@[simp] theorem Dev.updDormant_quads (f : Dormant → Dormant) : (d.updDormant f).quads = d.quads := rfl
@[simp] theorem Dev.updDormant_contours (f : Dormant → Dormant) : (d.updDormant f).contours = d.contours := rfl
@[simp] theorem Dev.updDormant_parts (f : Dormant → Dormant) : (d.updDormant f).parts = d.parts := rfl
@[simp] theorem Dev.updDormant_partTx (f : Dormant → Dormant) : (d.updDormant f).partTx = d.partTx := rfl
@[simp] theorem Dev.updDormant_strips (f : Dormant → Dormant) : (d.updDormant f).strips = d.strips := rfl
@[simp] theorem Dev.updDormant_stripTx (f : Dormant → Dormant) : (d.updDormant f).stripTx = d.stripTx := rfl
@[simp] theorem Dev.updDormant_sched (f : Dormant → Dormant) : (d.updDormant f).sched = d.sched := rfl
@[simp] theorem Dev.updDormant_pon (f : Dormant → Dormant) : (d.updDormant f).pon = d.pon := rfl
@[simp] theorem Dev.updDormant_aksia (f : Dormant → Dormant) : (d.updDormant f).aksia = d.aksia := rfl
@[simp] theorem Dev.updDormant_key (f : Dormant → Dormant) : (d.updDormant f).key = d.key := rfl
@[simp] theorem Dev.updDormant_eth (f : Dormant → Dormant) : (d.updDormant f).eth = d.eth := rfl
@[simp] theorem Dev.updDormant_sec (f : Dormant → Dormant) : (d.updDormant f).sec = d.sec := rfl
@[simp] theorem Dev.updDormant_ez (f : Dormant → Dormant) : (d.updDormant f).ez = d.ez := rfl
@[simp] theorem Dev.updDormant_cad (f : Dormant → Dormant) : (d.updDormant f).cad = d.cad := rfl
@[simp] theorem Dev.updDormant_sentry (f : Dormant → Dormant) : (d.updDormant f).sentry = d.sentry := rfl
@[simp] theorem Dev.updDormant_dormant (f : Dormant → Dormant) : (d.updDormant f).dormant = f d.dormant := rfl
@[simp] theorem Dev.updDormant_faults (f : Dormant → Dormant) : (d.updDormant f).faults = d.faults := rfl
@[simp] theorem Dev.updDormant_start (f : Dormant → Dormant) : (d.updDormant f).start = d.start := rfl
@[simp] theorem Dev.updDormant_jtag (f : Dormant → Dormant) : (d.updDormant f).jtag = d.jtag := rfl
@[simp] theorem Dev.updDormant_cim (f : Dormant → Dormant) : (d.updDormant f).cim = d.cim := rfl
@[simp] theorem Dev.updDormant_bearing (f : Dormant → Dormant) : (d.updDormant f).bearing = d.bearing := rfl
@[simp] theorem Dev.updDormant_notices (f : Dormant → Dormant) : (d.updDormant f).notices = d.notices := rfl
@[simp] theorem Dev.updDormant_stackMem (f : Dormant → Dormant) : (d.updDormant f).stackMem = d.stackMem := rfl
@[simp] theorem Dev.updDormant_stackInj (f : Dormant → Dormant) : (d.updDormant f).stackInj = d.stackInj := rfl
@[simp] theorem Dev.updDormant_legend (f : Dormant → Dormant) : (d.updDormant f).legend = d.legend := rfl
@[simp] theorem Dev.updDormant_changes (f : Dormant → Dormant) : (d.updDormant f).changes = d.changes := rfl
@[simp] theorem Dev.updDormant_handed (f : Dormant → Dormant) : (d.updDormant f).handed = d.handed := rfl
@[simp] theorem Dev.updDormant_wire (f : Dormant → Dormant) : (d.updDormant f).wire = d.wire := rfl
@[simp] theorem Dev.updDormant_free (f : Dormant → Dormant) : (d.updDormant f).free = d.free := rfl
@[simp] theorem Dev.updDormant_entropy (f : Dormant → Dormant) : (d.updDormant f).entropy = d.entropy := rfl
@[simp] theorem Dev.updDormant_now (f : Dormant → Dormant) : now (d.updDormant f) = now d := rfl
@[simp] theorem Dev.updDormant_legVal (f : Dormant → Dormant) (ix sb : Nat) : legVal (d.updDormant f) ix sb = legVal d ix sb := rfl

/-! ## Dev.updPon -/

@[simp] theorem Dev.updPon_part (f : Pon → Pon) : (d.updPon f).part = d.part := rfl
@[simp] theorem Dev.updPon_grat (f : Pon → Pon) : (d.updPon f).grat = d.grat := rfl
@[simp] theorem Dev.updPon_quads (f : Pon → Pon) : (d.updPon f).quads = d.quads := rfl
@[simp] theorem Dev.updPon_contours (f : Pon → Pon) : (d.updPon f).contours = d.contours := rfl
@[simp] theorem Dev.updPon_parts (f : Pon → Pon) : (d.updPon f).parts = d.parts := rfl
@[simp] theorem Dev.updPon_partTx (f : Pon → Pon) : (d.updPon f).partTx = d.partTx := rfl
@[simp] theorem Dev.updPon_strips (f : Pon → Pon) : (d.updPon f).strips = d.strips := rfl
@[simp] theorem Dev.updPon_stripTx (f : Pon → Pon) : (d.updPon f).stripTx = d.stripTx := rfl
@[simp] theorem Dev.updPon_sched (f : Pon → Pon) : (d.updPon f).sched = d.sched := rfl
@[simp] theorem Dev.updPon_pon (f : Pon → Pon) : (d.updPon f).pon = f d.pon := rfl
@[simp] theorem Dev.updPon_aksia (f : Pon → Pon) : (d.updPon f).aksia = d.aksia := rfl
@[simp] theorem Dev.updPon_key (f : Pon → Pon) : (d.updPon f).key = d.key := rfl
@[simp] theorem Dev.updPon_eth (f : Pon → Pon) : (d.updPon f).eth = d.eth := rfl
@[simp] theorem Dev.updPon_sec (f : Pon → Pon) : (d.updPon f).sec = d.sec := rfl
@[simp] theorem Dev.updPon_ez (f : Pon → Pon) : (d.updPon f).ez = d.ez := rfl
@[simp] theorem Dev.updPon_cad (f : Pon → Pon) : (d.updPon f).cad = d.cad := rfl
@[simp] theorem Dev.updPon_sentry (f : Pon → Pon) : (d.updPon f).sentry = d.sentry := rfl
@[simp] theorem Dev.updPon_dormant (f : Pon → Pon) : (d.updPon f).dormant = d.dormant := rfl
@[simp] theorem Dev.updPon_faults (f : Pon → Pon) : (d.updPon f).faults = d.faults := rfl
@[simp] theorem Dev.updPon_start (f : Pon → Pon) : (d.updPon f).start = d.start := rfl
@[simp] theorem Dev.updPon_jtag (f : Pon → Pon) : (d.updPon f).jtag = d.jtag := rfl
@[simp] theorem Dev.updPon_cim (f : Pon → Pon) : (d.updPon f).cim = d.cim := rfl
@[simp] theorem Dev.updPon_bearing (f : Pon → Pon) : (d.updPon f).bearing = d.bearing := rfl
@[simp] theorem Dev.updPon_notices (f : Pon → Pon) : (d.updPon f).notices = d.notices := rfl
@[simp] theorem Dev.updPon_stackMem (f : Pon → Pon) : (d.updPon f).stackMem = d.stackMem := rfl
@[simp] theorem Dev.updPon_stackInj (f : Pon → Pon) : (d.updPon f).stackInj = d.stackInj := rfl
@[simp] theorem Dev.updPon_legend (f : Pon → Pon) : (d.updPon f).legend = d.legend := rfl
@[simp] theorem Dev.updPon_changes (f : Pon → Pon) : (d.updPon f).changes = d.changes := rfl
@[simp] theorem Dev.updPon_handed (f : Pon → Pon) : (d.updPon f).handed = d.handed := rfl
@[simp] theorem Dev.updPon_wire (f : Pon → Pon) : (d.updPon f).wire = d.wire := rfl
@[simp] theorem Dev.updPon_free (f : Pon → Pon) : (d.updPon f).free = d.free := rfl
@[simp] theorem Dev.updPon_entropy (f : Pon → Pon) : (d.updPon f).entropy = d.entropy := rfl
@[simp] theorem Dev.updPon_now (f : Pon → Pon) : now (d.updPon f) = now d := rfl
@[simp] theorem Dev.updPon_legVal (f : Pon → Pon) (ix sb : Nat) : legVal (d.updPon f) ix sb = legVal d ix sb := rfl

/-! ## Dev.updSec -/

@[simp] theorem Dev.updSec_part (f : Sec → Sec) : (d.updSec f).part = d.part := rfl
@[simp] theorem Dev.updSec_grat (f : Sec → Sec) : (d.updSec f).grat = d.grat := rfl
@[simp] theorem Dev.updSec_quads (f : Sec → Sec) : (d.updSec f).quads = d.quads := rfl
@[simp] theorem Dev.updSec_contours (f : Sec → Sec) : (d.updSec f).contours = d.contours := rfl
@[simp] theorem Dev.updSec_parts (f : Sec → Sec) : (d.updSec f).parts = d.parts := rfl
@[simp] theorem Dev.updSec_partTx (f : Sec → Sec) : (d.updSec f).partTx = d.partTx := rfl
@[simp] theorem Dev.updSec_strips (f : Sec → Sec) : (d.updSec f).strips = d.strips := rfl
@[simp] theorem Dev.updSec_stripTx (f : Sec → Sec) : (d.updSec f).stripTx = d.stripTx := rfl
@[simp] theorem Dev.updSec_sched (f : Sec → Sec) : (d.updSec f).sched = d.sched := rfl
@[simp] theorem Dev.updSec_pon (f : Sec → Sec) : (d.updSec f).pon = d.pon := rfl
@[simp] theorem Dev.updSec_aksia (f : Sec → Sec) : (d.updSec f).aksia = d.aksia := rfl
@[simp] theorem Dev.updSec_key (f : Sec → Sec) : (d.updSec f).key = d.key := rfl
@[simp] theorem Dev.updSec_eth (f : Sec → Sec) : (d.updSec f).eth = d.eth := rfl
@[simp] theorem Dev.updSec_sec (f : Sec → Sec) : (d.updSec f).sec = f d.sec := rfl
@[simp] theorem Dev.updSec_ez (f : Sec → Sec) : (d.updSec f).ez = d.ez := rfl
@[simp] theorem Dev.updSec_cad (f : Sec → Sec) : (d.updSec f).cad = d.cad := rfl
@[simp] theorem Dev.updSec_sentry (f : Sec → Sec) : (d.updSec f).sentry = d.sentry := rfl
@[simp] theorem Dev.updSec_dormant (f : Sec → Sec) : (d.updSec f).dormant = d.dormant := rfl
@[simp] theorem Dev.updSec_faults (f : Sec → Sec) : (d.updSec f).faults = d.faults := rfl
@[simp] theorem Dev.updSec_start (f : Sec → Sec) : (d.updSec f).start = d.start := rfl
@[simp] theorem Dev.updSec_jtag (f : Sec → Sec) : (d.updSec f).jtag = d.jtag := rfl
@[simp] theorem Dev.updSec_cim (f : Sec → Sec) : (d.updSec f).cim = d.cim := rfl
@[simp] theorem Dev.updSec_bearing (f : Sec → Sec) : (d.updSec f).bearing = d.bearing := rfl
@[simp] theorem Dev.updSec_notices (f : Sec → Sec) : (d.updSec f).notices = d.notices := rfl
@[simp] theorem Dev.updSec_stackMem (f : Sec → Sec) : (d.updSec f).stackMem = d.stackMem := rfl
@[simp] theorem Dev.updSec_stackInj (f : Sec → Sec) : (d.updSec f).stackInj = d.stackInj := rfl
@[simp] theorem Dev.updSec_legend (f : Sec → Sec) : (d.updSec f).legend = d.legend := rfl
@[simp] theorem Dev.updSec_changes (f : Sec → Sec) : (d.updSec f).changes = d.changes := rfl
@[simp] theorem Dev.updSec_handed (f : Sec → Sec) : (d.updSec f).handed = d.handed := rfl
@[simp] theorem Dev.updSec_wire (f : Sec → Sec) : (d.updSec f).wire = d.wire := rfl
@[simp] theorem Dev.updSec_free (f : Sec → Sec) : (d.updSec f).free = d.free := rfl
@[simp] theorem Dev.updSec_entropy (f : Sec → Sec) : (d.updSec f).entropy = d.entropy := rfl
@[simp] theorem Dev.updSec_now (f : Sec → Sec) : now (d.updSec f) = now d := rfl
@[simp] theorem Dev.updSec_legVal (f : Sec → Sec) (ix sb : Nat) : legVal (d.updSec f) ix sb = legVal d ix sb := rfl

/-! ## updSen -/

@[simp] theorem updSen_part (f : Sentry → Sentry) : (updSen d f).part = d.part := rfl
@[simp] theorem updSen_grat (f : Sentry → Sentry) : (updSen d f).grat = d.grat := rfl
@[simp] theorem updSen_quads (f : Sentry → Sentry) : (updSen d f).quads = d.quads := rfl
@[simp] theorem updSen_contours (f : Sentry → Sentry) : (updSen d f).contours = d.contours := rfl
@[simp] theorem updSen_parts (f : Sentry → Sentry) : (updSen d f).parts = d.parts := rfl
@[simp] theorem updSen_partTx (f : Sentry → Sentry) : (updSen d f).partTx = d.partTx := rfl
@[simp] theorem updSen_strips (f : Sentry → Sentry) : (updSen d f).strips = d.strips := rfl
@[simp] theorem updSen_stripTx (f : Sentry → Sentry) : (updSen d f).stripTx = d.stripTx := rfl
@[simp] theorem updSen_sched (f : Sentry → Sentry) : (updSen d f).sched = d.sched := rfl
@[simp] theorem updSen_pon (f : Sentry → Sentry) : (updSen d f).pon = d.pon := rfl
@[simp] theorem updSen_aksia (f : Sentry → Sentry) : (updSen d f).aksia = d.aksia := rfl
@[simp] theorem updSen_key (f : Sentry → Sentry) : (updSen d f).key = d.key := rfl
@[simp] theorem updSen_eth (f : Sentry → Sentry) : (updSen d f).eth = d.eth := rfl
@[simp] theorem updSen_sec (f : Sentry → Sentry) : (updSen d f).sec = d.sec := rfl
@[simp] theorem updSen_ez (f : Sentry → Sentry) : (updSen d f).ez = d.ez := rfl
@[simp] theorem updSen_cad (f : Sentry → Sentry) : (updSen d f).cad = d.cad := rfl
@[simp] theorem updSen_sentry (f : Sentry → Sentry) : (updSen d f).sentry = f d.sentry := rfl
@[simp] theorem updSen_dormant (f : Sentry → Sentry) : (updSen d f).dormant = d.dormant := rfl
@[simp] theorem updSen_faults (f : Sentry → Sentry) : (updSen d f).faults = d.faults := rfl
@[simp] theorem updSen_start (f : Sentry → Sentry) : (updSen d f).start = d.start := rfl
@[simp] theorem updSen_jtag (f : Sentry → Sentry) : (updSen d f).jtag = d.jtag := rfl
@[simp] theorem updSen_cim (f : Sentry → Sentry) : (updSen d f).cim = d.cim := rfl
@[simp] theorem updSen_bearing (f : Sentry → Sentry) : (updSen d f).bearing = d.bearing := rfl
@[simp] theorem updSen_notices (f : Sentry → Sentry) : (updSen d f).notices = d.notices := rfl
@[simp] theorem updSen_stackMem (f : Sentry → Sentry) : (updSen d f).stackMem = d.stackMem := rfl
@[simp] theorem updSen_stackInj (f : Sentry → Sentry) : (updSen d f).stackInj = d.stackInj := rfl
@[simp] theorem updSen_legend (f : Sentry → Sentry) : (updSen d f).legend = d.legend := rfl
@[simp] theorem updSen_changes (f : Sentry → Sentry) : (updSen d f).changes = d.changes := rfl
@[simp] theorem updSen_handed (f : Sentry → Sentry) : (updSen d f).handed = d.handed := rfl
@[simp] theorem updSen_wire (f : Sentry → Sentry) : (updSen d f).wire = d.wire := rfl
@[simp] theorem updSen_free (f : Sentry → Sentry) : (updSen d f).free = d.free := rfl
@[simp] theorem updSen_entropy (f : Sentry → Sentry) : (updSen d f).entropy = d.entropy := rfl
@[simp] theorem updSen_now (f : Sentry → Sentry) : now (updSen d f) = now d := rfl
@[simp] theorem updSen_legVal (f : Sentry → Sentry) (ix sb : Nat) : legVal (updSen d f) ix sb = legVal d ix sb := rfl

/-! ## legPut -/

@[simp] theorem legPut_part (i j : Nat) (v : Bytes) : (legPut d i j v).part = d.part := rfl
@[simp] theorem legPut_grat (i j : Nat) (v : Bytes) : (legPut d i j v).grat = d.grat := rfl
@[simp] theorem legPut_quads (i j : Nat) (v : Bytes) : (legPut d i j v).quads = d.quads := rfl
@[simp] theorem legPut_contours (i j : Nat) (v : Bytes) : (legPut d i j v).contours = d.contours := rfl
@[simp] theorem legPut_parts (i j : Nat) (v : Bytes) : (legPut d i j v).parts = d.parts := rfl
@[simp] theorem legPut_partTx (i j : Nat) (v : Bytes) : (legPut d i j v).partTx = d.partTx := rfl
@[simp] theorem legPut_strips (i j : Nat) (v : Bytes) : (legPut d i j v).strips = d.strips := rfl
@[simp] theorem legPut_stripTx (i j : Nat) (v : Bytes) : (legPut d i j v).stripTx = d.stripTx := rfl
@[simp] theorem legPut_sched (i j : Nat) (v : Bytes) : (legPut d i j v).sched = d.sched := rfl
@[simp] theorem legPut_pon (i j : Nat) (v : Bytes) : (legPut d i j v).pon = d.pon := rfl
@[simp] theorem legPut_aksia (i j : Nat) (v : Bytes) : (legPut d i j v).aksia = d.aksia := rfl
@[simp] theorem legPut_key (i j : Nat) (v : Bytes) : (legPut d i j v).key = d.key := rfl
@[simp] theorem legPut_eth (i j : Nat) (v : Bytes) : (legPut d i j v).eth = d.eth := rfl
@[simp] theorem legPut_sec (i j : Nat) (v : Bytes) : (legPut d i j v).sec = d.sec := rfl
@[simp] theorem legPut_ez (i j : Nat) (v : Bytes) : (legPut d i j v).ez = d.ez := rfl
@[simp] theorem legPut_cad (i j : Nat) (v : Bytes) : (legPut d i j v).cad = d.cad := rfl
@[simp] theorem legPut_sentry (i j : Nat) (v : Bytes) : (legPut d i j v).sentry = d.sentry := rfl
@[simp] theorem legPut_dormant (i j : Nat) (v : Bytes) : (legPut d i j v).dormant = d.dormant := rfl
@[simp] theorem legPut_faults (i j : Nat) (v : Bytes) : (legPut d i j v).faults = d.faults := rfl
@[simp] theorem legPut_start (i j : Nat) (v : Bytes) : (legPut d i j v).start = d.start := rfl
@[simp] theorem legPut_jtag (i j : Nat) (v : Bytes) : (legPut d i j v).jtag = d.jtag := rfl
@[simp] theorem legPut_cim (i j : Nat) (v : Bytes) : (legPut d i j v).cim = d.cim := rfl
@[simp] theorem legPut_bearing (i j : Nat) (v : Bytes) : (legPut d i j v).bearing = d.bearing := rfl
@[simp] theorem legPut_notices (i j : Nat) (v : Bytes) : (legPut d i j v).notices = d.notices := rfl
@[simp] theorem legPut_stackMem (i j : Nat) (v : Bytes) : (legPut d i j v).stackMem = d.stackMem := rfl
@[simp] theorem legPut_stackInj (i j : Nat) (v : Bytes) : (legPut d i j v).stackInj = d.stackInj := rfl
@[simp] theorem legPut_changes (i j : Nat) (v : Bytes) : (legPut d i j v).changes = d.changes := rfl
@[simp] theorem legPut_handed (i j : Nat) (v : Bytes) : (legPut d i j v).handed = d.handed := rfl
@[simp] theorem legPut_wire (i j : Nat) (v : Bytes) : (legPut d i j v).wire = d.wire := rfl
@[simp] theorem legPut_free (i j : Nat) (v : Bytes) : (legPut d i j v).free = d.free := rfl
@[simp] theorem legPut_entropy (i j : Nat) (v : Bytes) : (legPut d i j v).entropy = d.entropy := rfl

/-! ## bumpChange -/

@[simp] theorem bumpChange_part (k : Nat) : (bumpChange d k).part = d.part := rfl
@[simp] theorem bumpChange_grat (k : Nat) : (bumpChange d k).grat = d.grat := rfl
@[simp] theorem bumpChange_quads (k : Nat) : (bumpChange d k).quads = d.quads := rfl
@[simp] theorem bumpChange_contours (k : Nat) : (bumpChange d k).contours = d.contours := rfl
@[simp] theorem bumpChange_parts (k : Nat) : (bumpChange d k).parts = d.parts := rfl
@[simp] theorem bumpChange_partTx (k : Nat) : (bumpChange d k).partTx = d.partTx := rfl
@[simp] theorem bumpChange_strips (k : Nat) : (bumpChange d k).strips = d.strips := rfl
@[simp] theorem bumpChange_stripTx (k : Nat) : (bumpChange d k).stripTx = d.stripTx := rfl
@[simp] theorem bumpChange_sched (k : Nat) : (bumpChange d k).sched = d.sched := rfl
@[simp] theorem bumpChange_pon (k : Nat) : (bumpChange d k).pon = d.pon := rfl
@[simp] theorem bumpChange_aksia (k : Nat) : (bumpChange d k).aksia = d.aksia := rfl
@[simp] theorem bumpChange_key (k : Nat) : (bumpChange d k).key = d.key := rfl
@[simp] theorem bumpChange_eth (k : Nat) : (bumpChange d k).eth = d.eth := rfl
@[simp] theorem bumpChange_sec (k : Nat) : (bumpChange d k).sec = d.sec := rfl
@[simp] theorem bumpChange_ez (k : Nat) : (bumpChange d k).ez = d.ez := rfl
@[simp] theorem bumpChange_cad (k : Nat) : (bumpChange d k).cad = d.cad := rfl
@[simp] theorem bumpChange_sentry (k : Nat) : (bumpChange d k).sentry = d.sentry := rfl
@[simp] theorem bumpChange_dormant (k : Nat) : (bumpChange d k).dormant = d.dormant := rfl
@[simp] theorem bumpChange_faults (k : Nat) : (bumpChange d k).faults = d.faults := rfl
@[simp] theorem bumpChange_start (k : Nat) : (bumpChange d k).start = d.start := rfl
@[simp] theorem bumpChange_jtag (k : Nat) : (bumpChange d k).jtag = d.jtag := rfl
@[simp] theorem bumpChange_cim (k : Nat) : (bumpChange d k).cim = d.cim := rfl
@[simp] theorem bumpChange_bearing (k : Nat) : (bumpChange d k).bearing = d.bearing := rfl
@[simp] theorem bumpChange_notices (k : Nat) : (bumpChange d k).notices = d.notices := rfl
@[simp] theorem bumpChange_stackMem (k : Nat) : (bumpChange d k).stackMem = d.stackMem := rfl
@[simp] theorem bumpChange_stackInj (k : Nat) : (bumpChange d k).stackInj = d.stackInj := rfl
@[simp] theorem bumpChange_legend (k : Nat) : (bumpChange d k).legend = d.legend := rfl
@[simp] theorem bumpChange_handed (k : Nat) : (bumpChange d k).handed = d.handed := rfl
@[simp] theorem bumpChange_wire (k : Nat) : (bumpChange d k).wire = d.wire := rfl
@[simp] theorem bumpChange_free (k : Nat) : (bumpChange d k).free = d.free := rfl
@[simp] theorem bumpChange_entropy (k : Nat) : (bumpChange d k).entropy = d.entropy := rfl
@[simp] theorem bumpChange_now (k : Nat) : now (bumpChange d k) = now d := rfl
@[simp] theorem bumpChange_legVal (k : Nat) (ix sb : Nat) : legVal (bumpChange d k) ix sb = legVal d ix sb := rfl

end Sys2Proof.Machine
end

