-- ==== Sys2Proof/Laws/Tab.lean ====
section
/-! SUPPORT. Tables and memories: what a read gives after a write, and the canonical form kept by every operation. -/

namespace Sys2Proof.Machine

section tables

variable {α : Type} [DecidableEq α] {d x : α} {t : Tab α} {i k : Nat}

/-- A value other than the default is read back where it was written, in any table. -/
theorem tabGet_tabSet_self (h : x ≠ d) : tabGet d (tabSet d t i x) i = x := by
  induction t with
  | nil => simp [tabSet, h, tabGet]
  | cons a r ih =>
    obtain ⟨k, v⟩ := a
    simp only [tabSet, h, if_false]
    split
    · simp [tabGet]
    · split
      · simp [tabGet]
      · rename_i h1 h2
        simp [tabGet, h1, h2, ih]

/-- Another key reads as before when the value written is other than the default. -/
theorem tabGet_tabSet_other (h : x ≠ d) (n : k ≠ i) : tabGet d (tabSet d t i x) k = tabGet d t k := by
  induction t with
  | nil => simp [tabSet, h, tabGet, n]
  | cons a r ih =>
    obtain ⟨j, v⟩ := a
    simp only [tabSet, h, if_false]
    split
    · rename_i hij
      simp only [tabGet, n, if_false]
      split
      · have : k ≠ j := by omega
        have : k < j := by omega
        simp [*]
      · rfl
    · split
      · rename_i hij
        subst hij
        simp [tabGet, n]
      · simp only [tabGet]
        split
        · rfl
        · split
          · rfl
          · exact ih

/-- A value written over another. -/
theorem tabSet_tabSet {y : α} (h : x ≠ d) : tabSet d (tabSet d t i x) i y = tabSet d t i y := by
  induction t with
  | nil => simp [tabSet, h]
  | cons a r ih =>
    obtain ⟨k, v⟩ := a
    rcases lt_trichotomy i k with c | c | c
    · simp [tabSet, h, c]
    · subst c
      simp [tabSet, h]
    · have c1 : ¬ i < k := by omega
      have c2 : i ≠ k := by omega
      simp [tabSet, c1, c2, ih]

/-- Every key of a canonical table's tail is beyond its first key. -/
theorem tabGet_of_lt {j : Nat} {v : α} {r : Tab α} (w : tabWf d ((j, v) :: r)) (h : k ≤ j) : tabGet d r k = d := by
  cases r with
  | nil => rfl
  | cons b s =>
    obtain ⟨j', v'⟩ := b
    simp only [tabWf, Bool.and_eq_true, decide_eq_true_eq] at w
    have h1 : k ≠ j' := by omega
    have h2 : k < j' := by omega
    simp [tabGet, h1, h2]

/-- The tail of a canonical table is canonical. -/
theorem tabWf_tail {a : Nat × α} {r : Tab α} (w : tabWf d (a :: r)) : tabWf d r := by
  obtain ⟨j, v⟩ := a
  cases r with
  | nil => rfl
  | cons b s =>
    obtain ⟨j', v'⟩ := b
    simp only [tabWf, Bool.and_eq_true] at w
    exact w.2

/-- A value put in front of a canonical table whose keys lie beyond it. -/
theorem tabWf_cons {j : Nat} {v : α} {r : Tab α} (hv : v ≠ d) (w : tabWf d r) (hb : ∀ b ∈ r.head?, j < b.1) : tabWf d ((j, v) :: r) := by
  cases r with
  | nil => simpa [tabWf] using hv
  | cons b s =>
    obtain ⟨j', v'⟩ := b
    have : j < j' := hb (j', v') (by simp)
    simp [tabWf, hv, this, w]

/-- The first key of a canonical table lies before the first key of its tail. -/
theorem tabWf_head {j : Nat} {v : α} {r : Tab α} (w : tabWf d ((j, v) :: r)) : v ≠ d ∧ ∀ b ∈ r.head?, j < b.1 := by
  cases r with
  | nil => simpa [tabWf] using w
  | cons b s =>
    obtain ⟨j', v'⟩ := b
    simp only [tabWf, Bool.and_eq_true, decide_eq_true_eq] at w
    exact ⟨w.1.1, by simp [w.1.2]⟩

/-- The first key after a write lies beyond any key that lay before both. -/
theorem tabSet_head {j : Nat} (hj : j < i) (hb : ∀ b ∈ t.head?, j < b.1) (w : tabWf d t) : ∀ b ∈ (tabSet d t i x).head?, j < b.1 := by
  cases t with
  | nil => by_cases h : x = d <;> simp [tabSet, h, hj]
  | cons a r =>
    obtain ⟨k, v⟩ := a
    have hk : j < k := hb (k, v) (by simp)
    have ht := (tabWf_head w).2
    simp only [tabSet]
    split
    · split <;> simp [hk, hj]
    · split
      · split
        · intro b hb'
          exact Nat.lt_trans hk (ht b hb')
        · simp [hj]
      · simp [hk]

/-- A write keeps the canonical form. -/
theorem tabSet_wf (w : tabWf d t) : tabWf d (tabSet d t i x) := by
  induction t with
  | nil => by_cases h : x = d <;> simp [tabSet, h, tabWf]
  | cons a r ih =>
    obtain ⟨k, v⟩ := a
    have hh := tabWf_head w
    have hr := tabWf_tail w
    simp only [tabSet]
    split
    · rename_i hik
      split
      · exact w
      · rename_i hx
        exact tabWf_cons hx w (by simp [hik])
    · split
      · rename_i hik
        split
        · exact hr
        · rename_i hx
          subst hik
          exact tabWf_cons hx hr hh.2
      · rename_i h1 h2
        exact tabWf_cons hh.1 (ih hr) (tabSet_head (by omega) hh.2 hr)

/-- Reading where a canonical table was written. -/
theorem tabGet_tabSet_self_wf (w : tabWf d t) : tabGet d (tabSet d t i x) i = x := by
  induction t with
  | nil => by_cases h : x = d <;> simp [tabSet, h, tabGet]
  | cons a r ih =>
    obtain ⟨k, v⟩ := a
    simp only [tabSet]
    split
    · rename_i hik
      split
      · rename_i hx
        simp [tabGet, hik, Nat.ne_of_lt hik, hx]
      · simp [tabGet]
    · split
      · rename_i hik
        subst hik
        split
        · rename_i hx
          rw [hx]
          exact tabGet_of_lt w (Nat.le_refl i)
        · simp [tabGet]
      · rename_i h1 h2
        simp [tabGet, h1, h2, ih (tabWf_tail w)]

/-- Reading another key of a canonical table. -/
theorem tabGet_tabSet_other_wf (w : tabWf d t) (n : k ≠ i) : tabGet d (tabSet d t i x) k = tabGet d t k := by
  by_cases hx : x = d
  · induction t with
    | nil => simp [tabSet, hx, tabGet]
    | cons a r ih =>
      obtain ⟨j, v⟩ := a
      simp only [tabSet, hx, if_true]
      split
      · rfl
      · split
        · rename_i hij
          subst hij
          simp only [tabGet, n, if_false]
          split
          · rename_i hk
            exact tabGet_of_lt w (Nat.le_of_lt hk)
          · rfl
        · simp only [tabGet]
          split
          · rfl
          · split
            · rfl
            · have := ih (tabWf_tail w)
              rwa [hx] at this
  · exact tabGet_tabSet_other hx n

/-- Entries left out keep the canonical form. -/
theorem tabWf_filter (p : Nat × α → Bool) (w : tabWf d t) : tabWf d (t.filter p) := by
  have key : ∀ (r : Tab α) (j : Nat), tabWf d r → (∀ b ∈ r.head?, j < b.1) → ∀ b ∈ (r.filter p).head?, j < b.1 := by
    intro r
    induction r with
    | nil => simp
    | cons b s ih =>
      intro j wr hb
      obtain ⟨jb, vb⟩ := b
      have hjb : j < jb := hb (jb, vb) (by simp)
      by_cases h : p (jb, vb)
      · simp [List.filter, h, hjb]
      · simp only [List.filter, h]
        exact ih j (tabWf_tail wr) fun c hc => Nat.lt_trans hjb ((tabWf_head wr).2 c hc)
  induction t with
  | nil => rfl
  | cons a r ih =>
    obtain ⟨j, v⟩ := a
    by_cases h : p (j, v)
    · simp only [List.filter, h]
      exact tabWf_cons (tabWf_head w).1 (ih (tabWf_tail w)) (key r j (tabWf_tail w) (tabWf_head w).2)
    · simp only [List.filter, h]
      exact ih (tabWf_tail w)

end tables

section memories

variable {m : Mem} {a lo hi : Nat} {bs : Bytes}

/-- A write of octets keeps a memory's canonical form. -/
theorem memWrite_wf (w : Memory.wf m) : Memory.wf (memWrite m a bs) := by
  induction bs generalizing m a with
  | nil => exact w
  | cons b r ih => exact ih (tabSet_wf w)

/-- Zeroing a span keeps a memory's canonical form. -/
theorem memZero_wf (w : Memory.wf m) : Memory.wf (memZero m lo hi) := tabWf_filter _ w

/-- Octets outside those written read as before. -/
theorem memByte_memWrite_outside {k : Nat} (w : Memory.wf m) (h : k < a ∨ a + bs.length ≤ k) : memByte (memWrite m a bs) k = memByte m k := by
  induction bs generalizing m a with
  | nil => rfl
  | cons b r ih =>
    simp only [List.length_cons] at h
    simp only [memWrite]
    rw [ih (tabSet_wf w) (by omega)]
    exact tabGet_tabSet_other_wf w (by omega)

/-- Octets written are read back. -/
theorem memRead_memWrite (w : Memory.wf m) : memRead (memWrite m a bs) a bs.length = bs := by
  induction bs generalizing m a with
  | nil => rfl
  | cons b r ih =>
    simp only [List.length_cons, memRead, memWrite, List.cons.injEq]
    refine ⟨?_, ih (tabSet_wf w)⟩
    rw [memByte_memWrite_outside (tabSet_wf w) (by omega)]
    exact tabGet_tabSet_self_wf w

end memories

end Sys2Proof.Machine
end

