-- ==== Sys2Proof/Laws/Core.lean ====
section
/-! SUPPORT. What the shared operations of the plotter core can do: retiring, the common step of the running task's
instruction, draining the store buffer. -/

namespace Sys2Proof.Machine

theorem Dev.quad_setQuad_self {d : Dev} {n : Nat} {x : Quad} (h : x ≠ {}) : (d.setQuad n x).quad n = x :=
  tabGet_tabSet_self h

theorem Dev.quad_setQuad_other {d : Dev} {n m : Nat} {x : Quad} (h : x ≠ {}) (k : m ≠ n) : (d.setQuad n x).quad m = d.quad m :=
  tabGet_tabSet_other h k

theorem Dev.setQuad_setQuad {d : Dev} {n : Nat} {x y : Quad} (h : x ≠ {}) : (d.setQuad n x).setQuad n y = d.setQuad n y := by
  unfold Dev.setQuad
  congr 1
  exact tabSet_tabSet h

@[simp] theorem Dev.at_quad (d : Dev) (e n : Nat) : (d.at e).quad n = d.quad n := rfl

/-- A list that holds the default element only until it is replaced. -/
theorem quad_ne_of_cyc {x : Quad} (h : 0 < x.cyc) : x ≠ {} := by
  rintro rfl
  exact absurd h (by decide)

/-- A quad with a task running is not the quad that an unlisted number reads as. -/
theorem quad_ne_of_running {x : Quad} (h : (runningSlot x).isSome = true) : x ≠ {} := by
  rintro rfl
  exact absurd h (by decide)

/-- The progress of a quad's partition touches the busy stamp and one watchdog window (03 R114, 07 R314). -/
theorem quadProgress_spec (d : Dev) (n : Nat) :
    quadProgress d n = { d with
      contours := tabSet {} d.contours n { d.contour n with lastBusy := now d }
      parts := (quadProgress d n).parts } ∧
    ((quadProgress d n).parts = d.parts ∨
      ∃ p, (quadProgress d n).parts = tabSet {} d.parts p { d.partition p with wdBase := now d, wdClosed := false }) := by
  unfold quadProgress progress
  simp only
  split
  · split
    · exact ⟨rfl, .inl rfl⟩
    · rename_i p _ _ _
      exact ⟨rfl, .inr ⟨p, rfl⟩⟩
  · exact ⟨rfl, .inl rfl⟩

/-- The running task's instruction acts when it is the command's. -/
theorem coreStep_runs {s : State} {q : QuadAt} {m : Nat → Bool} {cost : Nat} {f : CoreFn} (h : CoreRuns s q)
    (hm : m (coreWord s q) = true) :
    coreStep s q m cost f =
      .next (s.withDev (f (s.dev.at q.e) q.quad.toNat (coreWord s q) (coreCycle s q cost))) := by
  obtain ⟨h1, h2, h3, h4, h5⟩ := h
  have e : (s.dev.at q.e).quad q.quad.toNat = coreQuad s q := rfl
  have e2 : fetchWord (coreQuad s q) = coreWord s q := rfl
  simp [coreStep, fetching, leastCycle, onUnit, coreCycle, costCycle, h1, e, e2, h2, h3, h4, h5, hm]

/-- The running task's instruction acts when its op value is the command's. -/
theorem coreStep_op {s : State} {q : QuadAt} {op cost : Nat} {f : CoreFn} (h : AtOp s q op) :
    coreStep s q (isOp op) cost f =
      .next (s.withDev (f (s.dev.at q.e) q.quad.toNat (coreWord s q) (coreCycle s q cost))) :=
  coreStep_runs h.1 (decide_eq_true h.2)

theorem coreCycle_pos {s : State} {q : QuadAt} {k : Nat} (h : 0 < k) : 0 < coreCycle s q k := by
  unfold coreCycle costCycle
  split <;> omega

/-- Retiring from a device that differs from the state's in one quad only. -/
theorem retires_of {s : State} {c : Instr} {q : QuadAt} {cyc : Nat} {x y : Quad} {pc : Word} {d : Dev} (h : 0 < cyc)
    (hd : d = (s.dev.at q.e).setQuad q.quad.toNat y ∨ d = s.dev.at q.e) (hy : y ≠ {})
    (hx : exec c s = .next (s.withDev (retire d q.quad.toNat cyc x pc))) : Retires c s q cyc x pc := by
  refine ⟨_, hx, rfl, rfl, ?_⟩
  have hne : ({ x with cyc := cyc, pc := pc, fresh := false } : Quad) ≠ {} := quad_ne_of_cyc h
  obtain ⟨h1, h2⟩ := quadProgress_spec (d.setQuad q.quad.toNat { x with cyc := cyc, pc := pc, fresh := false }) q.quad.toNat
  have hd' : d = { s.dev.at q.e with quads := d.quads } ∧ ∀ n, n ≠ q.quad.toNat → d.quad n = s.dev.quad n := by
    rcases hd with rfl | rfl
    · exact ⟨rfl, fun n hn => Dev.quad_setQuad_other hy hn⟩
    · exact ⟨rfl, fun _ _ => rfl⟩
  refine ⟨?_, ?_, ?_, ?_⟩
  · show Dev.quad (retire _ _ _ _ _) _ = _
    unfold retire
    rw [h1]
    exact Dev.quad_setQuad_self hne
  · show retire _ _ _ _ _ = _
    unfold retire
    rw [h1, hd'.1]
    rfl
  · intro n hn
    show Dev.quad (retire _ _ _ _ _) _ = _
    unfold retire
    rw [h1, ← hd'.2 n hn]
    exact Dev.quad_setQuad_other hne hn
  · rw [hd'.1] at h2 ⊢
    exact h2

/-- Retiring straight from the state. -/
theorem retires_at {s : State} {c : Instr} {q : QuadAt} {cyc : Nat} {x : Quad} {pc : Word} (h : 0 < cyc)
    (hx : exec c s = .next (s.withDev (retire (s.dev.at q.e) q.quad.toNat cyc x pc))) : Retires c s q cyc x pc :=
  retires_of (y := { cyc := 1 }) h (.inr rfl) (quad_ne_of_cyc Nat.one_pos) hx

/-- An instruction that writes one register. -/
theorem writesReg_of {s : State} {c : Instr} {q : QuadAt} {m : Nat → Bool} {cost : Nat} {v : Quad → Nat → Word} {u : Word}
    (hc : 0 < cost) (hx : exec c s = coreStep s q m cost (retireReg v)) (h : CoreRuns s q) (hm : m (coreWord s q) = true)
    (hv : v (coreQuad s q) (coreWord s q) = u) : WritesReg c s q cost u := by
  refine retires_at (coreCycle_pos hc) ?_
  rw [hx, coreStep_runs h hm, ← hv]
  rfl

/-! ## Draining -/

@[simp] theorem drainedOnce_inj (x : Quad) (c : Nat) : (drainedOnce x c).inj = x.inj := by
  unfold drainedOnce tagSpan
  split <;> [rfl; (split <;> rfl)]

@[simp] theorem drainedOnce_slots (x : Quad) (c : Nat) : (drainedOnce x c).slots = x.slots := by
  unfold drainedOnce tagSpan
  split <;> [rfl; (split <;> rfl)]

theorem drainedOnce_sb (x : Quad) (c : Nat) : (drainedOnce x c).sb = x.sb.tail := by
  unfold drainedOnce tagSpan
  split
  · rename_i h
    rw [h]
    rfl
  · rename_i h
    rw [h]
    split <;> rfl

/-- A trap of a quad with a task running. -/
theorem trapQuad_spec {d : Dev} {n cause : Nat} {code : BitVec 16} :
    trapQuad d n cause code = raiseQuad (d.setQuad n { d.quad n with
      st := .trapped, trapPc := (d.quad n).pc, trapCause := BitVec.ofNat 8 cause, trapCode := code
      causes := if 0xF8 ∈ (d.quad n).causes then (d.quad n).causes else (d.quad n).causes ++ [0xF8] })
      0xF8 n cause (d.quad n).sheetId.toNat [] false := by
  unfold trapQuad raiseLasting
  generalize d.quad n = x
  simp only
  have hne : ({ x with st := .trapped, trapPc := x.pc, trapCause := BitVec.ofNat 8 cause, trapCode := code } : Quad) ≠ {} := fun h => by
    have := congrArg Quad.st h
    simp at this
  have e := Dev.quad_setQuad_self (d := d) (n := n) hne
  generalize hy : ({ x with st := .trapped, trapPc := x.pc, trapCause := BitVec.ofNat 8 cause, trapCode := code } : Quad) = y at *
  rw [e, Dev.setQuad_setQuad hne, ← hy]

/-- A quad's memory written where the quad holds no injected error: nothing but the memory changes. -/
theorem writeQuad_clean {d : Dev} {n a : Nat} {bs : Bytes} (hi : (d.quad n).inj = []) :
    writeQuad d n a bs = d.setQuad n { d.quad n with mem := memWrite (d.quad n).mem a bs } := by
  unfold writeQuad storeQuad injected checkWords
  generalize hx : d.quad n = x at hi
  simp only [hi, List.filter_nil, List.foldl_nil, hx]

/-- A quad's memory read where the quad holds no injected error: the octets, and nothing changes. -/
theorem readQuad_clean {d : Dev} {n a len : Nat} (hi : (d.quad n).inj = []) :
    readQuad d n a len = (memRead (d.quad n).mem a len, false, d) := by
  unfold readQuad injected checkWords
  simp only [hi, List.filter_nil, List.foldl_nil]

/-- The oldest entry of a quad without injected errors drains: the quad alone changes. -/
theorem drainOne_spec {d : Dev} {n c : Nat} (hi : (d.quad n).inj = []) (h : (d.quad n).sb ≠ []) :
    drainOne d n c = d.setQuad n (drainedOnce (d.quad n) c) := by
  unfold drainOne drainedOnce
  generalize hx : d.quad n = x at hi h
  simp only
  cases hs : x.sb with
  | nil => exact absurd hs h
  | cons t r =>
    simp only
    have e1 : ({ x with sb := r, drained := c + 1 } : Quad) ≠ {} := fun h' => by
      have := congrArg Quad.drained h'
      simp at this
    have e2 : ({ x with sb := r, drained := c + 1, mem := memWrite x.mem t.addr (le t.size t.data.toNat) } : Quad) ≠ {} := fun h' => by
      have := congrArg Quad.drained h'
      simp at this
    have q1 := Dev.quad_setQuad_self (d := d) (n := n) e1
    have w : writeQuad (d.setQuad n { x with sb := r, drained := c + 1 }) n t.addr (le t.size t.data.toNat) =
        d.setQuad n { x with sb := r, drained := c + 1, mem := memWrite x.mem t.addr (le t.size t.data.toNat) } := by
      rw [writeQuad_clean (by rw [q1]; exact hi), q1, Dev.setQuad_setQuad e1]
    rw [w, Dev.quad_setQuad_self e2, Dev.setQuad_setQuad e2]

/-- The oldest entry drains in the first cycle that lets it: the quad alone changes. -/
theorem drainNext_spec {d : Dev} {n : Nat} (hi : (d.quad n).inj = []) (h : (d.quad n).sb ≠ []) :
    drainNext d n = d.setQuad n (drainedNext (d.quad n)) := by
  unfold drainNext drainedNext drainCycle
  cases hs : (d.quad n).sb with
  | nil => exact absurd hs h
  | cons t r => exact drainOne_spec hi h

@[simp] theorem drainedNext_inj (x : Quad) : (drainedNext x).inj = x.inj := by
  unfold drainedNext
  split <;> [rfl; exact drainedOnce_inj _ _]

@[simp] theorem drainedNext_slots (x : Quad) : (drainedNext x).slots = x.slots := by
  unfold drainedNext
  split <;> [rfl; exact drainedOnce_slots _ _]

/-- Draining never empties a quad that has a task running. -/
theorem drainedNext_ne {x : Quad} (h : (runningSlot x).isSome = true) : drainedNext x ≠ {} :=
  quad_ne_of_running (by unfold runningSlot at *; rw [drainedNext_slots]; exact h)

theorem drainedOver_slots (x : Quad) (a len fuel : Nat) : (drainedOver x a len fuel).slots = x.slots := by
  induction fuel generalizing x with
  | zero => rfl
  | succ k ih =>
    unfold drainedOver
    split
    · rw [ih, drainedNext_slots]
    · rfl

theorem drainedOver_inj (x : Quad) (a len fuel : Nat) : (drainedOver x a len fuel).inj = x.inj := by
  induction fuel generalizing x with
  | zero => rfl
  | succ k ih =>
    unfold drainedOver
    split
    · rw [ih, drainedNext_inj]
    · rfl

/-- Stores drain in order until none overlaps: the quad alone changes (03 R73, R74). -/
theorem drainOver_spec {n a len : Nat} (fuel : Nat) {d : Dev} (hi : (d.quad n).inj = [])
    (hr : (runningSlot (d.quad n)).isSome = true) :
    drainOver d n a len fuel = d ∧ drainedOver (d.quad n) a len fuel = d.quad n ∨
      drainOver d n a len fuel = d.setQuad n (drainedOver (d.quad n) a len fuel) := by
  induction fuel generalizing d with
  | zero => exact .inl ⟨rfl, rfl⟩
  | succ k ih =>
    unfold drainOver drainedOver
    split
    · rename_i h
      have hs : (d.quad n).sb ≠ [] := by
        rintro h'
        simp [h'] at h
      have e : (d.setQuad n (drainedNext (d.quad n))).quad n = drainedNext (d.quad n) :=
        Dev.quad_setQuad_self (drainedNext_ne hr)
      rw [drainNext_spec hi hs]
      refine .inr ?_
      rcases ih (d := d.setQuad n (drainedNext (d.quad n))) (by rw [e, drainedNext_inj, hi])
        (by rw [e]; unfold runningSlot at *; rw [drainedNext_slots]; exact hr) with ⟨h1, h2⟩ | h1
      · rw [h1, ← e, h2, e]
      · rw [h1, e, Dev.setQuad_setQuad (drainedNext_ne hr)]
    · exact .inl ⟨rfl, rfl⟩

end Sys2Proof.Machine
end

