-- ==== Sys2Proof/Laws/Fits.lean ====
section
/-! SUPPORT. What the shared rows of the dispatcher answer: a command on a unit that exists completes and keeps the queue,
a command on one that does not stops with absentUnit. -/

namespace Sys2Proof.Machine

variable {s t : State} {b : Bool} {d : Dev} {r : Res}

/-- An answer of a command whose unit is fitted when `b`. -/
def Fits (r : Res) (s : State) (b : Bool) : Prop :=
  (b = true → ∃ t, r = .next t ∧ t.pending = s.pending) ∧ (b = false → r = .fault .absentUnit)

theorem fits_onUnit : Fits (onUnit s b d) s b := by
  cases b <;> simp [Fits, onUnit, State.withDev]

theorem fits_next (h : t.pending = s.pending) : Fits (.next t) s true := by simp [Fits, h]

theorem fits_if {p : Prop} [Decidable p] (h : Fits r s true) : Fits (if p then r else .fault .absentUnit) s (decide p) := by
  by_cases hp : p <;> simp_all [Fits]

theorem fits_writeRow {e idx sub : Nat} {data : Bytes} : Fits (writeRow e idx sub data s) s true := fits_next rfl

theorem fits_sweepRow {e kind : Nat} {c : Bytes} : Fits (sweepRow e kind c s) s true := by
  unfold sweepRow
  split
  · exact fits_writeRow
  · exact fits_next rfl

/-- A command on a fitted unit that gives a device its effect does what that device has. -/
theorem does_onUnit {c : Instr} {P : Dev → Prop} (h : exec c s = onUnit s true d) (p : P d) : Does c s P :=
  ⟨s.withDev d, by rw [h]; rfl, rfl, rfl, p⟩

theorem does_next {c : Instr} {P : Dev → Prop} (h : exec c s = .next (s.withDev d)) (p : P d) : Does c s P :=
  ⟨s.withDev d, h, rfl, rfl, p⟩


end Sys2Proof.Machine
end

