-- ==== Sys2Proof/WellFormed.lean ====
section
/-! DEFINITION. The ranges of commands' operands: the numbers of units, records and instances that the spec gives the
largest grade (00 Table 0.1) and the records of each table. -/

namespace Sys2Proof

/-- A physical quad of the largest grade (00 Table 0.1). -/
def QuadAt.wf (q : QuadAt) : Bool := decide (q.quad.toNat < 256)

/-- A partition number (07 R256). -/
def partitionOk (p : Nat) : Bool := decide (p < 64)

/-- A strip number (07 R261). -/
def stripOk (s : Nat) : Bool := decide (s < 256)

/-- An Aksia port of the largest grade (10 R414). -/
def aksiaPortOk (p : Nat) : Bool := decide (p < 48)

/-- An Ethernet port (11 R446). -/
def ethPortOk (p : Nat) : Bool := decide (p < 3)

/-- A message source (03 R84). -/
def MsgSource.wf : MsgSource → Bool
  | .quad _ => true
  | .ingress p l _ => partitionOk p && decide (l < 256)
  | .notice p l => partitionOk p && decide (l < 256)

/-- A segment timeout's target (09 R368, R376). -/
def AsmTarget.wf : AsmTarget → Bool
  | .strip s => stripOk s
  | .answer p port => partitionOk p && decide (port < 0x20000)

/-- The operands of a command are in range. -/
def Instr.wf : Instr → Bool
  | .messageDelivery _ _ src => src.wf
  | .benchSlotPass _ r => decide (r < 64)
  | .benchSlotMissed _ r => decide (r < 64)
  | .hintChange _ r _ => decide (r < 4096)
  | .calibrationHoleEnd _ r => decide (r < 256)
  | .unitCommandComplete _ u => decide (u < 6)
  | .keyCreditSend _ p _ => partitionOk p
  | .pointOpen _ p n _ => partitionOk p && decide (n < 64)
  | .bearingAnswer _ p => partitionOk p
  | .pencilBudget _ p n => partitionOk p && decide (n < 16)
  | .bearingTimeout _ p n => partitionOk p && decide (n < 16)
  | .beatOpening _ p => partitionOk p
  | .checkpointComplete _ p => partitionOk p
  | .mirrorAck _ p _ => partitionOk p
  | .partitionHalt _ p => partitionOk p
  | .partitionRestart _ p => partitionOk p
  | .stallWatchdog _ p => partitionOk p
  | .sheetLoad _ p l => partitionOk p && decide (l < 256)
  | .run _ p _ => partitionOk p
  | .abort_ _ s _ => stripOk s
  | .handover _ p => partitionOk p
  | .burstProfile _ i _ _ _ => decide (i < 4)
  | .keyControl _ i _ => decide (i = 1) || decide (i = 2)
  | .segmentReceived _ s _ => stripOk s
  | .assemblyTimeout _ t => t.wf
  | .answerSegment _ p port _ => partitionOk p && decide (port < 0x20000)
  | .itemEntry _ p => partitionOk p
  | .udpDatagramReceived _ p _ _ _ _ => decide (p = 1) || decide (p = 2)
  | .igmpQuery _ p _ => decide (p = 1) || decide (p = 2)
  | .localPortTransmit _ p => decide (p = 1) || decide (p = 2)
  | .packetReceived _ p _ _ => aksiaPortOk p
  | .linkFrameRetransmit _ p _ => aksiaPortOk p
  | .portAttempt _ p _ => aksiaPortOk p
  | .portAttemptTimeout _ p => aksiaPortOk p
  | .portBackoffEnd _ p => aksiaPortOk p
  | .ident _ p _ _ => aksiaPortOk p
  | .portDown _ p _ => aksiaPortOk p
  | .linkState _ p _ k _ _ => aksiaPortOk p && decide (k < 6)
  | .eyeMeasurement _ p l => aksiaPortOk p && decide (l.length ≤ 8)
  | .delayExchange _ p _ _ _ _ => aksiaPortOk p
  | .update _ p _ _ _ _ => aksiaPortOk p
  | .buddyLossTimeout _ h => partitionOk h
  | .takeover _ h => partitionOk h
  | .ethFrameReceived _ p _ _ => ethPortOk p
  | .arpRequestSend _ p _ => ethPortOk p
  | .arpRefresh _ p _ => ethPortOk p
  | .wakeMatch _ p _ _ => ethPortOk p
  | .announce _ a => ethPortOk a.port
  | .sync _ p _ _ _ => ethPortOk p
  | .ethLinkChange _ p _ _ => ethPortOk p
  | .ed25519Verify _ r _ => decide (r < 16)
  | .p256Verify _ r _ => decide (r < 16)
  | .p384Verify _ r _ => decide (r < 16)
  | .rsaVerify _ r _ => decide (r < 16)
  | .mldsa65Verify _ r _ => decide (r < 16)
  | .agree _ r _ => decide (r < 16)
  | .attest _ r _ => decide (r < 16)
  | .jobFree _ r => decide (r < 16)
  | .keyOverlapEnd _ k => decide (k < 128)
  | .rollbackRevert _ r => decide (r < 16)
  | .txnIdleRollback _ r => decide (r < 16)
  | .eventSend _ n => decide (n < 8)
  | .eventRetry _ n => decide (n < 8)
  | .create _ p _ _ _ => decide (p < 8)
  | .seal _ p b => decide (p < 8) && decide (b.length = 32)
  | .open_ _ p _ => decide (p < 8)
  | .close _ p => decide (p < 8)
  | .delete _ p _ => decide (p < 8)
  | .load _ p _ _ _ _ _ => decide (p < 8)
  | .archive _ p _ _ => decide (p < 8)
  | .portAbort _ p => decide (p < 8)
  | .portOperationComplete _ p => decide (p < 8)
  | .portData _ p _ => decide (p < 8)
  | .portPos _ p _ => decide (p < 8)
  | .vaultKey _ n b => decide (n < 256) && decide (b.length ≤ 16)
  | .gazPage _ p _ => partitionOk p
  | .gazNext _ p _ => partitionOk p
  | .patrolRead _ c _ _ _ _ => decide (c < 8)
  | .wearRelocation _ c => decide (c < 8)
  | .programFailure _ c _ => decide (c < 8)
  | .codewordReadRetry _ c _ _ _ => decide (c < 8)
  | .pinContention _ p => decide (p < 5)
  | .pinTest _ p _ => decide (p < 5)
  | .stackTrainingAttempt _ k _ => decide (k < 12)
  | .vaultKeyLoadComplete _ n => decide (n < 256)
  | .quadCalibration _ _ l => decide (l.length = 10)
  | .tickEdge .. | .graticuleStep .. | .dwellEnd .. | .fabricUpdateTimeout .. | .holdoverLimit .. | .splitComparison .. | .add .. | .sub .. | .and_ .. | .or_ .. | .xor_ .. | .sll .. => true
  | .srl .. | .sra .. | .slt .. | .sltu .. | .mul .. | .mulh .. | .mulhu .. | .addi .. | .andi .. | .ori .. | .xori .. | .slti .. => true
  | .slli .. | .srli .. | .srai .. | .lui .. | .lb .. | .lh .. | .lw .. | .lbu .. | .lhu .. | .sb .. | .sh .. | .sw .. => true
  | .beq .. | .bne .. | .blt .. | .bge .. | .bltu .. | .bgeu .. | .jal .. | .jalr .. | .fence .. | .csrr .. | .csrw .. | .send .. => true
  | .recv .. | .recvw .. | .qlen .. | .arm .. | .armt .. | .cancel .. | .yield .. | .done .. | .rdt .. | .rdth .. | .waitt .. | .cmd .. => true
  | .uwait .. | .ustat .. | .trap .. | .illegalInstruction .. | .storeBufferDrain .. | .taskDispatch .. | .laneCommand .. | .laneNop .. | .laneLd .. | .laneSt .. | .laneMovi .. | .laneMov .. => true
  | .laneAdd .. | .laneSub .. | .laneMul .. | .laneMac .. | .laneMin .. | .laneMax .. | .laneAbs .. | .laneNeg .. | .laneShl .. | .laneShr .. | .laneAnd .. | .laneOr .. => true
  | .laneXor .. | .laneCvt .. | .laneCeq .. | .laneClt .. | .laneCle .. | .laneSel .. | .laneMand .. | .laneMor .. | .laneMnot .. | .laneXsum .. | .laneXmax .. | .laneXmin .. => true
  | .laneSetq .. | .laneMadd .. | .laneMsub .. | .laneMmul .. | .laneMmac .. | .laneLaneid .. | .laneIter .. | .copy .. | .gather .. | .scatter .. | .zero .. | .cimLoad .. => true
  | .dot .. | .had .. | .bench .. | .fwd .. | .inv .. | .automorphismEval .. | .automorphismCoef .. | .bext .. | .kmac .. | .expand .. | .kfetch .. | .keyRequestReceived .. => true
  | .vaultPageSend .. | .keyPageLanding .. | .keyRetry .. | .keyNack .. | .gazCountInterval .. | .mirrorWrite .. | .psbdReceived .. | .xgemFrameReceived .. | .assignOnuId .. | .rangingTime .. | .deactivateOnuId .. | .disableSerialNumber .. => true
  | .requestRegistration .. | .assignAllocId .. | .sleepAllow .. | .ploamUnsupported .. | .omciMessage .. | .mibReset .. | .timeOfDaySet .. | .to1Expiry .. | .to2Expiry .. | .activationBackoffEnd .. | .allocation .. | .allocationFill .. => true
  | .burstOverrun .. | .opticsPoll .. | .watchfulSleepReception .. | .datumClaim .. | .heartbeatSend .. | .heartbeatReceived .. | .heartbeatAck .. | .fenceTimeout .. | .mdioPoll .. | .speedJudgement .. | .delayResp .. | .ptpTimeout .. => true
  | .jobStart .. | .yieldStation .. | .jobComplete .. | .jobAbort .. | .keyErase .. | .raiseFloor .. | .revokeKeyset .. | .ezithRequest .. | .read .. | .write .. | .begin_ .. | .commit .. => true
  | .rollback .. | .registerWrite .. | .commitJudgement .. | .eventAck .. | .flavour .. | .ptpEpochOffset .. | .journalRecordProgrammed .. | .ewarnStop .. | .mount .. | .vinQualified .. | .startComplete .. | .sentryInrushFail .. => true
  | .sentryGateStuck .. | .sentrySample .. | .sentryOvercurrent .. | .sentryOv .. | .sentryUv .. | .tsnsReading .. | .controlledCut .. | .ewarnInput .. | .ewarnNegate .. | .sentryBackoffEnd .. | .sentryFetShort .. | .droop .. => true
  | .droopRecovery .. | .holeStarvation .. | .thermalSample .. | .dormantEnter .. | .dormantEntryComplete .. | .wakeAt .. | .wake .. | .wakeComplete .. | .deviceHalt .. | .clear .. | .inject .. | .severity .. => true
  | .faultLogProgram .. | .railsInRange .. | .bootRound .. | .bootRoundBackoffEnd .. | .startupObjectApply .. | .laneSweep .. | .stackSweep .. | .coreSweep .. | .sweepComplete .. | .sweepAbort .. | .powerOn | .psbdMissing .. => true
  | .extest .. => true

end Sys2Proof
end

