-- ==== Sys2Proof/Laws/PerInstr.lean ====
section
/-! SUPPORT. The per-command family Ranges: a well-formed command names a unit that exists where 256 quads, 12 SRAM stacks
and 48 Aksia ports are fitted, the most that any grade has (00 Table 0.1). -/

namespace Sys2Proof.Laws.Ranges

open Sys2Proof.Machine

set_option Elab.async false

/-- A command with its operands in range names a unit of the largest fitting. -/
def Statement (c : Instr) : Prop := c.wf = true → unitWithin 256 12 48 c = true


theorem tickEdge (spacing) : Statement (.tickEdge spacing) := fun _ => rfl

theorem graticuleStep (source) : Statement (.graticuleStep source) := fun _ => rfl

theorem dwellEnd (e source) : Statement (.dwellEnd e source) := fun _ => rfl

theorem fabricUpdateTimeout (e) : Statement (.fabricUpdateTimeout e) := fun _ => rfl

theorem holdoverLimit (e) : Statement (.holdoverLimit e) := fun _ => rfl

theorem splitComparison (e fabric) : Statement (.splitComparison e fabric) := fun _ => rfl

theorem add (q) : Statement (.add q) := fun _ => decide_eq_true (BitVec.isLt _)

theorem sub (q) : Statement (.sub q) := fun _ => decide_eq_true (BitVec.isLt _)

theorem and_ (q) : Statement (.and_ q) := fun _ => decide_eq_true (BitVec.isLt _)

theorem or_ (q) : Statement (.or_ q) := fun _ => decide_eq_true (BitVec.isLt _)

theorem xor_ (q) : Statement (.xor_ q) := fun _ => decide_eq_true (BitVec.isLt _)

theorem sll (q) : Statement (.sll q) := fun _ => decide_eq_true (BitVec.isLt _)

theorem srl (q) : Statement (.srl q) := fun _ => decide_eq_true (BitVec.isLt _)

theorem sra (q) : Statement (.sra q) := fun _ => decide_eq_true (BitVec.isLt _)

theorem slt (q) : Statement (.slt q) := fun _ => decide_eq_true (BitVec.isLt _)

theorem sltu (q) : Statement (.sltu q) := fun _ => decide_eq_true (BitVec.isLt _)

theorem mul (q) : Statement (.mul q) := fun _ => decide_eq_true (BitVec.isLt _)

theorem mulh (q) : Statement (.mulh q) := fun _ => decide_eq_true (BitVec.isLt _)

theorem mulhu (q) : Statement (.mulhu q) := fun _ => decide_eq_true (BitVec.isLt _)

theorem addi (q) : Statement (.addi q) := fun _ => decide_eq_true (BitVec.isLt _)

theorem andi (q) : Statement (.andi q) := fun _ => decide_eq_true (BitVec.isLt _)

theorem ori (q) : Statement (.ori q) := fun _ => decide_eq_true (BitVec.isLt _)

theorem xori (q) : Statement (.xori q) := fun _ => decide_eq_true (BitVec.isLt _)

theorem slti (q) : Statement (.slti q) := fun _ => decide_eq_true (BitVec.isLt _)

theorem slli (q) : Statement (.slli q) := fun _ => decide_eq_true (BitVec.isLt _)

theorem srli (q) : Statement (.srli q) := fun _ => decide_eq_true (BitVec.isLt _)

theorem srai (q) : Statement (.srai q) := fun _ => decide_eq_true (BitVec.isLt _)

theorem lui (q) : Statement (.lui q) := fun _ => decide_eq_true (BitVec.isLt _)

theorem lb (q) : Statement (.lb q) := fun _ => decide_eq_true (BitVec.isLt _)

theorem lh (q) : Statement (.lh q) := fun _ => decide_eq_true (BitVec.isLt _)

theorem lw (q) : Statement (.lw q) := fun _ => decide_eq_true (BitVec.isLt _)

theorem lbu (q) : Statement (.lbu q) := fun _ => decide_eq_true (BitVec.isLt _)

theorem lhu (q) : Statement (.lhu q) := fun _ => decide_eq_true (BitVec.isLt _)

theorem sb (q) : Statement (.sb q) := fun _ => decide_eq_true (BitVec.isLt _)

theorem sh (q) : Statement (.sh q) := fun _ => decide_eq_true (BitVec.isLt _)

theorem sw (q) : Statement (.sw q) := fun _ => decide_eq_true (BitVec.isLt _)

theorem beq (q) : Statement (.beq q) := fun _ => decide_eq_true (BitVec.isLt _)

theorem bne (q) : Statement (.bne q) := fun _ => decide_eq_true (BitVec.isLt _)

theorem blt (q) : Statement (.blt q) := fun _ => decide_eq_true (BitVec.isLt _)

theorem bge (q) : Statement (.bge q) := fun _ => decide_eq_true (BitVec.isLt _)

theorem bltu (q) : Statement (.bltu q) := fun _ => decide_eq_true (BitVec.isLt _)

theorem bgeu (q) : Statement (.bgeu q) := fun _ => decide_eq_true (BitVec.isLt _)

theorem jal (q) : Statement (.jal q) := fun _ => decide_eq_true (BitVec.isLt _)

theorem jalr (q) : Statement (.jalr q) := fun _ => decide_eq_true (BitVec.isLt _)

theorem fence (q) : Statement (.fence q) := fun _ => decide_eq_true (BitVec.isLt _)

theorem csrr (q) : Statement (.csrr q) := fun _ => decide_eq_true (BitVec.isLt _)

theorem csrw (q) : Statement (.csrw q) := fun _ => decide_eq_true (BitVec.isLt _)

theorem send (q) : Statement (.send q) := fun _ => decide_eq_true (BitVec.isLt _)

theorem recv (q) : Statement (.recv q) := fun _ => decide_eq_true (BitVec.isLt _)

theorem recvw (q) : Statement (.recvw q) := fun _ => decide_eq_true (BitVec.isLt _)

theorem qlen (q) : Statement (.qlen q) := fun _ => decide_eq_true (BitVec.isLt _)

theorem arm (q) : Statement (.arm q) := fun _ => decide_eq_true (BitVec.isLt _)

theorem armt (q) : Statement (.armt q) := fun _ => decide_eq_true (BitVec.isLt _)

theorem cancel (q) : Statement (.cancel q) := fun _ => decide_eq_true (BitVec.isLt _)

theorem yield (q) : Statement (.yield q) := fun _ => decide_eq_true (BitVec.isLt _)

theorem done (q) : Statement (.done q) := fun _ => decide_eq_true (BitVec.isLt _)

theorem rdt (q) : Statement (.rdt q) := fun _ => decide_eq_true (BitVec.isLt _)

theorem rdth (q) : Statement (.rdth q) := fun _ => decide_eq_true (BitVec.isLt _)

theorem waitt (q) : Statement (.waitt q) := fun _ => decide_eq_true (BitVec.isLt _)

theorem cmd (q) : Statement (.cmd q) := fun _ => decide_eq_true (BitVec.isLt _)

theorem uwait (q) : Statement (.uwait q) := fun _ => decide_eq_true (BitVec.isLt _)

theorem ustat (q) : Statement (.ustat q) := fun _ => decide_eq_true (BitVec.isLt _)

theorem trap (q) : Statement (.trap q) := fun _ => decide_eq_true (BitVec.isLt _)

theorem illegalInstruction (q) : Statement (.illegalInstruction q) := fun _ => decide_eq_true (BitVec.isLt _)

theorem storeBufferDrain (q) : Statement (.storeBufferDrain q) := fun _ => decide_eq_true (BitVec.isLt _)

theorem messageDelivery (e cyc src) : Statement (.messageDelivery e cyc src) := by
  cases src <;> intro h <;> simp [Instr.wf, unitWithin, MsgSource.wf, partitionOk] at h ⊢ <;> omega

theorem taskDispatch (q) : Statement (.taskDispatch q) := fun _ => decide_eq_true (BitVec.isLt _)

theorem laneCommand (q) : Statement (.laneCommand q) := fun _ => decide_eq_true (BitVec.isLt _)

theorem laneNop (q a) : Statement (.laneNop q a) := fun _ => decide_eq_true (BitVec.isLt _)

theorem laneLd (q a) : Statement (.laneLd q a) := fun _ => decide_eq_true (BitVec.isLt _)

theorem laneSt (q a) : Statement (.laneSt q a) := fun _ => decide_eq_true (BitVec.isLt _)

theorem laneMovi (q a) : Statement (.laneMovi q a) := fun _ => decide_eq_true (BitVec.isLt _)

theorem laneMov (q a) : Statement (.laneMov q a) := fun _ => decide_eq_true (BitVec.isLt _)

theorem laneAdd (q a) : Statement (.laneAdd q a) := fun _ => decide_eq_true (BitVec.isLt _)

theorem laneSub (q a) : Statement (.laneSub q a) := fun _ => decide_eq_true (BitVec.isLt _)

theorem laneMul (q a) : Statement (.laneMul q a) := fun _ => decide_eq_true (BitVec.isLt _)

theorem laneMac (q a) : Statement (.laneMac q a) := fun _ => decide_eq_true (BitVec.isLt _)

theorem laneMin (q a) : Statement (.laneMin q a) := fun _ => decide_eq_true (BitVec.isLt _)

theorem laneMax (q a) : Statement (.laneMax q a) := fun _ => decide_eq_true (BitVec.isLt _)

theorem laneAbs (q a) : Statement (.laneAbs q a) := fun _ => decide_eq_true (BitVec.isLt _)

theorem laneNeg (q a) : Statement (.laneNeg q a) := fun _ => decide_eq_true (BitVec.isLt _)

theorem laneShl (q a) : Statement (.laneShl q a) := fun _ => decide_eq_true (BitVec.isLt _)

theorem laneShr (q a) : Statement (.laneShr q a) := fun _ => decide_eq_true (BitVec.isLt _)

theorem laneAnd (q a) : Statement (.laneAnd q a) := fun _ => decide_eq_true (BitVec.isLt _)

theorem laneOr (q a) : Statement (.laneOr q a) := fun _ => decide_eq_true (BitVec.isLt _)

theorem laneXor (q a) : Statement (.laneXor q a) := fun _ => decide_eq_true (BitVec.isLt _)

theorem laneCvt (q a) : Statement (.laneCvt q a) := fun _ => decide_eq_true (BitVec.isLt _)

theorem laneCeq (q a) : Statement (.laneCeq q a) := fun _ => decide_eq_true (BitVec.isLt _)

theorem laneClt (q a) : Statement (.laneClt q a) := fun _ => decide_eq_true (BitVec.isLt _)

theorem laneCle (q a) : Statement (.laneCle q a) := fun _ => decide_eq_true (BitVec.isLt _)

theorem laneSel (q a) : Statement (.laneSel q a) := fun _ => decide_eq_true (BitVec.isLt _)

theorem laneMand (q a) : Statement (.laneMand q a) := fun _ => decide_eq_true (BitVec.isLt _)

theorem laneMor (q a) : Statement (.laneMor q a) := fun _ => decide_eq_true (BitVec.isLt _)

theorem laneMnot (q a) : Statement (.laneMnot q a) := fun _ => decide_eq_true (BitVec.isLt _)

theorem laneXsum (q a) : Statement (.laneXsum q a) := fun _ => decide_eq_true (BitVec.isLt _)

theorem laneXmax (q a) : Statement (.laneXmax q a) := fun _ => decide_eq_true (BitVec.isLt _)

theorem laneXmin (q a) : Statement (.laneXmin q a) := fun _ => decide_eq_true (BitVec.isLt _)

theorem laneSetq (q a) : Statement (.laneSetq q a) := fun _ => decide_eq_true (BitVec.isLt _)

theorem laneMadd (q a) : Statement (.laneMadd q a) := fun _ => decide_eq_true (BitVec.isLt _)

theorem laneMsub (q a) : Statement (.laneMsub q a) := fun _ => decide_eq_true (BitVec.isLt _)

theorem laneMmul (q a) : Statement (.laneMmul q a) := fun _ => decide_eq_true (BitVec.isLt _)

theorem laneMmac (q a) : Statement (.laneMmac q a) := fun _ => decide_eq_true (BitVec.isLt _)

theorem laneLaneid (q a) : Statement (.laneLaneid q a) := fun _ => decide_eq_true (BitVec.isLt _)

theorem laneIter (q a) : Statement (.laneIter q a) := fun _ => decide_eq_true (BitVec.isLt _)

theorem copy (q) : Statement (.copy q) := fun _ => decide_eq_true (BitVec.isLt _)

theorem gather (q) : Statement (.gather q) := fun _ => decide_eq_true (BitVec.isLt _)

theorem scatter (q) : Statement (.scatter q) := fun _ => decide_eq_true (BitVec.isLt _)

theorem zero (q) : Statement (.zero q) := fun _ => decide_eq_true (BitVec.isLt _)

theorem cimLoad (q) : Statement (.cimLoad q) := fun _ => decide_eq_true (BitVec.isLt _)

theorem dot (q) : Statement (.dot q) := fun _ => decide_eq_true (BitVec.isLt _)

theorem had (q) : Statement (.had q) := fun _ => decide_eq_true (BitVec.isLt _)

theorem bench (q) : Statement (.bench q) := fun _ => decide_eq_true (BitVec.isLt _)

theorem benchSlotPass (q record) : Statement (.benchSlotPass q record) := fun h => Bool.and_eq_true_iff.mpr ⟨decide_eq_true (BitVec.isLt _), h⟩

theorem benchSlotMissed (q record) : Statement (.benchSlotMissed q record) := fun h => Bool.and_eq_true_iff.mpr ⟨decide_eq_true (BitVec.isLt _), h⟩

theorem fwd (q) : Statement (.fwd q) := fun _ => decide_eq_true (BitVec.isLt _)

theorem inv (q) : Statement (.inv q) := fun _ => decide_eq_true (BitVec.isLt _)

theorem automorphismEval (q) : Statement (.automorphismEval q) := fun _ => decide_eq_true (BitVec.isLt _)

theorem automorphismCoef (q) : Statement (.automorphismCoef q) := fun _ => decide_eq_true (BitVec.isLt _)

theorem bext (q) : Statement (.bext q) := fun _ => decide_eq_true (BitVec.isLt _)

theorem kmac (q) : Statement (.kmac q) := fun _ => decide_eq_true (BitVec.isLt _)

theorem expand (q) : Statement (.expand q) := fun _ => decide_eq_true (BitVec.isLt _)

theorem kfetch (q) : Statement (.kfetch q) := fun _ => decide_eq_true (BitVec.isLt _)

theorem unitCommandComplete (q unit) : Statement (.unitCommandComplete q unit) := fun h => Bool.and_eq_true_iff.mpr ⟨decide_eq_true (BitVec.isLt _), h⟩

theorem keyRequestReceived (e r) : Statement (.keyRequestReceived e r) := fun _ => rfl

theorem vaultPageSend (e) : Statement (.vaultPageSend e) := fun _ => rfl

theorem keyPageLanding (q tag page) : Statement (.keyPageLanding q tag page) := fun _ => decide_eq_true (BitVec.isLt _)

theorem keyRetry (q tag) : Statement (.keyRetry q tag) := fun _ => decide_eq_true (BitVec.isLt _)

theorem keyNack (q tag) : Statement (.keyNack q tag) := fun _ => decide_eq_true (BitVec.isLt _)

theorem keyCreditSend (e partition vault) : Statement (.keyCreditSend e partition vault) := fun h => h

theorem pointOpen (e partition point beat) : Statement (.pointOpen e partition point beat) := fun h => h

theorem bearingAnswer (e partition) : Statement (.bearingAnswer e partition) := fun h => h

theorem pencilBudget (e partition entry) : Statement (.pencilBudget e partition entry) := fun h => h

theorem bearingTimeout (e partition entry) : Statement (.bearingTimeout e partition entry) := fun h => h

theorem gazCountInterval (e) : Statement (.gazCountInterval e) := fun _ => rfl

theorem beatOpening (e partition) : Statement (.beatOpening e partition) := fun h => h

theorem checkpointComplete (e partition) : Statement (.checkpointComplete e partition) := fun h => h

theorem mirrorWrite (e device partition tenant beat phase strips pages) : Statement (.mirrorWrite e device partition tenant beat phase strips pages) := fun _ => rfl

theorem mirrorAck (e partition beat) : Statement (.mirrorAck e partition beat) := fun h => h

theorem partitionHalt (e partition) : Statement (.partitionHalt e partition) := fun h => h

theorem partitionRestart (e partition) : Statement (.partitionRestart e partition) := fun h => h

theorem stallWatchdog (e partition) : Statement (.stallWatchdog e partition) := fun h => h

theorem sheetLoad (e partition logical) : Statement (.sheetLoad e partition logical) := fun h => h

theorem run (e partition value) : Statement (.run e partition value) := fun h => h

theorem abort_ (e strip mask) : Statement (.abort_ e strip mask) := fun h => h

theorem handover (e partition) : Statement (.handover e partition) := fun h => h

theorem psbdReceived (e psyncErrors hecOk count) : Statement (.psbdReceived e psyncErrors hecOk count) := fun _ => rfl

theorem xgemFrameReceived (e port keyIndex corrected lost counter payload) : Statement (.xgemFrameReceived e port keyIndex corrected lost counter payload) := fun _ => rfl

theorem burstProfile (h index preamble delimiter fec) : Statement (.burstProfile h index preamble delimiter fec) := fun _ => rfl

theorem assignOnuId (h serial onuId) : Statement (.assignOnuId h serial onuId) := fun _ => rfl

theorem rangingTime (h eqdNs relative) : Statement (.rangingTime h eqdNs relative) := fun _ => rfl

theorem deactivateOnuId (h) : Statement (.deactivateOnuId h) := fun _ => rfl

theorem disableSerialNumber (h serial enable) : Statement (.disableSerialNumber h serial enable) := fun _ => rfl

theorem requestRegistration (h) : Statement (.requestRegistration h) := fun _ => rfl

theorem assignAllocId (h allocId remove) : Statement (.assignAllocId h allocId remove) := fun _ => rfl

theorem keyControl (h keyIndex confirm) : Statement (.keyControl h keyIndex confirm) := fun _ => rfl

theorem sleepAllow (h allowed) : Statement (.sleepAllow h allowed) := fun _ => rfl

theorem ploamUnsupported (h type) : Statement (.ploamUnsupported h type) := fun _ => rfl

theorem omciMessage (e m) : Statement (.omciMessage e m) := fun _ => rfl

theorem mibReset (e micOk tci) : Statement (.mibReset e micOk tci) := fun _ => rfl

theorem timeOfDaySet (e micOk tci sequence timestamp) : Statement (.timeOfDaySet e micOk tci sequence timestamp) := fun _ => rfl

theorem to1Expiry (e) : Statement (.to1Expiry e) := fun _ => rfl

theorem to2Expiry (e) : Statement (.to2Expiry e) := fun _ => rfl

theorem activationBackoffEnd (e) : Statement (.activationBackoffEnd e) := fun _ => rfl

theorem allocation (e a) : Statement (.allocation e a) := fun _ => rfl

theorem allocationFill (e a) : Statement (.allocationFill e a) := fun _ => rfl

theorem burstOverrun (e heldNs) : Statement (.burstOverrun e heldNs) := fun _ => rfl

theorem opticsPoll (e reading) : Statement (.opticsPoll e reading) := fun _ => rfl

theorem watchfulSleepReception (e count forcedWake) : Statement (.watchfulSleepReception e count forcedWake) := fun _ => rfl

theorem segmentReceived (e strip sdu) : Statement (.segmentReceived e strip sdu) := fun h => h

theorem assemblyTimeout (e target) : Statement (.assemblyTimeout e target) := by
  cases target <;> intro h <;> simp [Instr.wf, unitWithin, AsmTarget.wf, partitionOk, stripOk] at h ⊢ <;> omega

theorem answerSegment (e partition port sdu) : Statement (.answerSegment e partition port sdu) := fun h => (Bool.and_eq_true_iff.mp h).1

theorem itemEntry (e partition) : Statement (.itemEntry e partition) := fun h => h

theorem udpDatagramReceived (e port address udpPort fragment payload) : Statement (.udpDatagramReceived e port address udpPort fragment payload) := fun h => h

theorem igmpQuery (e port group) : Statement (.igmpQuery e port group) := fun h => h

theorem localPortTransmit (e port) : Statement (.localPortTransmit e port) := fun h => h

theorem packetReceived (e port corrected f) : Statement (.packetReceived e port corrected f) := fun h => h

theorem linkFrameRetransmit (e port seq) : Statement (.linkFrameRetransmit e port seq) := fun h => h

theorem portAttempt (e port phase) : Statement (.portAttempt e port phase) := fun h => h

theorem portAttemptTimeout (e port) : Statement (.portAttemptTimeout e port) := fun h => h

theorem portBackoffEnd (e port) : Statement (.portBackoffEnd e port) := fun h => h

theorem ident (e port peer times) : Statement (.ident e port peer times) := fun h => h

theorem portDown (e port lanesLost) : Statement (.portDown e port lanesLost) := fun h => h

theorem linkState (e port device direction up seq) : Statement (.linkState e port device direction up seq) := fun h => (Bool.and_eq_true_iff.mp h).1

theorem eyeMeasurement (e port eyesMv) : Statement (.eyeMeasurement e port eyesMv) := fun h => (Bool.and_eq_true_iff.mp h).1

theorem delayExchange (e port t1 t2 t3 t4) : Statement (.delayExchange e port t1 t2 t3 t4) := fun h => h

theorem datumClaim (e) : Statement (.datumClaim e) := fun _ => rfl

theorem update (e port tick state correction residence) : Statement (.update e port tick state correction residence) := fun h => h

theorem heartbeatSend (e) : Statement (.heartbeatSend e) := fun _ => rfl

theorem heartbeatReceived (e device running handover fenced) : Statement (.heartbeatReceived e device running handover fenced) := fun _ => rfl

theorem heartbeatAck (e device) : Statement (.heartbeatAck e device) := fun _ => rfl

theorem fenceTimeout (e device) : Statement (.fenceTimeout e device) := fun _ => rfl

theorem buddyLossTimeout (e holder) : Statement (.buddyLossTimeout e holder) := fun h => h

theorem takeover (e holder) : Statement (.takeover e holder) := fun h => h

theorem ethFrameReceived (e port fcsOk frame) : Statement (.ethFrameReceived e port fcsOk frame) := fun h => h

theorem arpRequestSend (e port ip) : Statement (.arpRequestSend e port ip) := fun h => h

theorem arpRefresh (e port ip) : Statement (.arpRefresh e port ip) := fun h => h

theorem mdioPoll (e status) : Statement (.mdioPoll e status) := fun _ => rfl

theorem speedJudgement (e) : Statement (.speedJudgement e) := fun _ => rfl

theorem wakeMatch (e port fcsOk frame) : Statement (.wakeMatch e port fcsOk frame) := fun h => h

theorem announce (e a) : Statement (.announce e a) := fun h => h

theorem sync (e port sender t1 t2) : Statement (.sync e port sender t1 t2) := fun h => h

theorem delayResp (e t3 t4) : Statement (.delayResp e t3 t4) := fun _ => rfl

theorem ptpTimeout (e) : Statement (.ptpTimeout e) := fun _ => rfl

theorem ed25519Verify (e record input) : Statement (.ed25519Verify e record input) := fun h => h

theorem p256Verify (e record input) : Statement (.p256Verify e record input) := fun h => h

theorem p384Verify (e record input) : Statement (.p384Verify e record input) := fun h => h

theorem rsaVerify (e record input) : Statement (.rsaVerify e record input) := fun h => h

theorem mldsa65Verify (e record input) : Statement (.mldsa65Verify e record input) := fun h => h

theorem agree (e record input) : Statement (.agree e record input) := fun h => h

theorem attest (e record input) : Statement (.attest e record input) := fun h => h

theorem jobFree (e record) : Statement (.jobFree e record) := fun h => h

theorem jobStart (e) : Statement (.jobStart e) := fun _ => rfl

theorem yieldStation (e) : Statement (.yieldStation e) := fun _ => rfl

theorem jobComplete (e retry) : Statement (.jobComplete e retry) := fun _ => rfl

theorem jobAbort (e record) : Statement (.jobAbort e record) := fun _ => rfl

theorem keyOverlapEnd (e slot) : Statement (.keyOverlapEnd e slot) := fun h => h

theorem keyErase (e value) : Statement (.keyErase e value) := fun _ => rfl

theorem raiseFloor (e value) : Statement (.raiseFloor e value) := fun _ => rfl

theorem revokeKeyset (e value) : Statement (.revokeKeyset e value) := fun _ => rfl

theorem ezithRequest (e path message) : Statement (.ezithRequest e path message) := fun _ => rfl

theorem read (e path index sub offset length) : Statement (.read e path index sub offset length) := fun _ => rfl

theorem write (e slot txn index sub setLength offset data) : Statement (.write e slot txn index sub setLength offset data) := fun _ => rfl

theorem begin_ (e slot) : Statement (.begin_ e slot) := fun _ => rfl

theorem commit (e slot txn tick) : Statement (.commit e slot txn tick) := fun _ => rfl

theorem rollback (e slot txn) : Statement (.rollback e slot txn) := fun _ => rfl

theorem registerWrite (e index sub setLength offset data) : Statement (.registerWrite e index sub setLength offset data) := fun _ => rfl

theorem commitJudgement (e) : Statement (.commitJudgement e) := fun _ => rfl

theorem rollbackRevert (e record) : Statement (.rollbackRevert e record) := fun h => h

theorem txnIdleRollback (e record) : Statement (.txnIdleRollback e record) := fun h => h

theorem eventSend (e subscriber) : Statement (.eventSend e subscriber) := fun h => h

theorem eventAck (e path message) : Statement (.eventAck e path message) := fun _ => rfl

theorem eventRetry (e subscriber) : Statement (.eventRetry e subscriber) := fun h => h

theorem create (e port kind object size) : Statement (.create e port kind object size) := fun h => h

end Sys2Proof.Laws.Ranges

open Sys2Proof Sys2Proof.Machine in
theorem Sys2Proof.Laws.Ranges.seal (e port digest) : Sys2Proof.Laws.Ranges.Statement (.seal e port digest) := fun h => (Bool.and_eq_true_iff.mp h).1

namespace Sys2Proof.Laws.Ranges

open Sys2Proof.Machine

theorem open_ (e port object) : Statement (.open_ e port object) := fun h => h

theorem close (e port) : Statement (.close e port) := fun h => h

theorem delete (e port object) : Statement (.delete e port object) := fun h => h

theorem load (e port object partition page offset length) : Statement (.load e port object partition page offset length) := fun h => h

theorem archive (e port object partition) : Statement (.archive e port object partition) := fun h => h

theorem portAbort (e port) : Statement (.portAbort e port) := fun h => h

theorem portOperationComplete (e port) : Statement (.portOperationComplete e port) := fun h => h

theorem portData (e port data) : Statement (.portData e port data) := fun h => h

theorem portPos (e port pos) : Statement (.portPos e port pos) := fun h => h

theorem vaultKey (e entry value) : Statement (.vaultKey e entry value) := fun h => (Bool.and_eq_true_iff.mp h).1

theorem gazPage (e partition page) : Statement (.gazPage e partition page) := fun h => h

theorem gazNext (e partition image) : Statement (.gazNext e partition image) := fun h => h

theorem flavour (e value) : Statement (.flavour e value) := fun _ => rfl

theorem ptpEpochOffset (e value) : Statement (.ptpEpochOffset e value) := fun _ => rfl

theorem journalRecordProgrammed (e) : Statement (.journalRecordProgrammed e) := fun _ => rfl

theorem patrolRead (e channel block bits retried last) : Statement (.patrolRead e channel block bits retried last) := fun h => h

theorem wearRelocation (e channel) : Statement (.wearRelocation e channel) := fun h => h

theorem programFailure (e channel block) : Statement (.programFailure e channel block) := fun h => h

theorem codewordReadRetry (e channel object codeword recovered) : Statement (.codewordReadRetry e channel object codeword recovered) := fun h => h

theorem ewarnStop (e) : Statement (.ewarnStop e) := fun _ => rfl

theorem mount (e targets) : Statement (.mount e targets) := fun _ => rfl

theorem vinQualified (e) : Statement (.vinQualified e) := fun _ => rfl

theorem startComplete (e) : Statement (.startComplete e) := fun _ => rfl

theorem sentryInrushFail (e) : Statement (.sentryInrushFail e) := fun _ => rfl

theorem sentryGateStuck (e) : Statement (.sentryGateStuck e) := fun _ => rfl

theorem sentrySample (e sample) : Statement (.sentrySample e sample) := fun _ => rfl

theorem sentryOvercurrent (e) : Statement (.sentryOvercurrent e) := fun _ => rfl

theorem sentryOv (e) : Statement (.sentryOv e) := fun _ => rfl

theorem sentryUv (e) : Statement (.sentryUv e) := fun _ => rfl

theorem tsnsReading (e reading) : Statement (.tsnsReading e reading) := fun _ => rfl

theorem controlledCut (e) : Statement (.controlledCut e) := fun _ => rfl

theorem ewarnInput (e) : Statement (.ewarnInput e) := fun _ => rfl

theorem ewarnNegate (e) : Statement (.ewarnNegate e) := fun _ => rfl

theorem sentryBackoffEnd (e) : Statement (.sentryBackoffEnd e) := fun _ => rfl

theorem sentryFetShort (e) : Statement (.sentryFetShort e) := fun _ => rfl

theorem pinContention (e pin) : Statement (.pinContention e pin) := fun h => h

theorem pinTest (e pin contention) : Statement (.pinTest e pin contention) := fun h => h

theorem hintChange (q record lead) : Statement (.hintChange q record lead) := fun _ => decide_eq_true (BitVec.isLt _)

theorem droop (q) : Statement (.droop q) := fun _ => decide_eq_true (BitVec.isLt _)

theorem droopRecovery (q) : Statement (.droopRecovery q) := fun _ => decide_eq_true (BitVec.isLt _)

theorem calibrationHoleEnd (q record) : Statement (.calibrationHoleEnd q record) := fun _ => decide_eq_true (BitVec.isLt _)

theorem holeStarvation (q) : Statement (.holeStarvation q) := fun _ => decide_eq_true (BitVec.isLt _)

theorem thermalSample (q tempC) : Statement (.thermalSample q tempC) := fun _ => decide_eq_true (BitVec.isLt _)

theorem dormantEnter (e) : Statement (.dormantEnter e) := fun _ => rfl

theorem dormantEntryComplete (e) : Statement (.dormantEntryComplete e) := fun _ => rfl

theorem wakeAt (e) : Statement (.wakeAt e) := fun _ => rfl

theorem wake (e) : Statement (.wake e) := fun _ => rfl

theorem wakeComplete (e) : Statement (.wakeComplete e) := fun _ => rfl

theorem deviceHalt (e) : Statement (.deviceHalt e) := fun _ => rfl

theorem clear (e value) : Statement (.clear e value) := fun _ => rfl

theorem inject (e record) : Statement (.inject e record) := fun _ => rfl

theorem severity (e source value) : Statement (.severity e source value) := fun _ => rfl

theorem faultLogProgram (e) : Statement (.faultLogProgram e) := fun _ => rfl

theorem railsInRange (e) : Statement (.railsInRange e) := fun _ => rfl

theorem bootRound (e answers) : Statement (.bootRound e answers) := fun _ => rfl

theorem bootRoundBackoffEnd (e) : Statement (.bootRoundBackoffEnd e) := fun _ => rfl

theorem stackTrainingAttempt (e stack ok) : Statement (.stackTrainingAttempt e stack ok) := fun h => h

theorem quadCalibration (e quad passMv) : Statement (.quadCalibration e quad passMv) := fun _ => decide_eq_true (BitVec.isLt _)

theorem startupObjectApply (e) : Statement (.startupObjectApply e) := fun _ => rfl

theorem laneSweep (e command) : Statement (.laneSweep e command) := fun _ => rfl

theorem stackSweep (e command) : Statement (.stackSweep e command) := fun _ => rfl

theorem coreSweep (e command) : Statement (.coreSweep e command) := fun _ => rfl

theorem sweepComplete (e result) : Statement (.sweepComplete e result) := fun _ => rfl

theorem sweepAbort (e) : Statement (.sweepAbort e) := fun _ => rfl

theorem powerOn : Statement .powerOn := fun _ => rfl

theorem psbdMissing (e) : Statement (.psbdMissing e) := fun _ => rfl

theorem ethLinkChange (e port up speedMbps) : Statement (.ethLinkChange e port up speedMbps) := fun h => h

theorem vaultKeyLoadComplete (e entry) : Statement (.vaultKeyLoadComplete e entry) := fun h => h

theorem extest (cells) : Statement (.extest cells) := fun _ => rfl

end Sys2Proof.Laws.Ranges
end

