-- ==== Sys2Proof/Laws/Raise.lean ====
section
/-! SUPPORT. What a raise may touch: the collector, the quads and spares, due recoveries of partitions, the subscribers'
queues, the sentry's due cut, and the Legend's values and counts. Everything else of the device is as before. -/

namespace Sys2Proof.Machine

/-- All that a raise leaves as it was (16 R614 to R627). -/
def RaiseKeeps (d x : Dev) : Prop :=
  x = { d with quads := x.quads, parts := x.parts, ez := x.ez, sentry := x.sentry, faults := x.faults, legend := x.legend, changes := x.changes }

variable {d x y : Dev}

theorem RaiseKeeps.refl : RaiseKeeps d d := rfl

theorem RaiseKeeps.trans (a : RaiseKeeps d x) (b : RaiseKeeps x y) : RaiseKeeps d y := by
  unfold RaiseKeeps at *
  rw [b, a]

theorem keeps_foldl {β : Type} (f : Dev → β → Dev) (h : ∀ a b, RaiseKeeps a (f a b)) (l : List β) : RaiseKeeps d (l.foldl f d) := by
  induction l generalizing d with
  | nil => exact .refl
  | cons b r ih => exact (h d b).trans ih

theorem keeps_logRecord (e : Bytes) : RaiseKeeps d (logRecord d e) := by
  simp only [logRecord]
  split <;> rfl

theorem keeps_latch (s : Nat) (t : Stamp) : RaiseKeeps d (latch d s t).2 := by
  simp only [latch]
  split
  · rfl
  · split <;> rfl

theorem keeps_ownChange (i s : Nat) (v : Bytes) : RaiseKeeps d (ownChange d i s v) := by
  unfold ownChange
  split <;> rfl

theorem keeps_failQuad (q : Nat) : RaiseKeeps d (failQuad d q) := by
  simp only [failQuad]
  split
  · exact RaiseKeeps.trans (x := d.setQuad q { d.quad q with st := .failed }) rfl (keeps_ownChange _ _ _)
  · rfl

theorem keeps_recoveryDue (p s : Nat) (t : Stamp) : RaiseKeeps d (recoveryDue d p s t) := by
  simp only [recoveryDue]
  split
  all_goals rfl

theorem keeps_failMapped (p q : Nat) : RaiseKeeps d (failMapped d p q) := by
  simp only [failMapped]
  split
  · rfl
  · exact keeps_failQuad _

theorem keeps_isolate (r : Raise) (t : Stamp) : RaiseKeeps d (isolate d r t) := by
  unfold isolate
  split
  · rfl
  · exact keeps_recoveryDue _ _ _
  · split
    · exact keeps_failQuad _
    · refine RaiseKeeps.trans ?_ (keeps_recoveryDue _ _ _)
      split
      · exact keeps_failMapped _ _
      · rfl

theorem keeps_haltDevice (v s : Nat) (t : Stamp) : RaiseKeeps d (haltDevice d v s t) := by
  simp only [haltDevice]
  split <;> rfl

theorem keeps_offerEvent (n : Nat) (b : Bytes) : RaiseKeeps d (offerEvent d n b).1 := by
  simp only [offerEvent]
  split <;> rfl

theorem keeps_pushEvent (k : Nat) (b : Bytes) : RaiseKeeps d (pushEvent d k b).1 := by
  unfold pushEvent
  generalize List.range 8 = l
  suffices ∀ (acc : Dev × List Nat), RaiseKeeps acc.1 (l.foldl (fun (acc : Dev × List Nat) n =>
      if subscribed acc.1 n k then
        let r := offerEvent acc.1 n b
        (r.1, if r.2 then acc.2 ++ [n] else acc.2)
      else acc) acc).1 from this (d, [])
  induction l with
  | nil => intro acc; exact .refl
  | cons n r ih =>
    intro acc
    refine RaiseKeeps.trans ?_ (ih _)
    dsimp only
    split
    · exact keeps_offerEvent _ _
    · exact .refl

theorem keeps_raiseOne (r : Raise) : RaiseKeeps d (raiseOne d r).1 := by
  unfold raiseOne
  extract_lets _ held stamp asNotify sev x count lf flags data d1 ev d2 p d3
  split
  · exact .refl
  · have h0 : RaiseKeeps d lf.2 := by
      show RaiseKeeps d (if 2 ≤ sev then latch d r.src stamp else (0, d)).2
      split
      · exact keeps_latch _ _
      · exact .refl
    have h1 : RaiseKeeps d d1 := h0.trans rfl
    split
    · exact h1
    · have h2 : RaiseKeeps d p.1 := (h1.trans (keeps_logRecord ev)).trans (keeps_pushEvent 0 ev)
      show RaiseKeeps d (if sev = 3 then isolate p.1 r stamp else if 4 ≤ sev then haltDevice p.1 sev r.src stamp else p.1)
      split
      · exact h2.trans (keeps_isolate _ _)
      · split
        · exact h2.trans (keeps_haltDevice _ _ _)
        · exact h2

theorem keeps_eventsLost (l : List Nat) : RaiseKeeps d (eventsLost d l) := keeps_foldl _ (fun _ _ => keeps_raiseOne _) l

/-- A raise touches nothing but what RaiseKeeps names. -/
theorem keeps_raise (r : Raise) : RaiseKeeps d (raise d r) := (keeps_raiseOne r).trans (keeps_eventsLost _)

/-- A raise at severity 0 does nothing (16 R614). -/
theorem raise_zero {r : Raise} (h : severityOf d r.src = 0) : raise d r = d := by
  have e : raiseOne d r = (d, []) := by
    unfold raiseOne
    simp [h]
  simp [raise, e, eventsLost]

@[simp] theorem raise_part (r : Raise) : (raise d r).part = d.part := by rw [keeps_raise r]

@[simp] theorem raise_grat (r : Raise) : (raise d r).grat = d.grat := by rw [keeps_raise r]

@[simp] theorem raise_contours (r : Raise) : (raise d r).contours = d.contours := by rw [keeps_raise r]

@[simp] theorem raise_partTx (r : Raise) : (raise d r).partTx = d.partTx := by rw [keeps_raise r]

@[simp] theorem raise_strips (r : Raise) : (raise d r).strips = d.strips := by rw [keeps_raise r]

@[simp] theorem raise_stripTx (r : Raise) : (raise d r).stripTx = d.stripTx := by rw [keeps_raise r]

@[simp] theorem raise_sched (r : Raise) : (raise d r).sched = d.sched := by rw [keeps_raise r]

@[simp] theorem raise_pon (r : Raise) : (raise d r).pon = d.pon := by rw [keeps_raise r]

@[simp] theorem raise_aksia (r : Raise) : (raise d r).aksia = d.aksia := by rw [keeps_raise r]

@[simp] theorem raise_key (r : Raise) : (raise d r).key = d.key := by rw [keeps_raise r]

@[simp] theorem raise_eth (r : Raise) : (raise d r).eth = d.eth := by rw [keeps_raise r]

@[simp] theorem raise_sec (r : Raise) : (raise d r).sec = d.sec := by rw [keeps_raise r]

@[simp] theorem raise_cad (r : Raise) : (raise d r).cad = d.cad := by rw [keeps_raise r]

@[simp] theorem raise_dormant (r : Raise) : (raise d r).dormant = d.dormant := by rw [keeps_raise r]

@[simp] theorem raise_start (r : Raise) : (raise d r).start = d.start := by rw [keeps_raise r]

@[simp] theorem raise_jtag (r : Raise) : (raise d r).jtag = d.jtag := by rw [keeps_raise r]

@[simp] theorem raise_cim (r : Raise) : (raise d r).cim = d.cim := by rw [keeps_raise r]

@[simp] theorem raise_bearing (r : Raise) : (raise d r).bearing = d.bearing := by rw [keeps_raise r]

@[simp] theorem raise_notices (r : Raise) : (raise d r).notices = d.notices := by rw [keeps_raise r]

@[simp] theorem raise_stackMem (r : Raise) : (raise d r).stackMem = d.stackMem := by rw [keeps_raise r]

@[simp] theorem raise_stackInj (r : Raise) : (raise d r).stackInj = d.stackInj := by rw [keeps_raise r]

@[simp] theorem raise_handed (r : Raise) : (raise d r).handed = d.handed := by rw [keeps_raise r]

@[simp] theorem raise_wire (r : Raise) : (raise d r).wire = d.wire := by rw [keeps_raise r]

@[simp] theorem raise_free (r : Raise) : (raise d r).free = d.free := by rw [keeps_raise r]

@[simp] theorem raise_entropy (r : Raise) : (raise d r).entropy = d.entropy := by rw [keeps_raise r]

end Sys2Proof.Machine
end

