-- ==== Sys2Proof/Laws/Writes.lean ====
section
/-! SUPPORT. What a direct write answers: before the end of CONFIG or in dormant nothing, refused nothing, taken the writes'
effect; and that fuses only tighten in an action (12 R498, R502; 13 R518, R520). -/

namespace Sys2Proof.Machine

variable {s : State} {e idx sub : Nat} {data v : Bytes} {d : Dev}

/-- Ezith executes nothing but reads: the moment passes. -/
theorem writeRow_closed (h : ezithExecutes (s.dev.at e) = false) : writeRow e idx sub data s = .next (s.withDev (s.dev.at e)) := by
  simp [writeRow, h, State.withDev]

/-- A write with a wrong length or out of its range leaves the machine, but for the reason DORMANT_ENTER leaves. -/
theorem writeRow_range (h : ezithExecutes (s.dev.at e) = true)
    (c : checkWrite s.fuses (s.dev.at e) false idx sub false 0 data (readEntry s.fuses (s.dev.at e) idx sub).1 = (.range, v)) :
    writeRow e idx sub data s = .next (s.withDev (noteRefusal (s.dev.at e) idx sub data)) := by
  simp [writeRow, h, directWrite, c, State.withDev]

/-- An entry that the device does not have leaves the machine. -/
theorem writeRow_noEntry (h : ezithExecutes (s.dev.at e) = true)
    (c : checkWrite s.fuses (s.dev.at e) false idx sub false 0 data (readEntry s.fuses (s.dev.at e) idx sub).1 = (.noEntry, v)) :
    writeRow e idx sub data s = .next (s.withDev (s.dev.at e)) := by
  simp [writeRow, h, directWrite, c, State.withDev]

/-- A write that is taken has the effect of its one write. -/
theorem writeRow_ok (h : ezithExecutes (s.dev.at e) = true)
    (c : checkWrite s.fuses (s.dev.at e) false idx sub false 0 data (readEntry s.fuses (s.dev.at e) idx sub).1 = (.ok, v))
    (l : locked (s.dev.at e) none (legKey idx sub) = false) (b : bufferLocked (s.dev.at e) idx sub data = false) :
    writeRow e idx sub data s =
      .next { s with
        fuses := (applyWrites (s.fuses, (readEntry s.fuses (s.dev.at e) idx sub).2) [(legKey idx sub, if idx = 0x7811 then data else v)]).1
        dev := (applyWrites (s.fuses, (readEntry s.fuses (s.dev.at e) idx sub).2) [(legKey idx sub, if idx = 0x7811 then data else v)]).2 } := by
  simp [writeRow, h, directWrite, c, l, b]

/-! ## Fuses -/

/-- Fuses g are f or tighter. -/
def Tighter (f g : Fuses) : Prop :=
  f.floor.toNat ≤ g.floor.toNat ∧ f.revoked &&& g.revoked = f.revoked ∧ g.hash0 = f.hash0 ∧ g.hash1 = f.hash1 ∧ g.hash2 = f.hash2 ∧ g.hash3 = f.hash3

theorem Tighter.refl {f : Fuses} : Tighter f f := by simp [Tighter]

theorem Tighter.trans {f g h : Fuses} (a : Tighter f g) (b : Tighter g h) : Tighter f h := by
  obtain ⟨a1, a2, a3, a4, a5, a6⟩ := a
  obtain ⟨b1, b2, b3, b4, b5, b6⟩ := b
  refine ⟨a1.trans b1, ?_, b3.trans a3, b4.trans a4, b5.trans a5, b6.trans a6⟩
  calc f.revoked &&& h.revoked = (f.revoked &&& g.revoked) &&& h.revoked := by rw [a2]
    _ = f.revoked &&& (g.revoked &&& h.revoked) := BitVec.and_assoc ..
    _ = f.revoked := by rw [b2, a2]

theorem tighter_burnFloor {f : Fuses} (x : Byte) : Tighter f (burnFloor f d x) := by
  unfold burnFloor
  split
  · next h =>
    simp only [raiseFloorOk, Bool.and_eq_true, decide_eq_true_eq] at h
    have := d.sec.imageVersion.isLt
    refine ⟨?_, ?_, rfl, rfl, rfl, rfl⟩
    · simp only [BitVec.toNat_ofNat]
      omega
    · exact BitVec.and_self
  · exact .refl

theorem tighter_burnRevoke {f : Fuses} (x : Byte) : Tighter f (burnRevoke f d x) := by
  unfold burnRevoke
  split
  · refine ⟨Nat.le_refl _, ?_, rfl, rfl, rfl, rfl⟩
    ext i
    simp
    exact Or.inl
  · exact .refl

theorem tighter_ite {f : Fuses} {p : Prop} [Decidable p] {a b : Fuses × Dev} (ha : Tighter f a.1) (hb : Tighter f b.1) :
    Tighter f (if p then a else b).1 := by
  by_cases h : p
  · rwa [if_pos h]
  · rwa [if_neg h]

/-- An action's write tightens the fuses or leaves them. -/
theorem tighter_act (r : Fuses × Dev) (k : Nat) (x : Bytes) : Tighter r.1 (act r k x).1 :=
  tighter_ite .refl (tighter_ite (tighter_burnFloor _) (tighter_ite (tighter_burnRevoke _) .refl))

end Sys2Proof.Machine
end

