-- ==== Sys2Proof/Tests/Slice0.lean ====
section
/-! SUPPORT. Tests of the model: operands out of range that WellFormed refuses, and for each statement states that meet its
hypotheses, clause by clause, with what the command leaves there. Expected values are the spec's own examples or worked out
by hand from its rules. -/

namespace Sys2Proof.Tests

open Sys2Proof.Machine

set_option Elab.async false
set_option maxRecDepth 20000

/-- The command answers a next state with the waiting commands and the fuses kept and its device in the property. -/
def does (c : Instr) (s : State) (p : Dev → Bool) : Bool :=
  match exec c s with
  | .next t => decide (t.pending = s.pending) && decide (t.fuses = s.fuses) && p t.dev
  | _ => false

/-- The command lets its moment pass and does nothing else. -/
def passes (c : Instr) (s : State) (e : Nat) : Bool := does c s fun d => decide (d = s.dev.at e)

/-- The command stops for want of its unit. -/
def stops (c : Instr) (s : State) : Bool :=
  match exec c s with
  | .fault .absentUnit => true
  | _ => false

/-- A state with a device and no command waiting. -/
def st (d : Dev) : State := { dev := d }

/-! ## Plotter core -/

/-- Physical quad 0 at cycle 0. -/
def qz : QuadAt := ⟨0, 0, 0⟩

/-- A quad whose slot 2 runs the instruction word `w` at address 0; g1 = -7, g2 = 3, g3 = 0x10000. -/
def coreQ (w : Nat) : Quad :=
  { g := [(1, 0xFFFFFFF9), (2, 3), (3, 0x10000)], st := .running, slots := setNth (List.replicate 8 {}) 2 { st := .running }
    mem := memWrite [] 0 (le 4 w) }

/-- A device with that quad alone, logical quad 1 of partition 7. -/
def coreS (x : Quad) : State := st { quads := [(0, x)], parts := [(7, { quadMap := [5, 0] })] }

/-- An instruction word of format R: gd 5, gs1 1, gs2 2. -/
def rWord (fn : Nat) : Nat := 5 * 2 ^ 21 + 1 * 2 ^ 16 + 2 * 2 ^ 11 + fn

/-- An instruction word of format I or S: field [25:21], gs1, immediate. -/
def iWord (op gd gs1 imm : Nat) : Nat := op * 2 ^ 26 + gd * 2 ^ 21 + gs1 * 2 ^ 16 + imm

/-- The command leaves g5 and the PC with these values. -/
def core5 (c : QuadAt → Instr) (x : Quad) (v pc : Word) : Bool :=
  does (c qz) (coreS x) fun d => decide ((d.quad 0).reg 5 = v) && decide ((d.quad 0).pc = pc)

/-- The command leaves the quad so. -/
def coreTo (c : QuadAt → Instr) (x y : Quad) : Bool := does (c qz) (coreS x) fun d => decide (d.quad 0 = y)

/-- The command traps with a cause and a code. -/
def traps (c : QuadAt → Instr) (x : Quad) (cause : Byte) (code : BitVec 16) : Bool :=
  does (c qz) (coreS x) fun d => decide ((d.quad 0).st = .trapped) && decide ((d.quad 0).trapCause = cause) && decide ((d.quad 0).trapCode = code) &&
    decide ((d.quad 0).pc = x.pc) && (d.fault 0xF8).set

theorem test_register_file : tabWf 0 (coreQ 0).g = true ∧ ((coreQ 0).setReg 31 9).reg 31 = 9 ∧ ((coreQ 0).setReg 31 9).reg 1 = 0xFFFFFFF9 ∧ ((coreQ 0).setReg 0 9) = coreQ 0 := by decide +kernel

theorem test_add : AtFn (coreS (coreQ (rWord 0))) qz 0 ∧ core5 .add (coreQ (rWord 0)) 0xfffffffc 4 = true := by unfold AtFn AtOp CoreRuns; decide +kernel

theorem test_sub : AtFn (coreS (coreQ (rWord 1))) qz 1 ∧ core5 .sub (coreQ (rWord 1)) 0xfffffff6 4 = true := by unfold AtFn AtOp CoreRuns; decide +kernel

theorem test_and : AtFn (coreS (coreQ (rWord 2))) qz 2 ∧ core5 .and_ (coreQ (rWord 2)) 0x1 4 = true := by unfold AtFn AtOp CoreRuns; decide +kernel

theorem test_or : AtFn (coreS (coreQ (rWord 3))) qz 3 ∧ core5 .or_ (coreQ (rWord 3)) 0xfffffffb 4 = true := by unfold AtFn AtOp CoreRuns; decide +kernel

theorem test_xor : AtFn (coreS (coreQ (rWord 4))) qz 4 ∧ core5 .xor_ (coreQ (rWord 4)) 0xfffffffa 4 = true := by unfold AtFn AtOp CoreRuns; decide +kernel

theorem test_sll : AtFn (coreS (coreQ (rWord 5))) qz 5 ∧ core5 .sll (coreQ (rWord 5)) 0xffffffc8 4 = true := by unfold AtFn AtOp CoreRuns; decide +kernel

theorem test_srl : AtFn (coreS (coreQ (rWord 6))) qz 6 ∧ core5 .srl (coreQ (rWord 6)) 0x1fffffff 4 = true := by unfold AtFn AtOp CoreRuns; decide +kernel

theorem test_sra : AtFn (coreS (coreQ (rWord 7))) qz 7 ∧ core5 .sra (coreQ (rWord 7)) 0xffffffff 4 = true := by unfold AtFn AtOp CoreRuns; decide +kernel

theorem test_slt : AtFn (coreS (coreQ (rWord 8))) qz 8 ∧ core5 .slt (coreQ (rWord 8)) 0x1 4 = true := by unfold AtFn AtOp CoreRuns; decide +kernel

theorem test_sltu : AtFn (coreS (coreQ (rWord 9))) qz 9 ∧ core5 .sltu (coreQ (rWord 9)) 0x0 4 = true := by unfold AtFn AtOp CoreRuns; decide +kernel

theorem test_mul : AtFn (coreS (coreQ (rWord 10))) qz 10 ∧ core5 .mul (coreQ (rWord 10)) 0xffffffeb 4 = true := by unfold AtFn AtOp CoreRuns; decide +kernel

theorem test_mulh : AtFn (coreS (coreQ (rWord 11))) qz 11 ∧ core5 .mulh (coreQ (rWord 11)) 0xffffffff 4 = true := by unfold AtFn AtOp CoreRuns; decide +kernel

theorem test_mulhu : AtFn (coreS (coreQ (rWord 12))) qz 12 ∧ core5 .mulhu (coreQ (rWord 12)) 0x2 4 = true := by unfold AtFn AtOp CoreRuns; decide +kernel

theorem test_addi : AtOp (coreS (coreQ (iWord 1 5 1 32768))) qz 1 ∧ core5 .addi (coreQ (iWord 1 5 1 32768)) 0xffff7ff9 4 = true := by unfold AtOp CoreRuns; decide +kernel

theorem test_andi : AtOp (coreS (coreQ (iWord 2 5 1 32773))) qz 2 ∧ core5 .andi (coreQ (iWord 2 5 1 32773)) 0x8001 4 = true := by unfold AtOp CoreRuns; decide +kernel

theorem test_ori : AtOp (coreS (coreQ (iWord 3 5 1 32770))) qz 3 ∧ core5 .ori (coreQ (iWord 3 5 1 32770)) 0xfffffffb 4 = true := by unfold AtOp CoreRuns; decide +kernel

theorem test_xori : AtOp (coreS (coreQ (iWord 4 5 1 65535))) qz 4 ∧ core5 .xori (coreQ (iWord 4 5 1 65535)) 0xffff0006 4 = true := by unfold AtOp CoreRuns; decide +kernel

theorem test_slti : AtOp (coreS (coreQ (iWord 5 5 1 65530))) qz 5 ∧ core5 .slti (coreQ (iWord 5 5 1 65530)) 0x1 4 = true := by unfold AtOp CoreRuns; decide +kernel

theorem test_slli : AtOp (coreS (coreQ (iWord 6 5 1 4))) qz 6 ∧ core5 .slli (coreQ (iWord 6 5 1 4)) 0xffffff90 4 = true := by unfold AtOp CoreRuns; decide +kernel

theorem test_srli : AtOp (coreS (coreQ (iWord 6 5 1 260))) qz 6 ∧ core5 .srli (coreQ (iWord 6 5 1 260)) 0xfffffff 4 = true := by unfold AtOp CoreRuns; decide +kernel

theorem test_srai : AtOp (coreS (coreQ (iWord 6 5 1 516))) qz 6 ∧ core5 .srai (coreQ (iWord 6 5 1 516)) 0xffffffff 4 = true := by unfold AtOp CoreRuns; decide +kernel

theorem test_lui : AtOp (coreS (coreQ (iWord 7 5 1 4660))) qz 7 ∧ core5 .lui (coreQ (iWord 7 5 1 4660)) 0x12340000 4 = true := by unfold AtOp CoreRuns; decide +kernel

theorem test_write_of_g0 : AtFn (coreS (coreQ (1 * 2 ^ 16 + 2 * 2 ^ 11))) qz 0 ∧ coreTo .add (coreQ (1 * 2 ^ 16 + 2 * 2 ^ 11)) { coreQ (1 * 2 ^ 16 + 2 * 2 ^ 11) with cyc := 1, pc := 4 } = true := by unfold AtFn AtOp CoreRuns; decide +kernel

theorem test_beq : AtOp (coreS (coreQ (iWord 16 2 1 0xFFFE))) qz 16 ∧ coreTo .beq (coreQ (iWord 16 2 1 0xFFFE)) { coreQ (iWord 16 2 1 0xFFFE) with pc := 4, cyc := 1 } = true := by unfold AtOp CoreRuns; decide +kernel

theorem test_bne : AtOp (coreS (coreQ (iWord 17 2 1 0xFFFE))) qz 17 ∧ coreTo .bne (coreQ (iWord 17 2 1 0xFFFE)) { coreQ (iWord 17 2 1 0xFFFE) with pc := 0xFFFFFFF8, cyc := 3 } = true := by unfold AtOp CoreRuns; decide +kernel

theorem test_blt : AtOp (coreS (coreQ (iWord 18 2 1 0xFFFE))) qz 18 ∧ coreTo .blt (coreQ (iWord 18 2 1 0xFFFE)) { coreQ (iWord 18 2 1 0xFFFE) with pc := 0xFFFFFFF8, cyc := 3 } = true := by unfold AtOp CoreRuns; decide +kernel

theorem test_bge : AtOp (coreS (coreQ (iWord 19 2 1 0xFFFE))) qz 19 ∧ coreTo .bge (coreQ (iWord 19 2 1 0xFFFE)) { coreQ (iWord 19 2 1 0xFFFE) with pc := 4, cyc := 1 } = true := by unfold AtOp CoreRuns; decide +kernel

theorem test_bltu : AtOp (coreS (coreQ (iWord 20 2 1 0xFFFE))) qz 20 ∧ coreTo .bltu (coreQ (iWord 20 2 1 0xFFFE)) { coreQ (iWord 20 2 1 0xFFFE) with pc := 4, cyc := 1 } = true := by unfold AtOp CoreRuns; decide +kernel

theorem test_bgeu : AtOp (coreS (coreQ (iWord 21 2 1 0xFFFE))) qz 21 ∧ coreTo .bgeu (coreQ (iWord 21 2 1 0xFFFE)) { coreQ (iWord 21 2 1 0xFFFE) with pc := 0xFFFFFFF8, cyc := 3 } = true := by unfold AtOp CoreRuns; decide +kernel

theorem test_jal : AtOp (coreS (coreQ (0x16 * 2 ^ 26 + 5 * 2 ^ 21 + 0x1FFFFF))) qz 0x16 ∧ core5 .jal (coreQ (0x16 * 2 ^ 26 + 5 * 2 ^ 21 + 0x1FFFFF)) 4 0xFFFFFFFC = true := by unfold AtOp CoreRuns; decide +kernel

theorem test_jalr : AtOp (coreS (coreQ (iWord 0x17 5 2 8))) qz 0x17 ∧ core5 .jalr (coreQ (iWord 0x17 5 2 8)) 4 8 = true := by unfold AtOp CoreRuns; decide +kernel

/-- The quad with octets at the bottom of data memory. -/
def loadQ (w : Nat) : Quad := { coreQ w with mem := memWrite (coreQ w).mem 0x10000 [0x80, 0xFF, 0x01, 0x00] }

/-- The same with the octet at 0x10001 in the store buffer. -/
def bufQ (w : Nat) : Quad := { loadQ w with sb := [{ addr := 0x10001, size := 1, data := 0x12, cyc := 0, tag := 0 }] }

theorem test_lb : LoadReady (coreS (loadQ (iWord 8 5 3 0))) qz 8 1 ∧ core5 .lb (loadQ (iWord 8 5 3 0)) 0xffffff80 4 = true := by unfold LoadReady AtOp CoreRuns Clean BufferOk Loadable; decide +kernel

theorem test_lh : LoadReady (coreS (loadQ (iWord 9 5 3 0))) qz 9 2 ∧ core5 .lh (loadQ (iWord 9 5 3 0)) 0xffffff80 4 = true := by unfold LoadReady AtOp CoreRuns Clean BufferOk Loadable; decide +kernel

theorem test_lw : LoadReady (coreS (loadQ (iWord 10 5 3 0))) qz 10 4 ∧ core5 .lw (loadQ (iWord 10 5 3 0)) 0x1ff80 4 = true := by unfold LoadReady AtOp CoreRuns Clean BufferOk Loadable; decide +kernel

theorem test_lbu : LoadReady (coreS (loadQ (iWord 11 5 3 1))) qz 11 1 ∧ core5 .lbu (loadQ (iWord 11 5 3 1)) 0xff 4 = true := by unfold LoadReady AtOp CoreRuns Clean BufferOk Loadable; decide +kernel

theorem test_lhu : LoadReady (coreS (loadQ (iWord 12 5 3 0))) qz 12 2 ∧ core5 .lhu (loadQ (iWord 12 5 3 0)) 0xff80 4 = true := by unfold LoadReady AtOp CoreRuns Clean BufferOk Loadable; decide +kernel

theorem test_lb_forwarded : LoadReady (coreS (bufQ (iWord 8 5 3 1))) qz 8 1 ∧ core5 .lb (bufQ (iWord 8 5 3 1)) 0x12 4 = true := by unfold LoadReady AtOp CoreRuns Clean BufferOk Loadable; decide +kernel

theorem test_lw_after_drain : LoadReady (coreS (bufQ (iWord 10 5 3 0))) qz 10 4 ∧ core5 .lw (bufQ (iWord 10 5 3 0)) 0x11280 4 = true := by unfold LoadReady AtOp CoreRuns Clean BufferOk Loadable; decide +kernel

theorem test_sb : AtOp (coreS (coreQ (iWord 13 1 3 8))) qz 13 ∧ Clean (coreS (coreQ (iWord 13 1 3 8))) qz ∧ Storable (dataAddr (coreS (coreQ (iWord 13 1 3 8))) qz) 1 ∧ coreTo .sb (coreQ (iWord 13 1 3 8)) { coreQ (iWord 13 1 3 8) with sb := [{ addr := 0x10008, size := 1, data := 0xf9, cyc := 1, tag := 0 }], pc := 4, cyc := 1 } = true := by unfold AtOp Clean Storable CoreRuns; decide +kernel

theorem test_sh : AtOp (coreS (coreQ (iWord 14 1 3 8))) qz 14 ∧ Clean (coreS (coreQ (iWord 14 1 3 8))) qz ∧ Storable (dataAddr (coreS (coreQ (iWord 14 1 3 8))) qz) 2 ∧ coreTo .sh (coreQ (iWord 14 1 3 8)) { coreQ (iWord 14 1 3 8) with sb := [{ addr := 0x10008, size := 2, data := 0xfff9, cyc := 1, tag := 0 }], pc := 4, cyc := 1 } = true := by unfold AtOp Clean Storable CoreRuns; decide +kernel

theorem test_sw : AtOp (coreS (coreQ (iWord 15 1 3 8))) qz 15 ∧ Clean (coreS (coreQ (iWord 15 1 3 8))) qz ∧ Storable (dataAddr (coreS (coreQ (iWord 15 1 3 8))) qz) 4 ∧ coreTo .sw (coreQ (iWord 15 1 3 8)) { coreQ (iWord 15 1 3 8) with sb := [{ addr := 0x10008, size := 4, data := 0xfffffff9, cyc := 1, tag := 0 }], pc := 4, cyc := 1 } = true := by unfold AtOp Clean Storable CoreRuns; decide +kernel

/-- The store buffer holds 8 entries. -/
def fullQ (w : Nat) : Quad := { coreQ w with sb := (List.range 8).map fun i => { addr := 0x10000 + i, size := 1, data := 0xAA, cyc := 0, tag := 0 } }

theorem test_sb_full : AtOp (coreS (fullQ (iWord 0x0D 1 3 8))) qz 0x0D ∧ does (.sb qz) (coreS (fullQ (iWord 0x0D 1 3 8))) (fun d => decide ((d.quad 0).sb.length = 8) && decide (memByte (d.quad 0).mem 0x10000 = 0xAA)) = true := by unfold AtOp CoreRuns; decide +kernel

theorem test_store_buffer_drain : Clean (coreS (bufQ 0)) ⟨0, 1, 0⟩ ∧ does (.storeBufferDrain ⟨0, 1, 0⟩) (coreS (bufQ 0)) (fun d => decide ((d.quad 0).sb = []) && decide (memByte (d.quad 0).mem 0x10001 = 0x12)) = true ∧ passes (.storeBufferDrain qz) (coreS (bufQ 0)) 0 = true ∧ passes (.storeBufferDrain ⟨0, 1, 0⟩) (coreS { bufQ 0 with drained := 2 }) 0 = true ∧ passes (.storeBufferDrain ⟨0, 1, 0⟩) (coreS { bufQ 0 with loadAt := some (1, 3) }) 0 = true ∧ passes (.storeBufferDrain ⟨0, 1, 0⟩) (coreS (coreQ 0)) 0 = true := by unfold Clean; decide +kernel

theorem test_trap : AtOp (coreS (coreQ (iWord 0x3F 0 0 0xFFFF))) qz 0x3F ∧ traps .trap (coreQ (iWord 0x3F 0 0 0xFFFF)) 4 0xFFFF = true := by unfold AtOp CoreRuns; decide +kernel

theorem test_illegal_instruction : CoreRuns (coreS (coreQ 13)) qz ∧ illegalWord 13 = true ∧ traps .illegalInstruction (coreQ 13) 1 0 = true ∧ illegalWord (0x1B * 2 ^ 26) = true ∧ illegalWord (iWord 0x30 0 0 6) = true ∧ illegalWord 12 = false := by unfold CoreRuns; decide +kernel

theorem test_csrr_unknown : AtOp (coreS (coreQ (iWord 0x19 5 0 7))) qz 0x19 ∧ traps .csrr (coreQ (iWord 0x19 5 0 7)) 1 0 = true := by unfold AtOp CoreRuns; decide +kernel

theorem test_csrw_unknown : AtOp (coreS (coreQ (iWord 0x1A 5 1 0))) qz 0x1A ∧ traps .csrw (coreQ (iWord 0x1A 5 1 0)) 1 0 = true := by unfold AtOp CoreRuns; decide +kernel

theorem test_lh_misaligned : AtOp (coreS (coreQ (iWord 9 5 3 1))) qz 9 ∧ dataAddr (coreS (coreQ (iWord 9 5 3 1))) qz % 2 ≠ 0 ∧ traps .lh (coreQ (iWord 9 5 3 1)) 2 0 = true := by unfold AtOp CoreRuns; decide +kernel

theorem test_lw_misaligned : AtOp (coreS (coreQ (iWord 10 5 3 2))) qz 10 ∧ dataAddr (coreS (coreQ (iWord 10 5 3 2))) qz % 4 ≠ 0 ∧ traps .lw (coreQ (iWord 10 5 3 2)) 2 0 = true := by unfold AtOp CoreRuns; decide +kernel

theorem test_lhu_misaligned : AtOp (coreS (coreQ (iWord 12 5 3 1))) qz 12 ∧ dataAddr (coreS (coreQ (iWord 12 5 3 1))) qz % 2 ≠ 0 ∧ traps .lhu (coreQ (iWord 12 5 3 1)) 2 0 = true := by unfold AtOp CoreRuns; decide +kernel

theorem test_sh_misaligned : AtOp (coreS (coreQ (iWord 14 5 3 1))) qz 14 ∧ dataAddr (coreS (coreQ (iWord 14 5 3 1))) qz % 2 ≠ 0 ∧ traps .sh (coreQ (iWord 14 5 3 1)) 2 0 = true := by unfold AtOp CoreRuns; decide +kernel

theorem test_sw_misaligned : AtOp (coreS (coreQ (iWord 15 5 3 2))) qz 15 ∧ dataAddr (coreS (coreQ (iWord 15 5 3 2))) qz % 4 ≠ 0 ∧ traps .sw (coreQ (iWord 15 5 3 2)) 2 0 = true := by unfold AtOp CoreRuns; decide +kernel

theorem test_lb_forbidden : AtOp (coreS (coreQ (iWord 8 5 0 0))) qz 8 ∧ ¬ Loadable (dataAddr (coreS (coreQ (iWord 8 5 0 0))) qz) 1 ∧ traps .lb (coreQ (iWord 8 5 0 0)) 3 0 = true := by unfold AtOp Loadable CoreRuns; decide +kernel

theorem test_lw_forbidden : AtOp (coreS (coreQ (iWord 10 5 3 0x8000))) qz 10 ∧ ¬ Loadable (dataAddr (coreS (coreQ (iWord 10 5 3 0x8000))) qz) 4 ∧ traps .lw (coreQ (iWord 10 5 3 0x8000)) 3 0 = true := by unfold AtOp Loadable CoreRuns; decide +kernel

/-- g3 is the start of the weight bank. -/
def weightQ (w : Nat) : Quad := { coreQ w with g := [(1, 0xFFFFFFF9), (2, 3), (3, 0x100000)] }

theorem test_sb_forbidden : AtOp (coreS (weightQ (iWord 0x0D 1 3 0))) qz 0x0D ∧ ¬ Storable (dataAddr (coreS (weightQ (iWord 0x0D 1 3 0))) qz) 1 ∧ traps .sb (weightQ (iWord 0x0D 1 3 0)) 3 0 = true := by unfold AtOp Storable CoreRuns; decide +kernel

theorem test_sw_forbidden : AtOp (coreS (weightQ (iWord 0x0F 1 3 0))) qz 0x0F ∧ ¬ Storable (dataAddr (coreS (weightQ (iWord 0x0F 1 3 0))) qz) 4 ∧ traps .sw (weightQ (iWord 0x0F 1 3 0)) 3 0 = true := by unfold AtOp Storable CoreRuns; decide +kernel

theorem test_send_misaligned : AtOp (coreS (coreQ (iWord 0x20 0 2 0))) qz 0x20 ∧ traps .send (coreQ (iWord 0x20 0 2 0)) 2 0 = true := by unfold AtOp CoreRuns; decide +kernel

theorem test_recv_misaligned : AtOp (coreS (coreQ (iWord 0x21 5 2 0))) qz 0x21 ∧ traps .recv (coreQ (iWord 0x21 5 2 0)) 2 0 = true := by unfold AtOp CoreRuns; decide +kernel

theorem test_send_forbidden : AtOp (coreS (weightQ (iWord 0x20 0 3 0))) qz 0x20 ∧ traps .send (weightQ (iWord 0x20 0 3 0)) 3 0 = true := by unfold AtOp CoreRuns; decide +kernel

theorem test_recvw_misaligned : AtOp (coreS (coreQ (iWord 0x22 5 2 0))) qz 0x22 ∧ traps .recvw (coreQ (iWord 0x22 5 2 0)) 2 0 = true := by unfold AtOp CoreRuns; decide +kernel

theorem test_recv_forbidden : AtOp (coreS (weightQ (iWord 0x21 5 3 0))) qz 0x21 ∧ traps .recv (weightQ (iWord 0x21 5 3 0)) 3 0 = true ∧
    AtOp (coreS (weightQ (iWord 0x22 5 3 0))) qz 0x22 ∧ traps .recvw (weightQ (iWord 0x22 5 3 0)) 3 0 = true := by unfold AtOp CoreRuns; decide +kernel

/-- A PC that is no multiple of 4 traps with MISALIGNED, and one past instruction memory with FORBIDDEN. -/
theorem test_pc_traps : traps .illegalInstruction { coreQ 0 with pc := 2 } 2 0 = true ∧ traps .illegalInstruction { coreQ 0 with pc := 0x8002 } 2 0 = true ∧
    traps .illegalInstruction { coreQ 0 with pc := 0x8000 } 3 0 = true := by decide +kernel

/-- A word whose parity fails is not executed: one flipped bit is found and not corrected. -/
theorem test_fetch_parity : fetchError { coreQ (rWord 0) with inj := [(0, 1)] } = some (0, 1) ∧
    does (.add qz) (coreS { coreQ (rWord 0) with inj := [(0, 1)] }) (fun d => decide ((d.quad 0).pc = 0) && decide ((d.quad 0).reg 5 = 0) && decide (0x44 ∈ (d.quad 0).causes) && (d.fault 0x44).set) = true := by decide +kernel

/-- The quad is logical quad 1 of partition 7 on a device numbered 9; it has run 100 cycles; its slot holds SLOTREG 77. -/
def csrS (w : Nat) : State :=
  st { quads := [(0, { coreQ w with cyc := 100, slots := setNth (List.replicate 8 {}) 2 { st := .running, slotreg := 77 }, latched := 0x123456789ABCDEF })]
       parts := [(7, { quadMap := [5, 0] })], legend := [(legKey 0x6000 0x03, some [0, 9])], grat := { everLocked := true, tick := 0xABCD12345678, tickLength := 19906560 } }

/-- g5 after a command. -/
def g5 (c : Instr) (s : State) (v : Word) : Bool := does c s fun d => decide ((d.quad 0).reg 5 = v) && decide ((d.quad 0).pc = 4)

theorem test_csrr_0 : AtOp (csrS (iWord 0x19 5 0 0)) qz 0x19 ∧ g5 (.csrr qz) (csrS (iWord 0x19 5 0 0)) 0 = true := by unfold AtOp CoreRuns; decide +kernel

theorem test_csrr_1 : AtOp (csrS (iWord 0x19 5 0 1)) qz 0x19 ∧ g5 (.csrr qz) (csrS (iWord 0x19 5 0 1)) 2 = true := by unfold AtOp CoreRuns; decide +kernel

theorem test_csrr_2 : AtOp (csrS (iWord 0x19 5 0 2)) qz 0x19 ∧ g5 (.csrr qz) (csrS (iWord 0x19 5 0 2)) 1 = true := by unfold AtOp CoreRuns; decide +kernel

theorem test_csrr_3 : AtOp (csrS (iWord 0x19 5 0 3)) qz 0x19 ∧ g5 (.csrr qz) (csrS (iWord 0x19 5 0 3)) 0 = true := by unfold AtOp CoreRuns; decide +kernel

theorem test_csrr_4 : AtOp (csrS (iWord 0x19 5 0 4)) qz 0x19 ∧ g5 (.csrr qz) (csrS (iWord 0x19 5 0 4)) 7 = true := by unfold AtOp CoreRuns; decide +kernel

theorem test_csrr_5 : AtOp (csrS (iWord 0x19 5 0 5)) qz 0x19 ∧ g5 (.csrr qz) (csrS (iWord 0x19 5 0 5)) 9 = true := by unfold AtOp CoreRuns; decide +kernel

theorem test_csrr_6 : AtOp (csrS (iWord 0x19 5 0 6)) qz 0x19 ∧ g5 (.csrr qz) (csrS (iWord 0x19 5 0 6)) 101 = true := by unfold AtOp CoreRuns; decide +kernel

theorem test_csrr_8 : AtOp (csrS (iWord 0x19 5 0 8)) qz 0x19 ∧ g5 (.csrr qz) (csrS (iWord 0x19 5 0 8)) 77 = true := by unfold AtOp CoreRuns; decide +kernel

theorem test_csrw : AtOp (csrS (iWord 0x1A 0 2 8)) qz 0x1A ∧ does (.csrw qz) (csrS (iWord 0x1A 0 2 8)) (fun d => decide ((nth {} (d.quad 0).slots 2).slotreg = 3)) = true := by unfold AtOp CoreRuns; decide +kernel

theorem test_rdt : AtOp (csrS (iWord 0x29 5 0 0)) qz 0x29 ∧ g5 (.rdt qz) (csrS (iWord 0x29 5 0 0)) 0x12345678 = true := by unfold AtOp CoreRuns; decide +kernel

theorem test_rdth : AtOp (csrS (iWord 0x2A 5 0 0)) qz 0x2A ∧ g5 (.rdth qz) (csrS (iWord 0x2A 5 0 0)) (BitVec.ofNat 32 (0x123456789ABCDEF / 2 ^ 44 + 0xDEF * 65536)) = true := by unfold AtOp CoreRuns; decide +kernel

theorem test_qlen : AtOp (csrS (iWord 0x23 5 0 1)) qz 0x23 ∧ g5 (.qlen qz) (csrS (iWord 0x23 5 0 1)) 0 = true := by unfold AtOp CoreRuns; decide +kernel

theorem test_ustat : AtOp (csrS (iWord 0x32 5 0 5)) qz 0x32 ∧ g5 (.ustat qz) (csrS (iWord 0x32 5 0 5)) 0 = true := by unfold AtOp CoreRuns; decide +kernel

/-- The quad with one command waiting in the lane array's queue, unit 1. -/
def waitQ (w : Nat) : Quad := { coreQ w with units := setNth (List.replicate 6 []) 1 [{ desc := zeros 32, spec := 0, tag := 0 }] }

/-- The quad with 4 commands waiting in that queue. -/
def fullUnitQ (w : Nat) : Quad := { coreQ w with units := setNth (List.replicate 6 []) 1 (List.replicate 4 { desc := zeros 32, spec := 0, tag := 0 }) }

theorem test_cmd : AtOp (coreS (waitQ (iWord 0x30 0 3 (2 * 2 ^ 11 + 1)))) qz 0x30 ∧ does (.cmd qz) (coreS (waitQ (iWord 0x30 0 3 (2 * 2 ^ 11 + 1)))) (fun d => decide (((nth [] (d.quad 0).units 1).map (·.spec)) = [0, 3]) && decide ((d.quad 0).pc = 4)) = true ∧ AtOp (coreS (fullUnitQ (iWord 0x30 0 3 (2 * 2 ^ 11 + 1)))) qz 0x30 ∧ passes (.cmd qz) (coreS (fullUnitQ (iWord 0x30 0 3 (2 * 2 ^ 11 + 1)))) 0 = true := by unfold AtOp CoreRuns; decide +kernel

theorem test_uwait : AtOp (coreS (coreQ (iWord 0x31 0 0 1))) qz 0x31 ∧ coreTo .uwait (coreQ (iWord 0x31 0 0 1)) { coreQ (iWord 0x31 0 0 1) with pc := 4, cyc := 1 } = true ∧ AtOp (coreS (waitQ (iWord 0x31 0 0 1))) qz 0x31 ∧ passes (.uwait qz) (coreS (waitQ (iWord 0x31 0 0 1))) 0 = true := by unfold AtOp CoreRuns; decide +kernel

theorem test_fence : AtOp (coreS (bufQ (iWord 0x18 0 0 3))) qz 0x18 ∧ Clean (coreS (bufQ (iWord 0x18 0 0 3))) qz ∧ does (.fence qz) (coreS (bufQ (iWord 0x18 0 0 3))) (fun d => decide ((d.quad 0).sb = []) && decide (memByte (d.quad 0).mem 0x10001 = 0x12)) = true ∧ AtOp (coreS (waitQ (iWord 0x18 0 0 3))) qz 0x18 ∧ passes (.fence qz) (coreS (waitQ (iWord 0x18 0 0 3))) 0 = true := by unfold AtOp Clean CoreRuns; decide +kernel

/-- A CMD whose descriptor does not lie in data memory joins its queue without one. -/
theorem test_cmd_no_descriptor : AtOp (coreS (weightQ (iWord 0x30 0 3 (2 * 2 ^ 11 + 1)))) qz 0x30 ∧ bankSpan 0x100000 32 ≠ some .dmem ∧
    does (.cmd qz) (coreS (weightQ (iWord 0x30 0 3 (2 * 2 ^ 11 + 1)))) (fun d => decide ((nth [] (d.quad 0).units 1).map (fun c => (c.desc, c.spec)) = [([], 3)]) && decide ((d.quad 0).pc = 4)) = true := by unfold AtOp CoreRuns; decide +kernel

/-- Under imm[1] a FENCE retires no earlier than the cycle after the last completion. -/
theorem test_fence_after_completion : does (.fence qz) (coreS { bufQ (iWord 0x18 0 0 2) with unitDone := 9 }) (fun d => decide ((d.quad 0).cyc = 9) && decide ((d.quad 0).sb.length = 1)) = true := by decide +kernel

theorem test_illegal_unit : AtOp (coreS (coreQ (iWord 0x31 0 0 6))) qz 0x31 ∧ traps .illegalInstruction (coreQ (iWord 0x31 0 0 6)) 1 0 = true := by unfold AtOp CoreRuns; decide +kernel

/-- A message for queue 1 of logical quad 0 of partition 7 of device 0, its payload all 5. -/
def msg : Msg := { bytes := le 8 (7 * 2 ^ 47 + 1 * 2 ^ 37 + 3) ++ List.replicate 56 5, tag := 0 }

/-- The quad with the message's octets at 0x10040, where g4 points. -/
def sendQ (w : Nat) : Quad := { coreQ w with g := [(4, 0x10040)], mem := memWrite (coreQ w).mem 0x10040 msg.bytes }

/-- The quad with the message in queue 1 since an earlier cycle, g4 pointing to 0x10080. -/
def recvQ (w : Nat) : Quad := { coreQ w with g := [(4, 0x10080)], inq := setNth (List.replicate 4 {}) 1 { msgs := [msg] } }

theorem test_send : AtOp (coreS (sendQ (iWord 0x20 0 4 0))) qz 0x20 ∧ Clean (coreS (sendQ (iWord 0x20 0 4 0))) qz ∧ does (.send qz) (coreS (sendQ (iWord 0x20 0 4 0))) (fun d => decide ((d.quad 0).outbound = [msg]) && decide ((d.quad 0).pc = 4)) = true ∧ passes (.send qz) (coreS { sendQ (iWord 0x20 0 4 0) with outbound := [msg, msg] }) 0 = true := by unfold AtOp Clean CoreRuns; decide +kernel

theorem test_recv : AtOp (coreS (recvQ (iWord 0x21 5 4 1))) qz 0x21 ∧ (popMsg (recvQ (iWord 0x21 5 4 1)) 1 2).isSome = true ∧ does (.recv qz) (coreS (recvQ (iWord 0x21 5 4 1))) (fun d => decide (memRead (d.quad 0).mem 0x10080 64 = msg.bytes) && decide ((d.quad 0).reg 5 = 0) && decide (((d.quad 0).queue 1).msgs = [])) = true := by unfold AtOp CoreRuns; decide +kernel

theorem test_recv_empty : AtOp (coreS (sendQ (iWord 0x21 5 4 1))) qz 0x21 ∧ popMsg (sendQ (iWord 0x21 5 4 1)) 1 2 = none ∧ does (.recv qz) (coreS (sendQ (iWord 0x21 5 4 1))) (fun d => decide ((d.quad 0).reg 5 = 1) && decide ((d.quad 0).pc = 4)) = true := by unfold AtOp CoreRuns; decide +kernel

theorem test_recvw : AtOp (coreS (recvQ (iWord 0x22 5 4 1))) qz 0x22 ∧ does (.recvw qz) (coreS (recvQ (iWord 0x22 5 4 1))) (fun d => decide (memRead (d.quad 0).mem 0x10080 64 = msg.bytes) && decide ((d.quad 0).pc = 4)) = true := by unfold AtOp CoreRuns; decide +kernel

theorem test_recvw_waits : AtOp (coreS (sendQ (iWord 0x22 5 4 1))) qz 0x22 ∧ popMsg (sendQ (iWord 0x22 5 4 1)) 1 2 = none ∧ (runTask (coreS (sendQ (iWord 0x22 5 4 1))) qz).cancelled = false ∧ does (.recvw qz) (coreS (sendQ (iWord 0x22 5 4 1))) (fun d => decide ((nth {} (d.quad 0).slots 2).st = .waiting) && decide ((nth {} (d.quad 0).slots 2).resume = 4)) = true := by unfold AtOp CoreRuns; decide +kernel

/-- The receiving quad with its running slot as given. -/
def recvwQ (run : Slot) : Quad := { recvQ (iWord 0x22 5 4 1) with slots := setNth (List.replicate 8 {}) 2 run }

theorem test_recvw_cancelled : AtOp (coreS (recvwQ { st := .running, cancelled := true })) qz 0x22 ∧
    does (.recvw qz) (coreS (recvwQ { st := .running, cancelled := true })) (fun d => decide ((nth {} (d.quad 0).slots 2).st = .idle) && decide (((d.quad 0).queue 1).msgs = [msg])) = true := by unfold AtOp CoreRuns; decide +kernel

theorem test_arm : AtOp (coreS (sendQ (iWord 0x24 0 4 (1 * 8 + 3)))) qz 0x24 ∧ does (.arm qz) (coreS (sendQ (iWord 0x24 0 4 (1 * 8 + 3)))) (fun d => decide ((nth {} (d.quad 0).slots 3) = { st := .armed, trig := some (.queue 1 false), entry := 0x10040, resume := 0x10040, since := 1 })) = true ∧ does (.arm qz) (coreS (recvQ (iWord 0x24 0 4 (1 * 8 + 3)))) (fun d => decide ((nth {} ((d.quad 0).settled 1).slots 3).st = .armed) && decide ((nth {} ((d.quad 0).settled 2).slots 3).st = .ready)) = true := by unfold AtOp CoreRuns; decide +kernel

theorem test_arm_self : AtOp (coreS (sendQ (iWord 0x24 0 4 (32 + 1 * 8 + 2)))) qz 0x24 ∧ does (.arm qz) (coreS (sendQ (iWord 0x24 0 4 (32 + 1 * 8 + 2)))) (fun d => decide ((nth {} (d.quad 0).slots 2).pending = some { trig := .queue 1 true, entry := 0x10040 }) && decide ((nth {} (d.quad 0).slots 2).st = .running)) = true := by unfold AtOp CoreRuns; decide +kernel

theorem test_armt : AtOp (coreS { sendQ (iWord 0x25 0 4 (2 * 2 ^ 11 + 3)) with g := [(2, 99), (4, 0x40)] }) qz 0x25 ∧ does (.armt qz) (coreS { sendQ (iWord 0x25 0 4 (2 * 2 ^ 11 + 3)) with g := [(2, 99), (4, 0x40)] }) (fun d => decide ((nth {} (d.quad 0).slots 3).trig = some (.tick 99)) && decide ((nth {} (d.quad 0).slots 3).st = .armed)) = true := by unfold AtOp CoreRuns; decide +kernel

theorem test_armt_self : AtOp (coreS { sendQ (iWord 0x25 0 4 (2 * 2 ^ 11 + 2)) with g := [(2, 99), (4, 0x40)] }) qz 0x25 ∧ does (.armt qz) (coreS { sendQ (iWord 0x25 0 4 (2 * 2 ^ 11 + 2)) with g := [(2, 99), (4, 0x40)] }) (fun d => decide ((nth {} (d.quad 0).slots 2).pending = some { trig := .tick 99, entry := 0x40 })) = true := by unfold AtOp CoreRuns; decide +kernel

/-- The quad with its running slot and slot 3 as given. -/
def slotQ (w : Nat) (run other : Slot) : Quad := { coreQ w with slots := setNth (setNth (List.replicate 8 {}) 2 run) 3 other }

theorem test_cancel : AtOp (coreS (slotQ (iWord 0x26 0 0 3) { st := .running } { st := .waiting, wait := some (.tick 5) })) qz 0x26 ∧ does (.cancel qz) (coreS (slotQ (iWord 0x26 0 0 3) { st := .running } { st := .waiting, wait := some (.tick 5) })) (fun d => decide ((nth {} (d.quad 0).slots 3).st = .idle)) = true ∧ does (.cancel qz) (coreS (slotQ (iWord 0x26 0 0 2) { st := .running } {})) (fun d => decide ((nth {} (d.quad 0).slots 2).cancelled = true) && decide ((nth {} (d.quad 0).slots 2).st = .running)) = true := by unfold AtOp CoreRuns; decide +kernel

theorem test_yield : AtOp (coreS (coreQ (iWord 0x27 0 0 0))) qz 0x27 ∧ does (.yield qz) (coreS (coreQ (iWord 0x27 0 0 0))) (fun d => decide ((nth {} (d.quad 0).slots 2).st = .ready) && decide ((nth {} (d.quad 0).slots 2).resume = 4)) = true ∧ does (.yield qz) (coreS (slotQ (iWord 0x27 0 0 0) { st := .running, cancelled := true } {})) (fun d => decide ((nth {} (d.quad 0).slots 2).st = .idle)) = true := by unfold AtOp CoreRuns; decide +kernel

theorem test_waitt : AtOp (coreS (coreQ (iWord 0x2B 0 2 0))) qz 0x2B ∧ does (.waitt qz) (coreS (coreQ (iWord 0x2B 0 2 0))) (fun d => decide ((nth {} (d.quad 0).slots 2).st = .waiting) && decide ((nth {} (d.quad 0).slots 2).wait = some (.tick 3)) && decide ((nth {} (d.quad 0).slots 2).resume = 4)) = true := by unfold AtOp CoreRuns; decide +kernel

theorem test_done_cancelled : AtOp (coreS (slotQ (iWord 0x28 0 0 0) { st := .running, cancelled := true, pending := some { trig := .tick 5, entry := 8 } } {})) qz 0x28 ∧ does (.done qz) (coreS (slotQ (iWord 0x28 0 0 0) { st := .running, cancelled := true, pending := some { trig := .tick 5, entry := 8 } } {})) (fun d => decide ((nth {} (d.quad 0).slots 2).st = .idle) && decide ((nth {} (d.quad 0).slots 2).pending = none)) = true := by unfold AtOp CoreRuns; decide +kernel

theorem test_done_tick : AtOp (coreS (slotQ (iWord 0x28 0 0 0) { st := .running, pending := some { trig := .tick 5, entry := 8 } } {})) qz 0x28 ∧ does (.done qz) (coreS (slotQ (iWord 0x28 0 0 0) { st := .running, pending := some { trig := .tick 5, entry := 8 } } {})) (fun d => decide ((nth {} (d.quad 0).slots 2) = { st := .armed, trig := some (.tick 5), entry := 8, resume := 8, since := 1 })) = true := by unfold AtOp CoreRuns; decide +kernel

theorem test_done_queue : AtOp (coreS (slotQ (iWord 0x28 0 0 0) { st := .running, pending := some { trig := .queue 1 false, entry := 8 } } {})) qz 0x28 ∧ does (.done qz) (coreS (slotQ (iWord 0x28 0 0 0) { st := .running, pending := some { trig := .queue 1 false, entry := 8 } } {})) (fun d => decide ((nth {} (d.quad 0).slots 2).st = .armed) && decide ((nth {} (d.quad 0).slots 2).resume = 8)) = true := by unfold AtOp CoreRuns; decide +kernel

theorem test_done_persistent : AtOp (coreS (slotQ (iWord 0x28 0 0 0) { st := .running, trig := some (.queue 1 true), entry := 12 } {})) qz 0x28 ∧ does (.done qz) (coreS (slotQ (iWord 0x28 0 0 0) { st := .running, trig := some (.queue 1 true), entry := 12 } {})) (fun d => decide ((nth {} (d.quad 0).slots 2).st = .armed) && decide ((nth {} (d.quad 0).slots 2).resume = 12)) = true := by unfold AtOp CoreRuns; decide +kernel

theorem test_done_once : AtOp (coreS (slotQ (iWord 0x28 0 0 0) { st := .running, trig := some (.queue 1 false), entry := 12 } {})) qz 0x28 ∧ does (.done qz) (coreS (slotQ (iWord 0x28 0 0 0) { st := .running, trig := some (.queue 1 false), entry := 12 } {})) (fun d => decide ((nth {} (d.quad 0).slots 2).st = .idle) && decide ((nth {} (d.quad 0).slots 2).trig = none)) = true := by unfold AtOp CoreRuns; decide +kernel

theorem test_task_dispatch : runningSlot (slotQ 0 { st := .ready, resume := 0x20 } { st := .ready }) = none ∧ does (.taskDispatch ⟨0, 5, 0⟩) (coreS (slotQ 0 { st := .ready, resume := 0x20 } { st := .ready })) (fun d => decide ((nth {} (d.quad 0).slots 2).st = .running) && decide ((nth {} (d.quad 0).slots 3).st = .ready) && decide ((d.quad 0).pc = 0x20) && decide ((d.quad 0).cyc = 5) && (d.quad 0).fresh) = true ∧ passes (.taskDispatch qz) (coreS (slotQ 0 { st := .running } { st := .ready })) 0 = true ∧ passes (.taskDispatch qz) (coreS (slotQ 0 { st := .armed } {})) 0 = true := by decide +kernel

/-- Slot 2 waits at RECVW for queue 1, which has held a message since an earlier cycle. -/
theorem test_task_dispatch_pops : let x := recvwQ { st := .waiting, wait := some (.queue 1 false), resume := 4 }
    ((x.settled 5).slots.map (·.st)).take 3 = [.idle, .idle, .ready] ∧ (popMsg (x.settled 5) 1 5).isSome = true ∧
    does (.taskDispatch ⟨0, 5, 0⟩) (coreS x) (fun d => decide ((d.quad 0).reg 5 = 0) && decide (memRead (d.quad 0).mem 0x10080 64 = msg.bytes) && decide ((nth {} (d.quad 0).slots 2).st = .running) && decide ((d.quad 0).pc = 4)) = true := by decide +kernel

theorem test_task_dispatch_none : let x := slotQ 0 { st := .armed, trig := some (.queue 1 false) } {}
    runningSlot x = none ∧ (∀ i < 8, (nth {} (x.settled 5).slots i).st ≠ .ready) ∧ does (.taskDispatch ⟨0, 5, 0⟩) (coreS x) (fun d => decide (d.quad 0 = x.settled 5)) = true := by decide +kernel

/-- Quad 0, logical 1 of partition 7, holds the message in its outbound buffer; quad 5, logical 0, has `n` messages in queue 1. -/
def postS (n : Nat) : State :=
  st { quads := [(0, { coreQ 0 with outbound := [msg] }), (5, { st := .running, inq := setNth (List.replicate 4 {}) 1 { msgs := List.replicate n msg } })]
       parts := [(7, { quadMap := [5, 0] })], legend := [(legKey 0x6000 0x03, some [0, 0])] }

/-- A notice for logical quad 0 of partition 7. -/
def noticeS : State := { postS 0 with dev := { (postS 0).dev with notices := [{ partition := 7, quad := 0, queue := 2, msg := msg }] } }

theorem test_message_delivery : quadOwner (postS 0).dev 0 = some (7, 1) ∧ msgDev (leAt 0 8 msg.bytes) = deviceNumber (postS 0).dev % 2048 ∧ physQuad (postS 0).dev 7 (msgQuad (leAt 0 8 msg.bytes)) = some 5 ∧ (pushMsg ((postS 0).dev.quad 5) 1 9 (stampHeader (postS 0).dev 7 1 msg)).isSome = true ∧ does (.messageDelivery 0 9 (.quad 0)) (postS 0) (fun d => decide ((d.quad 0).outbound = []) && decide (((d.quad 5).queue 1).msgs.map (fun m => (msgPart (leAt 0 8 m.bytes), msgQuad (leAt 0 8 m.bytes), m.bytes.drop 8)) = [(7, 1, List.replicate 56 5)])) = true := by decide +kernel

theorem test_message_full : pushMsg ((postS 16).dev.quad 5) 1 9 (stampHeader (postS 16).dev 7 1 msg) = none ∧ passes (.messageDelivery 0 9 (.quad 0)) (postS 16) 0 = true := by decide +kernel

/-- A message that carries a tag and is for another partition stays, and one for a partition that is not allowed is discarded
with the isolation fault. -/
theorem test_message_outside : let out (tag : PTag) : State := st { (postS 0).dev with quads := [(0, { coreQ 0 with outbound := [{ bytes := le 8 (8 * 2 ^ 47 + 1 * 2 ^ 37 + 3) ++ List.replicate 56 5, tag := tag }] })] }
    leavesPencilled (out 1).dev 7 (nth msg ((out 1).dev.quad 0).outbound 0) = true ∧ passes (.messageDelivery 0 9 (.quad 0)) (out 1) 0 = true ∧
    localBreach (out 0).dev 7 8 = some 7 ∧ does (.messageDelivery 0 9 (.quad 0)) (out 0) (fun d => decide ((d.quad 0).outbound = []) && (d.fault 0xE0).set) = true := by decide +kernel

theorem test_notice_delivery : (takeFirst (fun (i : Notice) => decide (i.partition = 7) && decide (i.quad = 0)) noticeS.dev.notices).isSome = true ∧ does (.messageDelivery 0 9 (.notice 7 0)) noticeS (fun d => decide (((d.quad 5).queue 2).msgs = [msg]) && decide (d.notices = [])) = true := by decide +kernel

theorem test_absent_units : stops (.messageDelivery 0 9 (.notice 64 0)) noticeS = true ∧ stops (.add ⟨200, 0, 0⟩) (st { part := { grade := 2 } }) = true ∧ stops (.pinTest 0 5 true) (st {}) = true ∧ stops (.portDown 0 24 false) (st {}) = true ∧ stops (.handover 0 64) (st {}) = true ∧ stops (.rollbackRevert 0 16) (st {}) = true := by decide +kernel

/-! ## Lane array -/

/-- Lanes 0 and 2 active; v1 and v2 of lane 0 are 5 and -3, of lane 2 the greatest 32-bit integer and 1; v3 of lane 1 is 9;
m1 holds lane 0, m2 lanes 0 and 2. -/
def lanesA : Lanes :=
  { v := [(1, 5), (2, 0xFFFFFFFD), (19, 9), (33, 0x7FFFFFFF), (34, 1)], m0 := 5, m1 := 1, m2 := 5, iter := 4
    q := [(0, 536870913), (2, 536870913)], streams := [⟨0x200000, 4, 0, 2⟩, ⟨0x200000, 0, 0, 2⟩] }

/-- The same with residues: v1, v2 and v3 of lanes 0 and 2 are q - 1, 5 and 2. -/
def lanesR : Lanes := { lanesA with v := [(1, 536870912), (2, 5), (3, 2), (33, 536870912), (34, 5), (35, 2)] }

/-- A quad with lanes, octets at the bottom of the activation bank, on a device alone. -/
def laneS (x : Lanes) : State :=
  st { quads := [(0, { coreQ 0 with lanes := x, mem := memWrite [] 0x200000 [1, 0, 0, 0, 2, 0, 0, 0, 3, 0, 0, 0] })] }

/-- vd 3, va 1, vb 2, mask m0, with a type and an immediate. -/
def la (t : BitVec 4) (imm : BitVec 32) : LaneArgs := { type := t, type2 := 0, vd := 3, va := 1, vb := 2, mask := 0, minv := false, imm := imm }

/-- The command leaves v3 of lanes 0 and 2 so, v3 of lane 1 as it was, and these flags. -/
def lanes3 (c : Instr) (x : Lanes) (v0 v2 : Nat) (fl : Word) : Bool :=
  does c (laneS x) fun d => decide ((d.quad 0).lanes.reg 0 3 = v0) && decide ((d.quad 0).lanes.reg 2 3 = v2) &&
    decide ((d.quad 0).lanes.reg 1 3 = x.reg 1 3) && decide ((d.quad 0).lanes.flags = fl)

theorem test_lane_add : LaneReady (laneS lanesA) qz 5 (la 2 0) ∧ lanes3 (.laneAdd qz (la 2 0)) lanesA 0x2 0x7fffffff 1 = true := by unfold LaneReady; decide +kernel

theorem test_lane_sub : LaneReady (laneS lanesA) qz 6 (la 2 0) ∧ lanes3 (.laneSub qz (la 2 0)) lanesA 0x8 0x7ffffffe 0 = true := by unfold LaneReady; decide +kernel

theorem test_lane_mul : LaneReady (laneS lanesA) qz 7 (la 2 0) ∧ lanes3 (.laneMul qz (la 2 0)) lanesA 0xfffffff1 0x7fffffff 0 = true := by unfold LaneReady; decide +kernel

theorem test_lane_mac : LaneReady (laneS lanesA) qz 8 (la 2 0) ∧ lanes3 (.laneMac qz (la 2 0)) lanesA 0xfffffff1 0x7fffffff 0 = true := by unfold LaneReady; decide +kernel

theorem test_lane_min : LaneReady (laneS lanesA) qz 9 (la 2 0) ∧ lanes3 (.laneMin qz (la 2 0)) lanesA 0xfffffffd 0x1 0 = true := by unfold LaneReady; decide +kernel

theorem test_lane_max : LaneReady (laneS lanesA) qz 10 (la 2 0) ∧ lanes3 (.laneMax qz (la 2 0)) lanesA 0x5 0x7fffffff 0 = true := by unfold LaneReady; decide +kernel

theorem test_lane_abs : LaneReady (laneS lanesA) qz 11 (la 2 0) ∧ lanes3 (.laneAbs qz (la 2 0)) lanesA 0x5 0x7fffffff 0 = true := by unfold LaneReady; decide +kernel

theorem test_lane_neg : LaneReady (laneS lanesA) qz 12 (la 2 0) ∧ lanes3 (.laneNeg qz (la 2 0)) lanesA 0xfffffffb 0x80000001 0 = true := by unfold LaneReady; decide +kernel

theorem test_lane_shl : LaneReady (laneS lanesA) qz 13 (la 2 1) ∧ lanes3 (.laneShl qz (la 2 1)) lanesA 0xa 0x7fffffff 1 = true := by unfold LaneReady; decide +kernel

theorem test_lane_shr : LaneReady (laneS lanesA) qz 14 (la 2 1) ∧ lanes3 (.laneShr qz (la 2 1)) lanesA 0x2 0x3fffffff 0 = true := by unfold LaneReady; decide +kernel

theorem test_lane_and : LaneReady (laneS lanesA) qz 15 (la 2 0) ∧ lanes3 (.laneAnd qz (la 2 0)) lanesA 0x5 0x1 0 = true := by unfold LaneReady; decide +kernel

theorem test_lane_or : LaneReady (laneS lanesA) qz 16 (la 2 0) ∧ lanes3 (.laneOr qz (la 2 0)) lanesA 0xfffffffd 0x7fffffff 0 = true := by unfold LaneReady; decide +kernel

theorem test_lane_xor : LaneReady (laneS lanesA) qz 17 (la 2 0) ∧ laneList (laneS lanesA) qz 17 (la 2 0) ≠ [] ∧ lanes3 (.laneXor qz (la 2 0)) lanesA 0xfffffff8 0x7ffffffe 0 = true := by unfold LaneReady; decide +kernel

theorem test_lane_movi : LaneReady (laneS lanesA) qz 3 (la 2 77) ∧ lanes3 (.laneMovi qz (la 2 77)) lanesA 0x4d 0x4d 0 = true := by unfold LaneReady; decide +kernel

theorem test_lane_mov : LaneReady (laneS lanesA) qz 4 (la 2 0) ∧ lanes3 (.laneMov qz (la 2 0)) lanesA 0x5 0x7fffffff 0 = true := by unfold LaneReady; decide +kernel

theorem test_lane_cvt : LaneReady (laneS lanesA) qz 18 (la 2 0) ∧ lanes3 (.laneCvt qz (la 2 0)) lanesA 0x5 0x7f 1 = true := by unfold LaneReady; decide +kernel

theorem test_lane_laneid : LaneReady (laneS lanesA) qz 34 (la 2 0) ∧ lanes3 (.laneLaneid qz (la 2 0)) lanesA 0x0 0x2 0 = true := by unfold LaneReady; decide +kernel

theorem test_lane_iter : LaneReady (laneS lanesA) qz 35 (la 2 0) ∧ lanes3 (.laneIter qz (la 2 0)) lanesA 0x4 0x4 0 = true := by unfold LaneReady; decide +kernel

theorem test_lane_xsum : LaneReady (laneS lanesA) qz 26 (la 2 0) ∧ laneList (laneS lanesA) qz 26 (la 2 0) ≠ [] ∧ lanes3 (.laneXsum qz (la 2 0)) lanesA 0x7fffffff 0x7fffffff 1 = true := by unfold LaneReady; decide +kernel

theorem test_lane_xmax : LaneReady (laneS lanesA) qz 27 (la 2 0) ∧ laneList (laneS lanesA) qz 27 (la 2 0) ≠ [] ∧ lanes3 (.laneXmax qz (la 2 0)) lanesA 0x7fffffff 0x7fffffff 0 = true := by unfold LaneReady; decide +kernel

theorem test_lane_xmin : LaneReady (laneS lanesA) qz 28 (la 2 0) ∧ laneList (laneS lanesA) qz 28 (la 2 0) ≠ [] ∧ lanes3 (.laneXmin qz (la 2 0)) lanesA 0x5 0x5 0 = true := by unfold LaneReady; decide +kernel

theorem test_lane_sel : LaneReady (laneS lanesA) qz 0x16 { la 2 0 with mask := 1 } ∧ lanes3 (.laneSel qz { la 2 0 with mask := 1 }) lanesA 5 1 0 = true := by unfold LaneReady; decide +kernel

theorem test_lane_madd : LaneReady (laneS lanesR) qz 30 (la 8 0) ∧ modulusOk (lanesR.modulus 0) = true ∧ lanes3 (.laneMadd qz (la 8 0)) lanesR 4 4 0 = true := by unfold LaneReady; decide +kernel

theorem test_lane_msub : LaneReady (laneS lanesR) qz 31 (la 8 0) ∧ modulusOk (lanesR.modulus 0) = true ∧ lanes3 (.laneMsub qz (la 8 0)) lanesR 536870907 536870907 0 = true := by unfold LaneReady; decide +kernel

theorem test_lane_mmul : LaneReady (laneS lanesR) qz 32 (la 8 0) ∧ modulusOk (lanesR.modulus 0) = true ∧ lanes3 (.laneMmul qz (la 8 0)) lanesR 536870908 536870908 0 = true := by unfold LaneReady; decide +kernel

theorem test_lane_mmac : LaneReady (laneS lanesR) qz 33 (la 8 0) ∧ modulusOk (lanesR.modulus 0) = true ∧ lanes3 (.laneMmac qz (la 8 0)) lanesR 536870910 536870910 0 = true := by unfold LaneReady; decide +kernel

theorem test_lane_xsum_residues : LaneReady (laneS lanesR) qz 0x1A (la 8 0) ∧ laneList (laneS lanesR) qz 0x1A (la 8 0) ≠ [] ∧ lanes3 (.laneXsum qz (la 8 0)) lanesR 536870911 536870911 0 = true := by unfold LaneReady; decide +kernel

/-- v1 of lanes 0 and 2 are 1.5 and 2.5 in 32-bit floating point. -/
def lanesF : Lanes := { lanesA with v := [(1, 0x3FC00000), (33, 0x40200000)] }

theorem test_lane_xsum_floating : LaneReady (laneS lanesF) qz 0x1A (la 3 0) ∧ lanes3 (.laneXsum qz (la 3 0)) lanesF 0x40800000 0x40800000 0 = true := by unfold LaneReady; decide +kernel

theorem test_lane_xsum_no_lane : LaneReady (laneS { lanesA with m0 := 0 }) qz 26 (la 2 0) ∧ laneList (laneS { lanesA with m0 := 0 }) qz 26 (la 2 0) = [] ∧ passes (.laneXsum qz (la 2 0)) (laneS { lanesA with m0 := 0 }) 0 = true := by unfold LaneReady; decide +kernel

theorem test_lane_xmax_no_lane : LaneReady (laneS { lanesA with m0 := 0 }) qz 27 (la 2 0) ∧ laneList (laneS { lanesA with m0 := 0 }) qz 27 (la 2 0) = [] ∧ passes (.laneXmax qz (la 2 0)) (laneS { lanesA with m0 := 0 }) 0 = true := by unfold LaneReady; decide +kernel

theorem test_lane_xmin_no_lane : LaneReady (laneS { lanesA with m0 := 0 }) qz 28 (la 2 0) ∧ laneList (laneS { lanesA with m0 := 0 }) qz 28 (la 2 0) = [] ∧ passes (.laneXmin qz (la 2 0)) (laneS { lanesA with m0 := 0 }) 0 = true := by unfold LaneReady; decide +kernel

theorem test_lane_ceq : LaneReady (laneS lanesA) qz 19 { la 2 3 with vb := 1 } ∧ does (.laneCeq qz { la 2 3 with vb := 1 }) (laneS lanesA) (fun d => decide ((d.quad 0).lanes.m3 = 5) && decide ((d.quad 0).lanes.m1 = 1) && decide ((d.quad 0).lanes.v = (lanesA : Lanes).v)) = true := by unfold LaneReady; decide +kernel

theorem test_lane_clt : LaneReady (laneS lanesA) qz 20 { la 2 3 with va := 2, vb := 1 } ∧ does (.laneClt qz { la 2 3 with va := 2, vb := 1 }) (laneS lanesA) (fun d => decide ((d.quad 0).lanes.m3 = 5) && decide ((d.quad 0).lanes.m1 = 1) && decide ((d.quad 0).lanes.v = (lanesA : Lanes).v)) = true := by unfold LaneReady; decide +kernel

theorem test_lane_cle : LaneReady (laneS lanesA) qz 21 (la 2 3) ∧ does (.laneCle qz (la 2 3)) (laneS lanesA) (fun d => decide ((d.quad 0).lanes.m3 = 0) && decide ((d.quad 0).lanes.m1 = 1) && decide ((d.quad 0).lanes.v = (lanesA : Lanes).v)) = true := by unfold LaneReady; decide +kernel

theorem test_lane_mand : LaneReady (laneS lanesA) qz 23 (la 2 3) ∧ does (.laneMand qz (la 2 3)) (laneS lanesA) (fun d => decide ((d.quad 0).lanes.m3 = 1) && decide ((d.quad 0).lanes.m1 = 1) && decide ((d.quad 0).lanes.v = (lanesA : Lanes).v)) = true := by unfold LaneReady; decide +kernel

theorem test_lane_mor : LaneReady (laneS lanesA) qz 24 (la 2 3) ∧ does (.laneMor qz (la 2 3)) (laneS lanesA) (fun d => decide ((d.quad 0).lanes.m3 = 5) && decide ((d.quad 0).lanes.m1 = 1) && decide ((d.quad 0).lanes.v = (lanesA : Lanes).v)) = true := by unfold LaneReady; decide +kernel

theorem test_lane_mnot : LaneReady (laneS lanesA) qz 25 (la 2 3) ∧ does (.laneMnot qz (la 2 3)) (laneS lanesA) (fun d => decide ((d.quad 0).lanes.m3 = 0xFFFFFFFFFFFFFFFE) && decide ((d.quad 0).lanes.m1 = 1) && decide ((d.quad 0).lanes.v = (lanesA : Lanes).v)) = true := by unfold LaneReady; decide +kernel

theorem test_lane_nop : LaneReady (laneS lanesA) qz 0 (la 2 0) ∧ passes (.laneNop qz (la 2 0)) (laneS lanesA) 0 = true := by unfold LaneReady; decide +kernel

theorem test_lane_setq : LaneReady (laneS lanesR) qz 0x1D (la 8 0) ∧ does (.laneSetq qz (la 8 0)) (laneS lanesR) (fun d => decide ((d.quad 0).lanes.q = [(0, 536870912), (2, 536870912)])) = true := by unfold LaneReady; decide +kernel

theorem test_lane_ld : Clean (laneS lanesA) qz ∧ LaneReady (laneS lanesA) qz 1 (la 2 0) ∧ lanes3 (.laneLd qz (la 2 0)) lanesA 1 3 0 = true := by unfold LaneReady Clean; decide +kernel

theorem test_lane_st : Clean (laneS lanesA) qz ∧ LaneReady (laneS lanesA) qz 2 (la 2 0) ∧ does (.laneSt qz (la 2 0)) (laneS lanesA) (fun d => decide (memRead (d.quad 0).mem 0x200000 12 = [5, 0, 0, 0, 2, 0, 0, 0, 0xFF, 0xFF, 0xFF, 0x7F])) = true := by unfold LaneReady Clean; decide +kernel

theorem test_lane_st_same_address : LaneReady (laneS lanesA) qz 2 (la 2 1) ∧ does (.laneSt qz (la 2 1)) (laneS lanesA) (fun d => decide (memRead (d.quad 0).mem 0x200000 5 = [0xFF, 0xFF, 0xFF, 0x7F, 2])) = true := by unfold LaneReady; decide +kernel

theorem test_lane_integers : laneValue lanesA { op := 0x05, a := la 2 0 } 2 = some (0x7FFFFFFF, 1) ∧ laneValue { lanesA with v := [(1, 0x80), (2, 0xFF)] } { op := 0x06, a := la 0 0 } 0 = some (0x81, 0) ∧ laneValue { lanesA with v := [(1, 0x80)] } { op := 0x0B, a := la 0 0 } 0 = some (0x7F, 1) := by decide +kernel

/-! ## Units of a quad -/

/-- A quad whose unit `u` is at the command `b` with the specification word `w`, on a device alone, logical quad 1 of
partition 7; the octets at the bottom of the weight bank are 1, 2, -1 and 3, of the activation bank 2, 5 and 7. -/
def unitQ (u : Nat) (b : Bytes) (w : Word := 0) : Quad :=
  { coreQ 0 with units := setNth (List.replicate 6 []) u [{ desc := b, spec := w, tag := 0 }], mem := memWrite (memWrite [] 0x100000 [1, 2, 255, 3]) 0x200000 [2, 5, 7] }

/-- The state with that quad. -/
def unitS (u : Nat) (b : Bytes) : State := coreS (unitQ u b)

/-- Only the quad changed; its unit's command is done with a status and octets moved, at a cycle; the quad is so. -/
def unitDone (c : Instr) (s : State) (u status moved due : Nat) (p : Quad → Bool) : Bool :=
  does c s fun d => decide (d = (s.dev.at 0).setQuad 0 (d.quad 0)) && decide ((nth [] (d.quad 0).units u).map (fun z => (z.done, z.due)) = [(some (BitVec.ofNat 8 status, moved), due)]) &&
    p (d.quad 0)

/-- The command of unit `u` is done with INVALID and the quad is otherwise as it was. -/
def unitInvalid (c : Instr) (s : State) (u : Nat) : Bool :=
  unitDone c s u 2 0 0 fun y => decide ({ y with units := (s.dev.quad 0).units } = s.dev.quad 0)

/-- A block-mover descriptor. -/
def moverB (src dst len op count list : Nat) : Bytes := le 8 src ++ le 8 dst ++ le 4 len ++ [BitVec.ofNat 8 op, 0] ++ le 2 count ++ le 4 list ++ zeros 4

/-- A CIM descriptor: op, mode, mask, rows or flags. -/
def loadB (mode mask rows cols addr : Nat) : Bytes := [0, BitVec.ofNat 8 mode, BitVec.ofNat 8 mask, 0] ++ le 2 rows ++ le 2 cols ++ le 4 addr ++ zeros 20

/-- A DOT or HAD descriptor of array 0 and one vector. -/
def dotB (op flags src dst nvec : Nat) : Bytes := [BitVec.ofNat 8 op, 0, 1, BitVec.ofNat 8 flags, 0, 0, 0, 0] ++ le 4 src ++ le 4 dst ++ le 2 nvec ++ zeros 14

/-- A lane command: one kernel word at the bottom of the activation bank, two iterations. -/
def laneB (n : Nat) : Bytes := le 4 0x200000 ++ le 2 n ++ zeros 10 ++ le 4 2 ++ zeros 12

theorem test_lane_command : nth [] (unitQ 1 (laneB 1)).units 1 = [{ desc := laneB 1, spec := 0, tag := 0 }] ∧ Clean (coreS { unitQ 1 (laneB 1) with mem := [] }) qz ∧
    laneCheck (laneB 1) [laneDecode 0] [] = true ∧ unitDone (.laneCommand qz) (coreS { unitQ 1 (laneB 1) with mem := [] }) 1 0 0 10 (fun _ => true) = true := by
  unfold Clean; decide +kernel

theorem test_lane_command_invalid : Clean (unitS 1 (laneB 0)) qz ∧ laneCheck (laneB 0) [] [] = false ∧
    does (.laneCommand qz) (unitS 1 (laneB 0)) (fun d => decide (d.quad 0 = { unitQ 1 (laneB 0) with units := setNth (List.replicate 6 []) 1 [{ desc := laneB 0, spec := 0, tag := 0, done := some (2, 0), due := 8 }] })) = true := by
  unfold Clean; decide +kernel

theorem test_mover_invalid : (∀ op < 4, UnitAt (unitS 0 (moverB 0x200000 0x200040 63 op 1 0x10001)) qz 0 { desc := moverB 0x200000 0x200040 63 op 1 0x10001, spec := 0, tag := 0 } []) ∧
    movesOf (moverB 0x200000 0x200040 63 0 1 0x10001) [] = none ∧ listOk (moverB 0x200000 0x200040 63 1 1 0x10001) = false ∧
    unitInvalid (.copy qz) (unitS 0 (moverB 0x200000 0x200040 63 0 1 0x10001)) 0 = true ∧ unitInvalid (.gather qz) (unitS 0 (moverB 0x200000 0x200040 63 1 1 0x10001)) 0 = true ∧
    unitInvalid (.scatter qz) (unitS 0 (moverB 0x200000 0x200040 63 2 1 0x10001)) 0 = true ∧ unitInvalid (.zero qz) (unitS 0 (moverB 0x200000 0x200040 63 3 1 0x10001)) 0 = true := by
  unfold UnitAt; decide +kernel

theorem test_cim_invalid : UnitAt (unitS 2 (zeros 32)) qz 2 { desc := zeros 32, spec := 0, tag := 0 } [] ∧ loadOk (zeros 32) = false ∧
    unitInvalid (.cimLoad qz) (unitS 2 (zeros 32)) 2 = true ∧ unitInvalid (.dot qz) (unitS 2 (dotB 1 0 0x200000 0x200040 1)) 2 = true ∧
    unitInvalid (.had qz) (unitS 2 (dotB 2 0 0x200000 0x200040 1)) 2 = true ∧ unitInvalid (.bench qz) (unitS 2 ([3] ++ zeros 31)) 2 = true := by
  unfold UnitAt; decide +kernel

theorem test_cipher_invalid : UnitAt (unitS 3 (zeros 32)) qz 3 { desc := zeros 32, spec := 0, tag := 0 } [] ∧ nttOk (zeros 32) = false ∧ autoOk ([1] ++ zeros 31) = false ∧ bextOk (zeros 32) = false ∧
    unitInvalid (.fwd qz) (unitS 3 (zeros 32)) 3 = true ∧ unitInvalid (.inv qz) (unitS 3 ([1] ++ zeros 31)) 3 = true ∧
    unitInvalid (.automorphismEval qz) (unitS 4 (zeros 32)) 4 = true ∧ unitInvalid (.automorphismCoef qz) (unitS 4 ([1] ++ zeros 31)) 4 = true ∧
    unitInvalid (.bext qz) (unitS 5 (zeros 32)) 5 = true := by
  unfold UnitAt; decide +kernel

/-- A command without a descriptor ends with INVALID on its unit. -/
theorem test_no_descriptor : (∀ u < 6, UnitAt (unitS u []) qz u { desc := [], spec := 0, tag := 0 } []) ∧ unitInvalid (.copy qz) (unitS 0 []) 0 = true ∧ unitInvalid (.cimLoad qz) (unitS 2 []) 2 = true ∧
    unitInvalid (.inv qz) (unitS 3 []) 3 = true ∧ unitInvalid (.automorphismCoef qz) (unitS 4 []) 4 = true ∧ unitInvalid (.bext qz) (unitS 5 []) 5 = true ∧
    kfetchOk ([3] ++ zeros 31) = false ∧ unitInvalid (.kfetch qz) (unitS 5 ([3] ++ zeros 31)) 5 = true := by
  unfold UnitAt; decide +kernel

/-! Block mover -/

theorem test_copy : UnitAt (unitS 0 (moverB 0x200000 0x200040 64 0 1 0)) qz 0 { desc := moverB 0x200000 0x200040 64 0 1 0, spec := 0, tag := 0 } [] ∧ Clean (unitS 0 (moverB 0x200000 0x200040 64 0 1 0)) qz ∧
    Memory.wf (unitQ 0 (moverB 0x200000 0x200040 64 0 1 0)).mem = true ∧ movesOf (moverB 0x200000 0x200040 64 0 1 0) [] = some [⟨some (.local_ 0x200000), .local_ 0x200040, 64⟩] ∧
    unitDone (.copy qz) (unitS 0 (moverB 0x200000 0x200040 64 0 1 0)) 0 0 64 1 (fun y => decide (memRead y.mem 0x200040 4 = [2, 5, 7, 0])) = true := by
  unfold UnitAt Clean; decide +kernel

/-- Data memory lists the addresses 0x200000 and 0x200100. -/
def listS (b : Bytes) : State := coreS { unitQ 0 b with mem := memWrite (unitQ 0 b).mem 0x10000 (le 8 0x200000 ++ le 8 0x200100) }

theorem test_gather : LocalMoves (listS (moverB 0 0x200400 64 1 2 0x10000)) qz (moverB 0 0x200400 64 1 2 0x10000) [0x200000, 0x200100] [0x200400, 0x200440] := by
  refine ⟨[⟨some (.local_ 0x200000), .local_ 0x200400, 64⟩, ⟨some (.local_ 0x200100), .local_ 0x200440, 64⟩], ?_⟩; decide +kernel

theorem test_gather_moves : [0x200400, 0x200440].Pairwise (Apart 64) ∧ (∀ a ∈ [0x200000, 0x200100], ∀ t ∈ [0x200400, 0x200440], Apart 64 a t) ∧ listOk (moverB 0 0x200400 64 1 2 0x10000) = true ∧
    unitDone (.gather qz) (listS (moverB 0 0x200400 64 1 2 0x10000)) 0 0 128 2 (fun y => decide (memRead y.mem 0x200400 4 = [2, 5, 7, 0]) && decide (memByte y.mem 0x200440 = 0)) = true := by
  unfold Apart; decide +kernel

theorem test_scatter : LocalMoves (listS (moverB 0x200400 0 64 2 2 0x10000)) qz (moverB 0x200400 0 64 2 2 0x10000) [0x200400, 0x200440] [0x200000, 0x200100] := by
  refine ⟨[⟨some (.local_ 0x200400), .local_ 0x200000, 64⟩, ⟨some (.local_ 0x200440), .local_ 0x200100, 64⟩], ?_⟩; decide +kernel

theorem test_scatter_moves : listOk (moverB 0x200400 0 64 2 2 0x10000) = true ∧
    unitDone (.scatter qz) (listS (moverB 0x200400 0 64 2 2 0x10000)) 0 0 128 2 (fun y => decide (memRead y.mem 0x200000 4 = [0, 0, 0, 0])) = true := by decide +kernel

theorem test_zero : movesOf (moverB 0 0x200000 64 3 1 0) [] = some [⟨none, .local_ 0x200000, 64⟩] ∧
    unitDone (.zero qz) (unitS 0 (moverB 0 0x200000 64 3 1 0)) 0 0 64 1 (fun y => decide (memRead y.mem 0x200000 3 = [0, 0, 0]) && decide (memByte y.mem 0x100000 = 1)) = true := by decide +kernel

/-! CIM arrays -/

theorem test_cim_load : UnitAt (unitS 2 (loadB 0 1 2 2 0x100000)) qz 2 { desc := loadB 0 1 2 2 0x100000, spec := 0, tag := 0 } [] ∧ Clean (unitS 2 (loadB 0 1 2 2 0x100000)) qz ∧ loadOk (loadB 0 1 2 2 0x100000) = true ∧
    unitDone (.cimLoad qz) (unitS 2 (loadB 0 1 2 2 0x100000)) 2 0 0 17 (fun y => decide ((y.array 0).st = .loaded) && decide ((y.array 0).w = [1, 2, 255, 3]) && decide ((y.array 1).st = .unloaded)) = true := by
  unfold UnitAt Clean; decide +kernel

/-- Array 0 loaded with the rows (1, 2) and (-1, 3), in INT8, with the reference sums of its benchmark. -/
def arrayA : CimArray :=
  let a : CimArray := { st := .loaded, rows := 2, cols := 2, w := [1, 2, 255, 3] }
  { a with s1 := (benchSums a).1.map (BitVec.ofNat 64), s2 := (benchSums a).2.map (BitVec.ofNat 64) }

/-- The quad with that array. -/
def cimQ (b : Bytes) : Quad := { unitQ 2 b with cim := setNth (List.replicate 8 {}) 0 arrayA }

theorem test_dot : UnitAt (coreS (cimQ (dotB 1 0 0x200000 0x200040 1))) qz 2 { desc := dotB 1 0 0x200000 0x200040 1, spec := 0, tag := 0 } [] ∧ Clean (coreS (cimQ (dotB 1 0 0x200000 0x200040 1))) qz ∧
    arraysOf (leAt 2 1 (dotB 1 0 0x200000 0x200040 1)) = [0] ∧ dotOk (cimQ (dotB 1 0 0x200000 0x200040 1)) (dotB 1 0 0x200000 0x200040 1) false = true ∧
    unitDone (.dot qz) (coreS (cimQ (dotB 1 0 0x200000 0x200040 1))) 2 0 0 17 (fun y => decide (memRead y.mem 0x200040 8 = [0xFD, 0xFF, 0xFF, 0xFF, 19, 0, 0, 0])) = true := by
  unfold UnitAt Clean; decide +kernel

theorem test_had : dotOk (cimQ (dotB 2 0 0x200000 0x200040 1)) (dotB 2 0 0x200000 0x200040 1) true = true ∧
    unitDone (.had qz) (coreS (cimQ (dotB 2 0 0x200000 0x200040 1))) 2 0 0 17 (fun y => decide (memRead y.mem 0x200040 8 = [0xFB, 0xFF, 0xFF, 0xFF, 10, 0, 0, 0])) = true := by decide +kernel

theorem test_bench : UnitAt (coreS (cimQ (dotB 3 0 0 0 0))) qz 2 { desc := dotB 3 0 0 0 0, spec := 0, tag := 0 } [] ∧ (∀ k ∈ [0], ((cimQ []).array k).st ≠ .unloaded → benchArray ((cimQ []).array k) = none) ∧
    does (.bench qz) (coreS (cimQ (dotB 3 0 0 0 0))) (fun d => decide (d.cim.benchPasses = 1) && decide ((nth [] (d.quad 0).units 2).map (fun z => (z.done, z.due)) = [(some (0, 0), 34)])) = true := by
  unfold UnitAt; decide +kernel

/-- A quad whose array does not give its reference sums. -/
def wornQ (b : Bytes) : Quad := { unitQ 2 b with cim := setNth (List.replicate 8 {}) 0 { arrayA with s1 := [1, 1] } }

theorem test_bench_fails : benchArray (nth {} (wornQ []).cim 0) ≠ none ∧ does (.bench qz) (coreS (wornQ (dotB 3 0 0 0 0))) (fun d => decide (d.cim.benchFails = 1) && decide (d.cim.benchPasses = 0)) = true := by decide +kernel

/-- A BENCH slot of array 0 from sub-tick 5 of the tick of the opening, of `len` sub-ticks, at sub-tick 4095 of tick 0. -/
def benchS (len : Nat) (seen : Tab Stamp) : State :=
  st { grat := { everLocked := true, state := .dwell }, parts := [(7, { quadMap := [5, 0], begun := true })]
       quads := [(0, { cimQ [] with units := List.replicate 6 [], bench := [⟨0, 5, len, 0, 1⟩], benchSeen := seen, idleTo := some 0 })] }

theorem test_bench_slot_pass : occurrence ((benchS 8000 []).dev.at 0) 0 ⟨0, 5, 8000, 0, 1⟩ 0 = some 5 ∧ before (now ((benchS 8000 []).dev.at 0)) 8005 = true ∧
    does (.benchSlotPass qz 0) (benchS 8000 []) (fun d => decide (d.cim.benchPasses = 1) && decide (tabGet 0 (d.quad 0).benchSeen 0 = 5) && decide ((d.quad 0).passUntil = 34)) = true := by decide +kernel

theorem test_bench_slot_missed : reached ((benchS 100 []).dev.at 0) 105 = true ∧ busyThrough ((benchS 100 []).dev.quad 0) 5 105 = true ∧ busyThrough { (benchS 100 []).dev.quad 0 with idleTo := some 6 } 5 105 = false ∧
    does (.benchSlotMissed qz 0) (benchS 100 []) (fun d => decide (d.cim.benchMissed = 1) && decide ((d.fault 0x63).count = 1) && decide (tabGet 0 (d.quad 0).benchSeen 0 = 5)) = true := by decide +kernel

theorem test_bench_slot_seen : occurrence ((benchS 100 [(0, 5)]).dev.at 0) 0 ⟨0, 5, 100, 0, 1⟩ 0 = some 5 ∧
    passes (.benchSlotPass qz 0) (benchS 100 [(0, 5)]) 0 = true ∧ passes (.benchSlotMissed qz 0) (benchS 100 [(0, 5)]) 0 = true := by decide +kernel

/-! ## Ciphertext engines -/

/-- A modulus of the form R172 that is prime, 0x20040001, and a primitive 65,536th root of unity modulo it. -/
def nttB (op psi : Nat) : Bytes := [BitVec.ofNat 8 op, 15, 1, 0] ++ le 4 0x200000 ++ le 4 0x240000 ++ le 4 0 ++ le 8 0x20040001 ++ le 8 psi

/-- No number from `lo` to `lo + 2^k - 1` divides q. -/
def noDivisor (q : Nat) : Nat → Nat → Bool
  | 0, lo => decide (q % lo ≠ 0)
  | k + 1, lo => noDivisor q k lo && noDivisor q k (lo + 2 ^ k)

theorem noDivisor_sound (q k : Nat) : ∀ lo, noDivisor q k lo = true → ∀ m, lo ≤ m → m < lo + 2 ^ k → ¬ m ∣ q := by
  induction k with
  | zero => intro lo h m h1 h2 h3; rw [show m = lo by omega] at h3; simp [noDivisor] at h; exact h (Nat.mod_eq_zero_of_dvd h3)
  | succ k ih =>
    intro lo h m h1 h2
    simp only [noDivisor, Bool.and_eq_true] at h
    rw [pow_succ] at h2
    by_cases hm : m < lo + 2 ^ k
    · exact ih lo h.1 m h1 hm
    · exact ih _ h.2 m (by omega) (by omega)

theorem prime_537133057 : Nat.Prime 537133057 := by
  rw [Nat.prime_def_le_sqrt]
  refine ⟨by norm_num, fun m h1 h2 => noDivisor_sound _ 15 2 (by decide +kernel) m h1 ?_⟩
  have : Nat.sqrt 537133057 < 23177 := by rw [Nat.sqrt_lt]; norm_num
  omega

theorem test_root : rootOk 537133057 144173337 15 = true := by
  unfold rootOk; rw [decide_eq_true prime_537133057]; decide +kernel

theorem test_fwd : UnitAt (unitS 3 (nttB 0 144173337)) qz 3 { desc := nttB 0 144173337, spec := 0, tag := 0 } [] ∧ Clean (unitS 3 (nttB 0 144173337)) qz ∧ nttOk (nttB 0 144173337) = true ∧
    nttOk (nttB 1 144173337) = true ∧ leAt 16 8 (nttB 0 144173337) = 537133057 ∧ leAt 24 8 (nttB 0 144173337) = 144173337 := by
  unfold UnitAt Clean; decide +kernel

theorem memRead_empty (a n : Nat) : ∀ b ∈ memRead [] a n, b = 0 := by
  induction n generalizing a with
  | zero => intro b h; simp [memRead] at h
  | succ n ih =>
    intro b h; simp only [memRead, List.mem_cons] at h
    rcases h with h | h
    · rw [h]; rfl
    · exact ih _ b h

theorem leVal_zero : ∀ l : Bytes, (∀ b ∈ l, b = 0) → leVal l = 0
  | [], _ => rfl
  | b :: r, h => by
    have h1 : b = 0 := h b (by simp)
    have h2 := leVal_zero r fun c hc => h c (by simp [hc])
    simp only [leVal, h1, h2]; rfl

theorem chunks_mem {α : Type} (n k : Nat) : ∀ (l c : List α), c ∈ chunks n k l → ∀ x ∈ c, x ∈ l := by
  induction k with
  | zero => intro l c h; simp [chunks] at h
  | succ k ih =>
    intro l c h x hx; simp only [chunks] at h
    split at h
    · simp at h
    simp only [List.mem_cons] at h
    rcases h with h | h
    · rw [h] at hx; exact List.mem_of_mem_take hx
    · exact List.mem_of_mem_drop (ih _ c h x hx)

theorem elements_zero (w : Nat) (bs : Bytes) (h : ∀ b ∈ bs, b = 0) : ∀ v ∈ elements w bs, v = 0 := by
  intro v hv; simp only [elements, List.mem_map] at hv
  obtain ⟨c, hc, rfl⟩ := hv
  exact leVal_zero c fun b hb => h b (chunks_mem _ _ _ c hc b hb)

/-- The limb of a quad whose memory lists nothing holds residues. -/
theorem test_limb_residues : ∀ v ∈ limbAt (coreQuad (coreS { unitQ 3 (nttB 0 144173337) with mem := [] }) qz) 0x200000 0 (limbBytes 15) 0, v < 537133057 := by
  intro v hv
  rw [elements_zero 8 _ (memRead_empty _ _) v hv]; norm_num

/-- An automorphism descriptor of exponent 3 and one limb. -/
def autoB (op : Nat) : Bytes := [BitVec.ofNat 8 op, 15, 1, 0] ++ le 4 0x200000 ++ le 4 0x240000 ++ le 4 0 ++ le 8 0x20040001 ++ le 4 3 ++ zeros 4

theorem test_automorphism : UnitAt (unitS 4 (autoB 0)) qz 4 { desc := autoB 0, spec := 0, tag := 0 } [] ∧ Clean (unitS 4 (autoB 0)) qz ∧ autoOk (autoB 0) = true ∧ autoOk (autoB 1) = true ∧
    (2 * brv 15 16384 + 1) % 65536 = (2 * brv 15 0 + 1) * leAt 24 4 (autoB 0) % 65536 := by
  unfold UnitAt Clean; decide +kernel

/-- A BEXT descriptor of one source and one target slice of 64 residues. -/
def bextB : Bytes := [0, 0, 1, 1] ++ le 4 0x200100 ++ le 4 0x200400 ++ le 4 0x200000 ++ le 4 64 ++ zeros 12

/-- The primes 97 and 5, and the source residues 7 and 96. -/
def bextQ : Quad := { unitQ 5 bextB with mem := memWrite (memWrite [] 0x200000 (le 8 97 ++ le 8 1 ++ le 8 5 ++ le 8 1)) 0x200100 (le 8 7 ++ le 8 96) }

theorem test_bext : UnitAt (coreS bextQ) qz 5 { desc := bextB, spec := 0, tag := 0 } [] ∧ Clean (coreS bextQ) qz ∧ Memory.wf bextQ.mem = true ∧ bextOk bextB = true ∧
    bextTableOk 1 1 (elements 8 (memRead bextQ.mem 0x200000 32)) = true ∧ (∀ v ∈ elements 8 (memRead bextQ.mem 0x200100 512), v < 97) ∧
    unitDone (.bext qz) (coreS bextQ) 5 0 0 68 (fun y => decide (elements 8 (memRead y.mem 0x200400 24) = [2, 1, 0])) = true := by
  unfold UnitAt Clean; decide +kernel

/-! Completion -/

/-- A quad whose unit 2 has done its command at cycle 20; the command asks for a message to queue 1 when `w` says so. -/
def doneQ (w : Word) : Quad := { coreQ 0 with units := setNth (List.replicate 6 []) 2 [{ desc := [], spec := w, tag := 0, done := some (0, 0), due := 20 }] }

theorem test_completion_early : (0 : Nat) < 20 ∧ passes (.unitCommandComplete qz 2) (coreS (doneQ 0)) 0 = true := by decide +kernel

theorem test_completion_silent : does (.unitCommandComplete { qz with cyc := 20 } 2) (coreS (doneQ 0)) (fun d => decide (d.quad 0 = { doneQ 0 with units := List.replicate 6 [], unitDone := 21 })) = true := by decide +kernel

theorem test_completion_message : quadOwner (coreS (doneQ 0x51234)).dev 0 = some (7, 1) ∧
    does (.unitCommandComplete { qz with cyc := 20 } 2) (coreS (doneQ 0x51234)) (fun d => decide ((nth [] (d.quad 0).units 2) = []) &&
      decide ((((d.quad 0).queue 1).msgs.map fun m => (m.bytes.length, leAt 0 4 m.bytes, leAt 8 2 m.bytes)) = [(64, 0x1234, 2)])) = true := by decide +kernel

/-- The same with 16 messages in queue 1. -/
def crammedQ : Quad := { doneQ 0x51234 with inq := setNth (List.replicate 4 {}) 1 { msgs := List.replicate 16 ⟨zeros 64, 0⟩ } }

theorem test_completion_full : pushMsg { crammedQ with units := List.replicate 6 [] } 1 20 (completionMsg (coreS crammedQ).dev 7 1 2 { desc := [], spec := 0x51234, tag := 0, done := some (0, 0), due := 20 } 0 0) = none ∧
    does (.unitCommandComplete { qz with cyc := 20 } 2) (coreS crammedQ) (fun d => decide ((nth [] (d.quad 0).units 2).map (fun z => (z.done, z.offered)) = [(some (0, 0), true)]) && decide (((d.quad 0).queue 1).msgs.length = 16)) = true := by decide +kernel

/-! ## Key streaming -/

/-- The header of a key page: degree 2^15, one limb of the modulus 0x20040001, key 5, digit 2, page 1. -/
def keyPage : Bytes := ascii "ZXKP" ++ [1, 0, 15, 1] ++ le 4 5 ++ zeros 8 ++ [2, 0, 1, 0] ++ zeros 56 ++ le 8 0x20040001

/-- KMAC (op 2) or EXPAND (op 4) on the page at 2^62. -/
def kmacB (op : Nat) : Bytes := [BitVec.ofNat 8 op, 0, 0, 0] ++ le 4 0x200000 ++ le 8 (2 ^ 62) ++ le 4 0x210000 ++ le 4 0x220000 ++ le 4 0 ++ le 4 1024

/-- Quad 0 at that command, with nothing in its memory and the page at the bottom of its partition's stack memory. -/
def kmacS (op : Nat) (fetch : List FetchEntry) : State :=
  st { quads := [(0, { unitQ 5 (kmacB op) with mem := [], fetch := fetch })], parts := [(7, { quadMap := [5, 0], pages := [0] })], stackMem := memWrite [] 0 keyPage }

/-- A fetch entry for the page at 2^62, asked of position 0 of the route under tag 3. -/
def fetchA : FetchEntry := { dst := 2 ^ 62, keyId := 5, digit := 2, page := 1, urgency := 0, need := 9, tags := [3], lastIdx := some 0, lastVault := some 9, asked := [9], retryAt := 10 }

theorem test_kmac_waits : UnitAt (kmacS 2 [fetchA]) qz 5 { desc := kmacB 2, spec := 0, tag := 0 } [] ∧ passes (.kmac qz) (kmacS 2 [fetchA]) 0 = true ∧ passes (.expand qz) (kmacS 4 [fetchA]) 0 = true := by
  unfold UnitAt; decide +kernel

theorem test_kmac_operands : quadOwner (kmacS 2 []).dev 0 = some (7, 1) ∧ stackGlobal (leAt 8 8 (kmacB 2)) = some (0, 0) ∧ pageAddr (kmacS 2 []).dev 7 0 0 = some 0 ∧ Clean (kmacS 2 []) qz ∧
    slice 0 4 (memRead (kmacS 2 []).dev.stackMem 0 88) = ascii "ZXKP" ∧ leAt 4 2 keyPage = 1 ∧ nlogOk (leAt 6 1 keyPage) = true ∧ leAt 7 1 keyPage = 1 ∧ kmacOk (kmacB 2) 15 1 = true ∧ kmacOk (kmacB 4) 15 1 = true ∧
    leAt 12 4 keyPage = tenant (kmacS 2 []).dev 7 ∧ modulusOk (leAt 80 8 keyPage) = true ∧ Apart (8 * 1024) 0x210000 0x220000 := by
  unfold Clean Apart; decide +kernel

theorem shakePick_lt (q : Nat) (hq : 0 < q) (fuel : Nat) : ∀ s k, shakePick q fuel s k < q := by
  induction fuel with
  | zero => intro s k; exact hq
  | succ n ih => intro s k; simp only [shakePick]; split; · exact Nat.mod_lt _ hq
                 · exact ih _ _

/-- The expanded residues are below the modulus. -/
theorem test_expanded_residues (i : Nat) : expandA (zeros 32) 2 0 15 0x20040001 i < 0x20040001 := shakePick_lt _ (by norm_num) _ _ _

/-! Fetching -/

/-- A KFETCH of key 5, digit 2, page 1 to 2^62. -/
def kfetchB : Bytes := [3, 0, 2, 1] ++ le 4 5 ++ le 8 (2 ^ 62) ++ le 8 9 ++ zeros 8

/-- Partition 7 fetches from the vaults 9 and 10; the clock is at tick `t`. -/
def keyS (x : Quad) (t : TickNo) : State :=
  st { quads := [(0, x)], parts := [(7, { quadMap := [5, 0], pages := [0] })], legend := [(legKey 0x6081 7, some [0, 9, 0, 10, 255, 255, 255, 255]), (legKey 0x6107 0x01, some [64])]
       grat := { everLocked := true, tick := t } }

theorem test_kfetch : UnitAt (keyS (unitQ 5 kfetchB) 1) qz 5 { desc := kfetchB, spec := 0, tag := 0 } [] ∧ kfetchOk kfetchB = true ∧ quadOwner (keyS (unitQ 5 kfetchB) 1).dev 0 = some (7, 1) ∧
    (pageAddr (keyS (unitQ 5 kfetchB) 1).dev 7 0 0).isSome = true ∧ nextVault (keyS (unitQ 5 kfetchB) 1).dev 7 none [] = some (0, 9) ∧
    does (.kfetch qz) (keyS (unitQ 5 kfetchB) 1) (fun d => decide ((d.quad 0).fetch = [{ fetchA with tags := [0], retryAt := after 9 (legNat d 0x6080 0) }]) && decide (d.key.nextTag = 1) &&
      decide (d.stackMem = [])) = true := by
  unfold UnitAt; decide +kernel

theorem test_kfetch_full : 16 ≤ (List.replicate 16 fetchA).length ∧ passes (.kfetch qz) (keyS { unitQ 5 kfetchB with fetch := List.replicate 16 { fetchA with dst := 2 ^ 62 + 0x200000 } } 1) 0 = true := by decide +kernel

theorem test_key_page_landing : entryOf { coreQ 0 with fetch := [fetchA] } 3 = some (0, fetchA) ∧ (leAt 8 4 keyPage, leAt 20 1 keyPage, leAt 22 1 keyPage, leAt 12 4 keyPage) = (5, 2, 1, 0) ∧
    does (.keyPageLanding qz 3 keyPage) (keyS { coreQ 0 with fetch := [fetchA] } 1) (fun d => decide ((d.quad 0).fetch = []) && decide (memRead d.stackMem 0 8 = [0x5A, 0x58, 0x4B, 0x50, 1, 0, 15, 1]) &&
      decide (d.key.pagesLanded = 1) && decide (d.key.pagesLate = 1) && decide ((d.fault 0x98).count = 1)) = true := by decide +kernel

theorem test_key_page_in_time : does (.keyPageLanding qz 3 keyPage) (keyS { coreQ 0 with fetch := [fetchA] } 0) (fun d => decide (d.key.pagesLanded = 1) && decide (d.key.pagesLate = 0) && decide ((d.fault 0x98).count = 0)) = true := by decide +kernel

theorem test_key_retry : nextVault (keyS (coreQ 0) 1).dev 7 (some 0) [] = some (1, 10) ∧ reached ((keyS (coreQ 0) 1).dev.at 0) 10 = true ∧
    does (.keyRetry qz 3) (keyS { coreQ 0 with fetch := [fetchA] } 1) (fun d => decide (d.key.rerequests = 1) && decide (d.key.nextTag = 1) && decide ((d.fault 0x99).count = 1) &&
      decide ((d.quad 0).fetch = [{ fetchA with retryAt := after 10 (legNat d 0x6080 0), tags := [3, 0], lastIdx := some 1, lastVault := some 10, asked := [10] }])) = true := by decide +kernel

theorem test_key_retry_early : reached ((keyS (coreQ 0) 0).dev.at 0) 10 = false ∧ passes (.keyRetry qz 3) (keyS { coreQ 0 with fetch := [fetchA] } 0) 0 = true := by decide +kernel

theorem test_key_nack : nextVault (keyS (coreQ 0) 0).dev 7 (some 0) [9] = some (1, 10) ∧
    does (.keyNack qz 3) (keyS { coreQ 0 with fetch := [fetchA] } 0) (fun d => decide (d.key.nacks = 1) && decide (d.key.rerequests = 1) && decide ((d.fault 0x9B).count = 1) &&
      decide ((d.quad 0).fetch = [{ fetchA with tags := [3, 0], lastIdx := some 1, lastVault := some 10, asked := [9, 10] }])) = true := by decide +kernel

/-! Vaults -/

/-- A vault with key 5 of object 77 loaded in entry 0, its one page at the bottom of stack memory, and these requests. -/
def vaultS (r : List VaultReq) (st_ : Byte) (obj : List Object) : State :=
  st { stackMem := memWrite [] 0 keyPage, key := { requests := r, credits := [(0x307, 2)], keys := [(0, { keyId := 5, object := 77, st := st_, pages := [0], count := 1 })] }, cad := { objects := obj } }

/-- A request of device 3, partition 7, for that page. -/
def keyReq : VaultReq := { device := 3, partition := 7, tenant := 0, keyId := 5, digit := 2, page := 1, urgency := 0, need := 9, tag := 3 }

/-- The same as it comes over the fabric. -/
def keyMsg (digit : Byte) : KeyReq := { device := 3, partition := 7, tenant := 0, keyId := 5, digit := digit, page := 1, urgency := 0, need := 9, tag := 3 }

theorem test_key_request : vaultHalted (vaultS [] 2 []).dev = false ∧ (vaultPage (vaultS [] 2 []).dev 5 0 2 1).isSome = true ∧
    does (.keyRequestReceived 0 (keyMsg 2)) (vaultS [] 2 []) (fun d => decide (d.key.requests = [keyReq]) && decide (d.wire = [])) = true := by decide +kernel

theorem test_key_request_refused : (vaultPage (vaultS [] 2 []).dev 5 0 3 1).isSome = false ∧
    does (.keyRequestReceived 0 (keyMsg 3)) (vaultS [] 2 []) (fun d => decide (d = sendNack (vaultS [] 2 []).dev 3 7 3)) = true := by decide +kernel

theorem test_vault_idle : passes (.vaultPageSend 0) (vaultS [] 2 []) 0 = true := by decide +kernel

/-- The request with all but its last 4 KiB sent, so that the test reads little. -/
theorem test_vault_page_send : vaultPage (vaultS [keyReq] 2 []).dev 5 0 2 1 = some 0 ∧ 0 < tabGet 0 (vaultS [keyReq] 2 []).dev.key.credits (creditKey keyReq) ∧
    does (.vaultPageSend 0) (vaultS [{ keyReq with sent := 151536 }] 2 []) (fun d => decide (d.key.credits = [(0x307, 1)]) && decide (d.key.requests = []) && decide (d.key.pagesServed = 1)) = true := by decide +kernel

theorem test_key_credit : fetchingFrom (keyS { coreQ 0 with fetch := [fetchA] } 0).dev 7 9 = true ∧ 4096 ≤ keyRate (keyS { coreQ 0 with fetch := [fetchA] } 0).dev 7 ∧
    does (.keyCreditSend 0 7 9) (keyS { coreQ 0 with fetch := [fetchA] } 0) (fun d => decide (tabGet 0 d.aksia.keyCredits 458761 = 4096) && decide (tabGet 0 d.aksia.keySentNow 7 = 4096)) = true := by decide +kernel

theorem test_vault_key_unload : does (.vaultKey 0 0 (zeros 16)) (vaultS [] 2 []) (fun d => decide (vaultKeyOf d 0 = {}) && decide (d.stackMem = (vaultS [] 2 []).dev.stackMem)) = true := by decide +kernel

/-- A sealed key archive of one page. -/
def archive : Object := { id := 77, kind := 4, st := .sealed, size := 0x201000, sealAt := 0, digest := 0, bytes := [], lost := [] }

theorem test_vault_key_load : objectOf (vaultS [] 0 [archive]).dev 77 = some archive ∧
    does (.vaultKey 0 3 (be 4 5 ++ be 4 0 ++ be 8 77)) (vaultS [] 0 [archive]) (fun d => decide ((vaultKeyOf d 3).keyId = 5) && decide ((vaultKeyOf d 3).count = 1 ∨ (vaultKeyOf d 3).st = 3)) = true := by decide +kernel

theorem test_vault_load_complete : does (.vaultKeyLoadComplete 0 0) (vaultS [] 1 []) (fun d => decide ((vaultKeyOf d 0).st = 3) && decide ((vaultKeyOf d 0).pages = [])) = true := by decide +kernel

/-! ## Bearings and gazetteers -/

/-- Point 3 of strip 5: an EXIT of real value, declared source, planned at the opening. -/
def ptA : Bytes := [1, 5, 2, 0, 0, 0] ++ zeros 58

/-- Partition 7 runs on quad 0 with that point; strip 5 is in it, sequence 40, with session 0 present, beat 1 open. -/
def bearS (table : Tab (Option BearingEntry)) (tick : TickNo) (opened : List Nat) : State :=
  st { grat := { everLocked := true, tick := tick }, parts := [(7, { st := .running, quadMap := [0], plan := [(3, ptA)], table := table })]
       strips := [(5, { st := .running, partition := 7, present := 1, bseq := 40, beats := [⟨1, 0, 0, opened, [(3, ptA)]⟩] })] }

/-- An open bearing of that point whose query was sent at stamp 0. -/
def entryA : BearingEntry :=
  { st := .sent, point := 3, strip := 5, bseq := 39, beat := 1, openAt := 0, queryAt := some 0, present := 1, answer := none, defaulted := false, pred := zeros 32, plan := ptA }

theorem test_point_open : BearingTables (bearS [] 0 []) 7 ∧ PointDue (bearS [] 0 []) 0 7 3 1 5 ⟨1, 0, 0, [], [(3, ptA)]⟩ ptA ∧
    does (.pointOpen 0 7 3 1) (bearS [] 0 []) (fun d => decide (d.bearing.opened = 1) && decide ((d.strip 5).bseq = 41) && decide ((d.strip 5).beats = [⟨1, 0, 0, [3], [(3, ptA)]⟩])) = true := by
  unfold BearingTables PointDue; decide +kernel

/-- Sixteen open bearings of another strip. -/
def fullTable : Tab (Option BearingEntry) := (List.range 16).map fun i => (i, some { entryA with strip := 6 })

theorem test_point_open_full : BearingTables (bearS fullTable 0 []) 7 ∧ PointDue (bearS fullTable 0 []) 0 7 3 1 5 ⟨1, 0, 0, [], [(3, ptA)]⟩ ptA ∧ (∀ i, i < 16 → (entryAt (bearS fullTable 0 []).dev 7 i).isSome = true) ∧
    does (.pointOpen 0 7 3 1) (bearS fullTable 0 []) (fun d => decide ((d.bearing.opened, d.bearing.inked, d.bearing.defaults, d.bearing.reruns) = (1, 1, 1, 0))) = true := by
  unfold BearingTables PointDue; decide +kernel

/-- Octets of an answer: sequence 39, the point, its kind, its depth, zero, and a bit mask of exits. -/
def answerTo (mask : Nat) : Bytes := be 4 39 ++ [3, 2, 0, 0] ++ be 8 mask

/-- That bearing alone, with an answer that landed. -/
def answerS (table : Tab (Option BearingEntry)) (mask : Nat) : State :=
  st { (bearS table 0 [3]).dev with partTx := [(7, { answers := [(5, answerTo mask, 0)] })] }

theorem test_bearing_answer : OnlyEntry (answerS [(0, some entryA)] 0) 7 0 entryA ∧ budgetDue ((answerS [(0, some entryA)] 0).dev.at 0) 7 entryA = false ∧ timeoutDue ((answerS [(0, some entryA)] 0).dev.at 0) entryA = false ∧
    valuesOk ptA (toRecordOrder 2 (fit 256 (be 8 0))) 1 = true ∧ matchesPred ptA (zeros 32) (toRecordOrder 2 (fit 256 (be 8 0))) 1 = true ∧
    does (.bearingAnswer 0 7) (answerS [(0, some entryA)] 0) (fun d => decide (entryAt d 7 0 = none) && decide ((d.ptx 7).answers = []) && decide (d.bearing = { inked := 1 })) = true := by
  unfold OnlyEntry; decide +kernel

theorem test_bearing_answer_differs : valuesOk ptA (toRecordOrder 2 (fit 256 (be 8 1))) 1 = true ∧ matchesPred ptA (zeros 32) (toRecordOrder 2 (fit 256 (be 8 1))) 1 = false ∧
    does (.bearingAnswer 0 7) (answerS [(0, some entryA)] 1) (fun d => decide (entryAt d 7 0 = none) && decide (d.bearing = { reruns := 1 })) = true := by decide +kernel

theorem test_bearing_stray : (∀ i, i < 16 → entryAt (answerS [] 0).dev 7 i = none) ∧ does (.bearingAnswer 0 7) (answerS [] 0) (fun d => decide (d.bearing = { strays := 1 })) = true := by decide +kernel

theorem test_pencil_budget : OnlyEntry (bearS [(0, some entryA)] 64 [3]) 7 0 entryA ∧ budgetDue ((bearS [(0, some entryA)] 64 [3]).dev.at 0) 7 entryA = true ∧
    does (.pencilBudget 0 7 0) (bearS [(0, some entryA)] 64 [3]) (fun d => decide (d.bearing.pauses = 1) && decide ((entryAt d 7 0).map (·.st) = some .paused)) = true := by
  unfold OnlyEntry; decide +kernel

theorem test_pencil_budget_early : budgetDue ((bearS [(0, some entryA)] 63 [3]).dev.at 0) 7 entryA = false ∧ passes (.pencilBudget 0 7 0) (bearS [(0, some entryA)] 63 [3]) 0 = true := by decide +kernel

theorem test_bearing_timeout : timeoutDue ((bearS [(0, some entryA)] 400 [3]).dev.at 0) entryA = true ∧
    does (.bearingTimeout 0 7 0) (bearS [(0, some entryA)] 400 [3]) (fun d => decide (entryAt d 7 0 = none) && decide (d.bearing.defaults = 1)) = true := by decide +kernel

theorem test_bearing_timeout_early : timeoutDue ((bearS [(0, some entryA)] 399 [3]).dev.at 0) entryA = false ∧ passes (.bearingTimeout 0 7 0) (bearS [(0, some entryA)] 399 [3]) 0 = true := by decide +kernel

/-- Partition 7 with a gazetteer whose page is not mapped, so that no page is written. -/
def gazS (g : Gaz) (tick : TickNo) : State := st { grat := { everLocked := true, tick := tick }, parts := [(7, { gaz := g })] }

theorem test_gaz_page : does (.gazPage 0 7 2) (gazS { epoch0 := 9 } 3) (fun d => decide ((d.partition 7).gaz = { page := 2, countStart := 0x3000 })) = true := by decide +kernel

theorem test_gaz_next : (zeros 0x10000).length = 0x10000 := List.length_replicate ..

theorem test_gaz_next_refused : (zeros 8).length ≠ 0x10000 ∧ passes (.gazNext 0 7 (zeros 8)) (gazS { page := 2 } 0) 0 = true := by decide +kernel

theorem test_gaz_count_interval : (0x100000 : Nat) % 2 ^ legNat (gazS { page := 2, counts := [(4, 1)] } 0x100000).dev 0x4800 0 = 0 ∧ 2 ^ legNat (gazS {} 0).dev 0x4800 0 ≤ 0x100000 ∧
    does (.gazCountInterval 0) (gazS { page := 2, counts := [(4, 1)] } 0x100000) (fun d => decide ((d.partition 7).gaz = { page := 2, countStart := 0x100000000 })) = true := by decide +kernel

theorem test_gaz_interval_other : (1 : Nat) % 2 ^ legNat (gazS {} 0).dev 0x4800 0 ≠ 0 ∧ passes (.gazCountInterval 0) (gazS { page := 2, counts := [(4, 1)] } 1) 0 = true := by decide +kernel

/-- An interval whose end a step passed over ends at the first edge after it. -/
theorem test_gaz_interval_skipped : let s : State := st { (gazS { page := 2, counts := [(4, 1)] } 0x100005).dev with grat := { everLocked := true, tick := 0x100005, prevTick := 0xFFFFE } }
    does (.gazCountInterval 0) s (fun d => decide ((d.partition 7).gaz = { page := 2, countStart := 0x100000000 })) = true := by decide +kernel

/-! ## Partitions and sessions -/

/-- A section table and body of one instruction word: NOP-like code at instruction address 0. -/
def sheetBody : Bytes := le 2 1 ++ le 2 0 ++ le 4 144 ++ le 4 4 ++ le 4 0 ++ le 4 0x04000000

/-- A sheet container of that section for logical quad 0 of 1, period 640, 1,000 MHz. -/
def sheetA : Bytes :=
  ascii "ZXSH" ++ le 2 1 ++ le 2 128 ++ le 8 0xABC ++ zeros 4 ++ [7, 0] ++ le 2 0 ++ le 2 1 ++ le 2 1 ++ le 4 0 ++ le 2 0 ++ le 2 640 ++ le 2 1000 ++ zeros 2 ++ sha3_256 sheetBody ++ zeros 56 ++ sheetBody

/-- Partition 7 on quad 0 so, on a device that is ready, locked, at tick `t`. -/
def partS (x : Partition) (q : Quad) (t : TickNo) : State :=
  st { grat := { everLocked := true, state := .locked, source := .pon, tick := t }, start := { stage := .ready }, quads := [(0, q)], parts := [(7, { x with quadMap := [0] })] }

theorem test_run_conflict : PartTables (st {}) ∧ runConflict ((st {}).dev.at 0) 7 = true ∧ passes (.run 0 7 true) (st {}) 0 = true := by
  unfold PartTables; decide +kernel

/-- The sheet object of that one container. -/
def sheetObject : Object :=
  { id := 77, kind := 2, st := .sealed, size := 4096, sealAt := 0, digest := 0, bytes := le 4 1 ++ zeros 12 ++ le 8 32 ++ le 4 4 ++ zeros 4 ++ [1, 2, 3, 4], lost := [] }

/-- Partition 7 stopped with that object as its SHEET. -/
def stoppedS : State :=
  st { (partS { st := .stopped } {} 5).dev with cad := { objects := [sheetObject] }, legend := [(legKey 0x3007 0x0A, some (be 8 77))] }

theorem test_run : runConflict (stoppedS.dev.at 0) 7 = false ∧
    does (.run 0 7 true) stoppedS (fun d => decide ((d.partition 7).st = .loading) && (d.partition 7).run && decide ((d.partition 7).containers = [(0, 4)]) && decide ((d.partition 7).quadMap = [0])) = true := by decide +kernel

theorem test_run_stop : PartTables (partS { st := .running, run := true } (coreQ 0) 5) ∧
    does (.run 0 7 false) (partS { st := .running, run := true } (coreQ 0) 5) (fun d => decide (d.partition 7 = { st := .running, quadMap := [0], run := false, stopping := true })) = true := by
  unfold PartTables; decide +kernel

/-- Partition 7 loading, with that container in sheet-copy page 0. -/
def loadingS (b : Bytes) : State :=
  st { (partS { st := .loading, sheetCopy := [0], containers := [(0, b.length)], loaded := [] } {} 20).dev with quads := [], stackMem := memWrite [] 0 b }

theorem test_sheet_digest : slice 40 32 sheetA = sha3_256 (sheetA.drop 128) := by decide +kernel

theorem test_sheet_load : physQuad (loadingS sheetA).dev 7 0 = some 0 ∧ sheetOk (loadingS sheetA).dev (readSpan ((loadingS sheetA).dev.at 0) [0] 0 sheetA.length).1 0 = true ∧
    does (.sheetLoad 0 7 0) (loadingS sheetA) (fun d => decide ((d.partition 7).loaded = [0]) && decide ((d.partition 7).loadedAt = 20 * 4096) && decide ((d.partition 7).st = .loading) &&
      decide ((d.quad 0).sheetId = 0xABC) && decide ((d.quad 0).mem = [(3, 4)]) && decide ((nth {} (d.quad 0).slots 0).st = .armed) && decide ((d.quad 0).period = 640)) = true := by decide +kernel

theorem test_sheet_load_rejected : sheetOk (loadingS (zeros 130)).dev (readSpan ((loadingS (zeros 130)).dev.at 0) [0] 0 130).1 0 = false ∧
    does (.sheetLoad 0 7 0) (loadingS (zeros 130)) (fun d => decide ((d.partition 7).st = .stopped) && decide ((d.partition 7).sheetCopy = []) && !(d.partition 7).run) = true := by decide +kernel

theorem test_sheet_load_again : passes (.sheetLoad 0 7 0) (partS { st := .running } (coreQ 0) 5) 0 = true := by decide +kernel

theorem test_beat_not_locked : passes (.beatOpening 0 7) (st {}) 0 = true := by decide +kernel

theorem test_first_beat : NoOwedFeeds (partS { st := .loading, loaded := [0] } { st := .loaded } 1280) 7 ∧ firstDue ((partS { st := .loading, loaded := [0] } { st := .loaded } 1280).dev.at 0) 7 = some 2 ∧
    does (.beatOpening 0 7) (partS { st := .loading, loaded := [0] } { st := .loaded } 1280) (fun d => decide ((d.partition 7).st = .running) && decide ((d.partition 7).firstBeat = 2) &&
      decide ((d.partition 7).nextBeat = 3) && decide ((d.partition 7).opening = 1280 * 4096)) = true := by
  unfold NoOwedFeeds; decide +kernel

theorem test_next_beat : reached ((partS { st := .running, nextBeat := 2, begun := true } (coreQ 0) 1280).dev.at 0) (nextOpening (partS { st := .running, nextBeat := 2, begun := true } (coreQ 0) 1280).dev 7) = true ∧
    does (.beatOpening 0 7) (partS { st := .running, nextBeat := 2, begun := true } (coreQ 0) 1280) (fun d => decide ((d.partition 7).nextBeat = 3) && decide ((d.partition 7).opening = 1280 * 4096) && partLive (d.partition 7)) = true := by decide +kernel

theorem test_beat_stops : does (.beatOpening 0 7) (partS { st := .running, nextBeat := 2, begun := true, stopping := true, run := true } (coreQ 0) 1280) (fun d => decide ((d.partition 7).st = .stopped) && !(d.partition 7).run) = true := by decide +kernel

theorem test_beat_early : reached ((partS { st := .running, nextBeat := 3 } (coreQ 0) 1280).dev.at 0) (nextOpening (partS { st := .running, nextBeat := 3 } (coreQ 0) 1280).dev 7) = false ∧
    passes (.beatOpening 0 7) (partS { st := .running, nextBeat := 3 } (coreQ 0) 1280) 0 = true := by decide +kernel

theorem test_partition_halt : failedLogical (partS { st := .running, begun := true, haltDue := some (0x1000, 0x51) } (coreQ 0) 2).dev 7 = [] ∧
    does (.partitionHalt 0 7) (partS { st := .running, begun := true, haltDue := some (0x1000, 0x51) } (coreQ 0) 2) (fun d => decide ((d.partition 7).st = .recovering) && decide ((d.partition 7).cause = 0x51) &&
      decide ((d.partition 7).haltAt = 0x2000) && decide ((d.partition 7).haltDue = none) && decide ((d.partition 7).quadMap = [0])) = true := by decide +kernel

theorem test_partition_halt_early : reached ((partS { st := .running, haltDue := some (0x1000, 0x51) } (coreQ 0) 1).dev.at 0) 0x1001 = false ∧ passes (.partitionHalt 0 7) (partS { st := .running, haltDue := some (0x1000, 0x51) } (coreQ 0) 1) 0 = true := by decide +kernel

theorem test_partition_halt_none : passes (.partitionHalt 0 7) (partS { st := .running } (coreQ 0) 1) 0 = true := by decide +kernel

/-- Partition 7 recovering, loaded, halted at tick 3, with a complete checkpoint of beat 8. -/
def recovering : Partition := { st := .recovering, loaded := [0], haltAt := 0x3000, loadedAt := 0x4000, cause := 0x51, ckpt0 := some { instant := 0, beat := 8, complete := true, strips := [] } }

theorem test_partition_restart : newestCkpt recovering = some (0, { instant := 0, beat := 8, complete := true, strips := [] }) ∧ reached ((partS recovering { st := .loaded } 20).dev.at 0) (restartAt recovering) = true ∧
    does (.partitionRestart 0 7) (partS recovering { st := .loaded } 20) (fun d => decide ((d.partition 7).recoveries = 1) && decide ((d.partition 7).cause = 0) && decide ((d.partition 7).nextBeat = 9) &&
      decide ((d.partition 7).opening = restartAt recovering) && decide ((d.partition 7).lastRecovery = recoveryRecord recovering (restartAt recovering) 8) && partLive (d.partition 7)) = true := by decide +kernel

theorem test_partition_restart_other : passes (.partitionRestart 0 7) (partS { st := .running } (coreQ 0) 20) 0 = true := by decide +kernel

theorem test_stall : reached ((partS { st := .running } (coreQ 0) 16).dev.at 0) (after 0 16) = true ∧ quadPending (coreQ 0) = true ∧
    does (.stallWatchdog 0 7) (partS { st := .running } (coreQ 0) 16) (fun d => (d.partition 7).wdClosed && decide ((d.partition 7).stalls = 1) && decide ((d.fault 0xE1).count = 1)) = true := by decide +kernel

theorem test_no_stall : quadPending {} = false ∧
    does (.stallWatchdog 0 7) (partS { st := .running } {} 16) (fun d => decide (d.partition 7 = { st := .running, quadMap := [0], wdClosed := true })) = true := by decide +kernel

theorem test_stall_closed : passes (.stallWatchdog 0 7) (partS { st := .running, wdClosed := true } (coreQ 0) 16) 0 = true ∧ passes (.stallWatchdog 0 7) (partS { st := .stopped } (coreQ 0) 16) 0 = true := by decide +kernel

theorem test_handover : OpenForWrites (partS { st := .running } (coreQ 0) 5) 0 0x3007 0x0E ∧
    does (.handover 0 7) (partS { st := .running } (coreQ 0) 5) (fun d => decide ((d.partition 7).st = .handedOver) && decide ((d.partition 7).table = [])) = true := by
  unfold OpenForWrites; decide +kernel

theorem test_handover_stopped : OpenForWrites (partS { st := .stopped } (coreQ 0) 5) 0 0x3007 0x0E ∧
    does (.handover 0 7) (partS { st := .stopped } (coreQ 0) 5) (fun d => decide ((d.partition 7).st = .handedOver) && decide ((d.partition 7).haltAt = 5 * 4096)) = true := by
  unfold OpenForWrites; decide +kernel

/-- A partition that has opened no beat loads again after its halt; a quad isolated until then is failed. -/
theorem test_partition_halt_loading : does (.partitionHalt 0 7) (partS { st := .loading, haltDue := some (0x1000, 0x51) } (coreQ 0) 2) (fun d => decide ((d.partition 7).st = .loading) && decide ((d.partition 7).cause = 0x51)) = true ∧
    does (.partitionHalt 0 7) (partS { st := .running, begun := true, failing := [0], haltDue := some (0x1000, 0x51) } (coreQ 0) 2) (fun d => decide ((d.quad 0).st = .failed) && decide ((d.partition 7).failing = [])) = true := by decide +kernel

/-- A failed quad takes no sheet. -/
theorem test_sheet_load_failed : (physQuad ((loadingS sheetA).dev.at 0) 7 0 = some 0) ∧ passes (.sheetLoad 0 7 0) (st { (loadingS sheetA).dev with quads := [(0, { st := .failed })] }) 0 = true := by decide +kernel

/-- A pencilled bearing since the last tick edge keeps the watchdog open. -/
theorem test_stall_skipped : passes (.stallWatchdog 0 7) (partS { st := .running, wdSkip := true } (coreQ 0) 16) 0 = true := by decide +kernel

/-! Sessions, checkpoints and mirrors -/

/-- Strip 5 of partition 7, with the session slots 0 active, 1 completed and 2 empty. -/
def sessS : State :=
  st { (partS { st := .running, ckpt0 := some { instant := 0, beat := 8, complete := false, strips := [⟨5, 8, 0, 0, [], []⟩] } } (coreQ 0) 9).dev with
    strips := [(5, { st := .running, partition := 7, abortStatus := List.replicate 64 9, sessions := [(0, { ctx := some 1, st := .active }), (1, { ctx := some 2, st := .active, doneAt := some 3 })] })] }

theorem test_abort : OpenForWrites sessS 0 0x4005 0x0B ∧ (sessS.dev.strip 5).abortStatus.length = 64 ∧
    does (.abort_ 0 5 7) sessS (fun d => decide ((sessionOf (d.strip 5) 0).st = .aborted) && decide ((sessionOf (d.strip 5) 0).abortAt = 0x9000) && decide ((sessionOf (d.strip 5) 1).st = .active) &&
      decide ((d.strip 5).abortStatus.take 4 = [1, 2, 0, 9])) = true := by
  unfold OpenForWrites; decide +kernel

/-- A session aborted before keeps its abort's stamp; the other checkpoint slot completes; none in progress, nothing happens. -/
theorem test_abort_again : does (.abort_ 0 5 1) (st { sessS.dev with strips := [(5, { st := .running, partition := 7, abortStatus := List.replicate 64 9, sessions := [(0, { ctx := some 1, st := .aborted, abortAt := 3 })] })] })
      (fun d => decide ((sessionOf (d.strip 5) 0).abortAt = 3) && decide ((d.strip 5).abortStatus.take 2 = [1, 9])) = true ∧
    does (.checkpointComplete 0 7) (partS { st := .running, ckpt0 := some { instant := 0, beat := 8, complete := true, strips := [] }, ckpt1 := some { instant := 9, beat := 16, complete := false, strips := [] } } (coreQ 0) 9)
      (fun d => decide ((d.partition 7).ckpt1.map (·.complete) = some true)) = true ∧
    passes (.checkpointComplete 0 7) (partS { st := .running, ckpt0 := some { instant := 0, beat := 8, complete := true, strips := [] } } (coreQ 0) 9) 0 = true := by decide +kernel

theorem test_checkpoint_complete : does (.checkpointComplete 0 7) sessS (fun d => decide ((d.partition 7).ckpt0.map (·.complete) = some true) && decide ((d.strip 5).ckptBeat = 8) && decide ((d.partition 7).mirrorSent = none)) = true := by decide +kernel

/-- The same partition, holder for partition 2 of device 3, with a buddy. -/
def holderS (sent : Option Nat) : State :=
  st { (partS { st := .running, pages := [0, 1], mirrorSent := sent } (coreQ 0) 9).dev with
    legend := [(legKey 0x3007 0x13, some (be 4 0x30002))], strips := [(5, { st := .running, partition := 7 })] }

theorem test_mirror_write : holderOf (holderS none).dev 3 2 = some 7 ∧ (physPage (holderS none).dev 7 (partNat (holderS none).dev 7 0x14)).isSome = true ∧ ([1, 2] : Bytes).length + pageBytes - 1 < 2 * pageBytes ∧
    does (.mirrorWrite 0 3 2 1 16 0 [] []) (holderS none) (fun d => decide ((d.partition 7).mirrors = [{ beat := 16, slot := 0, phase := 0, tenant := 1, pages := 0, strips := [] }])) = true := by decide +kernel

theorem test_mirror_no_holder : holderOf (holderS none).dev 3 9 = none ∧ does (.mirrorWrite 0 3 9 1 16 0 [] [1, 2]) (holderS none) (fun d => decide (d.parts = (holderS none).dev.parts) && decide (d.stackMem = [])) = true := by decide +kernel

/-- A checkpoint for which the holder lacks a page is not taken. -/
theorem test_mirror_no_page : let s : State := st { (holderS none).dev with parts := [(7, { quadMap := [0], st := .running })] }
    holderOf s.dev 3 2 = some 7 ∧ physPage s.dev 7 (partNat s.dev 7 0x14) = none ∧
    does (.mirrorWrite 0 3 2 1 16 0 [] [1, 2]) s (fun d => decide (d.parts = s.dev.parts) && decide (d.stackMem = [])) = true := by decide +kernel

theorem test_mirror_ack : does (.mirrorAck 0 7 16) (holderS (some 16)) (fun d => decide ((d.partition 7).mirrorSent = none) && decide ((d.strip 5).mirrorBeat = 16)) = true := by decide +kernel

theorem test_mirror_ack_other : does (.mirrorAck 0 7 24) (holderS (some 16)) (fun d => decide (d.parts = (holderS (some 16)).dev.parts) && decide (d.strips = (holderS (some 16)).dev.strips)) = true := by decide +kernel

/-! ## The PON terminal -/

/-- A ready device whose PON terminal is so, at tick `t` since the clock was first locked. -/
def ponS (p : Pon) (t : TickNo) : State := st { grat := { everLocked := true, tick := t }, start := { stage := .ready }, pon := p }

/-- The terminal entered O1.1 or O1.2 from a failed attempt, or from none. -/
def entersOff (failed : Bool) (q : Pon) : Bool :=
  decide (q.act = (if q.sync = .sync then .o12 else .o11)) && decide (q.onuId = 0xFFFF) && decide (q.allocs = []) && decide (q.ploamUp = []) && decide (q.omciUp = []) && decide (q.filled = []) && decide (q.lastSeq = none) && !q.attempting &&
    decide (q.attemptsFailed = if failed then 1 else 0)

/-- The command leaves the terminal so and nothing else touched. -/
def ponTo (c : Instr) (p : Pon) (t : TickNo) (q : Pon) : Bool := does c (ponS p t) fun d => decide (d = { (ponS p t).dev.at 0 with pon := q })

theorem test_pon_silent : listening ((st {}).dev.at 0) = false ∧ passes (.psbdReceived 0 0 true 1) (st {}) 0 = true ∧ passes (.psbdMissing 0) (st {}) 0 = true := by decide +kernel

theorem test_pon_hunt : listening ((ponS {} 0).dev.at 0) = true ∧ ponTo (.psbdReceived 0 0 true 9) {} 0 { sync := .preSync, lastCount := 9 } = true ∧
    ponTo (.psbdReceived 0 3 true 9) {} 0 { hecErrors := 1 } = true ∧ passes (.psbdMissing 0) (ponS {} 0) 0 = true := by decide +kernel

theorem test_pon_presync : ponTo (.psbdReceived 0 2 true 11) { sync := .preSync, lastCount := 9 } 0 { sync := .hunt, lastCount := 9 } = true ∧
    does (.psbdReceived 0 2 true 10) (ponS { sync := .preSync, lastCount := 9 } 0) (fun d => decide (d.pon.sync = .sync) && decide (d.pon.lastCount = 10) && decide (d.pon.act = .o12)) = true := by decide +kernel

theorem test_pon_sync : does (.psbdReceived 0 0 true 10) (ponS { sync := .reSync, badPsbd := 2, act := .o5, onuId := 4 } 0) (fun d => decide (d.pon.sync = .sync) && decide (d.pon.badPsbd = 0) && decide (d.pon.act = .o5) && decide (d.pon.onuId = 4)) = true ∧
    does (.psbdReceived 0 0 true 10) (ponS { sync := .sync, act := .o6, onuId := 4 } 799) (fun d => decide (d.pon.act = .o5) && decide (d.pon.onuId = 4)) = true ∧
    does (.psbdReceived 0 0 true 10) (ponS { sync := .sync, act := .o6, onuId := 4 } 800) (fun d => decide (d.pon.act = .o12) && decide (d.pon.onuId = 0xFFFF)) = true ∧
    timerOver (ponS {} 799).dev 800 = false ∧ timerOver (ponS {} 800).dev 800 = true := by decide +kernel

theorem test_pon_missing : ponTo (.psbdMissing 0) { sync := .sync } 0 { sync := .reSync, badPsbd := 1, hecErrors := 1 } = true ∧ ponTo (.psbdMissing 0) { sync := .reSync, badPsbd := 1 } 0 { sync := .reSync, badPsbd := 2, hecErrors := 1 } = true ∧
    does (.psbdMissing 0) (ponS { sync := .reSync, badPsbd := 2, act := .o5, onuId := 4 } 0) (fun d => decide (d.pon.sync = .hunt) && decide (d.pon.act = .o6) && decide (d.pon.onuId = 4) && decide (d.pon.hecErrors = 1)) = true ∧
    does (.psbdMissing 0) (ponS { sync := .reSync, badPsbd := 2, act := .o4, onuId := 4, allocs := [4], attempting := true } 0) (fun d => entersOff true d.pon) = true := by decide +kernel

theorem test_to1 : timerOver (ponS {} 80000).dev 80000 = true ∧ does (.to1Expiry 0) (ponS { act := .o4, onuId := 4, attempting := true } 80000) (fun d => entersOff true d.pon) = true ∧
    passes (.to1Expiry 0) (ponS { act := .o4 } 79999) 0 = true ∧ passes (.to1Expiry 0) (ponS { act := .o5 } 80000) 0 = true := by decide +kernel

theorem test_to2 : does (.to2Expiry 0) (ponS { act := .o6, onuId := 4 } 800) (fun d => entersOff false d.pon) = true ∧ passes (.to2Expiry 0) (ponS { act := .o6 } 799) 0 = true ∧
    passes (.to2Expiry 0) (ponS { act := .o6, watchful := true } 800) 0 = true ∧ passes (.to2Expiry 0) (ponS {} 800) 0 = true := by decide +kernel

theorem test_activation_backoff : ponTo (.activationBackoffEnd 0) { backoffDone := false, attemptsFailed := 1 } 8000000 { backoffDone := true, attemptsFailed := 1 } = true ∧
    backoffOver (ponS { backoffDone := false, attemptsFailed := 1 } 1).dev = false ∧ passes (.activationBackoffEnd 0) (ponS { backoffDone := false, attemptsFailed := 1 } 1) 0 = true := by decide +kernel

/-! PLOAM -/

/-- A unicast message to ONU 4, with its MIC good or bad. -/
def toMe (ok : Bool) : Ploam := { e := 0, onuId := 4, seq := 9, micOk := ok }

/-- A broadcast message. -/
def toAll : Ploam := { e := 0, onuId := 1023, seq := 9, micOk := true }

/-- The ten commands of a message. -/
def ploamRows (h : Ploam) : List Instr :=
  [.burstProfile h 1 [1] [2] true, .assignOnuId h (ascii "UTFN" ++ zeros 4) 4, .rangingTime h 5 false, .deactivateOnuId h, .disableSerialNumber h none false, .requestRegistration h,
    .assignAllocId h 1024 false, .keyControl h 1 false, .sleepAllow h true, .ploamUnsupported h 0x55]

theorem test_ploam_elsewhere : ploamReaches ((ponS {} 0).dev.at 0) (toMe true) = false ∧ ((ploamRows (toMe true)).all fun c => passes c (ponS {} 0) 0) = true := by decide +kernel

theorem test_ploam_bad_mic : ploamReaches ((ponS { sync := .sync, onuId := 4 } 0).dev.at 0) (toMe false) = true ∧
    ((ploamRows (toMe false)).all fun c => does c (ponS { sync := .sync, onuId := 4 } 0) fun d => decide (d.pon = { sync := .sync, onuId := 4 }) && decide ((d.fault 0xA4).count = 1)) = true := by decide +kernel

/-- In O5 as ONU 4, in synchronization. -/
def o5 : Pon := { sync := .sync, act := .o5, onuId := 4, allocs := [4], lastSeq := some 8 }

/-- One message of a type with octets from its sequence number on joins the queue. -/
def queued (d : Dev) (type : Nat) (content : Bytes) : Bool := decide ((d.pon.ploamUp.map fun b => b.take (4 + content.length)) = [be 2 d.pon.onuId.toNat ++ be 1 type ++ be 1 9 ++ content]) && decide (d.pon.ploamUp.map (·.length) = [48])

theorem test_ploam_taken : PloamTaken (ponS o5 0) (toMe true) ∧ PloamTaken (ponS { o5 with lastSeq := some 9 } 0) toAll := by unfold PloamTaken; decide +kernel

theorem test_burst_profile : does (.burstProfile (toMe true) 1 [1] [2] true) (ponS o5 0) (fun d => decide (d.pon.profiles = [{ index := 1, preamble := [1], delimiter := [2], fec := true }]) && queued d 9 [0] && decide (d.pon.act = .o5)) = true ∧
    does (.burstProfile toAll 1 [1] [2] true) (ponS { o5 with act := .o12, onuId := 0xFFFF } 0) (fun d => decide (d.pon.act = .o23) && decide (d.pon.ploamUp = [])) = true := by decide +kernel

theorem test_assign_onu_id : serialNumber (ponS {} 0).dev = ascii "UTFN" ++ zeros 4 ∧
    does (.assignOnuId toAll (ascii "UTFN" ++ zeros 4) 4) (ponS { sync := .sync, act := .o23 } 7) (fun d => decide (d.pon.act = .o4) && decide (d.pon.onuId = 4) && decide (d.pon.allocs = [4]) && decide (d.pon.timerAt = 7 * 4096)) = true ∧
    does (.assignOnuId toAll (zeros 8) 4) (ponS { sync := .sync, act := .o23 } 7) (fun d => decide (d.pon.act = .o23) && decide (d.pon.onuId = 0xFFFF) && decide (d.pon.allocs = [])) = true := by decide +kernel

theorem test_ranging_time : does (.rangingTime (toMe true) 500 false) (ponS { o5 with eqdNs := 40, act := .o4 } 0) (fun d => decide (d.pon.act = .o5) && decide (d.pon.eqdLog.head? = some (0, 500)) && decide (d.pon.eqdNs = 500) && queued d 9 [0]) = true ∧
    does (.rangingTime (toMe true) (-10) true) (ponS { o5 with eqdNs := 40 } 0) (fun d => decide (d.pon.eqdNs = 30)) = true := by decide +kernel

/-- A unicast repeat of the last message executed is acknowledged as that was, an unsupported one counts again. -/
theorem test_ploam_repeat : ((ploamRows (toMe true)).all fun c => does c (ponS { o5 with lastSeq := some 9, lastAck := 4 } 0) fun d => queued d 9 [4] && decide ({ d.pon with ploamUp := [] } = { o5 with lastSeq := some 9, lastAck := 4 })) = true := by decide +kernel

/-- A key of index 1 is made and reported; an index outside 1 and 2 is no message of Table 8.3. -/
theorem test_key_control : does (.keyControl (toMe true) 1 false) (ponS o5 0) (fun d => decide (d.pon.keyPending.map (·.1) = some 1) && d.pon.uni1.isSome && d.pon.uni2.isNone) = true ∧ passes (.keyControl (toMe true) 3 false) (ponS o5 0) 0 = true := by decide +kernel

theorem test_deactivate : does (.deactivateOnuId (toMe true)) (ponS o5 0) (fun d => decide (d.pon.act = .o23) && decide (d.pon.onuId = 0xFFFF) && decide (d.pon.allocs = [])) = true := by decide +kernel

theorem test_disable : does (.disableSerialNumber toAll none false) (ponS o5 0) (fun d => decide (d.pon.act = .o7) && decide (d.pon.onuId = 0xFFFF)) = true ∧
    does (.disableSerialNumber toAll none false) (ponS { o5 with act := .o4, attempting := true } 0) (fun d => d.pon.attempting && decide (d.pon.attemptsFailed = 0)) = true ∧
    does (.disableSerialNumber toAll none true) (ponS { sync := .sync, act := .o7, attempting := true } 0) (fun d => entersOff true d.pon) = true ∧
    does (.disableSerialNumber toAll none true) (ponS { sync := .reSync, act := .o7 } 0) (fun d => decide (d.pon.act = .o11)) = true := by decide +kernel

theorem test_request_registration : does (.requestRegistration (toMe true)) (ponS o5 0) (fun d => queued d 2 (zeros 36) && decide (d.pon.act = .o5)) = true := by decide +kernel

theorem test_assign_alloc_id : does (.assignAllocId (toMe true) 4 true) (ponS o5 0) (fun d => decide (d.pon.allocs = []) && queued d 9 [0]) = true ∧
    does (.assignAllocId (toMe true) 1024 false) (ponS o5 0) (fun d => decide (d.pon.allocs = [4, 1024]) && queued d 9 [0]) = true ∧
    does (.assignAllocId (toMe true) 1024 false) (ponS { o5 with allocs := List.range 32 } 0) (fun d => decide (d.pon.allocs = List.range 32) && queued d 9 [4]) = true := by decide +kernel

theorem test_sleep_allow : does (.sleepAllow (toMe true) true) (ponS o5 0) (fun d => d.pon.sleepAllowed && queued d 9 [0]) = true ∧
    does (.ploamUnsupported (toMe true) 0x55) (ponS o5 0) (fun d => decide (d.pon.ploamUnsupported = 1) && decide (d.pon.lastSeq = some 8) && queued d 9 [3]) = true ∧
    does (.keyControl (toMe true) 1 true) (ponS { o5 with keyPending := some (1, zeros 16), uni1 := some (zeros 16) } 0) (fun d => decide (d.pon.keyPending = none) && decide (d.pon.uni1 = some (zeros 16)) && decide (d.pon.txKey = some 1)) = true := by decide +kernel

/-! OMCI, frames, bursts, optics -/

/-- A message of a class and action about instance 3. -/
def omci (a : OmciAction) (cls : Nat) : Omci := { micOk := true, extended := false, tci := 5, action := a, cls := cls, inst := 3, attrs := [(1, be 2 40)] }

/-- The only OMCI that waits upstream answers so: message type, class, instance and result. -/
def omciAnswer (d : Dev) (type cls inst result : Nat) : Bool :=
  match d.pon.omciUp with
  | [b] => decide (b.take 9 = be 2 5 ++ be 1 (0x20 + type) ++ be 1 0x0A ++ be 2 cls ++ be 2 inst ++ be 1 result)
  | _ => false

theorem test_omci_reaches : omciReaches ((ponS o5 0).dev.at 0) true = true ∧ 65000 ∉ omciClasses ∧ 268 ∈ omciClasses ∧ gemClash (ponS o5 0).dev (omci .create 268) (gemOf (omci .create 268) none) = false := by decide +kernel

theorem test_omci_unsupported : does (.omciMessage 0 (omci .create 65000)) (ponS o5 0) (fun d => omciAnswer d 4 65000 3 4 && decide (d.pon.omciRefused = 1)) = true ∧
    does (.omciMessage 0 (omci .get 268)) (ponS o5 0) (fun d => omciAnswer d 9 268 3 0 && decide ({ d.pon with omciUp := [] } = o5)) = true ∧
    does (.omciMessage 0 (omci .download 7)) (ponS o5 0) (fun d => omciAnswer d 19 7 3 2 && decide ({ d.pon with omciUp := [] } = o5)) = true := by decide +kernel

theorem test_omci_gem_port : does (.omciMessage 0 (omci .create 268)) (ponS o5 0) (fun d => omciAnswer d 4 268 3 0 && decide (tabGet none d.pon.gemPorts 3 = some ⟨40, 0, 0⟩) && decide (d.pon.mibSync = 1)) = true ∧
    does (.omciMessage 0 (omci .delete 268)) (ponS { o5 with gemPorts := [(3, some ⟨40, 0, 0⟩)] } 0) (fun d => omciAnswer d 6 268 3 0 && decide (d.pon.gemPorts = [])) = true ∧
    does (.omciMessage 0 { omci .create 268 with micOk := false }) (ponS o5 0) (fun d => decide (d.pon = o5) && decide (d.wire = [])) = true := by decide +kernel

theorem test_mib_reset : does (.mibReset 0 true 5) (ponS { o5 with gemPorts := [(3, some ⟨40, 0, 0⟩)], mibSync := 7 } 0) (fun d => decide ({ d.pon with omciUp := [] } = o5) && omciAnswer d 15 2 0 0) = true ∧
    does (.timeOfDaySet 0 true 5 7 [1]) (ponS o5 9) (fun d => decide (d.grat.todStamp = 7 * 4096) && decide (d.grat.todValue = 1 :: zeros 9) && omciAnswer d 8 131 0 0) = true := by decide +kernel

theorem test_xgem : passes (.xgemFrameReceived 0 4 0 1 [] 0 [1]) (ponS { o5 with sync := .preSync } 0) 0 = true ∧
    does (.xgemFrameReceived 0 4 0 1 [6, 7] 0 [1]) (ponS o5 0) (fun d => decide (d.pon.fecCorrected = 1) && decide (d.pon.fecUncorrectable = 2) && decide (d.pon.lostSeen = 8) && decide (d.handed = [])) = true ∧
    does (.xgemFrameReceived 0 4 0 1 [6, 7] 0 [1]) (ponS { o5 with lostSeen := 7 } 0) (fun d => decide (d.pon.fecUncorrectable = 1) && decide (d.pon.lostSeen = 8)) = true ∧
    does (.xgemFrameReceived 0 4 0 1 [] 0 [1]) (ponS o5 0) (fun d => decide (d.handed = [.omci [1]])) = true ∧
    does (.xgemFrameReceived 0 4 5 1 [] 0 [1]) (ponS o5 0) (fun d => decide (d.handed = []) && decide (d.pon.dsUndecryptable = 1)) = true := by decide +kernel

/-- An allocation for Alloc-ID 4 with profile 1, 100 ns long, its first preamble bit at sub-tick 64. -/
def alloc4 (id : Nat) (dbru ploamu : Bool) : Alloc := { allocId := id, startNs := 1000, bytes := 0, profile := 1, dbru := dbru, ploamu := ploamu, forcedWake := false, frame := 0, lengthNs := 100, goesOn := false, preambleAt := 64 }

/-- O5 with that profile. -/
def o5p : Pon := { o5 with profiles := [{ index := 1, preamble := [], delimiter := [], fec := false }] }

theorem test_allocation_other : permitted ((ponS o5p 0).dev.at 0) (alloc4 9 true true) = 0 ∧ ponTo (.allocation 0 (alloc4 9 true true)) { o5p with burstOpen := true } 0 o5p = true ∧ passes (.allocationFill 0 (alloc4 9 true true)) (ponS o5p 0) 0 = true := by decide +kernel

theorem test_allocation_overlap : permitted ((ponS { o5p with txEndNs := 90000 } 0).dev.at 0) (alloc4 4 true true) = 3 ∧ burstStart (ponS { o5p with txEndNs := 90000 } 0).dev (alloc4 4 true true) = 36000 ∧
    does (.allocation 0 (alloc4 4 true true)) (ponS { o5p with txEndNs := 90000 } 0) (fun d => decide (d.pon.grantOverlaps = 1) && decide (d.wire = [])) = true := by decide +kernel

theorem test_allocation : does (.allocation 0 (alloc4 4 true true)) (ponS o5p 0) (fun d => d.pon.burstOn && d.pon.burstOpen && decide (d.pon.guardNs = 100 + legNat d 0x5000 0x0C + legNat d 0x5000 0x0E + 16) &&
      decide (d.pon.burstFrom + legNat d 0x5000 0x0C = 36000) && decide (d.pon.burstTo = 36100 + legNat d 0x5000 0x0E) && (match d.wire with
      | [.burst 4 36000 1 false 0 (some _) (some _) _, .burstEn a b _] => decide (a = d.pon.burstFrom) && decide (b = d.pon.burstTo)
      | _ => false)) = true ∧
    does (.allocation 0 { alloc4 4 true false with goesOn := true }) (ponS { o5p with burstOn := true, burstOpen := true, burstFrom := 9, txEndNs := 50000, guardNs := 7 } 0) (fun d => decide (d.pon.guardNs = 107) &&
      decide (d.pon.txEndNs = 50100) && decide (d.pon.burstFrom = 9)) = true ∧
    passes (.allocation 0 { alloc4 4 true true with goesOn := true }) (ponS o5p 0) 0 = true ∧ passes (.allocation 0 (alloc4 4 true true)) (ponS { o5p with watchful := true } 0) 0 = true := by decide +kernel

theorem test_allocation_fill : does (.allocationFill 0 (alloc4 4 true false)) (ponS o5p 0) (fun d => decide ((d.pon.filled.map fun f => (f.allocId, f.startNs, f.dbru.isSome)) = [(4, 1000, true)]) && decide (d.wire = [])) = true ∧
    passes (.allocationFill 0 { alloc4 4 true false with preambleAt := 65 }) (ponS o5p 0) 0 = true ∧
    does (.allocationFill 0 (alloc4 4 true false)) (ponS { o5p with sleepRefused := true, omciUp := [[1]] } 0) (fun d => decide (d.pon.filled.map (·.frames) = [[]]) && decide (d.pon.omciUp = [[1]])) = true := by decide +kernel

theorem test_burst_overrun : does (.burstOverrun 0 117) (ponS { burstOn := true, guardNs := 116, burstFrom := 5 } 0) (fun d => decide (d.pon = { guardNs := 116, burstFrom := 5, burstTo := 122, txEndNs := 122 }) && decide (d.wire = [.burstEn 5 122 (decide (legNat d 0x5000 0x0D = 0))])) = true ∧ passes (.burstOverrun 0 116) (ponS { burstOn := true, guardNs := 116 } 0) 0 = true ∧ passes (.burstOverrun 0 200) (ponS {} 0) 0 = true := by decide +kernel

theorem test_optics : ponTo (.opticsPoll 0 (some [1, 2])) { optMissed := 2 } 8000 { optAt := 8000 * 4096, optDiag := [1, 2] ++ zeros 8 } = true ∧ ponTo (.opticsPoll 0 none) { optMissed := 3 } 8000 { optAt := 8000 * 4096, optMissed := 3 } = true ∧
    passes (.opticsPoll 0 none) (ponS {} 7999) 0 = true := by decide +kernel

theorem test_flavour : does (.flavour 0 2) (ponS o5 0) (fun d => decide (legVal d 0x5000 0 = [2]) && decide (d.pon.sync = .hunt) && decide (d.pon.act = .o11)) = true ∧ passes (.flavour 0 3) (ponS o5 0) 0 = true ∧
    does (.flavour 0 1) (ponS { act := .o7 } 0) (fun d => decide (d.pon.act = .o7)) = true := by decide +kernel

theorem test_watchful_reception : reached ((ponS { watchful := true } 8000000).dev.at 0) (after 0 (rxOffTicks (ponS { watchful := true } 0).dev)) = true ∧
    does (.watchfulSleepReception 0 (some 9) false) (ponS { watchful := true, sync := .reSync } 8000000) (fun d => decide (d.pon = { watchful := true, rxAt := 8000000 * 4096, sync := .sync, lastCount := 9 })) = true ∧
    passes (.watchfulSleepReception 0 none false) (ponS {} 8000000) 0 = true := by decide +kernel

/-! ## Session transport -/

/-- A segment: FSEQ 9, an offset, LAST or not, the octets carried. -/
def segB (off : Nat) (last : Nat) (body : Bytes) : Bytes := be 2 0x5A53 ++ [1] ++ be 1 last ++ be 4 9 ++ be 4 off ++ be 2 body.length ++ be 2 0 ++ body

/-- A frame header: type, sequence number 50, a payload length, tenant 0, stream 0. -/
def frameHead (type len : Nat) : Bytes := be 2 0x5A46 ++ [1] ++ be 1 type ++ be 4 0 ++ be 4 50 ++ be 4 len ++ zeros 48

/-- An ingress frame of 64 octets and its tag under the key 0. -/
def frameBody : Bytes := frameHead 2 64 ++ zeros 64

/-- An answer of 264 octets. -/
def answerBody : Bytes := frameHead 3 264 ++ zeros 264

/-- The frame of which `buf` has arrived. -/
def asmA (buf : Bytes) : Assembly := { slot := 3, type := 2, fseq := 9, buf := buf, auth := 0, keySlot := 0, keys := [zeros 16], lastAt := 0 }

/-- Strip 5 of partition 7 runs with this transport state, at tick `t`. -/
def transS (x : StripTx) (p : PartTx) (t : TickNo) : State :=
  st { grat := { everLocked := true, tick := t }, parts := [(7, { st := .running })], strips := [(5, { st := .running, partition := 7 })], stripTx := [(5, x)], partTx := [(7, p)] }

/-- The tables of that state are canonical (those not listed are). -/
theorem test_transport_tables : TransportTables (transS { tokens := 1 } { answersNow := 1 } 0) := by unfold TransportTables; decide +kernel

theorem test_segment_elsewhere : takesFrames ({} : Strip) = false ∧ does (.segmentReceived 0 6 [1]) (st { handed := [.segment 6 [1]] }) (fun d => decide (d = {})) = true ∧
    segmentOk (transS {} {} 0).dev [1] = false ∧ passes (.segmentReceived 0 5 [1]) (transS { tokens := 1 } {} 0) 0 = true := by decide +kernel

theorem test_segment_policed : segmentOk (transS {} {} 0).dev (segB 0 0 [7]) = true ∧
    does (.segmentReceived 0 5 (segB 0 0 [7])) (transS { tokens := 0 } { answersNow := 1 } 0) (fun d => decide (d.stx 5 = { tokens := 0, discarding := some 9, policed := 1 })) = true := by decide +kernel

theorem test_segment_starts : does (.segmentReceived 0 5 (segB 0 0 [7, 8])) (transS { tokens := 2 } {} 4) (fun d => decide ((d.stx 5).asm.map (fun a => (a.buf, a.slot, a.fseq, a.lastAt)) = some ([7, 8], 0, 9, 4 * 4096)) &&
      decide ((d.stx 5).tokens = 1) && decide ((d.stx 5).framesLanded = 0)) = true := by decide +kernel

theorem test_segment_joins : ¬ overlong ([7, 8] ++ (segB 2 0 [9]).drop 16) ∧ segOffset (segB 2 0 [9]) = 2 ∧ segLast (segB 2 0 [9]) = false ∧
    does (.segmentReceived 0 5 (segB 2 0 [9])) (transS { asm := some (asmA [7, 8]) } {} 4) (fun d => decide (d.stx 5 = { asm := some { asmA [7, 8, 9] with lastAt := 4 * 4096 } })) = true := by
  unfold overlong; decide +kernel

theorem schedule_zero : ((expandKey (zeros 16)).map (·.length)) = List.replicate 11 16 := by decide +kernel

theorem aesBlock_length (b : Bytes) : (aesBlock (zeros 16) b).length = 16 := by
  have h := schedule_zero
  unfold aesBlock
  generalize expandKey (zeros 16) = l at h
  match l, h with
  | [], h => simp at h
  | k0 :: rest, h =>
    simp only [List.map_cons, List.replicate, List.cons.injEq] at h
    have hr : ∀ k ∈ rest, k.length = 16 := by
      intro k hk
      have h1 : k.length ∈ rest.map (·.length) := List.mem_map_of_mem hk
      rw [h.2] at h1
      simpa using h1
    have hn : rest ≠ [] := by intro h0; rw [h0] at h; simp at h
    simp only [List.getLast?_eq_some_getLast hn]
    simp [xorBytes, shiftRows, hr _ (List.getLast_mem hn)]

theorem cmac_length (m : Bytes) : (aesCmac (zeros 16) m).length = 16 := aesBlock_length _

/-- A frame ends with its own tag. -/
theorem tagOk_own (a : Assembly) (body : Bytes) (h1 : a.buf = body ++ aesCmac (zeros 16) body) (h2 : a.auth = 0) (h3 : a.keys = [zeros 16]) : tagOk a = true := by
  simp [tagOk, h1, h2, h3, frameTag, cmac_length]

theorem segment_sixteen (off : Nat) (t : Bytes) (ht : t.length = 16) : segmentOk (transS {} {} 0).dev (segB off 1 t) = true := by
  unfold segmentOk segB
  rw [ht]
  simp [beAt, slice, be, le, beVal, ht]
  decide +kernel

theorem beAt_append (o n : Nat) (a b : Bytes) (h : o + n ≤ a.length) : beAt o n (a ++ b) = beAt o n a := by
  have h1 : o ≤ a.length := by omega
  simp only [beAt, slice, List.drop_append_of_le_length h1]
  rw [List.take_append_of_le_length (by simp; omega)]

theorem test_frame_good : tagOk (asmA (frameBody ++ aesCmac (zeros 16) frameBody)) = true ∧ headerOk (transS {} {} 0).dev 7 [1, 2] (frameBody ++ aesCmac (zeros 16) frameBody) = true ∧
    segOffset (segB 128 1 (aesCmac (zeros 16) frameBody)) = frameBody.length ∧ segmentOk (transS {} {} 0).dev (segB 128 1 (aesCmac (zeros 16) frameBody)) = true ∧
    ¬ overlong (frameBody ++ aesCmac (zeros 16) frameBody) := by
  refine ⟨tagOk_own _ _ rfl rfl rfl, ?_⟩
  have h := cmac_length frameBody
  generalize aesCmac (zeros 16) frameBody = t at h
  have hl : frameBody.length = 128 := by decide +kernel
  have h1 : payloadLen (frameBody ++ t) = 64 := by
    unfold payloadLen; rw [beAt_append _ _ _ _ (by decide)]; decide +kernel
  refine ⟨?_, rfl, segment_sixteen _ _ h, ?_⟩
  · unfold headerOk payloadOk
    rw [h1, List.length_append, h, hl]
    repeat rw [beAt_append _ _ _ _ (by decide)]
    decide +kernel
  · unfold overlong
    rw [h1, List.length_append, h, hl]
    decide +kernel

theorem test_frame_bad_tag : tagOk { asmA (frameBody ++ zeros 16) with keys := [] } = false ∧
    does (.segmentReceived 0 5 (segB 128 1 (zeros 16))) (transS { asm := some { asmA frameBody with keys := [] } } {} 4) (fun d => decide ((d.stx 5).asm = none) && decide ((d.stx 5).framesLanded = 0) && decide ((d.stx 5).authFails = 1)) = true := by decide +kernel

theorem test_frame_incomplete : does (.segmentReceived 0 5 (segB 3 0 [9])) (transS { asm := some (asmA [7, 8]) } {} 4) (fun d => decide ((d.stx 5).asm = none) && decide ((d.stx 5).incomplete = 1)) = true := by decide +kernel

/-! Answers -/

theorem test_answer_malformed : does (.answerSegment 0 7 2 [1]) (transS { tokens := 1 } { answersNow := 1 } 0) (fun d => decide (d = { (transS { tokens := 1 } { answersNow := 1 } 0).dev.at 0 with handed := [] })) = true := by decide +kernel

theorem test_answer_policed : legNat (transS {} {} 0).dev 0x5400 0x03 ≤ 40000 ∧
    does (.answerSegment 0 7 2 (segB 0 0 [7])) (transS {} { answersNow := 40000 } 0) (fun d => decide ((d.ptx 7).answersPoliced = 1) && decide ((d.ptx 7).answers = [])) = true := by decide +kernel

theorem test_answer_starts : 1 < legNat (transS {} {} 0).dev 0x5400 0x03 ∧
    does (.answerSegment 0 7 2 (segB 0 0 [7])) (transS {} { answersNow := 1 } 0) (fun d => decide ((answerOf d 7 2).map (fun a => (a.buf, a.fseq)) = some ([7], 9)) && decide ((d.ptx 7).answersNow = 2)) = true := by decide +kernel

theorem test_answer_good : tagOk (asmA (answerBody ++ aesCmac (zeros 16) answerBody)) = true ∧ headerOk (transS {} {} 0).dev 7 [3] (answerBody ++ aesCmac (zeros 16) answerBody) = true ∧
    segOffset (segB 328 1 (aesCmac (zeros 16) answerBody)) = answerBody.length ∧ segmentOk (transS {} {} 0).dev (segB 328 1 (aesCmac (zeros 16) answerBody)) = true ∧
    ¬ overlong (answerBody ++ aesCmac (zeros 16) answerBody) ∧ strandOf (transS {} {} 0).dev 7 (beAt 4 4 (answerBody ++ aesCmac (zeros 16) answerBody)) = some 5 := by
  refine ⟨tagOk_own _ _ rfl rfl rfl, ?_⟩
  have h := cmac_length answerBody
  generalize aesCmac (zeros 16) answerBody = t at h
  have hl : answerBody.length = 328 := by decide +kernel
  have h1 : payloadLen (answerBody ++ t) = 264 := by
    unfold payloadLen; rw [beAt_append _ _ _ _ (by decide)]; decide +kernel
  refine ⟨?_, rfl, segment_sixteen _ _ h, ?_, ?_⟩
  · unfold headerOk payloadOk
    rw [h1, List.length_append, h, hl]
    repeat rw [beAt_append _ _ _ _ (by decide)]
    decide +kernel
  · unfold overlong
    rw [h1, List.length_append, h, hl]
    decide +kernel
  · rw [beAt_append _ _ _ _ (by decide)]
    decide +kernel

theorem test_answer_incomplete : does (.answerSegment 0 7 2 (segB 3 0 [9])) (transS {} { answerAsm := [(2, some (asmA [7, 8]))] } 4) (fun d => decide (answerOf d 7 2 = none) && decide ((d.ptx 7).answers = [])) = true := by decide +kernel

theorem test_assembly_timeout : reached ((transS {} {} 40000).dev.at 0) (after 0 (legNat (transS {} {} 0).dev 0x5400 0x04)) = true ∧
    does (.assemblyTimeout 0 (.strip 5)) (transS { asm := some (asmA [7, 8]) } {} 40000) (fun d => decide ((d.stx 5).asm = none) && decide ((d.stx 5).incomplete = 1)) = true ∧
    passes (.assemblyTimeout 0 (.strip 5)) (transS { asm := some (asmA [7, 8]) } {} 0) 0 = true ∧ passes (.assemblyTimeout 0 (.strip 5)) (transS {} {} 40000) 0 = true := by decide +kernel

/-! Results, datagrams, local ports -/

/-- A taken record of strip 5: no form, 64 octets of page 2. -/
def recA : TakenRec := { recNo := 0, strip := 5, form := 0, srcPage := 2, srcOff := 0, length := 64, sessions := 0, turns := 0, refuse := false }

/-- The same with the strip's result sequence at 4 and its highest at `high`; the partition has store pages or none. -/
def resultS (high : BitVec 32) (pages : List Nat) (tags : Tab PTag) : State :=
  st { (transS {} { taken := [recA], storePages := pages } 4).dev with strips := [(5, { st := .running, partition := 7, rseq := 4, highSeq := high, entered := true })], parts := [(7, { st := .running, pageTags := tags })] }

theorem test_item_none : passes (.itemEntry 0 7) (transS {} {} 4) 0 = true := by decide +kernel

theorem test_item_tagged : takenTag (resultS 3 [0] [(2, 1)]).dev 7 recA ≠ 0 ∧ passes (.itemEntry 0 7) (resultS 3 [0] [(2, 1)]) 0 = true := by decide +kernel

/-- A record refused while it was pencilled waits until its page is not, and is refused then. -/
theorem test_item_refused : pageTag (st { (resultS 3 [0] [(2, 1)]).dev with legend := [(legKey 0x5417 0, some [0, 2])] }).dev 7 2 ≠ 0 ∧
    passes (.itemEntry 0 7) (st { (resultS 3 [0] [(2, 1)]).dev with partTx := [(7, { taken := [{ recA with refuse := true }], storePages := [0] })], legend := [(legKey 0x5417 0, some [0, 2])] }) 0 = true ∧
    does (.itemEntry 0 7) (st { (resultS 3 [0] []).dev with partTx := [(7, { taken := [{ recA with refuse := true }], storePages := [0] })], legend := [(legKey 0x5417 0, some [0, 2])] }) (fun d =>
      decide ((d.ptx 7).taken = []) && decide ((d.ptx 7).items = []) && decide ((d.ptx 7).emitRefused = 1)) = true := by decide +kernel

theorem test_item_again : olderSeq (4 : BitVec 32) 4 = false ∧
    does (.itemEntry 0 7) (resultS 4 [0] []) (fun d => decide ((d.ptx 7).taken = []) && decide ((d.ptx 7).items = []) && decide ((d.strip 5).replaySuppressed = 1) && decide ((d.strip 5).rseq = 5) && decide ((d.strip 5).highSeq = 4)) = true := by decide +kernel

theorem test_item_waits : olderSeq (3 : BitVec 32) 4 = true ∧ storeFree (resultS 3 [] []).dev 7 = 0 ∧ does (.itemEntry 0 7) (resultS 3 [] []) (fun d => decide (d.partTx = (resultS 3 [] []).dev.partTx)) = true := by decide +kernel

theorem test_item_enters : itemBytes (zeros 128) + legNat (resultS 3 [0] []).dev 0x5417 0x02 ≤ storeFree (resultS 3 [0] []).dev 7 ∧
    does (.itemEntry 0 7) (resultS 3 [0] []) (fun d => decide ((d.ptx 7).taken = []) && decide ((d.ptx 7).items.map (fun i => (i.cls, i.strip, i.entered, i.frame.drop 64, beAt 8 4 i.frame)) = [(.result, 5, 4 * 4096, zeros 64, 4)]) && decide ((d.ptx 7).items.map (·.seq) = [0]) &&
      decide ((d.strip 5).rseq = 5) && decide ((d.strip 5).highSeq = 4)) = true := by decide +kernel

/-- Ethernet mode with strip 5 bound to a group and UDP port 9000, and results of partition 7 to another from port 1. -/
def udpS (p : PartTx) (up : Bool) : State :=
  st { (transS {} p 4).dev with
    legend := [(legKey 0x5417 5, some [0]), (0x546000, some ([239, 0, 0, 1] ++ be 2 9000 ++ [1, 5] ++ zeros 8)), (0x546001, some ([239, 0, 0, 2] ++ be 2 9001 ++ [5, 7, 2, 0] ++ zeros 6)), (legKey 0x6000 0x05, some [1])]
    eth := { p1 := { link := up } }, sec := { slots := [(0, { cur := some (zeros 16), uses := 2 })] } }

theorem test_udp : udpMatch (udpS {} false).dev 1 0xEF000001 9000 = some ([239, 0, 0, 1] ++ be 2 9000 ++ [1, 5] ++ zeros 8) ∧
    does (.udpDatagramReceived 0 1 0xEF000001 9000 false [1, 2]) (udpS {} false) (fun d => decide (d.handed = [.segment 5 [1, 2]])) = true ∧
    udpMatch (udpS {} false).dev 1 0xEF000001 9002 = none ∧ does (.udpDatagramReceived 0 1 0xEF000001 9002 false [1, 2]) (udpS {} false) (fun d => decide (d = (udpS {} false).dev)) = true ∧
    does (.udpDatagramReceived 0 1 0xEF000001 9000 true [1, 2]) (udpS {} false) (fun d => decide (d.handed = [])) = true := by decide +kernel

theorem test_igmp : does (.igmpQuery 0 1 0) (st { handed := [.igmp 1 0] }) (fun d => decide (d = {})) = true ∧ boundGroups (udpS {} false).dev = [0xEF000001] ∧
    does (.igmpQuery 0 1 0) (udpS {} true) (fun d => match d.wire with
      | [.eth 1 _] => true
      | _ => false) = true ∧ does (.igmpQuery 0 1 0xEF000009) (udpS {} true) (fun d => decide (d.wire = [])) = true := by decide +kernel

/-- A committed result of 40 octets. -/
def itemA : Item := { cls := .result, partition := 7, strip := 5, entered := 0, seq := 0, frame := zeros 24, deadline := none, windowAt := 0, replay := false, entry := 0, sealed := some (zeros 40), placed := 0, fragment := [], fragHead := 0, passedOver := false }

theorem test_local_port_idle : passes (.localPortTransmit 0 1) (udpS {} false) 0 = true ∧ peekRoute (passOver ((udpS {} true).dev.at 0) 0x10000) 0x10000 = none ∧
    does (.localPortTransmit 0 1) (udpS {} true) (fun d => decide (d.wire = [])) = true := by decide +kernel

theorem test_local_port_sends : (peekRoute (passOver ((udpS { items := [itemA] } true).dev.at 0) 0x10000) 0x10000).isSome = true ∧ macTo (udpS {} false).dev 1 0xEF000002 = some 0x01005E000002 ∧
    (chooseNext (passOver ((udpS { items := [itemA] } true).dev.at 0) 0x10000) 0x10000).1 = some (.item 7 0) ∧
    ((takeNext (chooseNext (passOver ((udpS { items := [itemA] } true).dev.at 0) 0x10000) 0x10000).2 (.item 7 0)).map fun r => r.1.length) = some 56 ∧
    does (.localPortTransmit 0 1) (udpS { items := [itemA] } true) (fun d => decide ((d.ethPort 1).txFrames = 1) && decide ((d.ptx 7).items = []) && (match d.wire with
      | [.eth 1 _] => true
      | _ => false)) = true := by decide +kernel

/-! ## The fabric -/

/-- A packet for a device, its direction bits set. -/
def pktTo (dst : BitVec 16) (k : PktKind) : Packet :=
  { cls := .msg, kind := k, dirX := false, dirY := false, dirZ := false, dl := false, dst := dst, src := 1, dpart := 0, spart := 0, tenant := 0, tag := 0, payload := [] }

/-- A ready device, number 0 of 4 by 1 by 1, with port 0 so, at tick `t`. -/
def netS (x : AksPort) (t : TickNo) : State :=
  st { grat := { everLocked := true, tick := t }, start := { stage := .ready }, aksia := { ports := [(0, x)] }, legend := [(legKey 0x6000 0x00, some [4]), (legKey 0x6000 0x03, some [0, 0])] }

/-- The command leaves the port so and nothing else touched. -/
def portTo (c : Instr) (x : AksPort) (t : TickNo) (y : AksPort) : Bool := does c (netS x t) fun d => decide (d = ((netS x t).dev.at 0).setPort 0 y)

/-- The identity that the port of the neighbour in +X sends. -/
def identA (port : Byte) : IdentMsg := { device := 1, uid := 5, port := port, atlasId := 0, dimX := 4, dimY := 1, dimZ := 1, gradeL := false }

/-- A link frame as it lands, without credits. -/
def frameOf (p : Option Packet) : LinkFrame := { credits := [], packet := p, residence := 0 }

theorem test_ports_fitted : 0 < portsFitted (netS {} 0).dev ∧ (portCommands 0 0 .align (identA 4) true 0 [3] ⟨0, 500, 600, 1400⟩ 1 0 true 1 0 (frameOf (some (pktTo 1 .ack)))).all (fun c => passes c (st {}) 0) = true := by decide +kernel

theorem test_port_attempt : attemptOver ((netS { st := .detect } 0).dev.at 0) 0 = false ∧ portTo (.portAttempt 0 0 .equalise) { st := .detect } 0 { st := .equalise } = true ∧
    portTo (.portAttempt 0 0 .align) { st := .equalise } 0 { st := .align } = true ∧ does (.portAttempt 0 0 .ident) (netS { st := .align } 0) (fun d => decide ((d.port 0).st = .ident) && decide ((d.port 0).lanesUp = 8) && (match d.wire with
      | [.ident 0 m, .packet 0 f] => decide (m = { device := 0, uid := 0, port := 0, atlasId := 0, dimX := 4, dimY := 1, dimZ := 1, gradeL := false }) && decide (f.packet = timePacket (netS {} 0).dev 0 .delayRequest) && decide (f.seq = 0)
      | _ => false)) = true ∧
    portTo (.portAttempt 0 0 .failed) { st := .align } 9 { st := .backoff, attempts := 1, since := 9 * 4096 } = true ∧ passes (.portAttemptTimeout 0 0) (netS { st := .detect } 0) 0 = true := by decide +kernel

theorem test_port_attempt_over : attemptOver ((netS { st := .detect } 800).dev.at 0) 0 = true ∧ portTo (.portAttempt 0 0 .equalise) { st := .detect } 800 { st := .backoff, attempts := 1, since := 800 * 4096 } = true ∧
    portTo (.portAttemptTimeout 0 0) { st := .detect } 800 { st := .backoff, attempts := 1, since := 800 * 4096 } = true := by decide +kernel

theorem test_port_backoff : portTo (.portBackoffEnd 0 0) { st := .backoff, attempts := 1 } 8000 { st := .detect, attempts := 1, since := 8000 * 4096 } = true ∧ passes (.portBackoffEnd 0 0) (netS { st := .backoff, attempts := 1 } 7999) 0 = true ∧
    passes (.portBackoffEnd 0 0) (netS { st := .up } 8000) 0 = true := by decide +kernel

theorem test_ident : identOk (netS {} 0).dev 0 (identA 4) = true ∧ does (.ident 0 0 (identA 4) ⟨0, 500, 600, 1400⟩) (netS { st := .ident, attempts := 3 } 0) (fun d => decide ((d.port 0).st = .up) && decide ((d.port 0).lanesUp = 8) &&
      decide ((d.port 0).attempts = 0) && decide ((d.port 0).delay = 650) && decide ((d.port 0).partnerDev = 1) && decide ((d.port 0).partnerPort = 4)) = true := by decide +kernel

theorem test_ident_miscabled : identOk (netS {} 0).dev 0 (identA 5) = false ∧ does (.ident 0 0 (identA 5) ⟨0, 500, 600, 1400⟩) (netS { st := .ident } 0) (fun d => decide (d.port 0 = { st := .backoff, attempts := 1, miscabled := true, partnerDev := 1, partnerPort := 5 })) = true := by decide +kernel

/-- An UP port that lost lanes, or resent 257 frames, falls; what of its buffer is lost is a free value, so only when it
does not fall is evaluated. -/
theorem test_port_down : ((netS { st := .up, resent := 257 } 0).dev.port 0).st = .up ∧ 256 < ((netS { st := .up, resent := 257 } 0).dev.port 0).resent ∧
    passes (.portDown 0 0 false) (netS { st := .up, resent := 256 } 0) 0 = true ∧ passes (.portDown 0 0 true) (netS { st := .ident } 0) 0 = true := by decide +kernel

theorem test_retransmit : does (.linkFrameRetransmit 0 0 6) (netS { st := .up, retry := [(5, pktTo 1 .ack), (6, pktTo 2 .ack), (7, pktTo 3 .ack)] } 0) (fun d =>
      decide ((d.port 0).resent = 2) && decide ((d.fault 0x8B).count = 2) && (match d.wire with
      | [.resend 0 f, .resend 0 g] => decide ((f.seq, f.packet, g.seq, g.packet) = (6, pktTo 2 .ack, 7, pktTo 3 .ack))
      | _ => false)) = true ∧
    passes (.linkFrameRetransmit 0 0 9) (netS { st := .up, retry := [(5, pktTo 1 .ack)] } 0) 0 = true := by decide +kernel

theorem test_eye : does (.eyeMeasurement 0 0 [40, 30, 50]) (netS { st := .up } 0) (fun d => decide (d.port 0 = { st := .up, eyeMv := 30 })) = true := by decide +kernel

theorem test_delay_exchange : delayOf 0 500 600 1400 = 650 ∧ cyclesNs (netS {} 0).dev 650 = 1044 ∧
    does (.delayExchange 0 0 0 500 600 1400) (netS { st := .up, exchangeAge := 1024 } 0) (fun d => decide ((d.port 0).delay = 650) && decide ((d.port 0).exchangeAge = 0) && (match d.wire with
      | [.packet 0 f] => decide (f.packet = timePacket (netS {} 0).dev 0 .delayRequest)
      | _ => false)) = true ∧
    does (.delayExchange 0 0 0 500 600 1400) (st { (netS {} 0).dev with aksia := { ports := [(0, { st := .up, exchangeAge := 1024 })], linkUsed := [(creditSlot 0 .time false, 32)] } }) (fun d => decide (d.wire = []) &&
      decide ((d.port 0).queue = [{ pkt := timePacket (netS {} 0).dev 0 .delayRequest, holds := none }])) = true ∧ passes (.delayExchange 0 0 0 500 600 1400) (netS { st := .up, exchangeAge := 1023 } 0) 0 = true := by decide +kernel

theorem test_link_state : does (.linkState 0 0 2 0 false 9) (netS { st := .up } 0) (fun d => decide (d.aksia.linkMap = [⟨2, 0⟩]) && decide (tabGet [] d.aksia.seenSeq 2 = [9]) && decide (tabGet 0 d.aksia.linkSeq 16 = 10)) = true ∧
    passes (.linkState 0 0 2 0 false 9) (st { (netS {} 0).dev with aksia := { ports := [(0, { st := .up })], seenSeq := [(2, [9])] } }) 0 = true ∧
    does (.linkState 0 0 2 0 false 8) (st { (netS {} 0).dev with aksia := { ports := [(0, { st := .up })], seenSeq := [(2, [9])], linkSeq := [(16, 10)] } }) (fun d => decide (d.aksia.linkMap = []) && decide (tabGet [] d.aksia.seenSeq 2 = [9, 8])) = true := by decide +kernel

theorem test_packet_claim : does (.packetReceived 0 0 3 (frameOf (some (pktTo 0 (.claim 4 77 1 2))))) (netS { st := .up } 0) (fun d => decide (d.aksia.claims = [(0, { priority := 4, uid := 77, hops := 1, device := 2 })]) &&
      decide ((d.port 0).fecCorrected = 3) && decide (d.wire = [.credit 0 { cls := .msg, dl := false, units := 1 }])) = true ∧
    does (.packetReceived 0 0 0 { frameOf none with credits := [{ cls := .msg, dl := false, units := 3 }] }) (st { (netS {} 0).dev with aksia := { ports := [(0, { st := .up })], linkUsed := [(creditSlot 0 .msg false, 5)] } })
      (fun d => decide (d.aksia.linkUsed = [(creditSlot 0 .msg false, 2)]) && decide (d.wire = [])) = true := by decide +kernel

theorem test_packet_forward : nextHop (netS {} 0).dev (pktTo 2 .ack) = some 0 ∧ flowPort (netS { st := .up } 0).dev 0 (pktTo 2 .ack) = some 0 ∧
    does (.packetReceived 0 0 0 (frameOf (some (pktTo 2 .ack)))) (netS { st := .up } 0) (fun d => decide ((d.port 0).txSeq = 1) && (match d.wire with
      | [.packet 0 f, .credit 0 c] => decide (f.packet = pktTo 2 .ack) && decide (c = { cls := .msg, dl := false, units := 1 })
      | _ => false)) = true ∧
    does (.packetReceived 0 0 0 (frameOf (some (pktTo 2 .ack)))) (st { (netS {} 0).dev with aksia := { ports := [(0, { st := .up })], linkUsed := [(creditSlot 0 .msg false, 256)] } }) (fun d => decide (d.wire = []) &&
      decide ((d.port 0).queue = [{ pkt := pktTo 2 .ack, holds := some (0, false) }])) = true := by decide +kernel

/-! Datum, heartbeats, takeover -/

theorem test_datum : eligible ((netS {} 0).dev.at 0) = false ∧ does (.datumClaim 0) (netS { st := .up } 0) (fun d => decide (d.aksia.best = none) && decide (d.aksia.claims = []) && !d.aksia.isDatum) = true ∧
    does (.datumClaim 0) (st { (netS { st := .up } 0).dev with aksia := { ports := [(0, { st := .up })], claims := [(0, { priority := 4, uid := 77, hops := 0, device := 2 })] } }) (fun d =>
      decide (d.aksia.best = some { priority := 4, uid := 77, hops := 1, device := 2 })) = true := by decide +kernel

theorem test_before_net : netUp (st {}).dev = false ∧ passes (.datumClaim 0) (st {}) 0 = true ∧ passes (.heartbeatSend 0) (st {}) 0 = true ∧ passes (.heartbeatReceived 0 1 0 0 false) (st {}) 0 = true := by decide +kernel

/-- The same device with its upstream or with itself the datum. -/
def datumS (me : Bool) : State := st { (netS { st := .up } 3).dev with aksia := { ports := [(0, { st := .up })], isDatum := me, upstream := some 0 } }

theorem test_update : does (.update 0 0 5 3 0 0) (datumS false) (fun d => decide (d.grat.updateAge = 0) && decide (d.grat.datumState = .holdover)) = true ∧ passes (.update 0 0 5 3 0 0) (datumS true) 0 = true := by decide +kernel

/-- Partition 7 runs with device 9 as its buddy; partition 8 holds for partition 2 of device 3. -/
def buddyS (x : Partition) (b : BuddyLive) (w : Watch) : State :=
  st { (netS { st := .up } 3).dev with
    parts := [(7, { st := .running }), (8, x)], aksia := { ports := [(0, { st := .up })], buddies := [(9, b)], watches := [(8, w)] }
    legend := [(legKey 0x3007 0x09, some [0, 9]), (legKey 0x3008 0x13, some (be 4 0x30002)), (legKey 0x6000 0x00, some [4]), (legKey 0x6000 0x03, some [0, 0])] }

theorem test_buddies : PartTables (buddyS { st := .stopped } { ackAt := some 1 } { heardAt := 1 }) ∧ buddiesOf (buddyS {} {} {}).dev = [(7, 9)] ∧ mirrorOf (buddyS {} {} {}).dev 8 = some (3, 2) := by
  unfold PartTables; decide +kernel

theorem test_heartbeat_send : does (.heartbeatSend 5) (buddyS {} { handover := 6 } { st := .watching, heardAt := 2 }) (fun d => decide (tabGet {} d.aksia.buddies 9 = { ackAt := some (5 * 256), handover := 6, sentHandover := 6 }) && decide ((watchOf d 8).heardAt = 2)) = true ∧
    does (.heartbeatSend 5) (buddyS {} { ackAt := some 7 } {}) (fun d => decide ((tabGet {} d.aksia.buddies 9).ackAt = some 7)) = true := by decide +kernel

theorem test_heartbeat_received : does (.heartbeatReceived 5 3 4 0 false) (buddyS {} {} { st := .watching, heardAt := 2 }) (fun d => decide (watchOf d 8 = { st := .watching, heardAt := 1280, lastRunning := true })) = true ∧
    does (.heartbeatReceived 5 3 4 0 false) (buddyS {} {} {}) (fun d => decide (watchOf d 8 = { st := .watching, heardAt := 1280, lastRunning := true }) && decide (d.aksia.runningHeard = some 1280)) = true ∧
    does (.heartbeatReceived 5 3 0 4 false) (buddyS {} {} { st := .watching }) (fun d => decide ((watchOf d 8).st = .blocked) && decide ((watchOf d 8).takeoverAt = 3 * 4096)) = true ∧
    does (.heartbeatReceived 5 3 4 0 false) (buddyS {} {} { st := .watching, heardAt := 1280 - 318504960 }) (fun d => decide ((watchOf d 8).st = .blocked)) = true ∧
    does (.heartbeatReceived 5 3 4 0 false) (buddyS {} {} { st := .blocked }) (fun d => decide (watchOf d 8 = { st := .blocked })) = true := by decide +kernel

theorem test_heartbeat_ack : does (.heartbeatAck 0 9) (buddyS {} { ackAt := some (-5), handover := 6, sentHandover := 2, fenced := true } {}) (fun d => decide (tabGet {} d.aksia.buddies 9 = { ackAt := some 0, handover := 4 })) = true ∧
    passes (.heartbeatAck 0 8) (buddyS {} {} {}) 0 = true := by decide +kernel

theorem test_fence_timeout : does (.fenceTimeout 0 9) (buddyS {} { ackAt := some (-238878720) } {}) (fun d => decide ((d.partition 7).st = .handedOver) && (tabGet {} d.aksia.buddies 9).fenced) = true ∧ passes (.fenceTimeout 0 9) (buddyS {} { ackAt := some (-238878719) } {}) 0 = true := by decide +kernel

theorem test_takeover_blocked : peerLost ((buddyS {} {} { st := .watching, heardAt := -318504960 }).dev.at 0) 8 = true ∧ takeoverReady (buddyS {} {} { st := .watching, heardAt := -318504960 }).dev 8 = none ∧
    does (.buddyLossTimeout 0 8) (buddyS {} {} { st := .watching, heardAt := -318504960 }) (fun d => decide ((watchOf d 8).st = .blocked) && decide ((watchOf d 8).takeoverAt = 3 * 4096)) = true ∧
    does (.takeover 0 8) (buddyS {} {} { st := .watching, heardAt := -318504960 }) (fun d => decide ((watchOf d 8).st = .blocked)) = true ∧
    passes (.takeover 0 8) (buddyS {} {} { st := .blocked }) 0 = true := by decide +kernel

/-- The holder with a mirror of tenant 0 and no pages, one quad, and its sheet object. -/
def readyS : State :=
  let d := (buddyS { st := .stopped, quadMap := [0], mirrors := [{ beat := 8, slot := 0, phase := 0, tenant := 0, pages := 0, strips := [] }] } {} { st := .watching, heardAt := -318504960 }).dev
  st { d with cad := { objects := [sheetObject] }, legend := [(legKey 0x3007 0x09, some [0, 9]), (legKey 0x3008 0x0A, some (be 8 77)), (legKey 0x3008 0x13, some (be 4 0x30002)), (legKey 0x6000 0x00, some [4]), (legKey 0x6000 0x03, some [0, 0])] }

theorem test_takeover : (takeoverReady readyS.dev 8).isSome = true ∧
    does (.buddyLossTimeout 0 8) readyS (fun d => decide ((watchOf d 8).st = .takenOver) && decide ((watchOf d 8).takeovers = 1) && decide ((d.partition 8).st = .recovering) && (d.partition 8).takenOver &&
      decide ((d.partition 8).haltAt = 3 * 4096)) = true := by decide +kernel

theorem test_no_takeover : peerLost ((buddyS {} {} { st := .watching, heardAt := -318504959 }).dev.at 0) 8 = false ∧ passes (.buddyLossTimeout 0 8) (buddyS {} {} { st := .watching, heardAt := -318504959 }) 0 = true ∧ passes (.takeover 0 8) (buddyS {} {} { st := .watching, heardAt := -318504959 }) 0 = true := by decide +kernel

/-! ## Ethernet and PTP -/

/-- A running device at tick `t` with port 1 so; VLAN modes untagged, its address 10.0.0.1 of 24 bits. -/
def ethS (x : EthPort) (t : TickNo) : State :=
  st { grat := { everLocked := true, tick := t }, start := { stage := .ready }, dormant := { st := .running }, eth := { p1 := x }, part := { mac1 := 0x020000000001, mac0 := 0x020000000000 }
       legend := [(legKey 0x5811 0x03, some [10, 0, 0, 1])] }

theorem test_eth_before : firmwareUp (st {}).dev = false ∧ ([Instr.ethLinkChange 0 1 true 1000, .ethFrameReceived 0 1 true [1], .arpRequestSend 0 1 5, .arpRefresh 0 1 5, .mdioPoll 0 none, .speedJudgement 0,
      .wakeMatch 0 1 true [1], .ptpTimeout 0].all fun c => passes c (st {}) 0) = true := by decide +kernel

theorem test_eth_link : does (.ethLinkChange 0 1 false 0) (ethS { link := true, speedMbps := 1000, rxFrames := 4 } 0) (fun d => !(d.ethPort 1).link && decide ((d.ethPort 1).speedMbps = 0) && decide ((d.ethPort 1).rxFrames = 4)) = true ∧
    passes (.ethLinkChange 0 1 false 0) (ethS {} 0) 0 = true ∧ does (.ethLinkChange 0 1 true 1000) (ethS { fell := true } 0) (fun d => decide (d.ethPort 1 = { link := true, speedMbps := 100000 })) = true ∧
    does (.ethLinkChange 0 0 true 1000) (ethS {} 9) (fun d => decide (d.eth.mgmt.upTick = 9)) = true ∧ passes (.ethFrameReceived 0 1 true [1]) (ethS {} 0) 0 = true := by decide +kernel

theorem test_arp_request : does (.arpRequestSend 0 1 5) (ethS { link := true, arp := [⟨5, none, 0⟩] } 8) (fun d => decide ((d.ethPort 1).arp = [⟨5, none, 8 * 4096⟩]) && (match d.wire with
      | [.eth 1 _] => true
      | _ => false)) = true ∧ passes (.arpRequestSend 0 1 5) (ethS { link := true, arp := [⟨5, none, 0⟩] } 7) 0 = true ∧ passes (.arpRequestSend 0 1 5) (ethS { link := true, arp := [⟨5, some 1, 0⟩] } 8) 0 = true := by decide +kernel

theorem test_arp_refresh : does (.arpRefresh 0 1 5) (ethS { link := true, arp := [⟨5, some 1, 0⟩] } 480000) (fun d => decide ((d.ethPort 1).arp = [⟨5, some 1, 480000 * 4096⟩]) && (match d.wire with
      | [.eth 1 _] => true
      | _ => false)) = true ∧ passes (.arpRefresh 0 1 5) (ethS { link := true, arp := [⟨5, some 1, 0⟩] } 479999) 0 = true ∧ passes (.arpRefresh 0 1 5) (ethS { link := true, arp := [⟨5, none, 0⟩] } 480000) 0 = true := by decide +kernel

theorem test_mdio : does (.mdioPoll 0 none) (st { (ethS {} 80).dev with eth := { mgmt := { mdioMissed := 2 } } }) (fun d => decide (d.eth.mgmt = { mdioMissed := 3, mdioAt := 80 * 4096 }) && decide (d.wire = [.mdioRead 22 0])) = true ∧
    does (.mdioPoll 0 (some true)) (st { (ethS {} 80).dev with eth := { mgmt := { mdioMissed := 2 } } }) (fun d => decide (d.eth.mgmt = { mdioAt := 80 * 4096 }) && decide (d.wire = [.mdioRead 22 0])) = true ∧ passes (.mdioPoll 0 none) (ethS {} 79) 0 = true := by decide +kernel

/-- An Ethernet device in dormant. -/
def asleepEth : State := st { (ethS { link := true, arp := [⟨5, none, 0⟩] } 480000).dev with dormant := { st := .dormant } }

theorem test_eth_asleep : ethAsleep asleepEth.dev = true ∧ ([Instr.arpRequestSend 0 1 5, .arpRefresh 0 1 5, .mdioPoll 0 none, .speedJudgement 0, .delayResp 0 1 2].all fun c => passes c asleepEth 0) = true := by decide +kernel

/-- MGMT at 1,000 Mb/s with the judgement of its speed on. -/
def speedS (m : Mgmt) : State :=
  st { (ethS {} 8000).dev with eth := { p0 := { link := true, speedMbps := 1000 }, mgmt := m }, legend := [(legKey 0x5820 0x00, some [2]), (legKey 0x5820 0x03, some [1]), (legKey 0x5820 0x04, some (be 8 100))] }

theorem test_speed : movedIn { history := [50, 40] } 8000 < legNat (speedS {}).dev 0x5820 0x04 ∧
    does (.speedJudgement 0) (speedS { history := [50, 40] }) (fun d => d.eth.mgmt.changing && decide (d.eth.mgmt.speedChanges = 1) && !(d.ethPort 0).link && decide (d.wire = [.mdio 22 0 true])) = true ∧
    passes (.speedJudgement 0) (ethS {} 8000) 0 = true ∧ passes (.speedJudgement 1000) (speedS { history := [50, 40] }) 1000 = true ∧
    passes (.speedJudgement 0) (speedS { history := [50, 40], raiseTick := some 5 }) 0 = true := by decide +kernel

/-- A busy link at 100 Mb/s is raised; the octets of the present tick count at its end. -/
theorem test_speed_up : let busy : State := st { (speedS {}).dev with eth := { p0 := { link := true, speedMbps := 100 }, mgmt := { history := [9, 2 ^ 64] } } }
    does (.speedJudgement 0) busy (fun d => d.eth.mgmt.changing && !d.eth.mgmt.lowered && decide (d.eth.mgmt.raiseTick = some 8000) && decide (d.wire = [.mdio 22 0 false])) = true ∧
    passes (.speedJudgement 0) (st { (speedS {}).dev with eth := { p0 := { link := true, speedMbps := 100 }, mgmt := { history := [2 ^ 64, 9] } } }) 0 = true := by decide +kernel

/-- A magic packet for port 1. -/
def magic : Bytes := be 6 0x020000000001 ++ zeros 6 ++ be 2 0x1234 ++ List.replicate 6 0xFF ++ (List.replicate 16 (be 6 0x020000000001)).flatten

/-- Dormant, with magic packets on. -/
def dormantS : State := st { (ethS { link := true } 9).dev with dormant := { st := .dormant }, legend := [(legKey 0x5811 0x0B, some [1])] }

theorem test_wake_match : wakeCode dormantS.dev 1 magic = 1 ∧ does (.wakeMatch 0 1 true magic) dormantS (fun d => decide (d.eth.wakeCause = 0x11) && decide (d.eth.wakeStamp = 9 * 4096) && d.dormant.wake.isSome) = true ∧
    passes (.wakeMatch 0 1 false magic) dormantS 0 = true ∧ passes (.wakeMatch 0 1 true magic) (ethS { link := true } 0) 0 = true := by decide +kernel

/-- A frame of a type to an address. -/
def ethFrameTo (dst : Nat) (type : Nat) (body : Bytes) : Bytes := be 6 dst ++ be 6 0x020000000099 ++ be 2 type ++ body

/-- The discard counters and frames received of port n. -/
def counted (d : Dev) (n : Nat) (l : List (BitVec 32)) (rx : BitVec 64) : Bool := decide ((d.ethPort n).discards = l) && decide ((d.ethPort n).rxFrames = rx)

theorem test_port_serves : PortServes (ethS { link := true } 0) 1 := by unfold PortServes; decide +kernel

theorem test_frame_discards : does (.ethFrameReceived 0 1 false (ethFrameTo 0x020000000001 0x0800 [])) (ethS { link := true } 0) (fun d => counted d 1 [1, 0, 0, 0, 0, 0, 0] 0) = true ∧
    untagFrame (ethS {} 0).dev 1 (ethFrameTo 0x020000000001 0x8100 (zeros 8)) = none ∧ does (.ethFrameReceived 0 1 true (ethFrameTo 0x020000000001 0x8100 (zeros 8))) (ethS { link := true } 0) (fun d => counted d 1 [0, 0, 1, 0, 0, 0, 0] 0) = true ∧
    macAccepted (ethS {} 0).dev 1 (ethFrameTo 0x020000000077 0x0800 []) = false ∧ does (.ethFrameReceived 0 1 true (ethFrameTo 0x020000000077 0x0800 [])) (ethS { link := true } 0) (fun d => decide (d.ethPort 1 = { link := true })) = true ∧
    does (.ethFrameReceived 0 1 true (ethFrameTo 0x020000000001 0x1234 [])) (ethS { link := true } 0) (fun d => counted d 1 [0, 0, 0, 1, 0, 0, 0] 0) = true := by decide +kernel

/-- An ARP request for 10.0.0.1 from 10.0.0.9. -/
def arpAsk : Bytes := be 2 1 ++ be 2 0x0800 ++ [6, 4] ++ be 2 1 ++ be 6 0x020000000099 ++ [10, 0, 0, 9] ++ zeros 6 ++ [10, 0, 0, 1]

theorem test_arp_answer : does (.ethFrameReceived 0 1 true (ethFrameTo 0xFFFFFFFFFFFF 0x0806 arpAsk)) (ethS { link := true } 0) (fun d => decide ((d.ethPort 1).rxFrames = 1) && (match d.wire with
      | [.eth 1 f] => decide (f.take 14 = be 6 0x020000000099 ++ be 6 0x020000000001 ++ be 2 0x0806) && decide (slice 20 22 f = be 2 2 ++ be 6 0x020000000001 ++ [10, 0, 0, 1] ++ be 6 0x020000000099 ++ [10, 0, 0, 9])
      | _ => false)) = true := by decide +kernel

/-- A datagram to UDP port 6620 of MGMT, no UDP checksum. -/
def ezDatagram : Bytes :=
  let h := be 2 0x4500 ++ be 2 30 ++ be 2 0 ++ be 2 0 ++ [64, 17] ++ be 2 0 ++ [10, 0, 0, 9] ++ [10, 0, 0, 2]
  patch 10 (be 2 (65535 - foldSum (onesSum h))) h ++ be 2 7000 ++ be 2 6620 ++ be 2 10 ++ be 2 0 ++ [1, 2]

/-- MGMT at 10.0.0.2. -/
def mgmtS : State := st { (ethS {} 0).dev with eth := { p0 := { link := true } }, legend := [(legKey 0x5810 0x03, some [10, 0, 0, 2])] }

theorem test_mgmt_datagram : PortServes mgmtS 0 ∧ ipv4Ok ezDatagram = true ∧ layer4Ok 0x0A000009 0x0A000002 17 (ezDatagram.drop 20) = true ∧ portIp mgmtS.dev 0 = 0x0A000002 ∧
    does (.ethFrameReceived 0 0 true (ethFrameTo 0x020000000000 0x0800 ezDatagram)) mgmtS (fun d => decide (d.handed = [.ezith (.mgmt 0x0A000009 7000) [1, 2]]) && decide ((d.ethPort 0).rxFrames = 1)) = true := by
  unfold PortServes; decide +kernel

/-! PTP -/

/-- PTP on port 1 in a state. -/
def ptpS (p : Ptp) : State := st { (ethS { link := true } 4).dev with eth := { p1 := { link := true }, ptp := p }, legend := [(legKey 0x5800 0x00, some [2]), (legKey 0x5811 0x03, some [10, 0, 0, 1])] }

/-- An Announce of a clock class from a sender. -/
def announceA (cls : Nat) (sender : Byte) : AnnounceMsg :=
  { port := 1, domain := BitVec.ofNat 8 (legNat (ptpS {}).dev 0x5800 0x01), priority1 := 128, clockClass := cls, accuracy := 0, variance := 0, priority2 := 128, identity := zeros 8, steps := 0, sender := sender :: zeros 9, logInterval := 1 }

theorem test_announce : AnnounceHeard (ptpS { st := .listening }) (announceA 6 1) ∧ does (.announce 0 (announceA 6 1)) (ptpS { st := .listening }) (fun d => decide (d.eth.ptp.st = .uncalibrated) && decide (d.eth.ptp.master = some (announceOf (announceA 6 1))) &&
      decide (d.eth.ptp.announceEvery = 16000 * nominalT d) && decide (d.eth.ptp.syncEvery = 8000 * nominalT d)) = true := by
  unfold AnnounceHeard; decide +kernel

theorem test_announce_better : rankBefore (announceRank (announceOf (announceA 6 2))) (announceRank (announceOf (announceA 7 1))) = true ∧
    does (.announce 0 (announceA 6 2)) (ptpS { st := .slave, master := some (announceOf (announceA 7 1)) }) (fun d => decide (d.eth.ptp.st = .uncalibrated) && decide (d.eth.ptp.master = some (announceOf (announceA 6 2)))) = true ∧
    passes (.announce 0 (announceA 8 2)) (ptpS { st := .slave, master := some (announceOf (announceA 7 1)) }) 0 = true ∧
    does (.announce 0 (announceA 8 1)) (ptpS { st := .slave, master := some (announceOf (announceA 7 1)) }) (fun d => decide (d.eth.ptp = { st := .slave, master := some (announceOf (announceA 8 1)), announceEvery := 16000 * nominalT d })) = true := by decide +kernel

theorem test_announce_unheard : ¬ AnnounceHeard (ptpS {}) (announceA 6 1) ∧ passes (.announce 0 (announceA 6 1)) (ptpS {}) 0 = true := by
  unfold AnnounceHeard; decide +kernel

/-- SLAVE of that master. -/
def slave : Ptp := { st := .slave, master := some (announceOf (announceA 7 1)), stepped := true }

/-- A Sync of a sender with an interval. -/
def syncA (sender : Byte) (log : BitVec 8) : SyncFrom := { identity := sender :: zeros 9, domain := (announceA 7 1).domain, logInterval := log }

theorem test_sync : SyncOfMaster (ptpS slave) 1 (syncA 1 0) ∧ ¬ SyncOfMaster (ptpS slave) 1 (syncA 2 0) ∧ does (.sync 0 1 (syncA 1 0xFD) 1000 1500) (ptpS slave) (fun d => decide (d.eth.ptp.sync.map (·.1) = some 1000) && decide (d.eth.ptp.syncEvery = 1000 * nominalT d) && decide (d.eth.ptp.seq = 1) && (match d.wire with
      | [.eth 1 _] => true
      | _ => false)) = true ∧ passes (.sync 0 1 (syncA 2 0) 1000 1500) (ptpS slave) 0 = true ∧ passes (.sync 0 1 { syncA 1 0 with domain := 99 } 1000 1500) (ptpS slave) 0 = true ∧
    passes (.sync 0 1 (syncA 1 0) 1000 1500) asleepEth 0 = true ∧ passes (.announce 0 (announceA 6 1)) asleepEth 0 = true ∧ passes (.delayResp 0 1 2) (ptpS slave) 0 = true := by unfold SyncOfMaster; decide +kernel

/-- A Sync kept and a response that give an offset of `off` and a path delay of 100. -/
def respond (p : Ptp) (off : Int) (f : Ptp → Bool) : Bool :=
  does (.delayResp 0 2000 (2000 - off + 100)) (ptpS { p with sync := some (1000, 1100 + off) }) fun d => decide (d.eth.ptp.sync = none) && f d.eth.ptp

theorem test_delay_resp : latency (ptpS {}).dev 1 0x0F = 0 ∧ respond slave 50 (fun p => decide (p.offsetNs = 50) && decide (p.meanDelayNs = 100) && decide (p.st = .slave) && decide (p.bad = 0)) = true ∧
    respond { slave with bad := 2 } 10001 (fun p => decide (p.bad = 3) && decide (p.st = .slave)) = true ∧ respond { slave with bad := 3 } 10001 (fun p => decide (p.st = .uncalibrated)) = true := by decide +kernel

theorem test_delay_resp_uncalibrated : respond { slave with st := .uncalibrated, stepped := false, good := 3 } 5000 (fun p => p.stepped && decide (p.st = .uncalibrated) && decide (p.good = 3)) = true ∧
    respond { slave with st := .uncalibrated, good := 3 } 1001 (fun p => decide (p.good = 0) && decide (p.st = .uncalibrated)) = true ∧
    respond { slave with st := .uncalibrated, good := 14 } 1000 (fun p => decide (p.good = 15) && decide (p.st = .uncalibrated)) = true ∧
    respond { slave with st := .uncalibrated, good := 15 } (-1000) (fun p => decide (p.st = .slave)) = true := by decide +kernel

/-- A slave that last heard an Announce and a Sync so long ago, each due every 100 clock units. -/
def heard (a y : Int) : State := ptpS { slave with announceAt := -a, announceEvery := 100, syncAt := -y, syncEvery := 100 }

/-- Three Announce intervals or four Sync intervals end the master. -/
theorem test_ptp_timeout : ([heard 300 0, heard 0 400].all fun s => does (.ptpTimeout 0) s fun d => decide (d.eth.ptp.st = .listening) && decide (d.eth.ptp.master = none)) = true ∧
    passes (.ptpTimeout 0) (heard 299 399) 0 = true ∧ passes (.ptpTimeout 0) (ptpS { st := .listening }) 0 = true := by decide +kernel

theorem test_ptp_epoch : does (.ptpEpochOffset 0 1000) (ptpS slave) (fun d => decide (legVal d 0x2000 0x10 = be 8 1000) && decide (tabGet 0 d.changes 0x200010 = 1) && decide (d.grat.runPtp.delta = -33) && decide (d.grat.runPtp.last = -1)) = true := by decide +kernel

/-! ## Security engines -/

/-- A ready device with jobs and key slots, at tick 4. -/
def secS (jobs : Tab Job) (slots : Tab KeySlot) : State := st { grat := { everLocked := true, tick := 4 }, start := { stage := .ready }, sec := { jobs := jobs, slots := slots, submissions := 6 } }

theorem test_security_tables : SecurityTables (secS [(3, { st := .queued })] [(9, { installs := 2 })]) ∧ OpenForWrites (secS [] []) 0 0x7020 3 ∧ OpenForWrites (secS [] []) 0 0x7000 0x0B := by
  unfold SecurityTables OpenForWrites; decide +kernel

/-- The submission queues job 3 so. -/
def queues (c : Instr) (op cls : Byte) (input : Bytes) : Bool :=
  does c (secS [] []) fun d => decide (d.job 3 = { op := op, st := .queued, cls := cls, inLen := input.length, input := input, submitted := 4 * 4096, order := 7 })

theorem test_verify_queues : queues (.ed25519Verify 0 3 (zeros 96)) 1 0 (zeros 96) = true ∧ queues (.p256Verify 0 3 (zeros 128)) 2 0 (zeros 128) = true ∧ queues (.p384Verify 0 3 (zeros 192)) 3 1 (zeros 192) = true ∧
    queues (.rsaVerify 0 3 (zeros 8)) 4 1 (zeros 8) = true ∧ queues (.attest 0 3 (zeros 32)) 0x11 2 (zeros 32) = true ∧ queues (.agree 0 3 (zeros 1240)) 0x10 2 (zeros 1240) = true := by decide +kernel

/-- The submission ends job 3 with result 3. -/
def tooShort (c : Instr) : Bool := does c (secS [] []) fun d => decide ((d.job 3).st = .failed) && decide ((d.job 3).result = 3) && decide ((d.job 3).inLen = 1)

theorem test_short_jobs : ([Instr.ed25519Verify 0 3 [1], .p256Verify 0 3 [1], .p384Verify 0 3 [1], .rsaVerify 0 3 [1], .mldsa65Verify 0 3 [1], .agree 0 3 [1], .attest 0 3 [1]].all fun c => tooShort c) = true ∧
    ([Instr.ed25519Verify 0 3 [1], .p256Verify 0 3 [1], .p384Verify 0 3 [1], .rsaVerify 0 3 [1], .mldsa65Verify 0 3 [1], .agree 0 3 [1], .attest 0 3 [1]].all fun c => passes c (secS [(3, { st := .running })] []) 0) = true := by decide +kernel

theorem test_job_free : does (.jobFree 0 3) (secS [(3, { st := .done, aborting := true, result := 1 })] []) (fun d => decide (d.job 3 = { aborting := true })) = true ∧ passes (.jobFree 0 3) (secS [(3, { st := .queued })] []) 0 = true := by decide +kernel

/-- A queued attestation. -/
def attestJob (s : JobState) : Job := { op := 0x11, st := s, cls := 2, inLen := 32, input := zeros 32, order := 5 }

theorem test_job_start : engineJob (secS [(3, attestJob .queued)] []).dev = none ∧ nextJob (secS [(3, attestJob .queued)] []).dev = some 3 ∧ jobInputOk 0x11 (zeros 32) = true ∧
    does (.jobStart 0) (secS [(3, attestJob .queued)] []) (fun d => decide (d.job 3 = { attestJob .running with started := 4 * 4096 })) = true ∧
    does (.jobStart 0) (secS [(3, attestJob .suspended)] []) (fun d => decide (d.job 3 = { attestJob .running with runsFrom := 79626 })) = true ∧ passes (.jobStart 0) (secS [(3, attestJob .running)] []) 0 = true ∧
    passes (.jobStart 0) (st { (secS [(3, attestJob .queued)] []).dev with sec := { (secS [(3, attestJob .queued)] []).dev.sec with engineFree := 1 } }) 0 = true := by decide +kernel

theorem test_job_start_fails : jobInputOk 0x10 (zeros 1240) = false ∧ does (.jobStart 0) (secS [(3, { op := 0x10, st := .queued, cls := 2, input := zeros 1240 })] []) (fun d =>
      decide (d.job 3 = { op := 0x10, st := .failed, cls := 2, input := zeros 1240, started := 4 * 4096, ended := 4 * 4096, result := 3 })) = true := by decide +kernel

theorem test_yield_station : engineJob (secS [(3, attestJob .running)] []).dev = some 3 ∧ does (.yieldStation 0) (secS [(3, { attestJob .aborted with aborting := true })] []) (fun d => decide (d.job 3 = attestJob .aborted)) = true ∧
    does (.yieldStation 0) (secS [(3, { attestJob .running with runsFrom := -500, ran := 7 }), (4, { st := .queued, cls := 1 })] []) (fun d => decide (d.job 3 = { attestJob .suspended with runsFrom := -500, ran := 507 }) && decide (d.sec.engineFree = 79626)) = true ∧
    passes (.yieldStation 0) (secS [(3, attestJob .running), (4, { st := .queued, cls := 2 })] []) 0 = true ∧ passes (.yieldStation 0) (secS [] []) 0 = true ∧ passes (.jobComplete 0 true) (secS [] []) 0 = true := by decide +kernel

theorem test_job_complete : does (.jobComplete 0 true) (secS [(3, attestJob .running)] []) (fun d => decide (d.job 3 = { attestJob .failed with result := 4, ended := 4 * 4096 })) = true ∧
    does (.jobComplete 0 true) (secS [(3, { attestJob .aborted with aborting := true, ended := 5 })] []) (fun d => decide (d.job 3 = { attestJob .aborted with ended := 5 })) = true ∧
    does (.jobComplete 0 true) (secS [(3, { attestJob .aborted with aborting := true, ended := 4 * 4096 })] []) (fun d => decide ((d.job 3).st = .abortLate) && !(d.job 3).aborting) = true ∧
    engineJob (secS [(3, { op := 1, st := .running, input := zeros 96 })] []).dev = some 3 ∧ beAt 1 1 (([0, 1, 1, 0] : Bytes) ++ zeros 1236) = 1 := by decide +kernel

/-- An Ed25519 verify runs 70 µs. -/
theorem test_job_time : let j : Job := { op := 1, st := .running, input := zeros 96, runsFrom := -11147673 }
    jobRunOver (secS [] []).dev j = false ∧ passes (.jobComplete 0 false) (secS [(3, j)] []) 0 = true ∧ jobRunOver (secS [] []).dev { j with ran := 1 } = true := by decide +kernel

theorem test_job_abort : does (.jobAbort 0 3) (secS [(3, attestJob .queued)] []) (fun d => decide (d.job 3 = { attestJob .aborted with ended := 4 * 4096 })) = true ∧
    does (.jobAbort 0 3) (secS [(3, attestJob .running)] []) (fun d => decide (d.job 3 = { attestJob .aborted with ended := 4 * 4096, aborting := true })) = true ∧
    does (.jobAbort 0 3) (secS [(3, attestJob .done)] []) (fun d => decide (d.job 3 = attestJob .abortLate)) = true ∧ does (.jobAbort 0 3) (secS [] []) (fun d => decide (d.sec = (secS [] []).dev.sec)) = true := by decide +kernel

/-! Key slots and fuses -/

theorem test_key_overlap : does (.keyOverlapEnd 0 9) (secS [] [(9, { installs := 2, prev := some ([1], 0x4000) })]) (fun d => decide (d.keySlot 9 = { installs := 2 })) = true ∧
    passes (.keyOverlapEnd 0 9) (secS [] [(9, { installs := 2, prev := some ([1], 0x5000) })]) 0 = true ∧ passes (.keyOverlapEnd 0 9) (secS [] []) 0 = true := by decide +kernel

theorem test_key_erase : OpenForWrites (secS [] []) 0 0x7000 0x0A ∧ OpenForWrites (secS [] []) 0 0x7000 0x07 ∧ OpenForWrites (secS [] []) 0 0x7000 0x08 ∧
    does (.keyErase 0 9) (secS [] [(9, { installs := 2, cur := some [1], uses := 3 })]) (fun d => decide (d.keySlot 9 = { installs := 2 })) = true := by
  unfold OpenForWrites; decide +kernel

/-- The command burns fuses. -/
def burns (c : Instr) (s : State) (f : Fuses) : Bool :=
  match exec c s with
  | .next t => decide (t.fuses = f) && decide (t.pending = s.pending) && decide (t.dev.sec = s.dev.sec)
  | _ => false

/-- The running image is of version 5, signed by key set 1; the floor is 3. -/
def fuseS : State := { (secS [] []) with fuses := { floor := 3, revoked := 8 }, dev := { (secS [] []).dev with sec := { imageVersion := 5, keyset := 1 } } }

theorem test_raise_floor : burns (.raiseFloor 0 5) fuseS { floor := 5, revoked := 8 } = true ∧ passes (.raiseFloor 0 4) fuseS 0 = true ∧ passes (.raiseFloor 0 5) { fuseS with fuses := { floor := 5 } } 0 = true := by decide +kernel

theorem test_revoke_keyset : burns (.revokeKeyset 0 2) fuseS { floor := 3, revoked := 12 } = true ∧ passes (.revokeKeyset 0 1) fuseS 0 = true ∧ passes (.revokeKeyset 0 4) fuseS 0 = true := by decide +kernel

/-! ## Writes and transactions -/

/-- A ready device with transaction records and Legend values, at tick 4. -/
def txnS (t : Tab Txn) (l : Tab (Option Bytes)) : State := st { grat := { everLocked := true, tick := 4 }, start := { stage := .ready }, ez := { txns := t, nextTxn := 9, commitOrder := 6 }, legend := l }

/-- An open transaction, number 5, of no owner's key slot. -/
def openTxn : Txn := { st := .open_, owner := 0xFF, number := 5, idle := 7 }

theorem test_before_config : ezithExecutes (st {}).dev = false ∧ ([Instr.write 0 0 5 0x5400 4 false 0 [1, 0], .begin_ 0 0, .commit 0 0 5 0, .rollback 0 0 5, .registerWrite 0 0x5400 4 false 0 [1, 0]].all fun c => passes c (st {}) 0) = true := by decide +kernel

theorem test_begin : LegendTables (txnS [(0, openTxn)] []) ∧ beginRecord (txnS [(0, openTxn)] []).dev = some 1 ∧
    does (.begin_ 0 0) (txnS [(0, openTxn)] []) (fun d => decide (d.txn 1 = { st := .open_, owner := 0xFF, number := 9, beginAt := 4 * 4096 }) && decide (d.txn 0 = openTxn) && decide (d.ez.nextTxn = 10)) = true ∧
    beginRecord (txnS ((List.range 16).map fun r => (r, openTxn)) []).dev = none ∧ passes (.begin_ 0 0) (txnS ((List.range 16).map fun r => (r, openTxn)) []) 0 = true := by
  unfold LegendTables; decide +kernel

theorem test_write : OpenTxn (txnS [(2, openTxn)] []) 0 5 2 ∧ PlainEntry 0x5400 4 ∧ stagedOf openTxn (legKey 0x5400 4) = none ∧
    checkWrite {} (txnS [(2, openTxn)] []).dev true 0x5400 4 false 0 [1, 0] (entryValue {} (txnS [(2, openTxn)] []).dev 0x5400 4) = (.ok, [1, 0]) ∧
    does (.write 0 0 5 0x5400 4 false 0 [1, 0]) (txnS [(2, openTxn)] []) (fun d => decide (d.txn 2 = { openTxn with idle := 0, staged := [⟨legKey 0x5400 4, [1, 0], 0⟩] }) && decide (d.legend = [])) = true := by
  unfold OpenTxn PlainEntry; decide +kernel

theorem test_register_write : locked (txnS [] []).dev none (legKey 0x5400 4) = false ∧ brokenKeys ((txnS [] []).dev.at 0) [(legKey 0x5400 4, [1, 0])] = [] ∧
    does (.registerWrite 0 0x5400 4 false 0 [1, 0]) (txnS [] []) (fun d => decide (legVal d 0x5400 4 = [1, 0]) && decide (tabGet 0 d.changes (legKey 0x5400 4) = 1)) = true ∧
    entryRow 0x5400 0x77 = none ∧ passes (.registerWrite 0 0x5400 0x77 false 0 [1]) (txnS [] []) 0 = true := by decide +kernel

theorem test_register_locked : locked (txnS [(2, { openTxn with st := .committing, staged := [⟨legKey 0x5400 4, [1, 0], 0⟩] })] []).dev none (legKey 0x5400 4) = true ∧
    passes (.registerWrite 0 0x5400 4 false 0 [1, 0]) (txnS [(2, { openTxn with st := .committing, staged := [⟨legKey 0x5400 4, [1, 0], 0⟩] })] []) 0 = true := by decide +kernel

theorem test_commit : ((6 : BitVec 48) - 4).toNat = 2 ∧ does (.commit 0 0 5 6) (txnS [(2, openTxn)] []) (fun d => decide (d.txn 2 = { openTxn with st := .pending, idle := 0, t0 := 6 * 4096, commitOrder := 7 })) = true ∧
    does (.commit 0 0 5 0x800005) (txnS [(2, openTxn)] []) (fun d => decide (d.txn 2 = { openTxn with idle := 0 })) = true := by decide +kernel

theorem test_rollback : does (.rollback 0 0 5) (txnS [(2, { openTxn with staged := [⟨legKey 0x5400 4, [1, 0], 0⟩] })] []) (fun d => decide (d.txn 2 = { openTxn with st := .rolledBack, endAt := 4 * 4096 }) && decide (d.ez.rollbacks = 1)) = true := by decide +kernel

/-- A pending transaction due now that writes 256 to ASSEMBLY_TICKS, staged at a change count. -/
def dueTxn (count : Nat) : Txn := { openTxn with st := .pending, t0 := 4 * 4096, staged := [⟨legKey 0x5400 4, [1, 0], count⟩] }

theorem test_commit_judgement : commitsDue ((txnS [(2, dueTxn 0)] []).dev.at 0) = [2] ∧ judge ((txnS [(2, dueTxn 0)] []).dev.at 0) 2 = none ∧
    does (.commitJudgement 0) (txnS [(2, dueTxn 0)] []) (fun d => decide ((d.txn 2).st = .committed) && decide ((d.txn 2).number = 5) && decide (legVal d 0x5400 4 = [1, 0])) = true ∧
    commitsDue ((txnS [] []).dev.at 0) = [] ∧ passes (.commitJudgement 0) (txnS [] []) 0 = true := by decide +kernel

theorem test_commit_fails : judge ((txnS [(2, dueTxn 1)] []).dev.at 0) 2 = some (legKey 0x5400 4, reasonChanged) ∧
    does (.commitJudgement 0) (txnS [(2, dueTxn 1)] []) (fun d => decide ((d.txn 2).st = .failed) && decide ((d.txn 2).failIndex = 0x5400) && decide ((d.txn 2).failSub = 4) && decide ((d.txn 2).reason = reasonChanged) && decide (d.ez.conflicts = 1)) = true := by decide +kernel

theorem test_revert : revertDue ((txnS [(2, { openTxn with st := .rollingBack, rollAt := 0x3000 })] []).dev.at 0) 2 = true ∧
    does (.rollbackRevert 0 2) (txnS [(2, { openTxn with st := .rollingBack, rollAt := 0x3000 })] []) (fun d => decide ((d.txn 2).st = .rolledBack) && (d.txn 2).reverted) = true ∧
    passes (.rollbackRevert 0 2) (txnS [(2, { openTxn with st := .rollingBack, rollAt := 0x4000 })] []) 0 = true := by decide +kernel

theorem test_idle_rollback : 7 < legNat (txnS [] []).dev 0xA000 0x04 ∧ passes (.txnIdleRollback 0 2) (txnS [(2, openTxn)] []) 0 = true ∧
    does (.txnIdleRollback 0 2) (txnS [(2, { openTxn with idle := legNat (txnS [] []).dev 0xA000 0x04 })] []) (fun d => decide ((d.txn 2).st = .rolledBack) && decide ((d.txn 2).reason = 4) && decide (d.ez.rollbacks = 1)) = true := by decide +kernel

/-! ## Ezith -/

/-- A message of a kind with sequence number `seq` and a body; no authentication while EZITH_OPEN. -/
def ezMsg (kind seq : Nat) (body : Bytes) : Bytes := be 2 0x5A45 ++ [1] ++ be 1 kind ++ [0, 0] ++ be 2 (48 + body.length) ++ be 4 seq ++ be 4 0 ++ zeros 16 ++ body ++ zeros 16

/-- One READ of ASSEMBLY_TICKS. -/
def readOp : Bytes := [1, 0] ++ be 2 0x5400 ++ [4, 0] ++ be 2 2 ++ be 4 0

/-- A ready device with kept replies and subscribers. -/
def ezS (kept : Tab (Option Kept)) (subs : Tab Subscriber) : State := st { grat := { everLocked := true, tick := 40 }, start := { stage := .ready }, ez := { kept := kept, subs := subs } }

theorem test_ezith_unserved : ezServed (st {}).dev .xgem = false ∧ does (.ezithRequest 0 .xgem [1]) (st { handed := [.ezith .xgem [1]] }) (fun d => decide (d = {})) = true ∧
    ezHeaderOk (ezS [] []).dev .xgem 1 [1] = false ∧ passes (.ezithRequest 0 .xgem [1]) (ezS [] []) 0 = true ∧ passes (.eventAck 0 .xgem [1]) (ezS [] []) 0 = true := by decide +kernel

theorem test_ezith_accepted : EzithAccepted (ezS [] []) 0 .xgem 1 (ezMsg 1 7 readOp) ∧ (parseOps 128 readOp).map (fun l => l.map fun o => o.op) = some [1] ∧ ezHeaderOk (ezS [] []).dev .xgem 4 (ezMsg 4 7 []) = true := by
  unfold EzithAccepted; decide +kernel

theorem test_ezith_read : does (.ezithRequest 0 .xgem (ezMsg 1 7 readOp)) (ezS [] []) (fun d => decide ((tabGet none d.ez.kept 255).map (·.seq) = some 7) && decide (d.sched.mgmt.map (·.frame) = ((tabGet none d.ez.kept 255).map (·.reply)).toList)) = true := by decide +kernel

theorem test_ezith_again : does (.ezithRequest 0 .xgem (ezMsg 1 7 readOp)) (ezS [(255, some ⟨7, [1, 2]⟩)] []) (fun d => decide (d.sched.mgmt.map (·.frame) = [[1, 2]])) = true ∧
    seqAfter 6 (7 : BitVec 32) = false ∧ does (.ezithRequest 0 .xgem (ezMsg 1 6 readOp)) (ezS [(255, some ⟨7, [1, 2]⟩)] []) (fun d => decide (d.ez.staleRequests = 1) && decide (d.sched.mgmt.length = 0)) = true := by decide +kernel

/-- EZITH_OPEN ended, no key in slot 0. -/
def closedS : State := st { (ezS [] []).dev with sec := { ezithOpen := false } }

theorem test_ezith_fails : (ezAuth closedS.dev (ezMsg 1 7 readOp)).1 = .failed ∧ does (.ezithRequest 0 .xgem (ezMsg 1 7 readOp)) closedS (fun d => decide (d.ez.authFails = 1) && decide (d.ez.kept.length = 0)) = true := by decide +kernel

/-- The reply waits upstream as a management message. -/
def answers (d : Dev) (reply : Bytes) : Bool := decide (d.sched.mgmt.map (·.frame) = [reply]) && decide (d.wire = [])

/-- The same device in dormant. -/
def asleepS : State := st { (ezS [] []).dev with dormant := { st := .dormant } }

theorem test_read : does (.read 0 .xgem 0x5400 4 0 2) (ezS [] []) (fun d => answers d (replyRecord (readRecord 0x5400 4 0 2) .ok [0x02, 0x80])) = true ∧
    does (.read 0 .xgem 0x5400 4 1 2) (ezS [] []) (fun d => answers d (replyRecord (readRecord 0x5400 4 1 2) .range [])) = true ∧
    does (.read 0 .xgem 0x5400 0x77 0 2) (ezS [] []) (fun d => answers d (replyRecord (readRecord 0x5400 0x77 0 2) .noEntry [])) = true ∧
    does (.read 0 .xgem 0x7000 7 0 1) (ezS [] []) (fun d => answers d (replyRecord (readRecord 0x7000 7 0 1) .access [])) = true ∧ passes (.read 0 .xgem 0x5400 4 0 2) (st {}) 0 = true ∧
    passes (.read 0 .xgem 0x5400 4 0 2) asleepS 0 = true ∧
    does (.read 0 (.mgmt 9 7000) 0x5400 4 0 2) asleepS (fun d => decide (d = sendIp (asleepS.dev.at 0) 0 .ezith 9 (ipv4 0 9 17 64 [] (udp 0 9 6620 7000 (replyRecord (readRecord 0x5400 4 0 2) .dormant []))))) = true := by decide +kernel

/-- Subscriber 1 on the PON with key slot 0, and a queue or records in flight. -/
def subS (x : Subscriber) : State :=
  st { (ezS [] [(1, x)]).dev with legend := [(legKey 0xA020 1, some ([1, 0, 255, 3] ++ zeros 8))], sec := { slots := [(0, { cur := some (zeros 16), uses := BitVec.ofNat 8 (2 ^ useEzith) })] } }

theorem test_event_send : subPath (subS {}).dev 1 = some .xgem ∧ subKey (subS {}).dev 1 = some (zeros 16) ∧ eventsFlow (subS {}).dev = true ∧
    does (.eventSend 0 1) (subS { queue := (List.range 20).map fun k => [BitVec.ofNat 8 k], nextSeq := 5, lostFlag := true }) (fun d =>
      decide (d.sub 1 = { queue := [[16], [17], [18], [19]], nextSeq := 6, inFlight := some ((List.range 16).map fun k => [BitVec.ofNat 8 k], 5, true, 40 * 4096) })) = true ∧
    passes (.eventSend 0 1) (subS {}) 0 = true := by decide +kernel

theorem test_event_retry : reached ((subS {}).dev.at 0) (after 0 (legNat (subS {}).dev 0xA000 0x0C)) = false ∧ passes (.eventRetry 0 1) (subS { inFlight := some ([[1]], 5, false, 0) }) 0 = true ∧
    passes (.eventSend 0 1) (subS { queue := [[2]], inFlight := some ([[1]], 5, false, 0) }) 0 = true ∧ passes (.eventRetry 0 1) (subS {}) 0 = true ∧
    does (.eventRetry 0 1) (st { (subS { inFlight := some ([[1]], 5, false, 0) }).dev with grat := { everLocked := true, tick := 80000 } }) (fun d => decide (d.sub 1 = { inFlight := some ([[1]], 5, false, 80000 * 4096) })) = true := by decide +kernel

theorem test_event_ack : ackedSub (st { (subS { inFlight := some ([[1]], 7, false, 0) }).dev with sec := {} }).dev .xgem 0 7 = some 1 ∧
    does (.eventAck 0 .xgem (ezMsg 4 7 [])) (st { (subS { inFlight := some ([[1]], 7, false, 0) }).dev with sec := {} }) (fun d => decide (d.sub 1 = { acked := 7 })) = true := by decide +kernel

/-! ## The cadastre -/

/-- A ready device, mounted, channel 0 with 200 blocks of 4,096 octets, with objects and port 3 so, at tick 4. -/
def cadS (x : ObjPort) (os : List Object) : State :=
  st { grat := { everLocked := true, tick := 4 }, start := { stage := .ready }
       cad := { mounted := true, objects := os, ports := [(3, x)], channels := [(0, { targets := 1, blocks := 200 })], blockBytes := 4096 } }

/-- Object 77 of a kind and state with these octets. -/
def obj (kind : Byte) (s : ObjState) (size : Nat) (b : Bytes) : Object := { id := 77, kind := kind, st := s, size := size, sealAt := 0, digest := 0, bytes := b, lost := [] }

/-- The command ends port 3 FAILED with a result, and touches no object. -/
def fails (c : Instr) (s : State) (result : Byte) : Bool :=
  does c s fun d => decide ((d.objPort 3).st = .failed) && decide ((d.objPort 3).result = result) && decide ((d.objPort 3).endAt = 4 * 4096) && decide (d.cad.objects = s.dev.cad.objects) && decide (d.cad.journal = [])

theorem test_cadastre_tables : tabWf {} (cadS { pos := 1 } []).dev.cad.ports = true ∧ tabWf {} (cadS {} []).dev.cad.channels = true ∧ tabWf {} (channelOf (cadS {} []).dev 0).parcels = true ∧
    OpenForWrites (cadS {} []) 0 0x7810 3 ∧ OpenForWrites (cadS {} []) 0 0x7811 3 ∧ OpenForWrites (cadS {} []) 0 0x7812 3 := by
  unfold OpenForWrites; decide +kernel

theorem test_create : hasSpace (cadS {} []).dev 100 = true ∧ does (.create 0 3 3 77 100) (cadS {} []) (fun d => decide (d.objPort 3 = { st := .writing, lastOp := 1, object := 77 }) &&
      decide ((objectOf d 77).map (fun o => (o.st, o.kind, o.size, o.bytes)) = some (.writing, 3, 100, [])) && decide (d.cad.journal = [.create 77])) = true ∧ passes (.create 0 3 3 77 100) (cadS { st := .busy } []) 0 = true ∧
    fails (.create 0 3 3 77 100) (cadS {} [obj 3 .sealed 100 []]) 1 = true ∧ hasSpace (cadS {} []).dev (2 ^ 40) = false ∧ fails (.create 0 3 3 77 0x10000000000) (cadS {} []) 2 = true := by decide +kernel

/-- The same while EWARN stops programs. -/
def stopS (x : ObjPort) (os : List Object) : State := st { (cadS x os).dev with cad := { (cadS x os).dev.cad with stopping := true } }

/-- A firmware-data object being written, whose pointer is not at its end. -/
theorem test_seal : passes (.seal 0 3 []) (cadS {} []) 0 = true ∧ sealOutcome {} 1 (zeros 32) (obj 3 .writing 2 [1]) = 4 ∧
    does (.seal 0 3 (zeros 32)) (cadS { st := .writing, object := 77, pos := 1, buffered := 1 } [obj 3 .writing 2 [1]]) (fun d => decide ((d.objPort 3).st = .busy) && decide ((d.objPort 3).lastOp = 2) && decide ((d.objPort 3).outcome = 4) &&
      decide ((d.objPort 3).buffered = 0) && decide (d.cad.closing = []) && decide (d.cad.journal = [.alloc 0 0]) && decide ((parcelOf d 0 0).pages = [⟨0, 0⟩])) = true ∧
    does (.seal 0 3 (sha3_256 [1])) (cadS { st := .writing, object := 77, pos := 1, buffered := 1 } [obj 3 .writing 1 [1]]) (fun d => decide ((d.objPort 3).outcome = 0) && decide (d.cad.closing = [3])) = true ∧
    does (.seal 0 3 (zeros 32)) (stopS { st := .writing, object := 77, pos := 1, buffered := 1 } [obj 3 .writing 2 [1]]) (fun d => decide ((d.objPort 3).buffered = 1) && decide (d.cad.journal = [])) = true := by decide +kernel

theorem test_open : fails (.open_ 0 3 77) (cadS {} []) 8 = true ∧ fails (.delete 0 3 77) (cadS {} []) 8 = true ∧
    does (.open_ 0 3 77) (cadS {} [obj 3 .sealed 2 [1, 2]]) (fun d => decide (d.objPort 3 = { st := .reading, lastOp := 3, object := 77 })) = true := by decide +kernel

theorem test_delete : inUse (cadS {} [obj 3 .sealed 2 [1, 2]]).dev 77 = false ∧ does (.delete 0 3 77) (cadS {} [obj 3 .sealed 2 [1, 2]]) (fun d => decide (d.objPort 3 = { st := .busy, lastOp := 5, object := 77 }) &&
      decide (d.cad.journal = [.delete 3]) && decide (d.cad.objects.length = 1)) = true := by decide +kernel

/-- The same with the object the SHEET of partition 7. -/
def usedS : State := st { (cadS {} [obj 2 .sealed 2 [1, 2]]).dev with legend := [(legKey 0x3007 0x0A, some (be 8 77))] }

theorem test_delete_in_use : inUse usedS.dev 77 = true ∧ fails (.delete 0 3 77) usedS 7 = true := by decide +kernel

theorem test_close : does (.close 0 3) (cadS { st := .reading, object := 77 } []) (fun d => decide (d.objPort 3 = { st := .idle, lastOp := 4, object := 77, endAt := 4 * 4096 })) = true ∧ passes (.close 0 3) (cadS {} []) 0 = true := by decide +kernel

/-- The same with a page of partition 7. -/
def pagesS : State := st { (cadS {} [obj 3 .sealed 128 (zeros 128)]).dev with parts := [(7, { pages := [0] })] }

theorem test_load : does (.load 0 3 77 7 0 0 64) pagesS (fun d => decide (d.objPort 3 = { st := .busy, lastOp := 6, object := 77, partition := 7, length := 64 })) = true ∧
    fails (.load 0 3 77 7 1 0 64) pagesS 10 = true ∧ fails (.load 0 3 77 7 0 128 64) pagesS 10 = true := by decide +kernel

/-- The same with a complete checkpoint of beat 8. -/
def ckptS : State := st { (cadS {} []).dev with parts := [(7, { ckpt1 := some { instant := 0, beat := 8, complete := true, strips := [] } })] }

theorem test_archive : fails (.archive 0 3 77 7) (cadS {} []) 8 = true ∧ hasSpace ckptS.dev (4096 + partNat ckptS.dev 7 0x05 * pageBytes) = true ∧
    does (.archive 0 3 77 7) ckptS (fun d => decide (d.objPort 3 = { st := .busy, lastOp := 7, object := 77, partition := 7, ckptBeat := 8 }) && decide (d.cad.journal = [.create 77]) && decide (d.cad.closing = [3]) && (objectOf d 77).isSome) = true := by decide +kernel

theorem test_port_abort : does (.portAbort 0 3) (cadS { st := .writing, object := 77 } [obj 3 .writing 2 [1]]) (fun d => decide ((d.objPort 3).st = .aborted) && decide ((d.objPort 3).result = 0) && decide (d.cad.objects = [])) = true ∧
    does (.portAbort 0 3) (cadS { st := .reading, object := 77 } [obj 3 .sealed 2 [1, 2]]) (fun d => decide ((d.objPort 3).st = .aborted) && decide (d.cad.objects.length = 1)) = true ∧ passes (.portAbort 0 3) (cadS {} []) 0 = true := by decide +kernel

/-- The same with port 3's SEAL or ARCHIVE running. -/
def closingS (x : ObjPort) (os : List Object) : State := st { (cadS x os).dev with cad := { (cadS x os).dev.cad with closing := [3] } }

/-- A busy port's operation is undone: a DELETE, a SEAL, a LOAD and an ARCHIVE. -/
theorem test_port_abort_busy : let o := obj 3 .sealed 128 (zeros 128)
    does (.portAbort 0 3) (st { (cadS { st := .busy, lastOp := 5, object := 77 } [o]).dev with cad := { (cadS { st := .busy, lastOp := 5, object := 77 } [o]).dev.cad with journal := [.delete 3] } })
      (fun d => decide ((d.objPort 3).st = .aborted) && decide (d.cad.objects = [o]) && decide (d.cad.journal = [])) = true ∧
    does (.portAbort 0 3) (closingS { st := .busy, lastOp := 2, object := 77 } [obj 3 .writing 2 [1, 2]]) (fun d => decide ((d.objPort 3).st = .aborted) && decide (d.cad.objects = []) && decide (d.cad.closing = [])) = true ∧
    does (.portAbort 0 3) (cadS { st := .busy, lastOp := 7, object := 77 } [obj 4 .writing 2 []]) (fun d => decide ((d.objPort 3).st = .aborted) && decide (d.cad.objects = [])) = true ∧
    does (.portAbort 0 3) (cadS { st := .busy, lastOp := 6, object := 78, length := 64 } [o]) (fun d => decide ((d.objPort 3).st = .aborted) && decide (d.cad.objects = [o])) = true := by decide +kernel

/-- A completion at the abort's own stamp stands, and the abort ends with ABORT_LATE. -/
theorem test_port_abort_late : let x : ObjPort := { st := .aborted, lastOp := 8, object := 77, undone := some (5, none), endAt := 4 * 4096 }
    does (.portOperationComplete 0 3) (cadS x []) (fun d => decide ((d.objPort 3).st = .abortLate) && decide ((d.objPort 3).lastOp = 8) && decide ((d.objPort 3).undone = none)) = true ∧
    passes (.portOperationComplete 0 3) (cadS { x with endAt := 4 * 4096 - 1 } []) 0 = true := by decide +kernel

theorem test_port_data : does (.portData 0 3 [8, 9]) (cadS { st := .writing, object := 77, pos := 1, buffered := 1 } [obj 3 .writing 3 [7]]) (fun d => decide (d.objPort 3 = { st := .writing, object := 77, pos := 3, buffered := 3 }) &&
      decide ((objectOf d 77).map (·.bytes) = some [7, 8, 9])) = true ∧ passes (.portData 0 3 [8, 9]) (cadS { st := .writing, object := 77, pos := 1 } [obj 3 .writing 2 [7]]) 0 = true ∧
    passes (.portData 0 3 [8, 9]) (cadS { st := .writing, object := 77, pos := 1, buffered := pageBytes - 1 } [obj 3 .writing 30 [7]]) 0 = true := by decide +kernel

theorem test_port_pos : does (.portPos 0 3 2) (cadS { st := .reading, object := 77 } [obj 3 .sealed 2 [1, 2]]) (fun d => decide (d.objPort 3 = { st := .reading, object := 77, pos := 2 })) = true ∧
    passes (.portPos 0 3 3) (cadS { st := .reading, object := 77 } [obj 3 .sealed 2 [1, 2]]) 0 = true ∧ passes (.portPos 0 3 0) (cadS {} []) 0 = true := by decide +kernel

theorem test_operation_complete : passes (.portOperationComplete 0 3) (cadS {} []) 0 = true ∧ passes (.journalRecordProgrammed 0) (cadS {} []) 0 = true ∧
    does (.portOperationComplete 0 3) (cadS { st := .busy, lastOp := 2, outcome := 4, object := 77 } [obj 3 .writing 2 [1]]) (fun d => decide ((d.objPort 3).st = .failed) && decide ((d.objPort 3).result = 4) && decide (d.cad.objects = [])) = true ∧
    does (.portOperationComplete 0 3) (cadS { st := .busy, lastOp := 5, object := 77 } [obj 3 .sealed 2 [1, 2]]) (fun d => decide ((d.objPort 3).st = .done) && decide (d.cad.objects = [])) = true := by decide +kernel

theorem test_seal_complete : does (.portOperationComplete 0 3) (cadS { st := .busy, lastOp := 2, object := 77, digest := 5 } [obj 3 .writing 2 [1, 2]]) (fun d => decide ((d.objPort 3).st = .done) &&
      decide (d.cad.objects = [{ obj 3 .sealed 2 [1, 2] with sealAt := 4 * 4096, digest := 5 }])) = true ∧
    does (.portOperationComplete 0 3) (cadS { st := .busy, lastOp := 6, object := 77, length := 64 } [obj 3 .sealed 2 [1, 2]]) (fun d => decide ((d.objPort 3).st = .done) && decide ((d.objPort 3).result = 0)) = true := by decide +kernel

theorem test_journal_seal : does (.journalRecordProgrammed 0) (closingS { st := .busy, lastOp := 2, object := 77, digest := 5 } [obj 3 .writing 2 [1, 2]])
    (fun d => decide ((d.objPort 3).st = .done) && decide ((objectOf d 77).map (·.st) = some .sealed) && decide (d.cad.closing = []) && !d.cad.cleanStop) = true ∧
    passes (.portOperationComplete 0 3) (stopS { st := .busy, lastOp := 2, object := 77 } [obj 3 .writing 2 [1, 2]]) 0 = true ∧ passes (.journalRecordProgrammed 0) (stopS {} []) 0 = true := by decide +kernel

/-- A DELETE's record makes its change; one of a CREATE or a parcel changes nothing else. -/
theorem test_journal_records : let s : List JournalRec → State := fun j => st { (cadS { st := .busy, lastOp := 5, object := 77 } [obj 3 .sealed 2 [1, 2]]).dev with cad := { (cadS { st := .busy, lastOp := 5, object := 77 } [obj 3 .sealed 2 [1, 2]]).dev.cad with journal := j } }
    does (.journalRecordProgrammed 0) (s [.delete 3, .alloc 0 1]) (fun d => decide ((d.objPort 3).st = .done) && decide (d.cad.objects = []) && decide (d.cad.journal = [.alloc 0 1]) && !d.cad.cleanStop) = true ∧
    ([JournalRec.create 77, .alloc 0 1, .retire 0 1].all fun r => does (.journalRecordProgrammed 0) (s [r, .delete 3]) fun d => decide (d.cad = { (s [.delete 3]).dev.cad with cleanStop := false })) = true := by decide +kernel

/-! Flash -/

/-- Channel 0 with four blocks: block 0 of object 77 erased 5 times, block 1 free erased 9 times, block 2 of it erased 900 times, block 3 bad. -/
def flashS (journal : List JournalRec) : State :=
  st { (cadS {} [obj 3 .sealed 2 [1, 2]]).dev with cad := { (cadS {} [obj 3 .sealed 2 [1, 2]]).dev.cad with
    journal := journal, channels := [(0, { targets := 1, blocks := 4, parcels := [(0, { erases := 5, owner := some 77, pages := [⟨0, 1⟩, ⟨16384, 2⟩] }), (1, { erases := 9 }), (2, { erases := 900, owner := some 77 }), (3, { good := false })] })] } }

theorem test_patrol : passes (.patrolRead 0 0 4 1 false false) (flashS []) 0 = true ∧ passes (.patrolRead 0 0 0 1 false false) (st {}) 0 = true ∧
    does (.patrolRead 0 0 0 1 false true) (flashS []) (fun d => decide (d.cad.corrected = 1) && decide (d.cad.retried = 0) && decide (d.cad.patrolLast = 4 * 4096)) = true ∧
    rewriteTarget (flashS []).dev 0 0 77 = some 1 ∧ moving (flashS []).dev 0 0 = false ∧ does (.patrolRead 0 0 0 1 true false) (flashS []) (fun d => decide (d.cad.retried = 1) && decide (d.cad.journal = [.move 0 0 0 1 true]) && decide ((parcelOf d 0 1).erases = 10)) = true := by decide +kernel

theorem test_wear : leastErased (allCounts (flashS []).dev) = some ((0, 0), 5) ∧ mostErased (allCounts (flashS []).dev) = some ((0, 2), 900) ∧ wornMost (flashS []).dev = some (0, 1) ∧ passes (.wearRelocation 0 1) (flashS []) 0 = true ∧
    5 + cadNat (flashS []).dev 0x05 < 900 ∧ does (.wearRelocation 0 0) (flashS []) (fun d => decide (d.cad.journal = [.move 0 0 0 1 false]) && decide ((parcelOf d 0 1).erases = 10)) = true ∧ passes (.wearRelocation 0 0) (st {}) 0 = true := by decide +kernel

theorem test_move_programmed : does (.journalRecordProgrammed 0) (flashS [.move 0 0 0 1 true]) (fun d => decide ((parcelOf d 0 1).pages.map (·.offset) = [0, 16384]) && decide (d.cad.journal = []) && decide ((parcelOf d 0 0).owner = none) && decide ((parcelOf d 0 1).owner = some 77) &&
      decide ((parcelOf d 0 1).oldest = 4 * 4096) && decide (d.cad.refreshes = 1) && decide (d.cad.relocations = 0)) = true := by decide +kernel

theorem test_program_failure : does (.programFailure 0 0 0) (flashS []) (fun d => !(parcelOf d 0 0).good && decide ((parcelOf d 0 0).owner = none) && decide ((parcelOf d 0 1).owner = some 77) && decide ((parcelOf d 0 1).pages.map (·.offset) = [0, 16384]) &&
      decide (d.cad.journal = [.retire 0 0, .alloc 0 1])) = true ∧
    does (.programFailure 0 0 1) (flashS []) (fun d => !(parcelOf d 0 1).good && decide ((parcelOf d 0 1).owner = none)) = true ∧
    does (.programFailure 0 0 0) (st { (flashS []).dev with cad := { (flashS []).dev.cad with stopping := true } }) (fun d => decide ((parcelOf d 0 0).owner = some 77) && decide (d.cad.owed = [(0, 0)])) = true ∧ passes (.programFailure 0 0 3) (flashS []) 0 = true := by decide +kernel

theorem test_codeword : passes (.codewordReadRetry 0 0 78 0 true) (flashS []) 0 = true ∧ does (.codewordReadRetry 0 0 77 0 true) (flashS []) (fun d => decide (d.cad.retried = 1) && decide (d.cad.lost = 0)) = true ∧
    does (.codewordReadRetry 0 0 77 0 false) (flashS []) (fun d => decide (d.cad.lost = 1) && decide ((channelOf d 0).lost = 1) && decide ((objectOf d 77).map (fun o => (o.st, o.lost)) = some (.damaged, [0]))) = true := by decide +kernel

theorem test_ewarn_stop : does (.ewarnStop 0) (st { (flashS []).dev with sentry := { ewarn := true } }) (fun d => d.cad.stopping && d.cad.cleanStop && decide (d.cad.journal = [])) = true ∧ passes (.ewarnStop 0) (flashS []) 0 = true := by decide +kernel

theorem test_mount : does (.mount 0 [{ channel := 0, target := 0, answers := true, params := [1], bytes := 4096, blocks := 4, factoryBad := [], endurance := 9, mts := 1 }]) (st { part := { grade := 2 }, start := { stage := .mount }, cad := { cleanStop := false } })
      (fun d => decide (d.start.stage = .train) && d.cad.mounted && !d.cad.cleanStop && decide ((channelOf d 0).targets = 1) && decide (d.cad.unsafeStops = 1)) = true ∧ passes (.mount 0 []) (flashS []) 0 = true := by decide +kernel

/-! ## The sentry -/

/-- A sentry on a device at RAILS with stamps running at tick 4. -/
def senS (x : Sentry) : State := st { grat := { everLocked := true, tick := 4 }, start := { stage := .ready }, sentry := x }

/-- The command cuts the input off for the source. -/
def cuts (c : Instr) (s : State) (src : Byte) (warn : Bool) (stamp : BitVec 64) : Bool :=
  does c s fun d => decide (d.sentry.st = .backoff) && decide (d.sentry.ewarn = warn) && decide (d.sentry.trips.head? = some { source := src, stamp := stamp }) && decide (d.sentry.n = s.dev.sentry.n + 1) &&
    decide (d.quads = []) && decide (d.start.stage = .sentry) && decide (d.grat = {}) && decide (d.sentry.pg = false)

/-- A sample of 48 V in and out at 1 A. -/
def sample (vin vout : Nat) (iin : Int) : Sample := { vinMv := vin, voutMv := vout, gateMv := 12000, senseUv := iin / 2, pgLow := true, ewarnLow := false, svcHigh := [false, false, false] }

theorem test_sentry_tables : tabWf {} (senS {}).dev.faults.sources = true ∧ tabWf none (senS {}).dev.legend = true := by decide +kernel

theorem test_vin_qualified : does (.vinQualified 0) (senS { inRangeUs := 10000, restarts := 6 }) (fun d => decide (d.sentry.st = .starting) && decide (d.sentry.restarts = 7) && decide (d.sentry.inrush = { mode := 0, limitMa := 10000, powerW := 120, timerMs := 100 })) = true ∧
    passes (.vinQualified 0) (senS { inRangeUs := 9999 }) 0 = true := by decide +kernel

theorem test_start_complete : does (.startComplete 0) (senS { st := .starting, vinMv := 48000, voutMv := 47500, gateMv := 10500, ewarn := true }) (fun d => decide (d.sentry.st = .on) && decide (d.sentry.ewarn = false)) = true ∧
    passes (.startComplete 0) (senS { st := .starting, vinMv := 48000, voutMv := 47499, gateMv := 10501 }) 0 = true ∧ passes (.startComplete 0) (senS { st := .starting, vinMv := 48000, voutMv := 48000, gateMv := 9999 }) 0 = true := by decide +kernel

theorem test_inrush_fail : cuts (.sentryInrushFail 0) (senS { st := .starting, stateUs := 100000, inrush := { mode := 0, limitMa := 1, powerW := 1, timerMs := 100 } }) 4 false 16384 = true ∧
    passes (.sentryInrushFail 0) (senS { st := .starting, stateUs := 100000, inrush := { mode := 1, limitMa := 1, powerW := 1, timerMs := 100 } }) 0 = true ∧
    passes (.sentryInrushFail 0) (senS { st := .starting, stateUs := 100000, vinMv := 48000, voutMv := 47500, gateMv := 10500, inrush := { mode := 0, limitMa := 1, powerW := 1, timerMs := 100 } }) 0 = true ∧
    cuts (.sentryGateStuck 0) (senS { st := .starting, stateUs := 1000 }) 6 false 16384 = true ∧ cuts (.sentryGateStuck 0) (senS { st := .starting, gateRose := true, nearUs := 2000, vinMv := 48000, voutMv := 48000, gateMv := 9999 }) 6 false 16384 = true ∧
    passes (.sentryGateStuck 0) (senS { st := .starting, stateUs := 999 }) 0 = true := by decide +kernel

theorem test_trips : cuts (.sentryOvercurrent 0) (senS { st := .on, overUs := 500 }) 2 true 16384 = true ∧ passes (.sentryOvercurrent 0) (senS { st := .on, overUs := 499 }) 0 = true ∧ cuts (.sentryOv 0) (senS { st := .on, ovUs := 20 }) 1 true 16384 = true ∧
    passes (.sentryOv 0) (senS { st := .on, ovUs := 19 }) 0 = true ∧ cuts (.sentryUv 0) (senS { st := .on, uvUs := 20 }) 0 true 16384 = true ∧ passes (.sentryUv 0) (senS { st := .off, uvUs := 20 }) 0 = true := by decide +kernel

theorem test_sample_counts : does (.sentrySample 0 (sample 62001 0 0)) (senS { ovUs := 4, uvUs := 3 }) (fun d => decide (d.sentry.ovUs = 5) && decide (d.sentry.uvUs = 0) && decide (d.sentry.us = 1) && decide (d.sentry.st = .off) && decide (d.sentry.deltaT = 0)) = true ∧
    does (.sentrySample 0 (sample 37999 0 0)) (senS { ovUs := 4, uvUs := 3 }) (fun d => decide (d.sentry.ovUs = 0) && decide (d.sentry.uvUs = 4)) = true ∧
    does (.sentrySample 0 (sample 48000 48000 1000)) (senS { st := .on, stateUs := 999, margin := 0 }) (fun d => d.sentry.pg && decide (d.sentry.st = .on)) = true ∧
    does (.sentrySample 0 (sample 48000 48000 1000)) (senS { st := .on, stateUs := 59999999, margin := 0, n := 4 }) (fun d => decide (d.sentry.n = 0)) = true := by decide +kernel

theorem test_sample_stage : does (.sentrySample 0 (sample 48000 48000 1000)) (st { sentry := { st := .on, stateUs := 999, margin := 0 } }) (fun d => decide (d.start.stage = .rails)) = true ∧
    does (.sentrySample 0 (sample 48000 48000 1000)) (st { sentry := { st := .on, stateUs := 998, margin := 0 } }) (fun d => decide (d.start.stage = .sentry) && !d.sentry.pg) = true := by decide +kernel

theorem test_sample_trips : cuts (.sentrySample 0 (sample 48000 48000 80002)) (senS { st := .on, margin := 0 }) 3 true 16384 = true ∧ isHot (measure (senS { st := .on, anchor := 150 * 65536, margin := 0 }).dev (sample 48000 48000 0)) = true ∧
    isHot (measure (senS { st := .on, margin := 0 }).dev (sample 48000 48000 80000)) = false ∧
    cuts (.sentrySample 0 (sample 48000 48000 0)) (senS { st := .on, anchor := 150 * 65536, margin := 0 }) 5 true 16384 = true ∧ cuts (.sentrySample 0 (sample 48000 48000 0)) (senS { st := .starting, anchor := 150 * 65536, margin := 0 }) 5 false 16384 = true ∧
    cuts (.sentrySample 0 (sample 48000 48000 0)) (senS { st := .on, margin := 0, cut := some 1, cutSource := 9 }) 9 true 16384 = true := by decide +kernel

theorem test_tsns : does (.tsnsReading 0 (some (20 * 65536))) (senS { us := 7 }) (fun d => decide (d.sentry = { us := 7, anchor := 20 * 65536, margin := 0, tsns := 20 * 65536, validAt := some 7 })) = true ∧
    does (.tsnsReading 0 none) (senS { us := 5000000, validAt := some 1000000, margin := 0 }) (fun d => decide (d.sentry.margin = 4 * 65536) && (d.fault 8).cause) = true ∧
    does (.tsnsReading 0 (some (151 * 65536))) (senS { us := 5000000, margin := 0 }) (fun d => decide (d.sentry.margin = 60 * 65536) && (d.fault 8).cause) = true := by decide +kernel

theorem test_controlled_cut : does (.controlledCut 0) (senS { st := .on, cutDue := true }) (fun d => decide (d.sentry = { st := .on, ewarn := true, ewarnHeld := true, cut := some 2000 })) = true ∧
    does (.controlledCut 0) (senS { cutDue := true }) (fun d => decide (d.sentry = {})) = true ∧ does (.controlledCut 0) (senS { st := .on, cutDue := true, cut := some 7 }) (fun d => decide (d.sentry = { st := .on, cut := some 7 })) = true ∧ passes (.controlledCut 0) (senS {}) 0 = true := by decide +kernel

theorem test_ewarn_input : does (.ewarnInput 0) (senS { st := .on, ewarnUs := 20 }) (fun d => d.sentry.ewarn && (d.fault 9).cause) = true ∧ passes (.ewarnInput 0) (senS { st := .on, ewarnUs := 19 }) 0 = true ∧
    does (.ewarnNegate 0) (st { cad := { stopping := true, cleanStop := true }, sentry := { ewarn := true, ewarnOkUs := 10000 } }) (fun d => !d.sentry.ewarn && !(d.fault 9).cause && !d.cad.stopping && !d.cad.cleanStop) = true ∧
    passes (.ewarnNegate 0) (senS { ewarn := true, ewarnHeld := true, ewarnOkUs := 10000 }) 0 = true := by decide +kernel

theorem test_backoff_end : does (.sentryBackoffEnd 0) (senS { st := .backoff, n := 3, stateUs := 4000000, vinMv := 48000 }) (fun d => decide (d.sentry.st = .starting) && decide (d.sentry.n = 3)) = true ∧
    does (.sentryBackoffEnd 0) (senS { st := .backoff, n := 7, stateUs := 60000000, vinMv := 0 }) (fun d => decide (d.sentry.st = .off)) = true ∧ passes (.sentryBackoffEnd 0) (senS { st := .backoff, n := 3, stateUs := 3999999 }) 0 = true := by decide +kernel

theorem test_fet_short : does (.sentryFetShort 0) (senS { shortUs := 10000 }) (fun d => d.sentry.fetShort && (d.fault 7).cause) = true ∧ passes (.sentryFetShort 0) (senS { st := .on, shortUs := 10000 }) 0 = true := by decide +kernel

theorem test_pin_contention : does (.pinContention 0 1) (senS { us := 9, contUs := [(1, 10000)] }) (fun d => decide (d.sentry.hiz = [false, true, false, false, false]) && (d.fault 0xA).cause && decide (d.sentry.testUs = [(1, 9)])) = true ∧
    does (.pinContention 0 4) (senS { us := 9, contUs := [(4, 10000)] }) (fun d => (d.fault 0xB).cause) = true ∧ passes (.pinContention 0 1) (senS { contUs := [(1, 9999)] }) 0 = true ∧ stops (.pinContention 0 5) (senS {}) = true := by decide +kernel

theorem test_pin_test : does (.pinTest 0 0 true) (senS { us := 1000009, hiz := [true, false, false, false, false], testUs := [(0, 9)] }) (fun d => decide (d.sentry.hiz = [true, false, false, false, false]) && decide (d.sentry.testUs = [(0, 1000009)])) = true ∧
    does (.pinTest 0 0 false) (st { faults := { sources := [(0xA, { cause := true })] }, sentry := { us := 1000009, hiz := [true, false, false, false, false], testUs := [(0, 9)] } }) (fun d => decide (d.sentry.hiz = List.replicate 5 false) && !(d.fault 0xA).cause) = true ∧
    passes (.pinTest 0 0 false) (senS { us := 1000008, hiz := [true, false, false, false, false], testUs := [(0, 9)] }) 0 = true ∧ stops (.pinTest 0 5 true) (senS {}) = true := by decide +kernel

theorem test_power_on : does .powerOn (st { sentry := { n := 5, energyNj := 9, edgeNj := 2 }, start := { stage := .ready }, faults := { log := [[1]], first := some 3 }, legend := [(0x800001, some [1])] })
    (fun d => decide (d.sentry = { energyNj := 9, edgeNj := 9 }) && decide (d.start = {}) && decide (d.legend = []) && decide (d.faults = { log := [[1]] })) = true := by decide +kernel

/-! ## Contour loops -/

/-- Quad 3 with a sheet of partition 1 whose period is 10 ticks and whose beat opened at tick 0, its loop as given, at tick 4. -/
def conS (x : Quad) (c : Contour) : State :=
  st { grat := { everLocked := true, tick := 4 }, quads := [(3, { x with st := .running, period := 10, clockMhz := 1600 })], contours := [(3, c)], parts := [(1, { st := .running, begun := true, opening := 0, quadMap := [2, 3] })] }

/-- A powered loop. -/
def loop : Contour := { powered := true }

/-- The command leaves quad 3's loop so, clock and voltage apart. -/
def loops (c : Instr) (s : State) (y : Contour) : Bool :=
  does c s fun d => decide (d.contour 3 = contourSet s.dev 3 y) && decide ((d.contour 3).voltageMv ≤ 850) && decide (d.contour 4 = {})

theorem test_contour_unpowered : ([Instr.hintChange { e := 0, quad := 3, cyc := 0 } 0 false, .droop ⟨{ e := 0, quad := 3, cyc := 0 }, -5⟩, .droopRecovery { e := 0, quad := 3, cyc := 0 }, .calibrationHoleEnd { e := 0, quad := 3, cyc := 0 } 0, .holeStarvation { e := 0, quad := 3, cyc := 0 },
      .thermalSample { e := 0, quad := 3, cyc := 0 } 130].all fun c => passes c (conS {} {}) 0) = true ∧ tabWf {} (conS {} loop).dev.contours = true := by decide +kernel

/-- Hints at sub-ticks 0 and 8,192 and 20,480 of the period. -/
def hints : List TimedRec := [{ tickOff := 0, sub := 0, len := 0, level := 2, units := 0 }, { tickOff := 2, sub := 0, len := 0, level := 9, units := 0 }, { tickOff := 4, sub := 1000, len := 0, level := 11, units := 0 }]

theorem test_hints : sheetPhase (conS { hints := hints } loop).dev 3 = some 16384 ∧ hintAt ((conS { hints := hints } loop).dev.quad 3) 16384 = some 1 ∧
    loops (.hintChange { e := 0, quad := 3, cyc := 0 } 1 false) (conS { hints := hints } { loop with extraMv := 5 }) { loop with level := 9 } = true ∧ passes (.hintChange { e := 0, quad := 3, cyc := 0 } 0 false) (conS { hints := hints } loop) 0 = true ∧
    loops (.hintChange { e := 0, quad := 3, cyc := 0 } 2 true) (conS { hints := hints } loop) { loop with leadLevel := some 11 } = true ∧ passes (.hintChange { e := 0, quad := 3, cyc := 0 } 1 true) (conS { hints := hints } loop) 0 = true := by decide +kernel

theorem test_droop : legNat (conS {} loop).dev 0x8800 0x03 = 10 ∧ passes (.droop ⟨{ e := 0, quad := 3, cyc := 77 }, 10⟩) (conS {} loop) 0 = true ∧ loops (.droop ⟨{ e := 0, quad := 3, cyc := 77 }, 9⟩) (conS {} loop) { loop with halved := true, extraMv := 5, droops := 1, droopCyc := 77 } = true ∧
    loops (.droopRecovery { e := 0, quad := 3, cyc := 333 }) (conS {} { loop with halved := true, droopCyc := 77 }) { loop with droopCyc := 77 } = true ∧
    passes (.droopRecovery { e := 0, quad := 3, cyc := 332 }) (conS {} { loop with halved := true, droopCyc := 77 }) 0 = true := by decide +kernel

/-- The device 1,100 ticks on, quad 3 with no sheet. -/
def bareS (c : Contour) (tick : TickNo) : State := st { grat := { everLocked := true, tick := tick }, contours := [(3, c)] }

theorem test_bare_hole : loops (.calibrationHoleEnd { e := 0, quad := 3, cyc := 0 } 0) (bareS { loop with guarded := true } 1024) { loop with holeEnd := 1024 * 4096 } = true ∧ passes (.calibrationHoleEnd { e := 0, quad := 3, cyc := 0 } 0) (bareS loop 1023) 0 = true := by decide +kernel

/-- A hole from sub-tick 10,000 for 5,000. -/
def holes : List TimedRec := [{ tickOff := 2, sub := 1808, len := 5000, level := 0, units := 0 }]

theorem test_hole : loops (.calibrationHoleEnd { e := 0, quad := 3, cyc := 0 } 0) (conS { holes := holes } { loop with guarded := true }) { loop with holeEnd := 15000 } = true ∧
    passes (.calibrationHoleEnd { e := 0, quad := 3, cyc := 0 } 0) (conS { holes := holes } { loop with lastBusy := 10001 }) 0 = true := by decide +kernel

theorem test_starvation : loops (.holeStarvation { e := 0, quad := 3, cyc := 0 }) (st { (conS {} loop).dev with grat := { everLocked := true, tick := 16384 } }) { loop with guarded := true } = true ∧
    passes (.holeStarvation { e := 0, quad := 3, cyc := 0 }) (st { (conS {} loop).dev with grat := { everLocked := true, tick := 16383 } }) 0 = true := by decide +kernel

theorem test_thermal : loops (.thermalSample { e := 0, quad := 3, cyc := 0 } 105) (conS {} loop) { loop with tempC := 105, throttled := true } = true ∧ loops (.thermalSample { e := 0, quad := 3, cyc := 0 } 99) (conS {} { loop with throttled := true }) { loop with tempC := 99 } = true ∧
    loops (.thermalSample { e := 0, quad := 3, cyc := 0 } 100) (conS {} { loop with throttled := true }) { loop with tempC := 100, throttled := true } = true ∧
    does (.thermalSample { e := 0, quad := 3, cyc := 0 } 120) (conS {} { loop with tempC := 119 }) (fun d => (d.fault 0x24).cause) = true := by decide +kernel

/-! ## Dormant -/

/-- Dormant as given at tick 4, WAKE_AT the tick given. -/
def dorS (x : Dormant) (wakeAt : Nat) : State := st { grat := { everLocked := true, tick := 4 }, dormant := x, legend := if wakeAt = 0 then [] else [(0x880012, some (be 8 wakeAt))], start := { stage := .ready } }

theorem test_dormant_enter : OpenForWrites (dorS {} 0) 0 0x8800 0x10 ∧ dormantRefusal (dorS {} 0).dev = 0 ∧
    does (.dormantEnter 0) (dorS { lastEvent := some (3, 0) } 0) (fun d => decide (d.dormant.st = .entering) && decide (d.dormant.enterAt = 4 * 4096) && decide (d.dormant.lastEvent = none)) = true ∧
    dormantRefusal (dorS {} 4096).dev = 3 ∧ does (.dormantEnter 0) (dorS {} 4096) (fun d => decide (d.dormant = { refusal := 3 })) = true := by
  unfold OpenForWrites; decide +kernel

theorem test_dormant_entered : does (.dormantEntryComplete 0) (st { (dorS { st := .entering } 0).dev with contours := [(3, { loop with droops := 5 })] }) (fun d => decide (d.dormant.st = .dormant) && decide (d.contour 3 = { droops := 5 })) = true ∧
    passes (.dormantEntryComplete 0) (dorS {} 0) 0 = true := by decide +kernel

/-- In a PON mode without the OLT's consent the terminal stays awake through the dormant period, and that is raised. -/
theorem test_dormant_refused_sleep : does (.dormantEnter 0) (st { (dorS {} 0).dev with pon := { act := .o5 } }) (fun d => d.pon.sleepRefused && decide ((d.fault 0xAA).count = 1)) = true := by decide +kernel

theorem test_wake_at : wakeAtNat (dorS {} (4 * 4096)).dev = 4 * 4096 ∧ does (.wakeAt 0) (dorS {} (4 * 4096)) (fun d => decide (d.dormant = { lastEvent := some (3, 4 * 4096) })) = true ∧
    does (.wakeAt 0) (dorS { st := .dormant } (4 * 4096)) (fun d => decide (d.dormant = { st := .dormant, wake := some (3, 4 * 4096) })) = true ∧ passes (.wakeAt 0) (dorS { st := .dormant, wake := some (1, 9) } (4 * 4096)) 0 = true ∧
    passes (.wakeAt 0) (dorS {} (5 * 4096)) 0 = true := by decide +kernel

theorem test_wake : does (.wake 0) (st { (dorS { st := .dormant, wake := some (3, 9) } (4 * 4096)).dev with part := { grade := 2 } }) (fun d => decide (d.dormant.st = .waking) && decide (wakeAtNat d = 0) && (d.contour 3).powered && decide ((d.contour 3).voltageMv ≤ 850)) = true ∧
    passes (.wake 0) (dorS { st := .dormant } 0) 0 = true := by decide +kernel

theorem test_wake_complete : does (.wakeComplete 0) (st { (dorS { st := .waking, wake := some (3, 4106) } 0).dev with grat := { everLocked := true, tick := 202 } }) (fun d => decide (d.dormant.st = .running) &&
      decide (d.dormant.lastWake = be 1 3 ++ zeros 7 ++ tickBytes 4106 ++ tickBytes (200 * 4096 + 4106))) = true ∧ passes (.wakeComplete 0) (dorS { st := .waking, wake := some (3, 4106) } 0) 0 = true ∧ passes (.wakeComplete 0) (dorS {} 0) 0 = true := by decide +kernel

/-! ## The fault collector -/

/-- A ready device at tick 4 with fault sources so and legend entries. -/
def fltS (l : Tab FaultSrc) (legend : Tab (Option Bytes)) : State := st { grat := { everLocked := true, tick := 4 }, start := { stage := .ready }, faults := { sources := l, first := some 0xB9 }, legend := legend }

/-- After a raise of source `k` the source is so. -/
def raised (s : State) (k : Nat) (p : FaultSrc → Bool) : Bool := p ((raise s.dev { src := k }).fault k)

theorem test_raise : severityOf (fltS [] []).dev 0xB9 = 2 ∧ raised (fltS [] []) 0xB9 (fun y => y.set && decide (y.applied = 2) && decide (y.count = 1) && decide (y.lastStamp = 4 * 4096)) = true ∧
    raised (fltS [(0xB9, { count := 0xFFFFFFFF, set := true, applied := 4, cause := true })] []) 0xB9 (fun y => decide (y.count = 0xFFFFFFFF) && decide (y.applied = 4) && y.cause) = true ∧
    raised (fltS [] [(0x91B900, some [1])]) 0xB9 (fun y => !y.set && decide (y.count = 1)) = true ∧ raise (fltS [] [(0x91B900, some [0])]).dev { src := 0xB9 } = (fltS [] [(0x91B900, some [0])]).dev ∧
    raised (fltS [] [(0x91B900, some [3])]) 0xB9 (fun y => y.set && decide (y.applied = 2)) = true ∧ raised (fltS [] [(0x91B900, some [5])]) 0xB9 (fun y => decide (y.applied = 5)) = true := by decide +kernel

theorem test_clear : OpenForWrites (fltS [] []) 0 0x9000 0x05 ∧ clearTakes (fltS [(0xB9, { set := true, applied := 2 })] []).dev 0xB9 = true ∧ clearTakes (fltS [(0xB9, { set := true, applied := 2, lastStamp := 4 * 4096 })] []).dev 0xB9 = false ∧
    does (.clear 0 0xB9) (fltS [(0xB9, { set := true, applied := 2, count := 6 })] []) (fun d => decide (d.fault 0xB9 = { count := 6 }) && decide (d.faults.first = none)) = true ∧
    does (.clear 0 0xB9) (fltS [(0xB9, { set := true, cause := true })] []) (fun d => decide (d.faults = (fltS [(0xB9, { set := true, cause := true })] []).dev.faults)) = true ∧
    passes (.clear 0 0x101) (fltS [(0xB9, { set := true })] []) 0 = true ∧ passes (.clear 0 0x30) (fltS [(0xB9, { set := true })] []) 0 = true := by
  unfold OpenForWrites; decide +kernel

theorem test_clear_all : does (.clear 0 0x100) (fltS [(0xB8, { set := true, cause := true }), (0xB9, { set := true, count := 6 })] []) (fun d => (d.fault 0xB8).set && decide (d.fault 0xB9 = { count := 6 })) = true := by decide +kernel

/-- An injection record. -/
def injection (target bits unit addr count : Nat) : Bytes := be 1 target ++ be 1 bits ++ be 2 unit ++ be 8 addr ++ be 4 count

theorem test_inject : OpenForWrites (fltS [] []) 0 0x9000 0x06 ∧ does (.inject 0 (injection 1 3 2 0x100000 0)) (fltS [] []) (fun d => decide (tabGet 0 (d.quad 2).inj 0x100000 = 3) && decide (d.faults.injections = 1)) = true ∧
    does (.inject 0 (injection 3 2 1 64 0)) (fltS [] []) (fun d => decide (tabGet 0 d.stackInj (2 ^ 28 + 64) = 2)) = true ∧ does (.inject 0 (injection 4 0 5 0 9)) (fltS [] []) (fun d => decide ((d.port 5).badCrc = 9)) = true ∧
    passes (.inject 0 (injection 4 0 5 0 0)) (fltS [] []) 0 = true ∧ passes (.inject 0 [1]) (fltS [] []) 0 = true := by
  unfold OpenForWrites; decide +kernel

theorem test_severity : OpenForWrites (fltS [] []) 0 (0x9100 + 0xB9) 0 ∧ does (.severity 0 0xB9 5) (fltS [] []) (fun d => decide (severityOf d 0xB9 = 5) && decide (severityOf d 0xB8 = severityOf (fltS [] []).dev 0xB8)) = true ∧
    passes (.severity 0 0xB9 6) (fltS [] []) 0 = true ∧ passes (.severity 0 4 4) (fltS [] []) 0 = true ∧ passes (.severity 0 0x30 1) (fltS [] []) 0 = true := by
  unfold OpenForWrites; decide +kernel

/-- The device with a halt due since `t` at tick 4 and partition 7 running. -/
def haltS (t : Stamp) : State := st { (fltS [] []).dev with faults := { haltDue := some (t, 4) }, parts := [(7, { st := .running })] }

theorem test_halt : passes (.deviceHalt 0) (fltS [] []) 0 = true ∧ passes (.deviceHalt 0) (haltS (4 * 4096)) 0 = true ∧
    does (.deviceHalt 0) (haltS (4 * 4096 - 1)) (fun d => d.faults.halted && decide ((d.partition 7).st = .free) && decide (d.faults.haltDue = none)) = true := by decide +kernel

theorem test_fault_log : does (.faultLogProgram 0) (st { cad := { mounted := true }, faults := { log := [[1]], buffer := [[2], [3]] } }) (fun d => decide (d.faults = { log := [[1], [2], [3]] })) = true ∧
    passes (.faultLogProgram 0) (st { faults := { log := [[1]], buffer := [[2], [3]] } }) 0 = true := by decide +kernel

/-! ## Start-up -/

/-- Start-up as given, reset released. -/
def upS (b : Start) : State := st { start := { b with released := true } }

theorem test_start_tables : tabWf {} (upS {}).dev.start.stackTrain = true ∧ tabWf [] (upS {}).dev.start.curves = true ∧ tabWf {} (upS {}).dev.quads = true := by decide +kernel

theorem test_rails : does (.railsInRange 7) (st { grat := { e := 5 }, sentry := { pg := true }, start := { stage := .rails } }) (fun d => decide (d.start.stage = .rom) && d.start.released && decide (d.grat.e = 0) && (d.fault 0xC5).set) = true ∧
    passes (.railsInRange 7) (st { start := { stage := .rails } }) 7 = true := by decide +kernel

theorem test_boot_rounds : does (.bootRound 0 false) (upS { stage := .rom, rounds := 3, bootNext := 1 }) (fun d => decide (d.start = { stage := .rom, released := true, rounds := 4, roundAt := some 0 })) = true ∧
    candidates_ (upS { stage := .rom }).dev 0xFF = [] ∧ does (.bootRound 0 true) (upS { stage := .rom, rounds := 3, bootNext := 1 }) (fun d => decide (d.start.rounds = 4) && d.start.roundAt.isSome && decide (d.start.stage = .rom)) = true ∧
    passes (.bootRound 0 true) (upS { stage := .rom, roundAt := some 0 }) 0 = true ∧ passes (.bootRound 0 true) (upS { stage := .ready }) 0 = true := by decide +kernel

/-- A boot image: key set 1, security version 3, firmware version 0x01020304, one octet of code, its keys and signatures zeros. The SHA3-256 hash
of the octet 0 is the published one. -/
def image : Bytes :=
  ascii "ZXBI" ++ be 2 1 ++ [1, 3] ++ be 4 0x01020304 ++ be 4 1 ++
    be 32 0x5D53469F20FEF4F8EAB52B88044EDE69C77A6A68A60728609FC4A65FF531E7D0 ++ zeros 16 ++ zeros 8128 ++ [0]

/-- Fuses with the hash of that image's keys in set 1, the floor 3. -/
def imageFuses : Fuses := { hash1 := BitVec.ofNat 256 (beVal (sha3_256 (slice 64 2048 image))), floor := 3 }

/-- ROM with that image sealed in area 1. -/
def romS : State := { st { (upS { stage := .rom, rounds := 2 }).dev with cad := { objects := [{ id := 0x8000000000000001, kind := 5, st := .sealed, size := image.length, sealAt := 0, digest := 0, bytes := image, lost := [] }] } } with fuses := imageFuses }

theorem test_image_found : candidates_ romS.dev 0xFF = [1] ∧ bootImage romS.dev 1 = some image := by decide +kernel

/-- An image whose header, keys, version, code and signatures hold fails no check. -/
theorem imageFailures_nil (f : Fuses) (img : Bytes)
    (header : (decide (slice 0 4 img = ascii "ZXBI") && decide (beAt 4 2 img = 1) && decide (beAt 6 1 img ≤ 3) && decide (beAt 7 1 img ≤ 63) && decide (1 ≤ beAt 12 4 img) && decide (beAt 12 4 img ≤ 0x04000000) &&
      allZero (slice 48 16 img) && allZero (slice 5517 2675 img) && decide (8192 + beAt 12 4 img ≤ img.length)) = true)
    (keys : bitsAt (beAt 6 1 img) 1 f.revoked.toNat = 0 ∧ beVal (sha3_256 (slice 64 2048 img)) = (keysetHash f (beAt 6 1 img)).toNat)
    (floor : f.floor.toNat ≤ beAt 7 1 img) (code : slice 16 32 img = sha3_256 (slice 8192 (beAt 12 4 img) img))
    (ml : Config.mldsa65Verify (slice 64 1952 img) (img.take 2112) (slice 2112 3309 img) = true)
    (ec : Config.p384Verify (slice 2016 96 img) (Config.sha384 (img.take 2112)) (slice 5421 96 img) = true) : imageFailures f img = [] := by
  simp only [imageFailures]
  rw [if_pos header, if_pos keys, if_pos floor, if_pos code, ml, ec]; rfl

theorem test_image_header : (decide (slice 0 4 image = ascii "ZXBI") && decide (beAt 4 2 image = 1) && decide (beAt 6 1 image ≤ 3) && decide (beAt 7 1 image ≤ 63) && decide (1 ≤ beAt 12 4 image) && decide (beAt 12 4 image ≤ 0x04000000) &&
      allZero (slice 48 16 image) && allZero (slice 5517 2675 image) && decide (8192 + beAt 12 4 image ≤ image.length)) = true := by decide +kernel

/-- A number of n octets is below 256 to the nth. -/
theorem beVal_lt (l : Bytes) (a : Nat) : l.foldl (fun a b => 256 * a + b.toNat) a < (a + 1) * 256 ^ l.length := by
  induction l generalizing a with
  | nil => simp
  | cons b l ih =>
    have h := ih (256 * a + b.toNat)
    have hb : b.toNat < 256 := b.isLt
    have : (256 * a + b.toNat + 1) * 256 ^ l.length ≤ (256 * (a + 1)) * 256 ^ l.length := Nat.mul_le_mul_right _ (by omega)
    simp only [List.foldl_cons, List.length_cons, Nat.pow_succ]
    calc _ < _ := h
      _ ≤ _ := this
      _ = _ := by ring

theorem test_image_set : beAt 6 1 image = 1 ∧ romS.fuses.revoked = 0 := by decide +kernel

theorem test_image_keys : bitsAt (beAt 6 1 image) 1 romS.fuses.revoked.toNat = 0 ∧ beVal (sha3_256 (slice 64 2048 image)) = (keysetHash romS.fuses (beAt 6 1 image)).toNat := by
  rw [test_image_set.1, test_image_set.2]
  refine ⟨rfl, ?_⟩
  have e : keysetHash romS.fuses 1 = BitVec.ofNat 256 (beVal (sha3_256 (slice 64 2048 image))) := rfl
  have n : (sha3_256 (slice 64 2048 image)).length ≤ 32 := by simp [sha3_256]
  have h : beVal (sha3_256 (slice 64 2048 image)) < 2 ^ 256 := by
    refine Nat.lt_of_lt_of_le (beVal_lt _ 0) ?_
    calc (0 + 1) * 256 ^ (sha3_256 (slice 64 2048 image)).length ≤ (0 + 1) * 256 ^ 32 := Nat.mul_le_mul_left _ (Nat.pow_le_pow_right (by decide) n)
      _ = 2 ^ 256 := by norm_num
  rw [e, BitVec.toNat_ofNat, Nat.mod_eq_of_lt h]

theorem test_image_floor : romS.fuses.floor.toNat ≤ beAt 7 1 image := by decide +kernel

theorem test_image_code : slice 16 32 image = sha3_256 (slice 8192 (beAt 12 4 image) image) := by decide +kernel

/-- Every check of the image holds where its two signatures verify. -/
theorem test_image_accepted (ml : Config.mldsa65Verify (slice 64 1952 image) (image.take 2112) (slice 2112 3309 image) = true)
    (ec : Config.p384Verify (slice 2016 96 image) (Config.sha384 (image.take 2112)) (slice 5421 96 image) = true) : imageFailures romS.fuses image = [] :=
  imageFailures_nil romS.fuses image test_image_header test_image_keys test_image_floor test_image_code ml ec

/-- An image without its magic octets fails the first check. -/
theorem imageFailures_magic (f : Fuses) (img : Bytes) (h : slice 0 4 img ≠ ascii "ZXBI") : 1 ∈ imageFailures f img := by
  simp [imageFailures, h]

theorem test_image_refused : imageFailures {} (zeros 8193) ≠ [] := fun h => by
  have m := imageFailures_magic {} (zeros 8193) (by decide +kernel)
  rw [h] at m; cases m

theorem test_backoff : passes (.bootRoundBackoffEnd 2488319999) (upS { stage := .rom, rounds := 3, roundAt := some 0 }) 2488319999 = true ∧
    does (.bootRoundBackoffEnd 2488320000) (upS { stage := .rom, rounds := 3, roundAt := some 0 }) (fun d => decide (d.start.roundAt = none)) = true ∧ passes (.bootRoundBackoffEnd 0) (upS { stage := .rom }) 0 = true := by decide +kernel

/-- TRAIN with stacks 0 to 6 trained and every quad but 200 calibrated. -/
def trainS (y : StackTrain) : State := upS { stage := .train, stackTrain := ((List.range 7).map fun k => (k, ({ st := 2 } : StackTrain))) ++ [(7, y)], calibrated := (List.range 256).filter (· ≠ 200) }

theorem test_stack_training : does (.stackTrainingAttempt 0 7 true) (trainS { st := 3, failed := 1 }) (fun d => decide (d.start = (trainS { st := 3, failed := 1 }).dev.start)) = true ∧
    does (.stackTrainingAttempt 0 7 true) (upS { stage := .train }) (fun d => decide (stackOf d 7 = { st := 2 }) && decide (stackOf d 6 = {}) && decide (d.start.stage = .train)) = true ∧
    does (.stackTrainingAttempt 0 7 false) (upS { stage := .train }) (fun d => decide (stackOf d 7 = { st := 3, failed := 1 })) = true ∧ passes (.stackTrainingAttempt 0 7 true) (upS { stage := .rom }) 0 = true ∧
    stops (.stackTrainingAttempt 0 8 true) (upS { stage := .train }) = true := by decide +kernel

theorem test_calibration : does (.quadCalibration 0 200 ((List.range 10).map fun i => if i = 9 then none else some (600 + 10 * i))) (trainS { st := 2 }) (fun d => decide (d.start.stage = .config) &&
      decide (tabGet [] d.start.curves 200 = [620, 630, 640, 650, 660, 670, 680, 690, 700, 0xFFFF]) && decide ((d.quad 200).st = .unloaded)) = true ∧
    does (.quadCalibration 0 200 (List.replicate 10 none)) (trainS { st := 2 }) (fun d => decide ((d.quad 200).st = .failed)) = true ∧ passes (.quadCalibration 0 199 (List.replicate 10 none)) (trainS { st := 2 }) 0 = true := by decide +kernel

/-- CONFIG with a start-up object so. -/
def configS (os : List Object) : State := st { (upS { stage := .config }).dev with cad := { objects := os } }

/-- A start-up object of a state and records. -/
def startObject (s : ObjState) (b : Bytes) : Object := { id := 0x7FFFFFFFFFFFFFFF, kind := 7, st := s, size := b.length, sealAt := 0, digest := 0, bytes := b, lost := [] }

/-- A WRITE record of one octet and its padding. -/
def record (index sub : Nat) (v : Byte) : Bytes := [2, 0] ++ be 2 index ++ be 1 sub ++ [0] ++ be 2 1 ++ zeros 4 ++ [v, 0, 0, 0]

/-- The object ends CONFIG with this result. -/
def configured (c : Instr) (s : State) (b : Bytes) : Bool := does c s fun d => decide (d.start.stage = .sync) && decide (d.start.startupResult = b)

theorem test_startup_object : passes (.startupObjectApply 0) (upS { stage := .train }) 0 = true ∧ configured (.startupObjectApply 0) (configS []) (startResult 0 0 0) = true ∧ configured (.startupObjectApply 0) (configS [startObject .damaged [1]]) (startResult 2 0xFFFF 0) = true ∧
    configured (.startupObjectApply 0) (configS [startObject .sealed [1]]) (startResult 2 0 (Status.code .range)) = true := by decide +kernel

theorem test_startup_applies : does (.startupObjectApply 0) (configS [startObject .sealed (record 0x91B9 0 4 ++ record 0x3007 0x0B 1)]) (fun d => decide (d.start.startupResult = startResult 1 0 0) && decide (severityOf d 0xB9 = 4) && decide (d.start.heldRuns = [7])) = true := by decide +kernel

/-- A ready device with port 5 up and sweep so, at tick 84. -/
def sweepS (w : Sweep) : State := st { grat := { everLocked := true, tick := 84 }, aksia := { ports := [(5, { st := .up })] }, start := { stage := .ready, sweep := w } }

/-- A sweep command of a kind and a unit. -/
def sweepCommand (kind flags unit : Nat) : Bytes := be 1 kind ++ be 1 flags ++ be 2 unit ++ zeros 12

theorem test_sweeps : OpenForWrites (sweepS {}) 0 0xF030 0 ∧ OpenForWrites (sweepS {}) 0 0xF030 1 ∧ does (.laneSweep 0 (sweepCommand 1 0 5)) (sweepS {}) (fun d => decide (d.start.sweep = { st := 1, kind := 1, unit := 5, startAt := 84 * 4096 })) = true ∧
    does (.stackSweep 0 (sweepCommand 2 0 7)) (sweepS {}) (fun d => decide (d.start.sweep.kind = 2)) = true ∧ does (.coreSweep 0 (sweepCommand 3 1 200)) (sweepS {}) (fun d => decide (d.start.sweep = { st := 1, kind := 3, flags := 1, unit := 200, startAt := 84 * 4096 })) = true ∧
    passes (.laneSweep 0 (sweepCommand 1 0 6)) (sweepS {}) 0 = true ∧ passes (.stackSweep 0 (sweepCommand 2 0 8)) (sweepS {}) 0 = true ∧ passes (.coreSweep 0 (sweepCommand 3 0 200)) (sweepS { st := 1 }) 0 = true := by
  unfold OpenForWrites; decide +kernel

theorem test_sweep_ends : does (.sweepAbort 0) (sweepS { st := 1, kind := 1 }) (fun d => decide (d.start.sweep = { st := 3, kind := 1, endAt := 84 * 4096 })) = true ∧ does (.sweepAbort 0) (sweepS { st := 2 }) (fun d => decide (d.start.sweep.st = 4)) = true ∧
    does (.sweepAbort 0) (sweepS {}) (fun d => decide (d.start.sweep.st = 0)) = true ∧
    does (.sweepComplete 0 [9]) (sweepS { st := 1, kind := 2, startAt := 4 * 4096 }) (fun d => decide (d.start.sweep = { st := 2, kind := 2, startAt := 4 * 4096, endAt := 84 * 4096, result := [9, 0, 0, 0, 0, 0] })) = true ∧
    passes (.sweepComplete 0 [9]) (sweepS { st := 1, kind := 2, startAt := 5 * 4096 }) 0 = true ∧
    does (.sweepComplete 0 ((List.range 20).map (BitVec.ofNat 8))) (sweepS { st := 1, kind := 3, flags := 1, unit := 200 }) (fun d => decide (tabGet [] d.start.curves 200 = [0x0001, 0x0203, 0x0405, 0x0607, 0x0809, 0x0A0B, 0x0C0D, 0x0E0F, 0x1011, 0x1213])) = true := by decide +kernel

/-- A sweep that completes at its abort's own stamp stands, and the abort ends with ABORT_LATE. -/
theorem test_sweep_late : does (.sweepComplete 0 [9]) (sweepS { st := 3, kind := 2, startAt := 4 * 4096, endAt := 84 * 4096 }) (fun d => decide (d.start.sweep.st = 4)) = true ∧
    passes (.sweepComplete 0 [9]) (sweepS { st := 3, kind := 2, startAt := 4 * 4096, endAt := 83 * 4096 }) 0 = true := by decide +kernel

theorem test_extest : does (.extest [(3, true)]) (upS { stage := .rom }) (fun d => decide (d.jtag = { ir := 0x00, boundary := [(3, true)], driving := true })) = true ∧
    does (.extest [(3, true)]) (upS { stage := .ready }) (fun d => decide (d.jtag.ir = 0x3F) && !d.jtag.driving) = true := by decide +kernel

/-! ## Graticule -/

/-- A locked device at tick 4 with a shaper, a waiting slot and a slew. -/
def tickS (g : Grat) : State := st { grat := { g with everLocked := true, tick := 4 }, legend := [(0x545100, some (be 4 10)), (0x545101, some (be 4 30))], sched := { shapers := [(1, { tokens := 25 })] } }

theorem test_tick_edge : legNat (tickS {}).dev 0x5451 1 = 30 ∧ does (.tickEdge 19906560) (tickS { state := .holdover, slew := 3, holdoverElapsed := 8000, e := 9 }) (fun d => decide (d.grat.tick = 5) && decide (d.grat.e = 0) && decide (d.grat.slew = 2) && decide (d.grat.holdoverElapsed = 8000) &&
      decide (d.grat.state = .holdover) && decide ((tabGet {} d.sched.shapers 1).tokens = 30)) = true ∧
    does (.tickEdge 19906560) (tickS { state := .adrift, slew := -3, holdoverElapsed := 7 }) (fun d => decide (d.grat.slew = -2) && decide (d.grat.holdoverElapsed = 8)) = true ∧
    does (.tickEdge 19906559) (tickS { state := .holdover }) (fun d => decide (d = (tickS { state := .holdover }).dev)) = true ∧ does (.tickEdge 19906560) (tickS { state := .locked, source := .pon }) (fun d => decide (d.grat.tick = 5) && decide (d.grat.state = .locked)) = true ∧
    does (.tickEdge 19906560) (tickS { state := .dwell }) (fun d => decide (d = (tickS { state := .dwell }).dev)) = true ∧ tabWf {} (tickS {}).dev.sched.shapers = true := by decide +kernel

theorem test_step : does (.graticuleStep ⟨0, 1000⟩) (tickS { stepTo := some .pon, slew := 9, stepCount := 6, runPon := { delta := 995 * 4096 + 4095 } }) (fun d => decide (d.grat.tick = 1000) && decide (d.grat.state = .locked) && decide (d.grat.source = .pon) && decide (d.grat.stepCount = 7) && decide (d.grat.slew = 0) && decide (d.grat.stepTo = none)) = true ∧
    passes (.graticuleStep ⟨3, 1000⟩) (tickS { stepTo := some .pon, runPon := { delta := 900 * 4096 } }) 3 = true ∧ passes (.graticuleStep ⟨3, 1000⟩) (tickS {}) 3 = true := by decide +kernel

theorem test_dwell : does (.dwellEnd 3 5) (tickS { state := .dwell, source := .pon, runPon := { delta := 8 } }) (fun d => decide (d.grat.tick = 5) && decide (d.grat.e = 0) && decide (d.grat.state = .locked) && decide (d.grat.source = .pon) && decide (d.grat.slew = 7)) = true ∧
    passes (.dwellEnd 3 5) (tickS { state := .dwell, source := .pon, runPon := { delta := -1 } }) 3 = true ∧ passes (.dwellEnd 3 5) (tickS {}) 3 = true ∧ passes (.dwellEnd 3 6) (tickS { state := .dwell, source := .pon, runPon := { delta := 8 } }) 3 = true := by decide +kernel

theorem test_holdover : does (.holdoverLimit 3) (tickS { state := .holdover, holdoverElapsed := 8000 }) (fun d => decide (d.grat.state = .adrift) && (d.fault 0xB9).cause && decide (d.grat.e = 3)) = true ∧
    passes (.holdoverLimit 3) (tickS { state := .holdover, holdoverElapsed := 7999 }) 3 = true := by decide +kernel

theorem test_fabric : does (.fabricUpdateTimeout 3) (tickS { state := .locked, source := .pon, stepTo := some .fabric, updateAge := 8 }) (fun d => decide (d.grat = { (tickS { state := .locked, source := .pon, updateAge := 8 }).dev.grat with e := 3 })) = true ∧
    passes (.fabricUpdateTimeout 3) (tickS { updateAge := 7 }) 3 = true ∧
    does (.fabricUpdateTimeout 3) (tickS { state := .locked, source := .fabric, slew := 5, updateAge := 8 }) (fun d => decide (d.grat.state = .holdover) && decide (d.grat.source = .none) && decide (d.grat.slew = 0) && (d.fault 0xB8).cause) = true := by decide +kernel

/-- A follower of the PON, four ticks past its last comparison. -/
def splitS (n : Nat) : State := st { grat := { everLocked := true, tick := 12, splitTick := 4, state := .locked, source := .pon, splitOver := n, splitWithin := n }, aksia := { upstream := some 3 } }

theorem test_split : ethMode (splitS 1).dev = false ∧ does (.splitComparison 0 (12 * 4096 + 4097)) (splitS 1) (fun d => decide (d.grat.splitOver = 2) && decide (d.grat.splitWithin = 0) && decide (d.grat.splitLast = -4097) && decide (d.grat.splitTick = 12)) = true ∧
    does (.splitComparison 0 (12 * 4096 - 4096)) (splitS 4) (fun d => decide (d.grat.splitOver = 0) && decide (d.grat.splitWithin = 4) && decide (d.grat.splitLast = 4096)) = true := by decide +kernel

/-! ## The whole machine -/

/-- A step takes the front of the queue and leaves its rest. -/
theorem test_step_front : (match step { (upS { stage := .rom }) with pending := [.extest [(3, true)], .powerOn] } with
      | .next t => decide (t.pending = [.powerOn]) && t.dev.jtag.driving
      | _ => false) = true ∧ (match step (upS {}) with
      | .next t => decide (t = upS {})
      | _ => false) = true := by decide +kernel

theorem test_units : unitFitted {} (.pinTest 0 4 true) = true ∧ unitFitted {} (.pinTest 0 5 true) = false ∧ unitFitted {} (.stackTrainingAttempt 0 7 true) = true ∧
    unitFitted {} (.droop ⟨{ e := 0, quad := 255, cyc := 0 }, 0⟩) = true := by decide +kernel

theorem test_fuses : FusesKept { floor := 3, revoked := 1 } { st {} with fuses := { floor := 4, revoked := 3 } } ∧ ¬ FusesKept { floor := 3, revoked := 1 } { st {} with fuses := { floor := 4, revoked := 2 } } ∧ FusesKept State.reset.fuses State.reset := by
  unfold FusesKept; decide +kernel

/-! ## Operands out of range -/

/-- A quad of the device. -/
def qw : QuadAt := { e := 0, quad := 3, cyc := 0 }

/-- A PLOAM message for this ONU. -/
def pw : Ploam := { e := 0, onuId := 1, micOk := true, seq := 1 }

theorem test_wf_quad : ([Instr.messageDelivery 0 0 (.ingress 64 0 0), .messageDelivery 0 0 (.notice 0 256), .benchSlotPass qw 64, .benchSlotMissed qw 64, .hintChange qw 4096 true, .calibrationHoleEnd qw 256, .unitCommandComplete qw 6].any Instr.wf) = false ∧
    ([Instr.messageDelivery 0 0 (.ingress 63 255 0), .messageDelivery 0 0 (.notice 0 255), .benchSlotPass qw 63, .benchSlotMissed qw 63, .hintChange qw 4095 true, .calibrationHoleEnd qw 255, .unitCommandComplete qw 5].all Instr.wf) = true := by decide +kernel

theorem test_wf_partition : ([Instr.keyCreditSend 0 64 0, .pointOpen 0 64 0 0, .pointOpen 0 0 64 0, .bearingAnswer 0 64, .pencilBudget 0 64 0, .pencilBudget 0 0 16, .bearingTimeout 0 64 0, .bearingTimeout 0 0 16, .beatOpening 0 64, .checkpointComplete 0 64, .mirrorAck 0 64 0,
      .partitionHalt 0 64, .partitionRestart 0 64, .stallWatchdog 0 64, .sheetLoad 0 64 0, .sheetLoad 0 0 256, .run 0 64 true, .abort_ 0 256 0, .handover 0 64, .gazPage 0 64 0, .gazNext 0 64 [], .buddyLossTimeout 0 64, .takeover 0 64].any Instr.wf) = false ∧
    ([Instr.keyCreditSend 0 63 0, .pointOpen 0 63 63 0, .bearingAnswer 0 63, .pencilBudget 0 63 15, .bearingTimeout 0 63 15, .beatOpening 0 63, .sheetLoad 0 63 255, .abort_ 0 255 0, .takeover 0 63].all Instr.wf) = true := by decide +kernel

theorem test_wf_transport : ([Instr.burstProfile pw 4 [] [] true, .keyControl pw 0 true, .keyControl pw 3 true, .segmentReceived 0 256 [], .assemblyTimeout 0 (.strip 256), .assemblyTimeout 0 (.answer 64 0), .assemblyTimeout 0 (.answer 0 0x20000), .answerSegment 0 64 0 [],
      .answerSegment 0 0 0x20000 [], .itemEntry 0 64, .udpDatagramReceived 0 0 0 0 false [], .igmpQuery 0 3 0, .localPortTransmit 0 0].any Instr.wf) = false ∧
    ([Instr.burstProfile pw 3 [] [] true, .keyControl pw 2 true, .segmentReceived 0 255 [], .assemblyTimeout 0 (.answer 63 0x1FFFF), .udpDatagramReceived 0 2 0 0 false []].all Instr.wf) = true := by decide +kernel

theorem test_wf_ports : ([Instr.linkFrameRetransmit 0 48 0, .portAttemptTimeout 0 48, .portBackoffEnd 0 48, .portDown 0 48 true, .linkState 0 48 0 0 true 0, .linkState 0 0 0 6 true 0, .eyeMeasurement 0 48 [], .eyeMeasurement 0 0 (List.replicate 9 1), .delayExchange 0 48 0 0 0 0, .update 0 48 0 0 0 0,
      .ethFrameReceived 0 3 true [], .arpRequestSend 0 3 0, .arpRefresh 0 3 0, .wakeMatch 0 3 true [], .sync 0 3 (syncA 1 0) 0 0, .ethLinkChange 0 3 true 0].any Instr.wf) = false ∧
    ([Instr.linkFrameRetransmit 0 47 0, .linkState 0 47 0 5 true 0, .eyeMeasurement 0 47 (List.replicate 8 1), .ethLinkChange 0 2 true 0].all Instr.wf) = true := by decide +kernel

theorem test_wf_security : ([Instr.ed25519Verify 0 16 [], .p256Verify 0 16 [], .p384Verify 0 16 [], .rsaVerify 0 16 [], .mldsa65Verify 0 16 [], .agree 0 16 [], .attest 0 16 [], .jobFree 0 16, .keyOverlapEnd 0 128, .rollbackRevert 0 16, .txnIdleRollback 0 16, .eventSend 0 8, .eventRetry 0 8].any Instr.wf) = false ∧
    ([Instr.ed25519Verify 0 15 [], .attest 0 15 [], .keyOverlapEnd 0 127, .rollbackRevert 0 15, .eventSend 0 7].all Instr.wf) = true := by decide +kernel

theorem test_wf_cadastre : ([Instr.create 0 8 0 0 0, .seal 0 8 (zeros 32), .seal 0 0 (zeros 31), .open_ 0 8 0, .close 0 8, .delete 0 8 0, .load 0 8 0 0 0 0 0, .archive 0 8 0 0, .portAbort 0 8, .portOperationComplete 0 8, .portData 0 8 [], .portPos 0 8 0, .vaultKey 0 256 [], .vaultKey 0 0 (zeros 17),
      .patrolRead 0 8 0 0 false false, .wearRelocation 0 8, .programFailure 0 8 0, .codewordReadRetry 0 8 0 0 true, .vaultKeyLoadComplete 0 256].any Instr.wf) = false ∧
    ([Instr.create 0 7 0 0 0, .seal 0 7 (zeros 32), .vaultKey 0 255 (zeros 16), .wearRelocation 0 7].all Instr.wf) = true := by decide +kernel

theorem test_wf_power : ([Instr.pinContention 0 5, .pinTest 0 5 true, .stackTrainingAttempt 0 12 true, .quadCalibration 0 0 []].any Instr.wf) = false ∧
    ([Instr.pinContention 0 4, .pinTest 0 4 true, .stackTrainingAttempt 0 11 true, .quadCalibration 0 255 (List.replicate 10 none)].all Instr.wf) = true := by decide +kernel

theorem test_wf_messages : ([Instr.portAttempt 0 48 .align, .ident 0 48 (identA 4) ⟨0, 0, 0, 0⟩, .announce 0 { announceA 6 1 with port := 3 }, .packetReceived 0 48 0 (frameOf none)].any Instr.wf) = false ∧
    ([Instr.portAttempt 0 47 .align, .ident 0 47 (identA 4) ⟨0, 0, 0, 0⟩, .announce 0 { announceA 6 1 with port := 2 }, .packetReceived 0 47 0 (frameOf none)].all Instr.wf) = true := by decide +kernel

end Sys2Proof.Tests
end

/-! The scope of the machine (00_scope.md): a step is the command at the front of the queue, and every command completes
on a unit that exists and stops on one that does not. -/

namespace Sys2Proof.Machine

/-! ## One step -/

theorem step_of_pending_nil {s : State} (h : s.pending = []) : step s = .next s := by simp only [step, h]

theorem step_of_pending_cons {s : State} {c : Instr} {rest : List Instr} (h : s.pending = c :: rest) :
    step s = exec c { s with pending := rest } := by simp only [step, h]

/-! ## Every command -/

/-- 00 R3, Table 0.1: the unit that a command's effect asks for is the one that `unitFitted` names. The cases are gathered
by the answer that the command's arm shares with others: of the device, of a unit, or of a write. -/
theorem exec_fits (c : Instr) (s : State) : Fits (exec c s) s (unitFitted s.dev c) := by
  match c with
  -- The device as a whole.
  | .tickEdge .. | .graticuleStep .. | .dwellEnd .. | .fabricUpdateTimeout .. | .holdoverLimit .. | .splitComparison ..
  | .keyRequestReceived .. | .vaultPageSend .. | .gazCountInterval .. | .mirrorWrite .. | .psbdReceived .. | .xgemFrameReceived ..
  | .burstProfile .. | .assignOnuId .. | .rangingTime .. | .deactivateOnuId .. | .disableSerialNumber .. | .requestRegistration ..
  | .assignAllocId .. | .keyControl .. | .sleepAllow .. | .ploamUnsupported .. | .omciMessage .. | .mibReset .. | .timeOfDaySet ..
  | .to1Expiry .. | .to2Expiry .. | .activationBackoffEnd .. | .allocation .. | .allocationFill .. | .burstOverrun .. | .opticsPoll ..
  | .watchfulSleepReception .. | .datumClaim .. | .heartbeatSend .. | .heartbeatReceived .. | .heartbeatAck .. | .fenceTimeout ..
  | .jobStart .. | .yieldStation .. | .jobComplete .. | .ezithRequest .. | .read .. | .write .. | .begin_ .. | .commit .. | .rollback ..
  | .registerWrite .. | .commitJudgement .. | .eventAck .. | .flavour .. | .ptpEpochOffset .. | .journalRecordProgrammed ..
  | .ewarnStop .. | .mount .. | .vinQualified .. | .startComplete .. | .sentryInrushFail .. | .sentryGateStuck .. | .sentrySample ..
  | .sentryOvercurrent .. | .sentryOv .. | .sentryUv .. | .tsnsReading .. | .controlledCut .. | .ewarnInput .. | .ewarnNegate ..
  | .sentryBackoffEnd .. | .sentryFetShort .. | .dormantEntryComplete .. | .wakeAt .. | .wake .. | .wakeComplete .. | .deviceHalt ..
  | .faultLogProgram .. | .railsInRange .. | .bootRound .. | .bootRoundBackoffEnd .. | .startupObjectApply .. | .sweepComplete ..
  | .powerOn | .psbdMissing .. | .extest .. => exact fits_next rfl
  -- Writes of a register that every device has.
  | .jobAbort .. | .keyErase .. | .raiseFloor .. | .revokeKeyset .. | .dormantEnter .. | .clear .. | .inject .. | .severity ..
  | .sweepAbort .. => exact fits_writeRow
  | .laneSweep .. | .stackSweep .. | .coreSweep .. => exact fits_sweepRow
  -- A quad: its core, its lanes, its units and its contour loop.
  | .add .. | .sub .. | .and_ .. | .or_ .. | .xor_ .. | .sll .. | .srl .. | .sra .. | .slt .. | .sltu .. | .mul .. | .mulh .. | .mulhu ..
  | .addi .. | .andi .. | .ori .. | .xori .. | .slti .. | .slli .. | .srli .. | .srai .. | .lui .. | .lb .. | .lh .. | .lw .. | .lbu ..
  | .lhu .. | .sb .. | .sh .. | .sw .. | .beq .. | .bne .. | .blt .. | .bge .. | .bltu .. | .bgeu .. | .jal .. | .jalr .. | .fence ..
  | .csrr .. | .csrw .. | .send .. | .recv .. | .recvw .. | .qlen .. | .arm .. | .armt .. | .cancel .. | .yield .. | .done .. | .rdt ..
  | .rdth .. | .waitt .. | .cmd .. | .uwait .. | .ustat .. | .trap .. | .illegalInstruction .. | .storeBufferDrain .. | .taskDispatch ..
  | .laneCommand .. | .laneNop .. | .laneLd .. | .laneSt .. | .laneMovi .. | .laneMov .. | .laneAdd .. | .laneSub .. | .laneMul ..
  | .laneMac .. | .laneMin .. | .laneMax .. | .laneAbs .. | .laneNeg .. | .laneShl .. | .laneShr .. | .laneAnd .. | .laneOr ..
  | .laneXor .. | .laneCvt .. | .laneCeq .. | .laneClt .. | .laneCle .. | .laneSel .. | .laneMand .. | .laneMor .. | .laneMnot ..
  | .laneXsum .. | .laneXmax .. | .laneXmin .. | .laneSetq .. | .laneMadd .. | .laneMsub .. | .laneMmul .. | .laneMmac ..
  | .laneLaneid .. | .laneIter .. | .copy .. | .gather .. | .scatter .. | .zero .. | .cimLoad .. | .dot .. | .had .. | .bench ..
  | .benchSlotPass .. | .benchSlotMissed .. | .fwd .. | .inv .. | .automorphismEval .. | .automorphismCoef .. | .bext .. | .kmac ..
  | .expand .. | .kfetch .. | .unitCommandComplete .. | .keyPageLanding .. | .keyRetry .. | .keyNack .. | .hintChange .. | .droop ..
  | .droopRecovery .. | .calibrationHoleEnd .. | .holeStarvation .. | .thermalSample .. | .quadCalibration .. => exact fits_onUnit
  -- An Aksia port or an Ethernet port.
  | .packetReceived .. | .linkFrameRetransmit .. | .portAttempt .. | .portAttemptTimeout .. | .portBackoffEnd .. | .ident ..
  | .portDown .. | .linkState .. | .eyeMeasurement .. | .delayExchange .. | .update .. | .ethFrameReceived .. | .arpRequestSend ..
  | .arpRefresh .. | .mdioPoll .. | .speedJudgement .. | .wakeMatch .. | .announce .. | .sync .. | .delayResp .. | .ptpTimeout ..
  | .ethLinkChange .. => exact fits_onUnit
  -- A partition, a strip, a local port, a record, an object port, a vault entry, a flash channel, a pin or a stack.
  | .keyCreditSend .. | .pointOpen .. | .bearingAnswer .. | .pencilBudget .. | .bearingTimeout .. | .beatOpening ..
  | .checkpointComplete .. | .mirrorAck .. | .partitionHalt .. | .partitionRestart .. | .stallWatchdog .. | .sheetLoad .. | .run ..
  | .segmentReceived .. | .answerSegment .. | .itemEntry .. | .udpDatagramReceived .. | .igmpQuery .. | .localPortTransmit ..
  | .buddyLossTimeout .. | .takeover .. | .keyOverlapEnd .. | .txnIdleRollback .. | .eventSend .. | .eventRetry ..
  | .portOperationComplete .. | .vaultKey .. | .gazPage .. | .gazNext .. | .patrolRead .. | .wearRelocation .. | .programFailure ..
  | .codewordReadRetry .. | .pinContention .. | .pinTest .. | .stackTrainingAttempt .. | .vaultKeyLoadComplete .. => exact fits_onUnit
  -- A unit that the operand chooses.
  | .messageDelivery _ _ (.quad _) | .messageDelivery _ _ (.ingress ..) | .messageDelivery _ _ (.notice ..) => exact fits_onUnit
  | .assemblyTimeout _ (.strip _) | .assemblyTimeout _ (.answer ..) => exact fits_onUnit
  -- Writes of a register of one unit among several.
  | .abort_ .. | .handover .. | .ed25519Verify .. | .p256Verify .. | .p384Verify .. | .rsaVerify .. | .mldsa65Verify .. | .agree ..
  | .attest .. | .jobFree .. | .create .. | .seal .. | .open_ .. | .close .. | .delete .. | .load .. | .archive .. | .portAbort ..
  | .portData .. | .portPos .. => exact fits_if fits_writeRow
  | .rollbackRevert .. => exact fits_if (fits_next rfl)

end Sys2Proof.Machine

/-- Settles O1, by the two cases of the queue. -/
theorem stepTakesFront : Obligations.StepTakesFront :=
  fun _ => ⟨fun _ _ => Sys2Proof.Machine.step_of_pending_cons, Sys2Proof.Machine.step_of_pending_nil⟩

/-- Settles O2, by what each command of the table answers. -/
theorem fittedCommandsComplete : Obligations.FittedCommandsComplete := Sys2Proof.Machine.exec_fits

/-! Raises of device-attributed sources (16 R616): no checker of the graticule or the cadastre names a quad or a partition,
so that their raises isolate nothing. -/

namespace Sys2Proof.Machine

variable {d x y : Dev}

/-- What a raise attributed to the device may touch: subscribers' queues, the sentry's due cut and the collector. -/
def DeviceRaiseKeeps (d x : Dev) : Prop := x = { d with ez := x.ez, sentry := x.sentry, faults := x.faults }

theorem DeviceRaiseKeeps.refl : DeviceRaiseKeeps d d := rfl

theorem DeviceRaiseKeeps.trans (a : DeviceRaiseKeeps d x) (b : DeviceRaiseKeeps x y) : DeviceRaiseKeeps d y := by
  unfold DeviceRaiseKeeps at *
  rw [b, a]

/-- The same with the later step first: where the earlier one is an update by computation. -/
theorem DeviceRaiseKeeps.after (b : DeviceRaiseKeeps x y) (a : DeviceRaiseKeeps d x) : DeviceRaiseKeeps d y := a.trans b

theorem deviceRaiseKeeps_foldl {β : Type} (f : Dev → β → Dev) (h : ∀ a b, DeviceRaiseKeeps a (f a b)) (l : List β) :
    DeviceRaiseKeeps d (l.foldl f d) :=
  List.foldlRecOn l f .refl fun _ k b _ => k.trans (h _ b)

theorem deviceRaiseKeeps_logRecord (e : Bytes) : DeviceRaiseKeeps d (logRecord d e) := by
  simp only [logRecord]
  split <;> rfl

theorem deviceRaiseKeeps_latch (s : Nat) (t : Stamp) : DeviceRaiseKeeps d (latch d s t).2 := by
  simp only [latch]
  split
  · rfl
  · split <;> rfl

theorem deviceRaiseKeeps_haltDevice (v s : Nat) (t : Stamp) : DeviceRaiseKeeps d (haltDevice d v s t) := by
  simp only [haltDevice]
  split <;> rfl

theorem deviceRaiseKeeps_offerEvent (n : Nat) (b : Bytes) : DeviceRaiseKeeps d (offerEvent d n b).1 := by
  simp only [offerEvent]
  split <;> rfl

theorem deviceRaiseKeeps_pushEvent (k : Nat) (b : Bytes) : DeviceRaiseKeeps d (pushEvent d k b).1 := by
  unfold pushEvent
  refine List.foldlRecOn (motive := fun acc : Dev × List Nat => DeviceRaiseKeeps d acc.1) _ _ .refl fun acc h n _ => ?_
  dsimp only
  split
  · exact h.trans (deviceRaiseKeeps_offerEvent n b)
  · exact h

/-- Severity 3 of a device-attributed source counts as 2 (16 R616): nothing is isolated. -/
theorem deviceRaiseKeeps_raiseOne {r : Raise} (a : attribution r = .device) : DeviceRaiseKeeps d (raiseOne d r).1 := by
  unfold raiseOne
  extract_lets _ held stamp asNotify sev x count lf flags data d1 ev d2 p d3
  split
  · exact .refl
  · have h0 : DeviceRaiseKeeps d lf.2 := by
      show DeviceRaiseKeeps d (if 2 ≤ sev then latch d r.src stamp else (0, d)).2
      split
      · exact deviceRaiseKeeps_latch _ _
      · exact .refl
    have h1 : DeviceRaiseKeeps d d1 := h0.trans rfl
    split
    · exact h1
    · have h2 : DeviceRaiseKeeps d p.1 := (h1.trans (deviceRaiseKeeps_logRecord ev)).trans (deviceRaiseKeeps_pushEvent 0 ev)
      show DeviceRaiseKeeps d (if sev = 3 then isolate p.1 r stamp else if 4 ≤ sev then haltDevice p.1 sev r.src stamp else p.1)
      split
      · simpa only [isolate, a] using h2
      · split
        · exact h2.trans (deviceRaiseKeeps_haltDevice _ _ _)
        · exact h2

/-- A raise that names neither quad nor partition is the device's (16 R616). -/
theorem attribution_device {r : Raise} (q : r.quad = none) (p : r.part = none) : attribution r = .device := by
  unfold attribution
  rw [q, p]
  split
  · rfl
  · split <;> rfl

theorem deviceRaiseKeeps_eventsLost (l : List Nat) : DeviceRaiseKeeps d (eventsLost d l) :=
  deviceRaiseKeeps_foldl _ (fun _ _ => deviceRaiseKeeps_raiseOne (attribution_device rfl rfl)) l

theorem deviceRaiseKeeps_raiseDev (s a b : Nat) : DeviceRaiseKeeps d (raiseDev d s a b) :=
  (deviceRaiseKeeps_raiseOne (attribution_device rfl rfl)).trans (deviceRaiseKeeps_eventsLost _)

theorem deviceRaiseKeeps_raiseGrat (s : Nat) (δ : Int) : DeviceRaiseKeeps d (raiseGrat d s δ) := deviceRaiseKeeps_raiseDev _ _ _

theorem deviceRaiseKeeps_setCause (s : Nat) (c : Bool) : DeviceRaiseKeeps d (d.setCause s c) := rfl

/-- A cause that is set reads as set, in any table: no source holds a cause by default. -/
theorem cause_setCause_true (s : Nat) : ((d.setCause s true).fault s).cause = true := by
  have h : ({ d.fault s with cause := true } : FaultSrc) ≠ {} := fun e => Bool.noConfusion (congrArg FaultSrc.cause e)
  exact congrArg FaultSrc.cause (tabGet_tabSet_self h)

end Sys2Proof.Machine

/-! What the work of a tick edge leaves and what it does, each claim once (02 R33, R45; 09 R397). Its last stages (the
datum's UPDATE, the cadastre's buffers and patrol, WAKE_AT) touch nothing that a statement about edges reads. -/

namespace Sys2Proof.Machine

variable {d x y : Dev}

/-! ## The stages that send, program and raise -/

/-- What the last stages of an edge may touch. -/
def EdgeEndKeeps (d x : Dev) : Prop :=
  x = { d with aksia := x.aksia, ez := x.ez, cad := x.cad, sentry := x.sentry, faults := x.faults, legend := x.legend, changes := x.changes, wire := x.wire }

theorem EdgeEndKeeps.refl : EdgeEndKeeps d d := rfl

theorem EdgeEndKeeps.trans (a : EdgeEndKeeps d x) (b : EdgeEndKeeps x y) : EdgeEndKeeps d y := by
  unfold EdgeEndKeeps at *
  rw [b, a]

/-- The same with the later stage first: where the earlier one is an update by computation. -/
theorem EdgeEndKeeps.after (b : EdgeEndKeeps x y) (a : EdgeEndKeeps d x) : EdgeEndKeeps d y := a.trans b

theorem EdgeEndKeeps.part (h : EdgeEndKeeps d x) : x.part = d.part := by rw [h]

theorem EdgeEndKeeps.grat (h : EdgeEndKeeps d x) : x.grat = d.grat := by rw [h]

theorem EdgeEndKeeps.quads (h : EdgeEndKeeps d x) : x.quads = d.quads := by rw [h]

theorem EdgeEndKeeps.strips (h : EdgeEndKeeps d x) : x.strips = d.strips := by rw [h]

theorem EdgeEndKeeps.sched (h : EdgeEndKeeps d x) : x.sched = d.sched := by rw [h]

theorem EdgeEndKeeps.stackMem (h : EdgeEndKeeps d x) : x.stackMem = d.stackMem := by rw [h]

theorem DeviceRaiseKeeps.edgeEnd (h : DeviceRaiseKeeps d x) : EdgeEndKeeps d x := by
  unfold DeviceRaiseKeeps at h
  rw [h]
  rfl

theorem edgeEndKeeps_foldl {β : Type} (f : Dev → β → Dev) (h : ∀ a b, EdgeEndKeeps a (f a b)) (l : List β) :
    EdgeEndKeeps d (l.foldl f d) :=
  List.foldlRecOn l f .refl fun _ k b _ => k.trans (h _ b)

theorem edgeEndKeeps_ite {p : Prop} [Decidable p] (hx : EdgeEndKeeps d x) (hy : EdgeEndKeeps d y) : EdgeEndKeeps d (if p then x else y) := by
  split
  · exact hx
  · exact hy

theorem edgeEndKeeps_updCad (f : Cad → Cad) : EdgeEndKeeps d (updCad d f) := rfl

/-! ### Packets -/

theorem edgeEndKeeps_freeBuffer (h : Option (Nat × Bool)) (p : Packet) : EdgeEndKeeps d (freeBuffer d h p) := by
  unfold freeBuffer
  split
  · rfl
  · split <;> rfl

theorem edgeEndKeeps_setPort (i : Nat) (p : AksPort) : EdgeEndKeeps d (d.setPort i p) := rfl

theorem edgeEndKeeps_sendOn (port : Nat) (p : Packet) : EdgeEndKeeps d (sendOn d port p) := rfl

theorem edgeEndKeeps_updAksia (f : Aksia → Aksia) : EdgeEndKeeps d (d.updAksia f) := rfl

theorem edgeEndKeeps_sendQueued (port i : Nat) : EdgeEndKeeps d (sendQueued d port i) := by
  unfold sendQueued
  dsimp only
  split
  · rfl
  · exact (((edgeEndKeeps_setPort _ _).trans (edgeEndKeeps_updAksia _)).trans (edgeEndKeeps_sendOn _ _)).trans (edgeEndKeeps_freeBuffer _ _)

theorem edgeEndKeeps_servePort (port fuel : Nat) : EdgeEndKeeps d (servePort d port fuel) := by
  induction fuel generalizing d with
  | zero => rfl
  | succ n ih =>
    unfold servePort
    split
    · exact (edgeEndKeeps_sendQueued _ _).trans ih
    · rfl

theorem edgeEndKeeps_sendNeighbour (dir : Nat) (k : PktKind) : EdgeEndKeeps d (sendNeighbour d dir k) := by
  unfold sendNeighbour
  split
  · exact (edgeEndKeeps_setPort _ _).trans (edgeEndKeeps_servePort _ _)
  · rfl

theorem edgeEndKeeps_sendUpdates : EdgeEndKeeps d (sendUpdates d) :=
  edgeEndKeeps_ite (edgeEndKeeps_foldl _ (fun _ _ => edgeEndKeeps_sendNeighbour _ _) _) rfl

/-! ### The cadastre -/

theorem edgeEndKeeps_writePages (c b : Nat) (l : List Page) : EdgeEndKeeps d (writePages d c b l) := rfl

theorem edgeEndKeeps_eraseArea (id : BitVec 64) : EdgeEndKeeps d (eraseArea d id) := rfl

theorem edgeEndKeeps_takeParcel (c b : Nat) (id : BitVec 64) : EdgeEndKeeps d (takeParcel d c b id) :=
  edgeEndKeeps_ite ((deviceRaiseKeeps_raiseDev _ _ _).edgeEnd.after rfl) rfl

theorem edgeEndKeeps_newParcel (c : Nat) (id : BitVec 64) : EdgeEndKeeps d (newParcel d c id) := by
  unfold newParcel
  split
  · exact edgeEndKeeps_takeParcel _ _ _
  · rfl

theorem edgeEndKeeps_programPage (id : BitVec 64) (k : Nat) : EdgeEndKeeps d (programPage d id k) := by
  unfold programPage
  extract_lets cs c d'
  have h : EdgeEndKeeps d d' := edgeEndKeeps_ite rfl (edgeEndKeeps_newParcel _ _)
  split
  · exact h.trans (edgeEndKeeps_writePages _ _ _)
  · exact h

theorem edgeEndKeeps_programObject (id : BitVec 64) (n : Nat) : EdgeEndKeeps d (programObject d id n) :=
  edgeEndKeeps_foldl _ (fun _ _ => edgeEndKeeps_programPage _ _) _

theorem edgeEndKeeps_updObjPort (n : Nat) (f : ObjPort → ObjPort) : EdgeEndKeeps d (updObjPort d n f) := by
  unfold updObjPort
  simp only [Dev.setObjPort]
  split
  · split <;> rfl
  · split <;> rfl

theorem edgeEndKeeps_drainPort (n : Nat) : EdgeEndKeeps d (drainPort d n) :=
  edgeEndKeeps_ite .refl ((edgeEndKeeps_ite .refl (edgeEndKeeps_programObject _ _)).trans (edgeEndKeeps_updObjPort _ _))

theorem edgeEndKeeps_replaceBad (c b : Nat) : EdgeEndKeeps d (replaceBad d c b) := by
  unfold replaceBad
  dsimp only
  split
  · rfl
  · split
    · rfl
    · exact (edgeEndKeeps_writePages _ _ _).after ((edgeEndKeeps_takeParcel _ _ _).after rfl)

theorem edgeEndKeeps_drainBuffers : EdgeEndKeeps d (drainBuffers d) := by
  unfold drainBuffers
  extract_lets d1 owed areas d2
  have h1 : EdgeEndKeeps d d1 := edgeEndKeeps_foldl _ (fun _ n => edgeEndKeeps_drainPort n) _
  have h2 : EdgeEndKeeps d d2 :=
    (edgeEndKeeps_foldl _ (fun _ id => edgeEndKeeps_eraseArea id) _).after ((edgeEndKeeps_updCad _).after h1)
  exact edgeEndKeeps_ite .refl (h2.trans (edgeEndKeeps_foldl _ (fun _ _ => edgeEndKeeps_replaceBad _ _) _))

theorem edgeEndKeeps_patrolLate : EdgeEndKeeps d (patrolLate d) :=
  edgeEndKeeps_ite (.trans (deviceRaiseKeeps_raiseDev _ _ _).edgeEnd rfl) .refl

theorem edgeEndKeeps_patrolClock (n : Nat) : EdgeEndKeeps d (patrolClock d n) :=
  edgeEndKeeps_ite .refl (edgeEndKeeps_ite rfl (edgeEndKeeps_ite rfl edgeEndKeeps_patrolLate))

theorem edgeEndKeeps_passWakeAt : EdgeEndKeeps d (passWakeAt d) :=
  edgeEndKeeps_ite (edgeEndKeeps_ite .refl rfl) .refl

/-! ## The whole edge -/

/-- Watchdog windows are the partitions' own. -/
theorem moveWatchdogs_eq (n : Nat) : moveWatchdogs d n = { d with parts := (moveWatchdogs d n).parts } :=
  List.foldlRecOn (motive := fun x : Dev => x = { d with parts := x.parts }) _ _ rfl fun x h p _ => by
    rw [h]
    rfl

/-- One shaper refilled: its rate is added up to its burst (09 R397). -/
def refilled (d : Dev) (h : Nat) : Shaper :=
  { tokens := min (legNat d (0x5450 + h) 0x01) ((shaperOf d h).tokens + legNat d (0x5450 + h) 0x00) }

/-- The device after the refill of one shaper. -/
def refillShaper (d : Dev) (h : Nat) : Dev :=
  { d with sched := { d.sched with shapers := tabSet {} d.sched.shapers h (refilled d h) } }

theorem refillShapers_eq_foldl : refillShapers d = (List.range 16).foldl refillShaper d := rfl

/-- The scheduler alone changes. -/
theorem refill_foldl_eq (l : List Nat) : l.foldl refillShaper d = { d with sched := (l.foldl refillShaper d).sched } :=
  List.foldlRecOn (motive := fun x : Dev => x = { d with sched := x.sched }) l _ rfl fun x h k _ => by
    rw [h]
    rfl

theorem refillShapers_eq : refillShapers d = { d with sched := (refillShapers d).sched } := by
  rw [refillShapers_eq_foldl]
  exact refill_foldl_eq _

/-- The first n shapers are refilled from what they held before; the others wait their turn. -/
theorem refill_foldl_range (w : tabWf {} d.sched.shapers = true) (n h : Nat) :
    tabWf {} ((List.range n).foldl refillShaper d).sched.shapers = true ∧
      shaperOf ((List.range n).foldl refillShaper d) h = if h < n then refilled d h else shaperOf d h := by
  induction n generalizing h with
  | zero => exact ⟨w, rfl⟩
  | succ n ih =>
    rw [List.range_succ, List.foldl_concat]
    obtain ⟨hw, hn⟩ := ih n
    have e : refilled ((List.range n).foldl refillShaper d) n = refilled d n := by
      unfold refilled
      rw [hn, if_neg (Nat.lt_irrefl n), refill_foldl_eq]
      rfl
    refine ⟨tabSet_wf hw, ?_⟩
    by_cases hh : h = n
    · subst hh
      rw [if_pos (Nat.lt_succ_self h), ← e]
      exact tabGet_tabSet_self_wf hw
    · have hlt : h < n + 1 ↔ h < n := by omega
      simp only [hlt]
      rw [← (ih h).2]
      exact tabGet_tabSet_other_wf hw hh

/-- A value of a canonical table that is changed everywhere; what an unlisted key reads as stays. -/
theorem tabGet_tabMap {α : Type} [DecidableEq α] {z : α} {f : α → α} (hf : f z = z) {t : Tab α} (w : tabWf z t = true) (i : Nat) :
    tabGet z (tabMap z f t) i = f (tabGet z t i) := by
  induction t with
  | nil => exact hf.symm
  | cons a r ih =>
    obtain ⟨k, v⟩ := a
    have hr := ih (tabWf_tail w)
    have hbefore : i ≤ k → tabGet z (tabMap z f r) i = z := fun hi => by rw [hr, tabGet_of_lt w hi, hf]
    by_cases hv : f v = z
    · have e : tabMap z f ((k, v) :: r) = tabMap z f r := by simp [tabMap, hv]
      rw [e]
      rcases lt_trichotomy i k with c | c | c
      · rw [hbefore c.le]
        simp [tabGet, c, c.ne, hf]
      · rw [hbefore c.le]
        simp [tabGet, c, hv]
      · rw [hr]
        simp [tabGet, c.ne', c.not_gt]
    · have e : tabMap z f ((k, v) :: r) = (k, f v) :: tabMap z f r := by simp [tabMap, hv]
      rw [e]
      simp only [tabGet]
      split
      · rfl
      · split
        · exact hf.symm
        · exact hr

/-- The quads' waiting slots see the present tick (02 R45, 03 R87). -/
theorem quad_wakeSlots (w : tabWf {} d.quads = true) (n : Nat) :
    (wakeSlots d).quad n = { d.quad n with slots := (d.quad n).slots.map (Slot.wakeTick d.grat.tick) } :=
  tabGet_tabMap (f := fun q : Quad => { q with slots := q.slots.map (Slot.wakeTick d.grat.tick) }) rfl w n

/-- The counts, ages and records of an edge. -/
def edgeCounts (d : Dev) (n : Nat) : Dev := pushHistory (growAges (clearTickCounts (recordEnergy d)) n) n

/-- The windows, slots and shapers of an edge: its first stages. -/
def edgeStart (d : Dev) (n : Nat) : Dev := refillShapers (wakeSlots (moveWatchdogs d n))

theorem edgeWork_keeps_start (n : Nat) : EdgeEndKeeps (edgeCounts (edgeStart d n) n) (edgeWork d n) :=
  ((edgeEndKeeps_sendUpdates.trans edgeEndKeeps_drainBuffers).trans (edgeEndKeeps_patrolClock n)).trans edgeEndKeeps_passWakeAt

/-- The first stages touch the partitions' windows, the quads' slots and the shapers. -/
theorem edgeStart_eq (n : Nat) : edgeStart d n = { d with
    parts := (moveWatchdogs d n).parts
    quads := (wakeSlots d).quads
    sched := (edgeStart d n).sched } := by
  have hr : edgeStart d n = { wakeSlots (moveWatchdogs d n) with sched := (edgeStart d n).sched } := refillShapers_eq
  have hm := moveWatchdogs_eq (d := d) n
  generalize (edgeStart d n).sched = y at hr ⊢
  generalize moveWatchdogs d n = m at hr hm ⊢
  rw [hr, hm]
  rfl

theorem shaperOf_edgeStart (w : tabWf {} d.sched.shapers = true) (n : Nat) {h : Nat} (lt : h < 16) :
    shaperOf (edgeStart d n) h = refilled d h := by
  have w' : tabWf {} (wakeSlots (moveWatchdogs d n)).sched.shapers = true := by
    rw [moveWatchdogs_eq]
    exact w
  calc shaperOf (edgeStart d n) h = refilled (wakeSlots (moveWatchdogs d n)) h :=
        (refill_foldl_range w' 16 h).2.trans (if_pos lt)
    _ = refilled d h := by
        rw [moveWatchdogs_eq]
        rfl

/-! What an edge's work does: these are the claims to cite. -/

@[simp] theorem edgeWork_grat (n : Nat) : (edgeWork d n).grat = { d.grat with updateAge := min 8 (d.grat.updateAge + n) } :=
  (edgeWork_keeps_start n).grat.trans (by rw [edgeStart_eq]; rfl)

theorem edgeWork_quads (n : Nat) : (edgeWork d n).quads = (wakeSlots d).quads :=
  (edgeWork_keeps_start n).quads.trans (by rw [edgeStart_eq]; rfl)

theorem quad_edgeWork (w : tabWf {} d.quads = true) (n k : Nat) :
    (edgeWork d n).quad k = { d.quad k with slots := (d.quad k).slots.map (Slot.wakeTick d.grat.tick) } := by
  unfold Dev.quad
  rw [edgeWork_quads]
  exact quad_wakeSlots w k

theorem shaperOf_edgeWork (w : tabWf {} d.sched.shapers = true) (n : Nat) {h : Nat} (lt : h < 16) :
    shaperOf (edgeWork d n) h = refilled d h :=
  calc shaperOf (edgeWork d n) h = shaperOf (edgeStart d n) h :=
        congrArg (fun x : Sched => tabGet ({} : Shaper) x.shapers h) (edgeWork_keeps_start n).sched
    _ = refilled d h := shaperOf_edgeStart w n lt

@[simp] theorem edgeWork_stackMem (n : Nat) : (edgeWork d n).stackMem = d.stackMem :=
  (edgeWork_keeps_start n).stackMem.trans (by rw [edgeStart_eq]; rfl)

@[simp] theorem edgeWork_strips (n : Nat) : (edgeWork d n).strips = d.strips :=
  (edgeWork_keeps_start n).strips.trans (by rw [edgeStart_eq]; rfl)

@[simp] theorem edgeWork_part (n : Nat) : (edgeWork d n).part = d.part :=
  (edgeWork_keeps_start n).part.trans (by rw [edgeStart_eq]; rfl)

end Sys2Proof.Machine

/-! TICK_EDGE (02 R33, R38, R39, R50, R53, R55). -/

namespace Sys2Proof.Machine

variable {d : Dev}

theorem exec_tickEdge (sp : Nat) (s : State) :
    exec (.tickEdge sp) s = .next (s.withDev (if edgeDue s.dev sp then edgeWork (nextTick s.dev sp) 1 else s.dev)) := rfl

theorem selfTimed_iff : selfTimed d = true ↔ d.grat.state = .holdover ∨ d.grat.state = .adrift ∨ d.dormant.st ≠ .running := by
  simp [selfTimed, or_assoc]

/-- When an edge can come, as R39, R55 and R664 say it. -/
theorem edgeDue_iff (sp : Nat) : edgeDue d sp = true ↔ d.grat.everLocked = true ∧ d.grat.state ≠ .dwell ∧
    ((d.grat.state = .holdover ∨ d.grat.state = .adrift ∨ d.dormant.st ≠ .running) → tickLen d ≤ max sp (d.grat.e * 256)) := by
  rw [← selfTimed_iff]
  cases h : selfTimed d <;> simp [edgeDue, h, and_assoc]

theorem slewTick_of_pos {x : Int} (h : 0 < x) : slewTick x = x - 1 := if_pos h

theorem slewTick_of_neg {x : Int} (h : x < 0) : slewTick x = x + 1 := by
  rw [slewTick, if_neg (by omega), if_pos h]

theorem slewTick_zero : slewTick 0 = 0 := rfl

/-- One step of the filter of R38, whatever the rounding (log 4). -/
theorem filtered_bounds (t sp : Nat) : (63 * t + sp) / 64 ≤ filtered t sp ∧ filtered t sp ≤ (63 * t + sp + 63) / 64 := by
  unfold filtered
  omega

/-- The filtered length of a tick fits its 32 bits. -/
theorem filtered_lt {t sp : Nat} (ht : t < 2 ^ 32) (hs : sp < 2 ^ 32) : filtered t sp < 2 ^ 32 := by
  have := (filtered_bounds t sp).2
  omega

/-- T in LOCKED outside dormant. -/
theorem nextTick_tickLength_locked {sp : Nat} (l : d.grat.state = .locked) (r : d.dormant.st = .running) (h : sp < 2 ^ 32) :
    (nextTick d sp).grat.tickLength.toNat = filtered d.grat.tickLength.toNat sp := by
  simp only [nextTick, Dev.updGrat_grat, l, r, and_self, if_true]
  exact Nat.mod_eq_of_lt (filtered_lt (BitVec.isLt _) h)

theorem nextTick_tickLength_else {sp : Nat} (h : d.grat.state ≠ .locked ∨ d.dormant.st ≠ .running) :
    (nextTick d sp).grat.tickLength = d.grat.tickLength :=
  if_neg fun k => h.elim (absurd k.1) (absurd k.2)

end Sys2Proof.Machine

section

open Sys2Proof.Machine

/-- Settles O5: an edge that is due is `nextTick` and then `edgeWork`, of which each field that the statement reads has its
equation. -/
theorem tickEdges : Obligations.TickEdges := by
  intro s sp g own due
  have hdue : edgeDue s.dev sp = true ↔ due := edgeDue_iff sp
  constructor
  · intro h wq ws
    refine does_next (exec_tickEdge sp s) ?_
    rw [if_pos (hdue.2 h), edgeWork_grat, edgeWork_stackMem, edgeWork_strips, edgeWork_part]
    refine ⟨rfl, rfl, rfl, rfl, slewTick_of_pos, slewTick_of_neg, fun k => (congrArg slewTick k).trans slewTick_zero, rfl,
      nextTick_tickLength_else, ?filter, quad_edgeWork (d := nextTick s.dev sp) wq 1, ?shapers, rfl, rfl, rfl⟩
    case filter =>
      intro l r k
      rw [nextTick_tickLength_locked l r k]
      exact filtered_bounds _ _
    case shapers =>
      exact fun n lt => congrArg Shaper.tokens (shaperOf_edgeWork (d := nextTick s.dev sp) ws 1 lt)
  · intro h
    refine does_next (exec_tickEdge sp s) ?_
    rw [if_neg (mt hdue.1 h)]

end

/-! Lock, loss and comparison of the graticule's sources (02 R46, R48 to R50, R52 to R54, R57, R58). -/

namespace Sys2Proof.Machine

variable {d x : Dev} {s : State} {e : Nat}

theorem passes_next {c : Instr} (h : exec c s = .next (s.withDev (s.dev.at e))) : Passes c s e := does_next h rfl

/-- A raise of the graticule with the cause that it sets or removes. -/
theorem deviceRaiseKeeps_raiseGrat_setCause (n : Nat) (δ : Int) (c : Bool) : DeviceRaiseKeeps d ((raiseGrat d n δ).setCause n c) :=
  (deviceRaiseKeeps_raiseGrat n δ).trans (deviceRaiseKeeps_setCause n c)

/-! ## LOCKED entered -/

/-- The graticule that enters LOCKED on a source and leaves no dwell by it (Table 2.3). -/
def lockedGrat (d : Dev) (src : Source) : Grat :=
  let g := d.grat
  let l := { g with state := .locked, source := src, stepTo := none, holdoverElapsed := 0, badCounts := 0, expected := (runOf g src).last + 1, everLocked := true, clock := (g.setE g.e).clock }
  { l with heard := now { d with grat := l } }

theorem enterLocked_keeps (h : d.grat.state ≠ .dwell) (src : Source) :
    DeviceRaiseKeeps { d with grat := lockedGrat d src } (enterLocked d src) := by
  unfold enterLocked
  simp only [h, decide_false, Bool.false_eq_true, if_false]
  refine (deviceRaiseKeeps_foldl _ (fun a n => ?_) _).after rfl
  split
  · exact deviceRaiseKeeps_setCause _ _
  · exact .refl

/-- An edge that begins LOCKED: a step's and the end of a dwell's. -/
theorem edgeWork_enterLocked (h : d.grat.state ≠ .dwell) {src : Source} (k : DeviceRaiseKeeps (enterLocked d src) x) (n : Nat) :
    (edgeWork x n).grat = { lockedGrat d src with updateAge := min 8 (d.grat.updateAge + n) } ∧
      (edgeWork x n).stackMem = d.stackMem ∧ (edgeWork x n).strips = d.strips ∧ (edgeWork x n).part = d.part := by
  have hx := ((enterLocked_keeps h src).trans k).edgeEnd
  refine ⟨?_, ?_, ?_, ?_⟩
  · rw [edgeWork_grat, hx.grat]
    rfl
  · rw [edgeWork_stackMem, hx.stackMem]
  · rw [edgeWork_strips, hx.strips]
  · rw [edgeWork_part, hx.part]

/-! ## GRATICULE_STEP -/

theorem exec_graticuleStep_some {src : Source} (h : s.dev.grat.stepTo = some src) (t : TickNo) :
    exec (.graticuleStep ⟨e, t⟩) s = .next (s.withDev
      (if sourceNext (s.dev.at e) src t = true ∧ t ≠ s.dev.grat.tick ∧ (t - s.dev.grat.tick).toNat < 2 ^ 47 then takeStep (s.dev.at e) src t else s.dev.at e)) := by
  show execGraticuleStep ⟨e, t⟩ s = _
  have h' : (s.dev.at e).grat.stepTo = some src := h
  simp only [execGraticuleStep, h']
  rfl

theorem exec_graticuleStep_none (h : s.dev.grat.stepTo = none) (t : TickNo) :
    exec (.graticuleStep ⟨e, t⟩) s = .next (s.withDev (s.dev.at e)) := by
  show execGraticuleStep ⟨e, t⟩ s = _
  have h' : (s.dev.at e).grat.stepTo = none := h
  simp only [execGraticuleStep, h']

/-- The source's tick is adopted (R53, R54). -/
theorem takeStep_spec (src : Source) (t : TickNo) : let y := takeStep d src t
    (y.grat.tick = t ∧ y.grat.e = 0 ∧ y.grat.state = .locked ∧ y.grat.source = src ∧ y.grat.stepTo = none ∧ y.grat.slew = 0 ∧
      y.grat.stepCount = d.grat.stepCount + 1 ∧ y.grat.tickLength = d.grat.tickLength) ∧
    y.stackMem = d.stackMem ∧ y.strips = d.strips ∧ y.part = d.part := by
  unfold takeStep
  extract_lets n delta shift d1 y
  obtain ⟨hg, hkept⟩ := edgeWork_enterLocked (d := d1) (src := src) GratState.noConfusion (deviceRaiseKeeps_raiseGrat 0xBB delta) n
  refine ⟨?_, hkept⟩
  rw [hg]
  exact ⟨rfl, rfl, rfl, rfl, rfl, rfl, rfl, rfl⟩

/-! ## DWELL_END -/

theorem exec_dwellEnd (t : TickNo) : exec (.dwellEnd e t) s = .next (s.withDev
    (if s.dev.grat.state = .dwell ∧ t = s.dev.grat.tick + 1 ∧ 0 ≤ deltaOf (s.dev.at e) s.dev.grat.source then endDwell (s.dev.at e) else s.dev.at e)) := rfl

/-- The edge that ends a dwell: the stamp leaves its held sub-tick for the next tick (R53, R55). -/
def leaveDwell (d : Dev) : Dev :=
  d.updGrat fun g => { g with tick := g.tick + 1, prevTick := g.tick, e := 0, clock := (g.setE 0).clock, state := .locked, shift := localShift d + 1 }

/-- The move of the local stamp to its next edge takes one sub-tick of what the source is ahead by. -/
theorem deltaOf_leaveDwell (h : d.grat.everLocked = true) (src : Source) : deltaOf (leaveDwell d) src = deltaOf d src - 1 := by
  have hs : localShift (leaveDwell d) = localShift d + 1 := by
    have hh : held (leaveDwell d) = false := by simp [held, leaveDwell, h]
    rw [localShift, hh]
    exact Int.sub_zero _
  have hr : runOf (leaveDwell d).grat src = runOf d.grat src := by cases src <;> rfl
  unfold deltaOf
  rw [hs, hr]
  ring

theorem endDwell_spec (h : d.grat.everLocked = true) : let y := endDwell d
    (y.grat.tick = d.grat.tick + 1 ∧ y.grat.e = 0 ∧ y.grat.state = .locked ∧ y.grat.source = d.grat.source ∧
      y.grat.slew = deltaOf d d.grat.source - 1 ∧ y.grat.tickLength = d.grat.tickLength) ∧
    y.stackMem = d.stackMem ∧ y.strips = d.strips ∧ y.part = d.part := by
  intro y
  obtain ⟨hg, hkept⟩ := edgeWork_enterLocked (src := d.grat.source)
    (d := (leaveDwell d).updGrat fun g => { g with slew := deltaOf (leaveDwell d) d.grat.source }) GratState.noConfusion .refl 1
  have hy : y.grat = _ := hg
  refine ⟨?_, hkept⟩
  rw [hy]
  exact ⟨rfl, rfl, rfl, rfl, deltaOf_leaveDwell h _, rfl⟩

/-! ## HOLDOVER_LIMIT -/

theorem exec_holdoverLimit : exec (.holdoverLimit e) s = .next (s.withDev (driftIfDue (s.dev.at e))) := rfl

theorem driftIfDue_of_due (h : d.grat.state = .holdover) (l : 8000 ≤ d.grat.holdoverElapsed) :
    driftIfDue d = (raiseGrat (d.updGrat fun g => { g with state := .adrift }) 0xB9 0).setCause 0xB9 true := if_pos ⟨h, l⟩

theorem driftIfDue_of_not_due (h : d.grat.state ≠ .holdover ∨ d.grat.holdoverElapsed < 8000) : driftIfDue d = d :=
  if_neg fun k => h.elim (absurd k.1) fun l => absurd k.2 (Nat.not_le.2 l)

/-! ## FABRIC_UPDATE_TIMEOUT -/

theorem exec_fabricUpdateTimeout (h : s.dev.grat.everLocked = true) : exec (.fabricUpdateTimeout e) s = .next (s.withDev
    (if 8 ≤ s.dev.grat.updateAge then loseSource (s.dev.at e) .fabric else s.dev.at e)) := by
  show execFabricUpdateTimeout e s = _
  have h' : (s.dev.at e).grat.everLocked = true := h
  simp only [execFabricUpdateTimeout, h', if_true, decide_eq_true_eq]
  rfl

/-- A source that is not followed is lost after first lock: its run ends, and a step to it is given up. -/
theorem loseSource_fabric_unfollowed (a : d.grat.state ≠ .acquiring) (h : d.grat.source ≠ .fabric) :
    loseSource d .fabric =
      d.updGrat fun g => { g with runFabric := {}, stepTo := if g.stepTo = some .fabric then none else g.stepTo } := by
  have key (y : Dev) : (if y.grat.stepTo = some .fabric then y.updGrat fun g => { g with stepTo := none } else y) =
      y.updGrat fun g => { g with stepTo := if g.stepTo = some .fabric then none else g.stepTo } := by
    split
    · next k => simp only [Dev.updGrat, k, if_true]
    · next k => simp only [Dev.updGrat, k, if_false]
  have hs : (d.updGrat fun g => setRun g .fabric {}).grat.source ≠ .fabric := h
  unfold loseSource
  extract_lets y
  have hy : y.grat.state = d.grat.state := rfl
  split
  · next k => exact absurd (hy.symm.trans k) a
  · rw [if_neg hs]
    exact key y
  · rw [if_neg hs]
    exact key y
  · exact key y

/-- The end of the FABRIC run is no other source's. -/
theorem qualified_without_fabric {src : Source} (h : src ≠ .fabric) (g : Grat) :
    qualified { g with runFabric := {} } src = qualified g src := by
  cases src with
  | fabric => exact absurd rfl h
  | none | pon | ptp => rfl

/-- FABRIC, followed outside a dwell, is lost with no other source qualified: HOLDOVER (R49). -/
theorem loseSource_fabric_followed (l : d.grat.state = .locked) (f : d.grat.source = .fabric)
    (q : ∀ a ∈ sourceOrder d, a = .fabric ∨ qualified d.grat a = false) :
    loseSource d .fabric = enterHoldover (d.updGrat fun g => { g with runFabric := {}, slew := 0, stepTo := none, realignDue := false }) := by
  have hb : breakDwell (d.updGrat fun g => setRun g .fabric {}) = d.updGrat fun g => setRun g .fabric {} :=
    if_neg (by rw [Dev.updGrat_grat]; exact fun k => GratState.noConfusion (l.symm.trans k))
  have hn : ((sourceOrder d).find? fun a => decide (a ≠ .fabric) && qualified { d.grat with runFabric := {} } a) = none := by
    rw [List.find?_eq_none]
    intro a ha
    by_cases c : a = .fabric
    · simp [c]
    · rw [qualified_without_fabric c, (q a ha).resolve_left c, Bool.and_false]
      exact Bool.false_ne_true
  have hd : dropSource (d.updGrat fun g => setRun g .fabric {}) .fabric =
      enterHoldover (d.updGrat fun g => { g with runFabric := {}, slew := 0, stepTo := none, realignDue := false }) := by
    unfold dropSource
    rw [hb]
    extract_lets y
    have hy : ((sourceOrder y).find? fun a => decide (a ≠ .fabric) && qualified y.grat a) = none := hn
    rw [hy]
    rfl
  unfold loseSource
  extract_lets y
  have hs : y.grat.state = .locked := l
  rw [hs]
  exact (if_pos f).trans hd

theorem enterHoldover_keeps : DeviceRaiseKeeps (d.updGrat fun g => { g with state := .holdover, source := .none, holdoverElapsed := 0 }) (enterHoldover d) :=
  deviceRaiseKeeps_raiseGrat_setCause _ _ _

theorem enterHoldover_cause : ((enterHoldover d).fault 0xB8).cause = true := cause_setCause_true _

/-! ## SPLIT_COMPARISON -/

/-- A comparison is due (R57). -/
def splitDue (d : Dev) : Bool :=
  !ethMode d && decide (d.grat.state = .locked) && decide (d.grat.source = .pon) && !d.aksia.isDatum && d.aksia.upstream.isSome &&
    decide (8 ≤ (d.grat.tick - d.grat.splitTick).toNat)

theorem exec_splitComparison (fabric : Stamp) : exec (.splitComparison e fabric) s =
    .next (s.withDev (if splitDue s.dev then splitCompare (s.dev.at e) fabric else s.dev.at e)) := rfl

theorem splitDue_iff : splitDue d = true ↔ ethMode d = false ∧ d.grat.state = .locked ∧ d.grat.source = .pon ∧ d.aksia.isDatum = false ∧
    d.aksia.upstream.isSome = true ∧ 8 ≤ (d.grat.tick - d.grat.splitTick).toNat := by
  simp only [splitDue, Bool.and_eq_true, Bool.not_eq_true', decide_eq_true_eq, and_assoc]

/-- The graticule after a comparison: the difference, and the run of comparisons beyond one tick or within it (R57, R58). -/
def comparedGrat (g : Grat) (diff : Int) : Grat :=
  { g with
    splitLast := diff
    splitTick := g.tick
    splitOver := if 4096 < diff.natAbs then min 4 (g.splitOver + 1) else 0
    splitWithin := if 4096 < diff.natAbs then 0 else min 4 (g.splitWithin + 1) }

theorem splitCompare_keeps (fabric : Stamp) :
    DeviceRaiseKeeps { d with grat := comparedGrat d.grat (stampDiff fabric (now d)) } (splitCompare d fabric) := by
  unfold splitCompare
  extract_lets diff beyond g d1 d2
  have h1 : d1 = { d with grat := comparedGrat d.grat diff } := by
    simp only [d1, beyond, decide_eq_true_eq]
    rfl
  have h2 : DeviceRaiseKeeps d1 d2 := by
    show DeviceRaiseKeeps d1 (if _ then _ else _)
    split
    · exact deviceRaiseKeeps_raiseGrat_setCause _ _ _
    · exact .refl
  rw [← h1]
  split
  · exact h2.trans (deviceRaiseKeeps_setCause _ _)
  · exact h2

end Sys2Proof.Machine

section

open Sys2Proof.Machine

/-- Settles O6: each command is its own case, due or not due; a raise of the graticule's sources is the device's, so that it
isolates nothing. -/
theorem stepsDwellsAndHoldover : Obligations.StepsDwellsAndHoldover := by
  intro s e g now' kept
  refine ⟨?stepTaken, ?stepEarly, ?stepNone, ?dwellEnded, ?dwellHeld, ?drifted, ?notDrifted, ?fabricUnfollowed, ?fabricFollowed, ?fabricHeard, ?split⟩
  case stepTaken =>
    intro t src h hn ht hlt
    refine does_next (exec_graticuleStep_some h t) ?_
    rw [if_pos ⟨hn, ht, hlt⟩]
    obtain ⟨⟨h1, h2, h3, h4, h5, h6, h7, h8⟩, hkept⟩ := takeStep_spec (d := s.dev.at e) src t
    exact ⟨h1, h2, h3, h4, h5, h6, h7, h8, hkept⟩
  case stepEarly =>
    intro t src h hn
    refine passes_next ((exec_graticuleStep_some h t).trans ?_)
    rw [if_neg fun k => Bool.noConfusion (hn.symm.trans k.1)]
  case stepNone => exact fun t h => passes_next (exec_graticuleStep_none h t)
  case dwellEnded =>
    intro hl hd hδ
    refine does_next (exec_dwellEnd _) ?_
    rw [if_pos ⟨hd, rfl, hδ⟩]
    obtain ⟨⟨h1, h2, h3, h4, h5, h6⟩, hkept⟩ := endDwell_spec (d := s.dev.at e) hl
    exact ⟨h1, h2, h3, h4, h5, h6, hkept⟩
  case dwellHeld =>
    intro t h
    refine passes_next ((exec_dwellEnd t).trans ?_)
    rw [if_neg fun k => h.elim (absurd k.1) fun h => h.elim (absurd k.2.1) (Int.not_lt.2 k.2.2)]
  case drifted =>
    intro h l _
    refine does_next exec_holdoverLimit ?_
    rw [driftIfDue_of_due (d := s.dev.at e) h l]
    have hx := (deviceRaiseKeeps_raiseGrat_setCause (d := (s.dev.at e).updGrat fun g => { g with state := .adrift }) 0xB9 0 true).edgeEnd
    exact ⟨hx.grat, cause_setCause_true _, hx.quads, hx.stackMem, hx.strips, hx.part⟩
  case notDrifted =>
    intro h
    refine passes_next (exec_holdoverLimit.trans ?_)
    rw [driftIfDue_of_not_due (d := s.dev.at e) h]
  case fabricUnfollowed =>
    intro hl ha hs hf
    refine does_next (exec_fabricUpdateTimeout hl) ?_
    rw [if_pos ha, loseSource_fabric_unfollowed (d := s.dev.at e) hs hf]
    exact ⟨rfl, rfl⟩
  case fabricFollowed =>
    intro hl ha hs hf _ hq
    refine does_next (exec_fabricUpdateTimeout hl) ?_
    rw [if_pos ha, loseSource_fabric_followed (d := s.dev.at e) hs hf hq]
    have hx := (enterHoldover_keeps (d := (s.dev.at e).updGrat fun g => { g with runFabric := {}, slew := 0, stepTo := none, realignDue := false })).edgeEnd
    rw [hx.grat]
    exact ⟨rfl, rfl, rfl, rfl, rfl, rfl, enterHoldover_cause, hx.quads, hx.stackMem, hx.strips, hx.part⟩
  case fabricHeard =>
    intro hl ha
    refine passes_next ((exec_fabricUpdateTimeout hl).trans ?_)
    rw [if_neg (Nat.not_le.2 ha)]
  case split =>
    intro fabric due diff beyond
    constructor
    · intro h
      refine does_next (exec_splitComparison fabric) ?_
      rw [if_pos (splitDue_iff.2 h)]
      have hx := (splitCompare_keeps (d := s.dev.at e) fabric).edgeEnd
      exact ⟨hx.grat, hx.quads, hx.stackMem, hx.strips, hx.part⟩
    · intro h
      refine passes_next ((exec_splitComparison fabric).trans ?_)
      rw [if_neg (mt splitDue_iff.1 h)]

end

/-! What the program sees of memory behind the store buffer (03 R70 to R73). -/

namespace Sys2Proof.Machine

variable {x y : Quad} {a len n : Nat}

/-! ## The store buffer: what drains touch -/

theorem tagSpan_eq (x : Quad) (a n : Nat) (t : PTag) : tagSpan x a n t = { x with tags := (tagSpan x a n t).tags } := by
  unfold tagSpan
  split <;> rfl

/-- What draining stores may touch of a quad (03 R71, 06 R234). -/
def DrainKeeps (x y : Quad) : Prop := y = { x with sb := y.sb, mem := y.mem, drained := y.drained, tags := y.tags }

theorem DrainKeeps.refl : DrainKeeps x x := rfl

theorem DrainKeeps.trans {z : Quad} (h : DrainKeeps x y) (k : DrainKeeps y z) : DrainKeeps x z := by
  unfold DrainKeeps at *
  rw [k, h]

theorem drainKeeps_once (c : Nat) : DrainKeeps x (drainedOnce x c) := by
  unfold drainedOnce DrainKeeps
  split
  · rfl
  · rw [tagSpan_eq]

theorem drainKeeps_next : DrainKeeps x (drainedNext x) := by
  unfold drainedNext
  split
  · exact .refl
  · exact drainKeeps_once _

theorem drainKeeps_over (fuel : Nat) : DrainKeeps x (drainedOver x a len fuel) := by
  induction fuel generalizing x with
  | zero => exact .refl
  | succ k ih =>
    unfold drainedOver
    split
    · exact drainKeeps_next.trans ih
    · exact .refl

theorem drainedNext_sb : (drainedNext x).sb = x.sb.tail := by
  unfold drainedNext
  split
  · next h => rw [h]; rfl
  · exact drainedOnce_sb _ _

/-- With no more entries than `fuel`, none that overlaps is left. -/
theorem drainedOver_clear {fuel : Nat} (h : x.sb.length ≤ fuel) : ∀ t ∈ (drainedOver x a len fuel).sb, t.overlaps a len = false := by
  induction fuel generalizing x with
  | zero => simp [drainedOver, List.length_eq_zero_iff.1 (Nat.le_zero.1 h)]
  | succ k ih =>
    unfold drainedOver
    split
    · refine ih ?_
      rw [drainedNext_sb, List.length_tail]
      omega
    · next hn => simpa using hn

/-! ## The octets that the program sees -/

/-- The octet of a buffered store at an address that it covers. -/
def entryByte (t : StoreEntry) (a : Nat) : Byte := BitVec.ofNat 8 (bitsAt (8 * (a - t.addr)) 8 t.data.toNat)

/-- The view as a fold: each buffered store in turn, oldest first, hides what was there (03 R70, R72). -/
theorem viewByte_eq_foldl (x : Quad) (a : Nat) :
    viewByte x a = x.sb.foldl (fun v t => if t.overlaps a 1 then entryByte t a else v) (memByte x.mem a) := by
  unfold viewByte
  generalize x.sb = l
  induction l using List.reverseRecOn with
  | nil => rfl
  | append_singleton l t ih =>
    rw [List.foldl_concat, ← ih, List.filter_append]
    cases h : t.overlaps a 1
    · simp [List.filter, h]
    · simp [List.filter, h, entryByte]

/-- Octets written are read back one by one. -/
theorem memByte_memWrite_inside {m : Mem} {bs : Bytes} {i : Nat} (w : Memory.wf m) (h : i < bs.length) :
    memByte (memWrite m a bs) (a + i) = bs[i] := by
  induction bs generalizing m a i with
  | nil => exact absurd h (Nat.not_lt_zero _)
  | cons b r ih =>
    cases i with
    | zero => exact (memByte_memWrite_outside (tabSet_wf w) (by omega)).trans (tabGet_tabSet_self_wf w)
    | succ i =>
      rw [show a + (i + 1) = a + 1 + i by omega]
      exact ih (tabSet_wf w) (Nat.lt_of_succ_lt_succ h)

@[simp] theorem le_length (n v : Nat) : (le n v).length = n := by
  induction n generalizing v with
  | zero => rfl
  | succ n ih => simp [le, ih]

theorem le_getElem {n v i : Nat} (h : i < (le n v).length) : (le n v)[i] = BitVec.ofNat 8 (v / 256 ^ i) := by
  induction n generalizing v i with
  | zero => simp at h
  | succ n ih =>
    cases i with
    | zero => simp [le]
    | succ i =>
      have h' : i < (le n (v / 256)).length := by simpa using h
      simp only [le, List.getElem_cons_succ, ih h', Nat.div_div_eq_div_mul, ← Nat.pow_succ']

theorem ofNat_bitsAt_octet (k v : Nat) : BitVec.ofNat 8 (bitsAt (8 * k) 8 v) = BitVec.ofNat 8 (v / 256 ^ k) := by
  apply BitVec.eq_of_toNat_eq
  simp only [bitsAt, BitVec.toNat_ofNat, Nat.mod_mod]
  rw [Nat.pow_mul]

/-- Memory after the octets of a buffered store have been written. -/
theorem memByte_entry {m : Mem} (w : Memory.wf m) (t : StoreEntry) :
    memByte (memWrite m t.addr (le t.size t.data.toNat)) a = if t.overlaps a 1 then entryByte t a else memByte m a := by
  by_cases h : t.addr ≤ a ∧ a < t.addr + t.size
  · have ho : t.overlaps a 1 = true := by simp [StoreEntry.overlaps]; omega
    obtain ⟨i, rfl⟩ := Nat.exists_eq_add_of_le h.1
    have hi : i < (le t.size t.data.toNat).length := by rw [le_length]; omega
    rw [if_pos ho, memByte_memWrite_inside w hi, le_getElem, entryByte, Nat.add_sub_cancel_left, ofNat_bitsAt_octet]
  · have ho : ¬ t.overlaps a 1 = true := by simp [StoreEntry.overlaps]; omega
    rw [if_neg ho, memByte_memWrite_outside w (by rw [le_length]; omega)]

theorem drainedOnce_mem (x : Quad) (c : Nat) {t : StoreEntry} {r : List StoreEntry} (h : x.sb = t :: r) :
    (drainedOnce x c).mem = memWrite x.mem t.addr (le t.size t.data.toNat) := by
  simp only [drainedOnce, h]
  rw [tagSpan_eq]

theorem drainedOnce_wf (c : Nat) (w : Memory.wf x.mem = true) : Memory.wf (drainedOnce x c).mem = true := by
  cases h : x.sb with
  | nil => simpa only [drainedOnce, h] using w
  | cons t r =>
    rw [drainedOnce_mem x c h]
    exact memWrite_wf w

/-- A drain moves an octet from the buffer's oldest entry to memory: the program sees what it saw. -/
theorem viewByte_drainedOnce (c : Nat) (w : Memory.wf x.mem = true) : viewByte (drainedOnce x c) a = viewByte x a := by
  cases h : x.sb with
  | nil => simp only [drainedOnce, h]
  | cons t r =>
    rw [viewByte_eq_foldl, viewByte_eq_foldl, drainedOnce_sb, drainedOnce_mem x c h, h, memByte_entry w]
    rfl

theorem drainedNext_view (w : Memory.wf x.mem = true) :
    Memory.wf (drainedNext x).mem = true ∧ ∀ a, viewByte (drainedNext x) a = viewByte x a := by
  unfold drainedNext
  split
  · exact ⟨w, fun _ => rfl⟩
  · exact ⟨drainedOnce_wf _ w, fun _ => viewByte_drainedOnce _ w⟩

theorem viewByte_drainedOver (fuel : Nat) (w : Memory.wf x.mem = true) (b : Nat) : viewByte (drainedOver x a len fuel) b = viewByte x b := by
  induction fuel generalizing x with
  | zero => rfl
  | succ k ih =>
    unfold drainedOver
    split
    · rw [ih (drainedNext_view w).1, (drainedNext_view w).2]
    · rfl

/-- Where no buffered store overlaps, the program sees memory. -/
theorem viewBytes_of_clear (h : ∀ t ∈ x.sb, t.overlaps a len = false) : viewBytes x a len = memRead x.mem a len := by
  induction len generalizing a with
  | zero => rfl
  | succ n ih =>
    have hb : viewByte x a = memByte x.mem a := by
      rw [viewByte, List.filter_eq_nil_iff.2]
      · rfl
      · intro t ht
        have := h t ht
        simp [StoreEntry.overlaps] at this ⊢
        omega
    rw [viewBytes, memRead, hb, ih]
    intro t ht
    have := h t ht
    simp [StoreEntry.overlaps] at this ⊢
    omega

theorem viewBytes_congr {x y : Quad} (h : ∀ a, viewByte y a = viewByte x a) : viewBytes y a n = viewBytes x a n := by
  induction n generalizing a with
  | zero => rfl
  | succ n ih => rw [viewBytes, viewBytes, h, ih]

/-- The youngest entry with a property, with what is older and what is younger. -/
theorem exists_append_of_filter_getLast? {α : Type} {p : α → Bool} {l : List α} {t : α} (h : (l.filter p).getLast? = some t) :
    ∃ l1 l2, l = l1 ++ t :: l2 ∧ ∀ u ∈ l2, p u = false := by
  rw [← List.head?_reverse, ← List.filter_reverse, List.head?_filter, List.find?_eq_some_iff_append] at h
  obtain ⟨_, as, bs, e, hn⟩ := h
  refine ⟨bs.reverse, as.reverse, ?_, by simpa using hn⟩
  rw [← List.reverse_reverse l, e]
  simp

/-- Where the youngest overlapping store covers the span, the program sees its octets. -/
theorem viewByte_of_covers {t : StoreEntry} {i : Nat} (h : (x.sb.filter (·.overlaps a len)).getLast? = some t)
    (hc : t.covers a len = true) (hi : i < len) : viewByte x (a + i) = entryByte t (a + i) := by
  obtain ⟨l1, l2, e, hn⟩ := exists_append_of_filter_getLast? h
  have ht : t.overlaps (a + i) 1 = true := by
    simp [StoreEntry.covers, StoreEntry.overlaps] at hc ⊢
    omega
  have hy : l2.foldl (fun v u => if u.overlaps (a + i) 1 then entryByte u (a + i) else v) (entryByte t (a + i)) = entryByte t (a + i) :=
    List.foldlRecOn (motive := fun v => v = entryByte t (a + i)) l2 _ rfl fun v hv u hu => by
      have := hn u hu
      have : u.overlaps (a + i) 1 = false := by
        simp [StoreEntry.overlaps] at this ⊢
        omega
      simp only [this, hv]
      rfl
  rw [viewByte_eq_foldl, e, List.foldl_append, List.foldl_cons, if_pos ht, hy]

theorem bitsAt_succ_octet (k n v : Nat) : bitsAt (8 * k) (8 * (n + 1)) v = v / 256 ^ k % 256 + 256 * bitsAt (8 * (k + 1)) (8 * n) v := by
  have e (m : Nat) : 2 ^ (8 * m) = 256 ^ m := Nat.pow_mul 2 8 m
  simp only [bitsAt, e]
  rw [Nat.pow_succ' (n := n), Nat.mod_mul, Nat.div_div_eq_div_mul, ← Nat.pow_succ]

/-- The number of the octets that the program sees where a store covers them. -/
theorem leVal_viewBytes_entry {t : StoreEntry} (ha : t.addr ≤ a) (h : ∀ i, i < n → viewByte x (a + i) = entryByte t (a + i)) :
    leVal (viewBytes x a n) = bitsAt (8 * (a - t.addr)) (8 * n) t.data.toNat := by
  induction n generalizing a with
  | zero => simp [viewBytes, leVal, bitsAt, Nat.mod_one]
  | succ n ih =>
    have h0 : viewByte x a = entryByte t a := h 0 (Nat.succ_pos n)
    rw [viewBytes, leVal, ih (Nat.le_succ_of_le ha) fun i hi => by
      rw [Nat.succ_add, ← Nat.add_succ]
      exact h (i + 1) (Nat.succ_lt_succ hi), h0, entryByte, ofNat_bitsAt_octet, BitVec.toNat_ofNat, bitsAt_succ_octet, Nat.succ_sub ha]

theorem leVal_lt (bs : Bytes) : leVal bs < 256 ^ bs.length := by
  induction bs with
  | nil => exact Nat.one_pos
  | cons b r ih =>
    have := b.isLt
    rw [leVal, List.length_cons, Nat.pow_succ]
    omega

@[simp] theorem memRead_length (m : Mem) (a n : Nat) : (memRead m a n).length = n := by
  induction n generalizing a with
  | zero => rfl
  | succ n ih => rw [memRead, List.length_cons, ih]

end Sys2Proof.Machine

/-! The rows of the plotter core in the one quad that they change; loads (03 R67, R68, R72, R73). -/

namespace Sys2Proof.Machine

variable {s : State} {q : QuadAt} {c : Instr} {op cost cyc : Nat} {f : CoreFn}

/-! ## What the row of an op value answers -/

/-- A row whose effect on the state's own device is to retire. -/
theorem retires_op {x : Quad} {pc : Word} (hx : exec c s = coreStep s q (isOp op) cost f) (h : AtOp s q op) (hc : 0 < cyc)
    (hf : f (s.dev.at q.e) q.quad.toNat (coreWord s q) (coreCycle s q cost) = retire (s.dev.at q.e) q.quad.toNat cyc x pc) :
    Retires c s q cyc x pc :=
  retires_at hc (by rw [hx, coreStep_op h, hf])

/-- A row whose effect is to let the moment pass. -/
theorem passes_op (hx : exec c s = coreStep s q (isOp op) cost f) (h : AtOp s q op)
    (hf : f (s.dev.at q.e) q.quad.toNat (coreWord s q) (coreCycle s q cost) = s.dev.at q.e) : Passes c s q.e :=
  does_next (hx.trans (coreStep_op h)) hf

/-- A row whose effect is a trap. -/
theorem traps_op {cause : Nat} {code : BitVec 16} (hx : exec c s = coreStep s q (isOp op) cost f) (h : AtOp s q op)
    (hf : f (s.dev.at q.e) q.quad.toNat (coreWord s q) (coreCycle s q cost) = trapQuad (s.dev.at q.e) q.quad.toNat cause code) :
    Traps c s q cause code := by
  unfold Traps
  exact does_next (hx.trans (coreStep_op h)) (hf.trans trapQuad_spec)

/-! ## The device after drains -/

theorem coreQuad_at : (s.dev.at q.e).quad q.quad.toNat = coreQuad s q := (rfl)

theorem coreQuad_ne (h : CoreRuns s q) : coreQuad s q ≠ {} := quad_ne_of_running h.2.2.1

theorem DrainKeeps.ne {x y : Quad} (h : DrainKeeps x y) (hr : (runningSlot x).isSome = true) : y ≠ {} :=
  quad_ne_of_running (by rw [runningSlot, h]; exact hr)

theorem DrainKeeps.inj {x y : Quad} (h : DrainKeeps x y) : y.inj = x.inj := by rw [h]

/-- A device that differs from the state's at most in the command's quad, which is `y`. -/
def OnlyQuad (s : State) (q : QuadAt) (y : Quad) (d : Dev) : Prop :=
  (d = (s.dev.at q.e).setQuad q.quad.toNat y ∨ d = s.dev.at q.e) ∧ d.quad q.quad.toNat = y

theorem onlyQuad_at : OnlyQuad s q (coreQuad s q) (s.dev.at q.e) := ⟨.inr rfl, rfl⟩

theorem OnlyQuad.only {y : Quad} {d : Dev} (h : OnlyQuad s q y d) : d = { s.dev.at q.e with quads := d.quads } := by
  rcases h.1 with rfl | rfl <;> rfl

theorem OnlyQuad.other {y : Quad} {d : Dev} (h : OnlyQuad s q y d) (hy : y ≠ {}) {n : Nat} (hn : n ≠ q.quad.toNat) : d.quad n = s.dev.quad n := by
  rcases h.1 with rfl | rfl
  · exact Dev.quad_setQuad_other hy hn
  · rfl

theorem OnlyQuad.setQuad_eq {y z : Quad} {d : Dev} (h : OnlyQuad s q y d) (hy : y ≠ {}) :
    d.setQuad q.quad.toNat z = (s.dev.at q.e).setQuad q.quad.toNat z := by
  rcases h.1 with rfl | rfl
  · exact Dev.setQuad_setQuad hy
  · rfl

/-- The quad of such a device replaced. -/
theorem OnlyQuad.setQuad {y z : Quad} {d : Dev} (h : OnlyQuad s q y d) (hy : y ≠ {}) (hz : z ≠ {}) : OnlyQuad s q z (d.setQuad q.quad.toNat z) := by
  exact ⟨.inl (h.setQuad_eq hy), Dev.quad_setQuad_self hz⟩

/-- The oldest buffered store drains. -/
theorem OnlyQuad.drainNext {y : Quad} {d : Dev} (h : OnlyQuad s q y d) (hi : y.inj = []) (hr : (runningSlot y).isSome = true) (hs : y.sb ≠ []) :
    OnlyQuad s q (drainedNext y) (drainNext d q.quad.toNat) := by
  rw [drainNext_spec (h.2 ▸ hi) (h.2 ▸ hs), h.2]
  exact h.setQuad (quad_ne_of_running hr) (drainKeeps_next.ne hr)

/-- Stores drain until none overlaps. -/
theorem OnlyQuad.drainOver {y : Quad} {d : Dev} (h : OnlyQuad s q y d) (hi : y.inj = []) (hr : (runningSlot y).isSome = true) (a len fuel : Nat) :
    OnlyQuad s q (drainedOver y a len fuel) (drainOver d q.quad.toNat a len fuel) := by
  rcases drainOver_spec (d := d) (n := q.quad.toNat) (a := a) (len := len) fuel (h.2 ▸ hi) (h.2 ▸ hr) with ⟨h1, h2⟩ | h1
  · rw [h1, ← h.2, h2]
    exact ⟨h.2 ▸ h.1, rfl⟩
  · rw [h1, h.2]
    exact h.setQuad (quad_ne_of_running hr) ((drainKeeps_over fuel).ne hr)

/-- Retiring from a device that differs from the state's at most in the quad. -/
theorem retires_onlyQuad {x y : Quad} {pc : Word} {d : Dev} (hd : OnlyQuad s q y d) (hy : y ≠ {}) (h : 0 < cyc)
    (hx : exec c s = .next (s.withDev (retire d q.quad.toNat cyc x pc))) : Retires c s q cyc x pc :=
  retires_of h hd.1 hy hx

/-- An instruction that waited for stores retires no earlier than one that did not. -/
theorem waitCycle_pos {w : Bool} {y : Quad} {k : Nat} (h : 0 < k) : 0 < waitCycle w y k := by
  unfold waitCycle
  split
  · exact Nat.lt_of_lt_of_le h (Nat.le_max_left _ _)
  · exact h

/-! ## Loads -/

theorem setReg_eq (x : Quad) (i : Nat) (v : Word) : x.setReg i v = { x with g := (x.setReg i v).g } := by
  unfold Quad.setReg
  split <;> rfl

theorem setReg_g {x y : Quad} (h : y.g = x.g) (i : Nat) (v : Word) : (y.setReg i v).g = (x.setReg i v).g := by
  simp only [Quad.setReg]
  split
  · exact h
  · rw [h]

/-- A load from memory of a quad without injected errors retires with the octets of memory. -/
theorem loadMemory_clean {d : Dev} {n a len w k : Nat} {ext : Nat → Word} (hi : (d.quad n).inj = []) :
    loadMemory len ext d n w k a =
      retire d n k (({ d.quad n with coreTag := (d.quad n).coreTag ||| spanTag (d.quad n) a len, loadAt := some (k, bankCode a) } : Quad).setReg
        (fGd w) (ext (leVal (memRead (d.quad n).mem a len)))) ((d.quad n).pc + 4) := by
  have hlt : leVal (memRead (d.quad n).mem a len) % 2 ^ (8 * len) = leVal (memRead (d.quad n).mem a len) := by
    refine Nat.mod_eq_of_lt ?_
    rw [Nat.pow_mul]
    simpa using leVal_lt (memRead (d.quad n).mem a len)
  simp only [loadMemory, readQuad_clean hi, Bool.false_eq_true, if_false, hlt]

/-- What a load leaves of a quad but its registers, PC and clock: drains, the port and the core's tag. -/
def LoadKeeps (x y : Quad) : Prop :=
  y = { x with sb := y.sb, mem := y.mem, drained := y.drained, loadAt := y.loadAt, tags := y.tags, coreTag := y.coreTag }

/-- A retirement that is a load's. -/
theorem loadsView_of_retires {len k : Nat} {ext : Nat → Word} {y : Quad}
    (h : Retires c s q k (y.setReg (fGd (coreWord s q)) (ext (leVal (viewBytes (coreQuad s q) (dataAddr s q) len)))) ((coreQuad s q).pc + 4))
    (hy : LoadKeeps (coreQuad s q) y) (hv : ∀ a, viewByte y a = viewByte (coreQuad s q) a) : LoadsView c s q len ext := by
  obtain ⟨t, ht, hp, hf, hq, hframe⟩ := h
  refine ⟨t, ht, hp, hf, hframe, ?_⟩
  rw [setReg_eq] at hq
  rw [hq]
  refine ⟨rfl, setReg_g (by rw [hy]) _ _, hv, ?_⟩
  unfold LoadKeeps at hy
  rw [hy]

section

variable {d : Dev} {n w k a len : Nat} {ext : Nat → Word}

theorem load_misaligned (ha : ((d.quad n).reg (fGs1 w) + sImm w).toNat = a) (h : a % len ≠ 0) :
    load len ext d n w k = trapQuad d n causeMisaligned 0 := by
  simp only [load, ha]
  rw [if_pos h]

theorem load_forbidden (ha : ((d.quad n).reg (fGs1 w) + sImm w).toNat = a) (hal : a % len = 0) (h : ¬ Loadable a len) :
    load len ext d n w k = trapQuad d n causeForbidden 0 := by
  simp only [load, ha]
  exact (if_neg (not_not.2 hal)).trans (if_pos h)

/-- The youngest overlapping store covers the span: its octets are forwarded (03 R72). -/
theorem load_forwarded {t : StoreEntry} (ha : ((d.quad n).reg (fGs1 w) + sImm w).toNat = a) (hal : a % len = 0) (hl : Loadable a len)
    (ht : ((d.quad n).sb.filter (·.overlaps a len)).getLast? = some t) (hc : t.covers a len = true) :
    load len ext d n w k = retire d n k ((d.quad n).setReg (fGd w) (ext (bitsAt (8 * (a - t.addr)) (8 * len) t.data.toNat))) ((d.quad n).pc + 4) := by
  simp only [load, ha, ht, hc, if_true]
  exact (if_neg (not_not.2 hal)).trans (if_neg (not_not.2 hl))

/-- The youngest overlapping store covers a part of the span: the overlapping stores drain first (03 R73). -/
theorem load_drained {t : StoreEntry} (ha : ((d.quad n).reg (fGs1 w) + sImm w).toNat = a) (hal : a % len = 0) (hl : Loadable a len)
    (ht : ((d.quad n).sb.filter (·.overlaps a len)).getLast? = some t) (hc : t.covers a len = false) :
    load len ext d n w k = loadMemory len ext (drainOver d n a len 8) n w
      (max k (max (leastCycle (d.quad n) (loadCost a)) (((drainOver d n a len 8).quad n).drained + loadCost a - 1))) a := by
  simp only [load, ha, ht, hc, Bool.false_eq_true, if_false]
  exact (if_neg (not_not.2 hal)).trans (if_neg (not_not.2 hl))

/-- No buffered store overlaps the span: memory serves the load. -/
theorem load_direct (ha : ((d.quad n).reg (fGs1 w) + sImm w).toNat = a) (hal : a % len = 0) (hl : Loadable a len)
    (ht : ((d.quad n).sb.filter (·.overlaps a len)).getLast? = none) :
    load len ext d n w k = loadMemory len ext d n w (max k (leastCycle (d.quad n) (loadCost a))) a := by
  simp only [load, ha, ht]
  exact (if_neg (not_not.2 hal)).trans (if_neg (not_not.2 hl))

end

/-- A load that memory serves once no buffered store overlaps it. -/
theorem loadsView_of_loadMemory {len : Nat} {ext : Nat → Word} {y : Quad} {d : Dev} (hd : OnlyQuad s q y d)
    (hk : DrainKeeps (coreQuad s q) y) (hi : y.inj = []) (hv : ∀ a, viewByte y a = viewByte (coreQuad s q) a)
    (hclear : ∀ t ∈ y.sb, t.overlaps (dataAddr s q) len = false) (hy : y ≠ {}) (h : 0 < cyc)
    (hx : exec c s = .next (s.withDev (loadMemory len ext d q.quad.toNat (coreWord s q) cyc (dataAddr s q)))) : LoadsView c s q len ext := by
  rw [loadMemory_clean (hd.2 ▸ hi), hd.2, ← viewBytes_of_clear hclear, viewBytes_congr hv,
    show y.pc = (coreQuad s q).pc by rw [hk]] at hx
  refine loadsView_of_retires (retires_onlyQuad hd hy h hx) ?_ hv
  unfold DrainKeeps at hk
  unfold LoadKeeps
  rw [hk]

/-- A load that the spec lets read, from the three places that serve it: the youngest store that covers it, memory after the
overlapping stores have drained, or memory (03 R72, R73). -/
theorem loadsView_of_load {len : Nat} {ext : Nat → Word} (hx : exec c s = coreStep s q (isOp op) 2 (load len ext))
    (h : LoadReady s q op len) : LoadsView c s q len ext := by
  obtain ⟨hop, hcl, ⟨hlen, -, hwf⟩, hal, hld⟩ := h
  have hx : exec c s = .next (s.withDev (load len ext (s.dev.at q.e) q.quad.toNat (coreWord s q) (coreCycle s q 2))) :=
    hx.trans (coreStep_op hop)
  have hpos : 0 < coreCycle s q 2 := coreCycle_pos Nat.two_pos
  cases ht : ((coreQuad s q).sb.filter (·.overlaps (dataAddr s q) len)).getLast? with
  | none =>
    rw [load_direct (d := s.dev.at q.e) rfl hal hld ht] at hx
    have hclear : ∀ t ∈ (coreQuad s q).sb, t.overlaps (dataAddr s q) len = false := by
      simpa [List.filter_eq_nil_iff] using ht
    exact loadsView_of_loadMemory onlyQuad_at .refl hcl (fun _ => rfl) hclear (coreQuad_ne hop.1) (Nat.lt_of_lt_of_le hpos (Nat.le_max_left _ _)) hx
  | some t =>
    cases hc : t.covers (dataAddr s q) len with
    | true =>
      rw [load_forwarded (d := s.dev.at q.e) rfl hal hld ht hc] at hx
      have ha : t.addr ≤ dataAddr s q := by
        simp only [StoreEntry.covers, Bool.and_eq_true, decide_eq_true_eq] at hc
        exact hc.1
      have hv := leVal_viewBytes_entry ha fun i hi => viewByte_of_covers ht hc hi
      exact loadsView_of_retires (y := coreQuad s q) (retires_at hpos (by rw [hv]; exact hx)) rfl fun _ => rfl
    | false =>
      rw [load_drained (d := s.dev.at q.e) rfl hal hld ht hc] at hx
      have hk : DrainKeeps (coreQuad s q) (drainedOver (coreQuad s q) (dataAddr s q) len 8) := drainKeeps_over 8
      exact loadsView_of_loadMemory (onlyQuad_at.drainOver hcl hop.1.2.2.1 _ _ 8) hk (hk.inj.trans hcl) (viewByte_drainedOver 8 hwf) (drainedOver_clear hlen)
        (hk.ne hop.1.2.2.1) (Nat.lt_of_lt_of_le hpos (Nat.le_max_left _ _)) hx

end Sys2Proof.Machine

section

open Sys2Proof.Machine

/-- Settles O10: a drain moves what the program sees from the buffer to memory, so that forwarding and waiting load the same. -/
theorem loadsSeeBufferedStores : Obligations.LoadsSeeBufferedStores :=
  fun _ _ => ⟨loadsView_of_load rfl, loadsView_of_load rfl, loadsView_of_load rfl, loadsView_of_load rfl, loadsView_of_load rfl⟩

end

/-! Stores enter the buffer and drain (03 R67, R68, R70, R71). -/

namespace Sys2Proof.Machine

variable {s : State} {q : QuadAt} {c : Instr} {op : Nat}

section

variable {d : Dev} {n w k a len : Nat}

theorem store_misaligned (ha : ((d.quad n).reg (fGs1 w) + sImm w).toNat = a) (h : a % len ≠ 0) :
    store len d n w k = trapQuad d n causeMisaligned 0 := by
  simp only [store, ha]
  exact if_pos h

theorem store_forbidden (ha : ((d.quad n).reg (fGs1 w) + sImm w).toNat = a) (hal : a % len = 0) (h : ¬ Storable a len) :
    store len d n w k = trapQuad d n causeForbidden 0 := by
  simp only [store, ha]
  exact (if_neg (not_not.2 hal)).trans (if_pos h)

/-- The device in which a store enters the buffer: a full one has drained its oldest entry (03 R70). -/
def storeDev (d : Dev) (n : Nat) : Dev := if 8 ≤ (d.quad n).sb.length then drainNext d n else d

theorem store_enters (ha : ((d.quad n).reg (fGs1 w) + sImm w).toNat = a) (hal : a % len = 0) (hl : Storable a len) :
    store len d n w k =
      let x := (storeDev d n).quad n
      let c := waitCycle (decide (8 ≤ (d.quad n).sb.length)) x k
      retire (storeDev d n) n c { x with sb := x.sb ++ [{
        addr := a, size := len, data := BitVec.ofNat 32 ((x.reg (fGd w)).toNat % 2 ^ (8 * len)), cyc := c, tag := x.coreTag }] } (x.pc + 4) := by
  simp only [store, ha, storeDev, decide_eq_true_eq]
  exact (if_neg (not_not.2 hal)).trans (if_neg (not_not.2 hl))

end

/-- The quad in which a store enters the buffer. -/
def storeQuadAt (x : Quad) : Quad := if 8 ≤ x.sb.length then drainedNext x else x

theorem drainKeeps_storeQuadAt {x : Quad} : DrainKeeps x (storeQuadAt x) := by
  unfold storeQuadAt
  split
  · exact drainKeeps_next
  · exact .refl

theorem onlyQuad_storeDev (h : CoreRuns s q) (hc : Clean s q) :
    OnlyQuad s q (storeQuadAt (coreQuad s q)) (storeDev (s.dev.at q.e) q.quad.toNat) := by
  by_cases hf : 8 ≤ (coreQuad s q).sb.length
  · have hs : (coreQuad s q).sb ≠ [] := fun h0 => by simp [h0] at hf
    rw [show storeDev (s.dev.at q.e) q.quad.toNat = drainNext (s.dev.at q.e) q.quad.toNat from if_pos hf, storeQuadAt, if_pos hf]
    exact onlyQuad_at.drainNext hc h.2.2.1 hs
  · rw [show storeDev (s.dev.at q.e) q.quad.toNat = s.dev.at q.e from if_neg hf, storeQuadAt, if_neg hf]
    exact onlyQuad_at

/-- A store that the spec lets write. -/
theorem stores_of_store {len : Nat} (hx : exec c s = coreStep s q (isOp op) 1 (store len)) : Stores c s q op len := by
  intro hop hcl hal hst x y k
  have hd := onlyQuad_storeDev hop.1 hcl
  have hk : DrainKeeps x y := drainKeeps_storeQuadAt
  have hpos : 0 < k := waitCycle_pos (coreCycle_pos Nat.one_pos)
  refine retires_onlyQuad hd (hk.ne hop.1.2.2.1) hpos ?_
  have hq : (storeDev (s.dev.at q.e) q.quad.toNat).quad q.quad.toNat = y := hd.2
  have hreg : y.reg = x.reg := by
    funext i
    rw [Quad.reg, hk]
    rfl
  have htag : y.coreTag = x.coreTag := by rw [hk]
  have hpc : y.pc = x.pc := by rw [hk]
  rw [hx, coreStep_op hop, store_enters (d := s.dev.at q.e) rfl hal hst, hq]
  simp only [hreg, htag, hpc]
  rfl

/-! ## STORE_BUFFER_DRAIN -/

theorem storeBufferDrain_nil (hf : q.quad.toNat < quadsFitted s.dev) (h : (coreQuad s q).sb = []) : Passes (.storeBufferDrain q) s q.e := by
  refine does_onUnit (d := s.dev.at q.e) ?_ rfl
  show execStoreBufferDrain q s = _
  have h' : ((s.dev.at q.e).quad q.quad.toNat).sb = [] := h
  simp only [execStoreBufferDrain, h', hf, decide_true]

theorem exec_storeBufferDrain_cons (hf : q.quad.toNat < quadsFitted s.dev) {t : StoreEntry} {r : List StoreEntry} (h : (coreQuad s q).sb = t :: r) :
    exec (.storeBufferDrain q) s = onUnit s true
      (if t.cyc < q.cyc ∧ (coreQuad s q).drained ≤ q.cyc ∧ (coreQuad s q).loadAt ≠ some (q.cyc, bankCode t.addr)
        then drainOne (s.dev.at q.e) q.quad.toNat q.cyc else s.dev.at q.e) := by
  show execStoreBufferDrain q s = _
  have h' : ((s.dev.at q.e).quad q.quad.toNat).sb = t :: r := h
  simp only [execStoreBufferDrain, h', hf, decide_true]
  rfl

theorem drainedOnce_ne {x : Quad} {k : Nat} (h : x.sb ≠ []) : drainedOnce x k ≠ {} := by
  unfold drainedOnce
  split
  · next h' => exact absurd h' h
  · rw [tagSpan_eq]
    exact fun h' => Nat.succ_ne_zero _ (congrArg Quad.drained h')

end Sys2Proof.Machine

section

open Sys2Proof.Machine

/-- Settles O11: a store enters the buffer of the quad as a drain, when one is due, has left it; STORE_BUFFER_DRAIN is one drain
under its three conditions. -/
theorem storesEnterAndDrain : Obligations.StoresEnterAndDrain := by
  refine ⟨fun s q => ⟨stores_of_store rfl, stores_of_store rfl, stores_of_store rfl⟩, fun s q hf => ⟨?cons, storeBufferDrain_nil hf⟩⟩
  intro t r h hcl
  have hx := exec_storeBufferDrain_cons hf h
  have hs : (coreQuad s q).sb ≠ [] := by simp [h]
  split
  · next hp =>
    rw [if_pos hp, drainOne_spec (d := s.dev.at q.e) hcl hs] at hx
    exact does_onUnit hx ⟨Dev.quad_setQuad_self (drainedOnce_ne hs), fun m hm => Dev.quad_setQuad_other (drainedOnce_ne hs) hm, rfl⟩
  · next hp =>
    rw [if_neg hp] at hx
    exact does_onUnit hx rfl

end

/-! Registers, control registers, stamps and depths (03 R62, R64, R94, Table 3.1). -/

namespace Sys2Proof.Machine

variable {s : State} {q : QuadAt} {c : Instr} {op : Nat}

@[simp] theorem setReg_zero (x : Quad) (v : Word) : x.setReg 0 v = x := rfl

@[simp] theorem reg_zero (x : Quad) : x.reg 0 = 0 := rfl

theorem reg_setReg {x : Quad} (w : tabWf 0 x.g = true) (i j : Nat) (v : Word) :
    (x.setReg i v).reg j = if j = 0 then 0 else if j = i then v else x.reg j := by
  by_cases hj : j = 0
  · rw [if_pos hj, hj, reg_zero]
  · rw [if_neg hj]
    by_cases hi : i = 0
    · rw [hi, setReg_zero, if_neg hj]
    · simp only [Quad.reg, Quad.setReg, hi, hj, if_false]
      split
      · next h => exact h ▸ tabGet_tabSet_self_wf w
      · next h => exact tabGet_tabSet_other_wf w h

theorem setReg_wf {x : Quad} (w : tabWf 0 x.g = true) (i : Nat) (v : Word) : tabWf 0 (x.setReg i v).g = true := by
  unfold Quad.setReg
  split
  · exact w
  · exact tabSet_wf w

/-! ## Fields of a word -/

theorem bitsAt_zero_left (n w : Nat) : bitsAt 0 n w = w % 2 ^ n := by rw [bitsAt, Nat.pow_zero, Nat.div_one]

theorem bitsAt_queue (w : Nat) : bitsAt 0 2 w = w % 4 := bitsAt_zero_left 2 w

theorem bitsAt_unit (w : Nat) : bitsAt 0 3 w = w % 8 := bitsAt_zero_left 3 w

theorem bitsAt_csr (w : Nat) : bitsAt 0 8 w = w % 256 := bitsAt_zero_left 8 w

/-- A word whose op value names a unit is no illegal word when the unit exists (03 R66). -/
theorem illegalWord_unit {w : Nat} (h : fOp w = 0x30 ∨ fOp w = 0x31 ∨ fOp w = 0x32) (hu : w % 8 < 6) : illegalWord w = false := by
  have hn : ¬ 6 ≤ bitsAt 0 3 w := by rw [bitsAt_unit]; exact Nat.not_le.2 hu
  rcases h with h | h | h <;> simp [illegalWord, h, hn]

/-! ## Rows of the dispatcher -/

theorem exec_csrr : exec (.csrr q) s = execCsrr q s := rfl

theorem exec_csrw : exec (.csrw q) s = execCsrw q s := rfl

theorem exec_rdt : exec (.rdt q) s = execRdt q s := rfl

theorem exec_rdth : exec (.rdth q) s = execRdth q s := rfl

theorem exec_qlen : exec (.qlen q) s = execQlen q s := rfl

theorem exec_ustat : exec (.ustat q) s = execUstat q s := rfl

/-! ## Rows that write one register -/

/-- A row of an op value that retires with one register written. -/
theorem writesReg_op {f : CoreFn} {cost : Nat} {v : Word} (hx : exec c s = coreStep s q (isOp op) cost f) (hc : 0 < cost) (h : AtOp s q op)
    (hf : f (s.dev.at q.e) q.quad.toNat (coreWord s q) (coreCycle s q cost) =
      retire (s.dev.at q.e) q.quad.toNat (coreCycle s q cost) ((coreQuad s q).setReg (fGd (coreWord s q)) v) ((coreQuad s q).pc + 4)) :
    WritesReg c s q cost v :=
  retires_op hx h (coreCycle_pos hc) hf

/-- CSRR of a control register of Table 3.1. -/
theorem csrr_reads {v : Word} (h : AtOp s q 0x19)
    (hv : csrValue (s.dev.at q.e) q.quad.toNat (coreCycle s q 1) (coreWord s q % 256) = some v) : WritesReg (.csrr q) s q 1 v := by
  refine writesReg_op exec_csrr Nat.one_pos h ?_
  simp only [bitsAt_csr, hv]
  rfl

theorem csrr_traps (h : AtOp s q 0x19) (hv : csrValue (s.dev.at q.e) q.quad.toNat (coreCycle s q 1) (coreWord s q % 256) = none) :
    Traps (.csrr q) s q 1 0 := by
  refine traps_op exec_csrr h ?_
  simp only [bitsAt_csr, hv]
  rfl

theorem csrValue_none {d : Dev} {n k num : Nat} (h : num ∉ [0, 1, 2, 3, 4, 5, 6, 8]) : csrValue d n k num = none := by
  simp only [List.mem_cons, List.not_mem_nil, or_false, not_or] at h
  simp [csrValue, h]

theorem csrw_slotreg (h : AtOp s q 0x1A) (hb : coreWord s q % 256 = 8) :
    RetiresNext (.csrw q) s q 1 (withRunSlot s q { runTask s q with slotreg := (coreQuad s q).reg (fGs1 (coreWord s q)) }) :=
  retires_op exec_csrw h (coreCycle_pos Nat.one_pos) (if_pos ((bitsAt_csr _).trans hb))

theorem csrw_traps (h : AtOp s q 0x1A) (hb : coreWord s q % 256 ≠ 8) : Traps (.csrw q) s q 1 0 :=
  traps_op exec_csrw h (if_neg fun k => hb ((bitsAt_csr _).symm.trans k))

theorem setWidth_stampTick (t : Stamp) : (stampTick t).setWidth 32 = BitVec.ofNat 32 (t.toNat / 4096) := by
  apply BitVec.eq_of_toNat_eq
  simp only [stampTick, BitVec.toNat_setWidth, BitVec.toNat_ofNat]
  exact Nat.mod_mod_of_dvd _ (by decide)

end Sys2Proof.Machine

section

open Sys2Proof.Machine

/-- Settles O7. -/
theorem registerFile : Obligations.RegisterFile :=
  fun x i j v _ _ w => ⟨reg_setReg w i j v, setReg_wf w i v, setReg_zero x v, reg_zero x⟩

/-- Settles O13: each row retires with its value read from the state's own device. -/
theorem controlRegistersAndStamps : Obligations.ControlRegistersAndStamps := by
  intro s q x w c n owner t
  refine ⟨fun h => ?csrr, csrw_slotreg, fun h => ?rdt, fun h => ?rdth, fun h => ?qlen, fun h hu => ?ustat⟩
  case csrr => refine ⟨?_, ?_, ?_, ?_, ?_, ?_, ?_, ?_⟩ <;> exact fun hb => csrr_reads h (by rw [hb]; rfl)
  case rdt =>
    refine retires_op exec_rdt h (coreCycle_pos Nat.one_pos) ?_
    rw [← setWidth_stampTick]
    rfl
  case rdth => exact writesReg_op exec_rdth Nat.one_pos h rfl
  case qlen =>
    refine writesReg_op exec_qlen Nat.one_pos h ?_
    rw [← bitsAt_queue]
    rfl
  case ustat =>
    refine writesReg_op exec_ustat Nat.one_pos h ?_
    have hl : illegalWord w = false := illegalWord_unit (.inr (.inr h.2)) hu
    rw [← bitsAt_unit]
    exact if_neg (by rw [hl]; exact Bool.false_ne_true)

end

/-! Traps of the plotter core and parity at the fetch (03 R64, R66 to R69, R98, R99). -/

namespace Sys2Proof.Machine

section

variable {d x : Dev} {r : Raise}

/-! ## What a raise can do: the collector's own work, and one isolation -/

theorem DeviceRaiseKeeps.quads (h : DeviceRaiseKeeps d x) : x.quads = d.quads := by rw [h]

theorem raiseOne_isolates (d : Dev) (r : Raise) :
    DeviceRaiseKeeps d (raiseOne d r).1 ∨ ∃ p t, DeviceRaiseKeeps d p ∧ (raiseOne d r).1 = isolate p r t := by
  unfold raiseOne
  extract_lets _ held stamp asNotify sev x count lf flags data d1 ev d2 p d3
  split
  · exact .inl .refl
  · have h0 : DeviceRaiseKeeps d lf.2 := by
      show DeviceRaiseKeeps d (if 2 ≤ sev then latch d r.src stamp else (0, d)).2
      split
      · exact deviceRaiseKeeps_latch _ _
      · exact .refl
    have h1 : DeviceRaiseKeeps d d1 := h0.trans rfl
    split
    · exact .inl h1
    · have h2 : DeviceRaiseKeeps d p.1 := (h1.trans (deviceRaiseKeeps_logRecord ev)).trans (deviceRaiseKeeps_pushEvent 0 ev)
      by_cases hs : sev = 3
      · exact .inr ⟨p.1, stamp, h2, if_pos hs⟩
      · refine .inl ?_
        show DeviceRaiseKeeps d (if sev = 3 then isolate p.1 r stamp else if 4 ≤ sev then haltDevice p.1 sev r.src stamp else p.1)
        rw [if_neg hs]
        split
        · exact h2.trans (deviceRaiseKeeps_haltDevice _ _ _)
        · exact h2

/-- A raise isolates at most once; all else of it is the collector's own (16 R614 to R627). -/
theorem raise_isolates (d : Dev) (r : Raise) :
    DeviceRaiseKeeps d (raise d r) ∨ ∃ p t, DeviceRaiseKeeps d p ∧ DeviceRaiseKeeps (isolate p r t) (raise d r) := by
  rcases raiseOne_isolates d r with h | ⟨p, t, hp, h⟩
  · exact .inl (h.trans (deviceRaiseKeeps_eventsLost _))
  · exact .inr ⟨p, t, hp, h ▸ deviceRaiseKeeps_eventsLost _⟩

/-! ## Quads under a raise -/

/-- Every quad is as before but for its state. -/
def QuadsKeepButState (d x : Dev) : Prop := ∀ n, ∃ st, x.quad n = { d.quad n with st := st }

theorem quadsKeepButState_of_quads (h : x.quads = d.quads) : QuadsKeepButState d x := fun n =>
  ⟨(d.quad n).st, congrArg (fun t => tabGet ({} : Quad) t n) h⟩

theorem QuadsKeepButState.trans {y : Dev} (h : QuadsKeepButState d x) (k : QuadsKeepButState x y) : QuadsKeepButState d y := fun n => by
  obtain ⟨st, hx⟩ := h n
  obtain ⟨st', hy⟩ := k n
  exact ⟨st', by rw [hy, hx]⟩

theorem ownChange_quads (i j : Nat) (v : Bytes) : (ownChange d i j v).quads = d.quads := by
  unfold ownChange
  split <;> rfl

theorem recoveryDue_quads (p s : Nat) (t : Stamp) : (recoveryDue d p s t).quads = d.quads := by
  simp only [recoveryDue]
  split <;> rfl

/-- A quad that fails keeps all but its state (07 R276). -/
theorem quadsKeepButState_failQuad (q : Nat) : QuadsKeepButState d (failQuad d q) := by
  have hq : (failQuad d q).quads = (d.setQuad q { d.quad q with st := .failed }).quads := by
    simp only [failQuad]
    split
    · exact ownChange_quads _ _ _
    · rfl
  refine QuadsKeepButState.trans (fun n => ?_) (quadsKeepButState_of_quads hq)
  have hne : ({ d.quad q with st := .failed } : Quad) ≠ {} := fun h => QuadState.noConfusion (congrArg Quad.st h)
  by_cases hn : n = q
  · exact ⟨.failed, by rw [hn, Dev.quad_setQuad_self hne]⟩
  · exact ⟨(d.quad n).st, Dev.quad_setQuad_other hne hn⟩

theorem quadsKeepButState_failMapped (p q : Nat) : QuadsKeepButState d (failMapped d p q) := by
  simp only [failMapped]
  split
  · exact quadsKeepButState_of_quads rfl
  · exact quadsKeepButState_failQuad q

theorem quadsKeepButState_isolate (r : Raise) (t : Stamp) : QuadsKeepButState d (isolate d r t) := by
  unfold isolate
  split
  · exact quadsKeepButState_of_quads rfl
  · exact quadsKeepButState_of_quads (recoveryDue_quads _ _ _)
  · split
    · exact quadsKeepButState_failQuad _
    · refine QuadsKeepButState.trans ?_ (quadsKeepButState_of_quads (recoveryDue_quads _ _ _))
      split
      · exact quadsKeepButState_failMapped _ _
      · exact quadsKeepButState_of_quads rfl

/-- A raise touches of a quad its state alone (16 R616, 07 R276). -/
theorem quadsKeepButState_raise (r : Raise) : QuadsKeepButState d (raise d r) := by
  rcases raise_isolates d r with h | ⟨p, t, hp, h⟩
  · exact quadsKeepButState_of_quads h.quads
  · exact ((quadsKeepButState_of_quads hp.quads).trans (quadsKeepButState_isolate r t)).trans (quadsKeepButState_of_quads h.quads)

/-- A quad's lasting source is noted on the quad, which keeps all else but its state (03 Table 3.15). -/
theorem quad_raiseLasting (d : Dev) (s n a b : Nat) (detail : Bytes) (inj : Bool) :
    ∃ st l, (raiseLasting d s n a b detail inj).quad n = { d.quad n with st := st, causes := l } ∧ s ∈ l := by
  let l := if s ∈ (d.quad n).causes then (d.quad n).causes else (d.quad n).causes ++ [s]
  have hl : s ∈ l := by
    unfold l
    split
    · next h => exact h
    · simp
  have hne : ({ d.quad n with causes := l } : Quad) ≠ {} := fun h => by
    have : l = [] := congrArg Quad.causes h
    simp [this] at hl
  obtain ⟨st, h⟩ := quadsKeepButState_raise (d := d.setQuad n { d.quad n with causes := l })
    { src := s, quad := some n, part := (quadOwner (d.setQuad n { d.quad n with causes := l }) n).map (·.1), loc16 := a, loc64 := b, detail := detail, injected := inj } n
  rw [Dev.quad_setQuad_self hne] at h
  exact ⟨st, l, h, hl⟩

end

variable {s : State} {q : QuadAt} {c : Instr} {op : Nat}

/-! ## Parity of the instruction word -/

/-- A word that overlaps an instruction word lies in instruction memory: its parity corrects nothing (03 R98). -/
theorem bankOf_of_fetchError {x : Quad} {v : Nat × Nat} (hp : pcOk x.pc = true) (h : fetchError x = some v) : bankOf v.1 = some .imem := by
  have hm : v ∈ injected x.inj codeWord x.pc.toNat 4 := List.mem_of_mem_head? h
  simp only [injected, List.mem_filter, Bool.and_eq_true, decide_eq_true_eq] at hm
  simp only [pcOk, Bool.and_eq_true, decide_eq_true_eq] at hp
  exact if_pos (by omega)

/-- A command whose row is an operation of Table 3.3. -/
def CoreRow (c : Instr) (s : State) (q : QuadAt) : Prop := ∃ m cost f, exec c s = coreStep s q m cost f

/-- The fetch of a word whose parity fails retires nothing and notes PMEM_ERROR (03 R99). -/
theorem does_of_fetchError {v : Nat × Nat} (hc : CoreRow c s q) (hf : q.quad.toNat < quadsFitted s.dev) (hl : quadLive (coreQuad s q) = true)
    (hr : (runningSlot (coreQuad s q)).isSome = true) (hp : pcOk (coreQuad s q).pc = true) (he : fetchError (coreQuad s q) = some v) (hv : 0 < v.2) :
    Does c s fun d => (d.quad q.quad.toNat).pc = (coreQuad s q).pc ∧ (d.quad q.quad.toNat).g = (coreQuad s q).g ∧
      0x44 ∈ (d.quad q.quad.toNat).causes := by
  obtain ⟨m, cost, f, hx⟩ := hc
  have hb := bankOf_of_fetchError hp he
  have hw : (checkWord (s.dev.at q.e) q.quad.toNat v).2 =
      raiseLasting (s.dev.at q.e) 0x44 q.quad.toNat (bankCode v.1) v.1 (syndrome v.2) true := by
    simp only [checkWord, correctable, bankSources, hb, Nat.not_le.2 hv, if_false]
  have hrun : exec c s = onUnit s true (checkWord (s.dev.at q.e) q.quad.toNat v).2 := by
    rw [hx, coreStep]
    simp only [fetching, coreQuad_at, hf, hl, hr, hp, he, decide_true, Bool.and_self, if_true]
  refine does_onUnit (hrun.trans (by rw [hw])) ?_
  obtain ⟨st, l, h, hm⟩ := quad_raiseLasting (s.dev.at q.e) 0x44 q.quad.toNat (bankCode v.1) v.1 (syndrome v.2) true
  rw [h]
  exact ⟨rfl, rfl, hm⟩

/-! ## Rows of the dispatcher -/

theorem exec_trap : exec (.trap q) s = execTrap q s := rfl

theorem exec_illegalInstruction : exec (.illegalInstruction q) s = execIllegalInstruction q s := rfl

theorem exec_add : exec (.add q) s = execAdd q s := rfl

theorem exec_addi : exec (.addi q) s = execAddi q s := rfl

theorem exec_lb : exec (.lb q) s = execLb q s := rfl

theorem exec_lh : exec (.lh q) s = execLh q s := rfl

theorem exec_lw : exec (.lw q) s = execLw q s := rfl

theorem exec_lhu : exec (.lhu q) s = execLhu q s := rfl

theorem exec_sb : exec (.sb q) s = execSb q s := rfl

theorem exec_sh : exec (.sh q) s = execSh q s := rfl

theorem exec_sw : exec (.sw q) s = execSw q s := rfl

theorem exec_beq : exec (.beq q) s = execBeq q s := rfl

theorem exec_jal : exec (.jal q) s = execJal q s := rfl

theorem exec_fence : exec (.fence q) s = execFence q s := rfl

theorem exec_send : exec (.send q) s = execSend q s := rfl

theorem exec_recv : exec (.recv q) s = execRecv q s := rfl

theorem exec_recvw : exec (.recvw q) s = execRecvw q s := rfl

theorem exec_cmd : exec (.cmd q) s = execCmd q s := rfl

theorem exec_done : exec (.done q) s = execDone q s := rfl

/-! ## ILLEGAL_INSTRUCTION -/

/-- ILLEGAL_INSTRUCTION of a running task, by its PC and its word (03 R66, R67). -/
theorem exec_illegalInstruction_runs (hf : q.quad.toNat < quadsFitted s.dev) (hl : quadLive (coreQuad s q) = true)
    (hr : (runningSlot (coreQuad s q)).isSome = true) :
    exec (.illegalInstruction q) s = onUnit s true
      (if (coreQuad s q).pc.toNat % 4 ≠ 0 then trapQuad (s.dev.at q.e) q.quad.toNat causeMisaligned 0
      else if !pcOk (coreQuad s q).pc then trapQuad (s.dev.at q.e) q.quad.toNat causeForbidden 0
      else fetching (s.dev.at q.e) q.quad.toNat fun w => if illegalWord w then trapQuad (s.dev.at q.e) q.quad.toNat causeIllegal 0 else s.dev.at q.e) := by
  rw [exec_illegalInstruction, execIllegalInstruction]
  simp only [coreQuad_at, hf, hl, hr, decide_true, Bool.and_self, if_true]

theorem traps_of_onUnit {cause : Nat} {code : BitVec 16} (h : exec c s = onUnit s true (trapQuad (s.dev.at q.e) q.quad.toNat cause code)) :
    Traps c s q cause code := by
  unfold Traps
  exact does_onUnit h trapQuad_spec

/-- An undefined operation traps (03 R66). -/
theorem illegalInstruction_traps (h : CoreRuns s q) (hi : illegalWord (coreWord s q) = true) : Traps (.illegalInstruction q) s q 1 0 := by
  obtain ⟨hf, hl, hr, hp, he⟩ := h
  have hm : (coreQuad s q).pc.toNat % 4 = 0 := by
    simp only [pcOk, Bool.and_eq_true, decide_eq_true_eq] at hp
    exact hp.2
  refine traps_of_onUnit ((exec_illegalInstruction_runs hf hl hr).trans ?_)
  have hw : illegalWord (fetchWord (coreQuad s q)) = true := hi
  simp only [fetching, coreQuad_at, hm, hl, hr, hp, he, hw, ne_eq, not_true_eq_false, if_false, Bool.not_true, Bool.false_eq_true, Bool.and_self, if_true]
  rfl

/-! ## Message addresses -/

variable {a : Nat}

theorem msgTrap_misaligned (h : a % 64 ≠ 0) : msgTrap a = some 2 := if_pos h

theorem msgTrap_forbidden (h : a % 64 = 0) (hb : bankSpan a 64 ≠ some .dmem) : msgTrap a = some 3 :=
  (if_neg (not_not.2 h)).trans (if_pos hb)

theorem msgTrap_none (h : a % 64 = 0) (hb : bankSpan a 64 = some .dmem) : msgTrap a = none :=
  (if_neg (not_not.2 h)).trans (if_neg (not_not.2 hb))

/-- A bad message address traps before anything else of SEND, RECV and RECVW. -/
theorem message_traps {cause : Nat} (ht : msgTrap ((coreQuad s q).reg (fGs1 (coreWord s q))).toNat = some cause) :
    (AtOp s q 0x20 → Traps (.send q) s q cause 0) ∧ (AtOp s q 0x21 → Traps (.recv q) s q cause 0) ∧
      (AtOp s q 0x22 → Traps (.recvw q) s q cause 0) := by
  have ht' : msgTrap (((s.dev.at q.e).quad q.quad.toNat).reg (fGs1 (coreWord s q))).toNat = some cause := ht
  exact ⟨fun h => traps_op exec_send h (by simp only [ht']), fun h => traps_op exec_recv h (by simp only [ht']),
    fun h => traps_op exec_recvw h (by simp only [ht'])⟩

end Sys2Proof.Machine

section

open Sys2Proof.Machine

/-- Settles O12: each row by the branch that traps, and the failing word by what its raise leaves of the quad. -/
theorem coreTraps : Obligations.CoreTraps := by
  intro s q x w a m
  have bad (h : m % 64 ≠ 0) := message_traps (s := s) (q := q) (msgTrap_misaligned h)
  have out (h : m % 64 = 0) (hb : bankSpan m 64 ≠ some .dmem) := message_traps (s := s) (q := q) (msgTrap_forbidden h hb)
  refine ⟨fun h => traps_op exec_trap h rfl, illegalInstruction_traps, fun h hn => csrr_traps h (csrValue_none hn), csrw_traps,
    fun h ha => traps_op exec_lh h (load_misaligned (d := s.dev.at q.e) rfl ha),
    fun h ha => traps_op exec_lw h (load_misaligned (d := s.dev.at q.e) rfl ha),
    fun h ha => traps_op exec_lhu h (load_misaligned (d := s.dev.at q.e) rfl ha),
    fun h ha => traps_op exec_sh h (store_misaligned (d := s.dev.at q.e) rfl ha),
    fun h ha => traps_op exec_sw h (store_misaligned (d := s.dev.at q.e) rfl ha),
    fun h hb => traps_op exec_lb h (load_forbidden (d := s.dev.at q.e) rfl (Nat.mod_one _) hb),
    fun h ha hb => traps_op exec_lw h (load_forbidden (d := s.dev.at q.e) rfl ha hb),
    fun h hb => traps_op exec_sb h (store_forbidden (d := s.dev.at q.e) rfl (Nat.mod_one _) hb),
    fun h ha hb => traps_op exec_sw h (store_forbidden (d := s.dev.at q.e) rfl ha hb),
    fun h ha => (bad ha).1 h, fun h ha => (bad ha).2.1 h, fun h ha => (bad ha).2.2 h,
    fun h ha hb => (out ha hb).1 h, fun h ha hb => (out ha hb).2.1 h, fun h ha hb => (out ha hb).2.2 h, fun hf hl hr => ⟨?_, ?_, ?_⟩⟩
  · intro hp
    exact traps_of_onUnit ((exec_illegalInstruction_runs hf hl hr).trans (by rw [if_pos hp]; rfl))
  · intro hp ho
    have hn : pcOk x.pc = false := by simp [pcOk, Nat.not_lt.2 ho]
    exact traps_of_onUnit ((exec_illegalInstruction_runs hf hl hr).trans (by rw [if_neg (not_not.2 hp), hn]; rfl))
  · intro v hp he hv
    have key {c : Sys2Proof.Instr} (hc : CoreRow c s q) := does_of_fetchError hc hf hl hr hp he hv
    simp only [List.forall_mem_cons]
    exact ⟨key ⟨_, _, _, exec_add⟩, key ⟨_, _, _, exec_addi⟩, key ⟨_, _, _, exec_lw⟩, key ⟨_, _, _, exec_sw⟩, key ⟨_, _, _, exec_beq⟩,
      key ⟨_, _, _, exec_jal⟩, key ⟨_, _, _, exec_fence⟩, key ⟨_, _, _, exec_csrr⟩, key ⟨_, _, _, exec_send⟩, key ⟨_, _, _, exec_recv⟩,
      key ⟨_, _, _, exec_cmd⟩, key ⟨_, _, _, exec_done⟩, List.forall_mem_nil _⟩

end

/-! Fences and unit commands (03 R75, R76, R95). -/

namespace Sys2Proof.Machine

/-! ## Elements of lists -/

section

variable {α : Type} {d v : α} {l : List α} {i j : Nat}

theorem setNth_eq_set (l : List α) (i : Nat) (v : α) : setNth l i v = l.set i v := by
  induction l generalizing i with
  | nil => rfl
  | cons a r ih => cases i with
    | zero => rfl
    | succ i => exact congrArg (a :: ·) (ih i)

theorem nth_setNth_self (h : i < l.length) : nth d (setNth l i v) i = v := by
  simp [nth, setNth_eq_set, h]

theorem nth_setNth_other (h : j ≠ i) : nth d (setNth l i v) j = nth d l j := by
  simp [nth, setNth_eq_set, List.getD_eq_getElem?_getD, List.getElem?_set_ne h.symm]

theorem lt_length_of_nth_ne (h : nth d l i ≠ d) : i < l.length := by
  by_contra hn
  exact h (List.getD_eq_default _ _ (Nat.not_lt.1 hn))

end

variable {s : State} {q : QuadAt} {x : Quad}

/-! ## The queue of a unit -/

/-- A unit's queue that becomes longer closes unit 2's idle span, when it is unit 2's (04 R163). -/
theorem idleSince_of_ne_nil {u : Nat} {l : List UnitCmd} (hl : l ≠ []) (t : Stamp) :
    (setUnitQueue x u l).idleSince x t = { x with
      units := setNth x.units u l, idleTo := if nth [] x.units 2 = [] ∧ nth [] (setNth x.units u l) 2 ≠ [] then some t else x.idleTo } := by
  have hkeep (h : nth [] x.units 2 ≠ []) : nth [] (setNth x.units u l) 2 ≠ [] := by
    by_cases hu : 2 = u
    · rw [← hu, nth_setNth_self (lt_length_of_nth_ne h)]
      exact hl
    · rw [nth_setNth_other hu]
      exact h
  unfold Quad.idleSince
  simp only [unitQueue, setUnitQueue, List.isEmpty_iff]
  split
  · rfl
  · rw [if_neg fun k => hkeep k.1 k.2]

/-! ## CMD and UWAIT -/

theorem exec_uwait : exec (.uwait q) s = execUwait q s := rfl

/-- The command that CMD issues with a descriptor. -/
def issued (x : Quad) (w : Nat) (desc : Bytes) : UnitCmd := { desc := desc, spec := x.reg (fGs2 w), tag := issueTag x (w % 8) desc }

/-- CMD with room in the unit's queue: the command with its descriptor joins. -/
theorem cmd_joins (h : AtOp s q 0x30) (hu : coreWord s q % 8 < 6) (hroom : (nth [] (coreQuad s q).units (coreWord s q % 8)).length < 4)
    {desc : Bytes} (hd : (let a := ((coreQuad s q).reg (fGs1 (coreWord s q))).toNat
      if decide (a % 32 = 0) && decide (bankSpan a 32 = some .dmem) then readQuad (s.dev.at q.e) q.quad.toNat a 32 else ([], false, s.dev.at q.e)) =
        (desc, false, s.dev.at q.e)) :
    let x := coreQuad s q; let u := coreWord s q % 8
    RetiresNext (.cmd q) s q 1 { x with
      units := setNth x.units u (nth [] x.units u ++ [issued x (coreWord s q) desc])
      idleTo := if nth [] x.units 2 = [] ∧ nth [] (setNth x.units u (nth [] x.units u ++ [issued x (coreWord s q) desc])) 2 ≠ [] then
        some (now (s.dev.at q.e)) else x.idleTo } := by
  have hl : illegalWord (coreWord s q) = false := illegalWord_unit (.inl h.2) hu
  refine retires_op exec_cmd h (coreCycle_pos Nat.one_pos) ?_
  simp only at hd
  simp only [coreQuad_at, hl, bitsAt_unit, unitQueue, Nat.not_le.2 hroom, hd, Bool.false_eq_true, if_false]
  rw [← idleSince_of_ne_nil (by simp)]
  rfl

theorem cmd_full (h : AtOp s q 0x30) (hu : coreWord s q % 8 < 6) (hfull : 4 ≤ (nth [] (coreQuad s q).units (coreWord s q % 8)).length) :
    Passes (.cmd q) s q.e := by
  have hl : illegalWord (coreWord s q) = false := illegalWord_unit (.inl h.2) hu
  refine passes_op exec_cmd h ?_
  simp only [coreQuad_at, hl, bitsAt_unit, unitQueue, hfull, Bool.false_eq_true, if_false, if_true]

/-- UWAIT, by the unit's queue. -/
theorem uwait_effect (h : AtOp s q 0x31) (hu : coreWord s q % 8 < 6) :
    (nth [] (coreQuad s q).units (coreWord s q % 8) = [] → RetiresNext (.uwait q) s q 1 (coreQuad s q)) ∧
      (nth [] (coreQuad s q).units (coreWord s q % 8) ≠ [] → Passes (.uwait q) s q.e) := by
  have hl : illegalWord (coreWord s q) = false := illegalWord_unit (.inr (.inl h.2)) hu
  constructor
  · intro he
    refine retires_op exec_uwait h (coreCycle_pos Nat.one_pos) ?_
    simp only [coreQuad_at, hl, bitsAt_unit, unitQueue, he, List.isEmpty_nil, Bool.false_eq_true, if_false, if_true]
  · intro he
    refine passes_op exec_uwait h ?_
    simp only [coreQuad_at, hl, bitsAt_unit, unitQueue, List.isEmpty_iff, he, Bool.false_eq_true, if_false]

/-! ## FENCE -/

theorem drainKeeps_all (fuel : Nat) : DrainKeeps x (drainedAll x fuel) := by
  induction fuel generalizing x with
  | zero => exact .refl
  | succ k ih =>
    unfold drainedAll
    split
    · exact .refl
    · exact drainKeeps_next.trans ih

/-- With no more entries than `fuel`, every one drains. -/
theorem drainedAll_sb {fuel : Nat} (h : x.sb.length ≤ fuel) : (drainedAll x fuel).sb = [] := by
  induction fuel generalizing x with
  | zero => exact List.length_eq_zero_iff.1 (Nat.le_zero.1 h)
  | succ k ih =>
    unfold drainedAll
    split
    · next he => exact List.isEmpty_iff.1 he
    · refine ih ?_
      rw [drainedNext_sb, List.length_tail]
      omega

/-- Every buffered store drains. -/
theorem OnlyQuad.drainAll {y : Quad} {d : Dev} (h : OnlyQuad s q y d) (hi : y.inj = []) (hr : (runningSlot y).isSome = true) (fuel : Nat) :
    OnlyQuad s q (drainedAll y fuel) (drainAll d q.quad.toNat fuel) := by
  induction fuel generalizing y d with
  | zero => exact h
  | succ k ih =>
    rw [Machine.drainAll, drainedAll, h.2]
    split
    · exact h
    · next he =>
      have hk : DrainKeeps y (drainedNext y) := drainKeeps_next
      exact ih (h.drainNext hi hr fun hs => he (List.isEmpty_iff.2 hs)) (hk.inj.trans hi) (by rw [runningSlot, hk]; exact hr)

/-- The device as a fence leaves it: its stores drained under imm[0]. -/
def fencedDev (d : Dev) (n w : Nat) : Dev := if w % 2 = 1 then drainAll d n 8 else d

/-- The quad as a fence leaves it. -/
def fencedQuad (x : Quad) (w : Nat) : Quad := if w % 2 = 1 then drainedAll x 8 else x

theorem onlyQuad_fenced (h : CoreRuns s q) (hc : Clean s q) (w : Nat) :
    OnlyQuad s q (fencedQuad (coreQuad s q) w) (fencedDev (s.dev.at q.e) q.quad.toNat w) := by
  unfold fencedQuad fencedDev
  split
  · exact onlyQuad_at.drainAll hc h.2.2.1 8
  · exact onlyQuad_at

theorem drainKeeps_fenced (w : Nat) : DrainKeeps x (fencedQuad x w) := by
  unfold fencedQuad
  split
  · exact drainKeeps_all 8
  · exact .refl

theorem bitsAt_fence_stores (w : Nat) : bitsAt 0 1 w = w % 2 := bitsAt_zero_left 1 w

theorem bitsAt_fence_units (w : Nat) : bitsAt 1 1 w = w / 2 % 2 := rfl

/-- What a fence that need not wait for units does (03 R75). -/
theorem exec_fence_open (h : AtOp s q 0x18) (hu : coreWord s q / 2 % 2 = 0 ∨ ∀ l ∈ (coreQuad s q).units, l = []) :
    exec (.fence q) s =
      let w := coreWord s q; let d := fencedDev (s.dev.at q.e) q.quad.toNat w; let x := d.quad q.quad.toNat
      let c := waitCycle (decide (w % 2 = 1)) x (coreCycle s q 1)
      .next (s.withDev (retire d q.quad.toNat (if w / 2 % 2 = 1 then max c x.unitDone else c) x (x.pc + 4))) := by
  have hwait : ¬ (coreWord s q / 2 % 2 = 1 ∧ ¬ ((s.dev.at q.e).quad q.quad.toNat).units.all List.isEmpty = true) := by
    rw [List.all_eq_true]
    rintro ⟨h1, h2⟩
    exact h2 fun l hl => List.isEmpty_iff.2 (hu.resolve_left (by omega) l hl)
  rw [exec_fence, execFence, coreStep_op h]
  simp only [bitsAt_fence_stores, bitsAt_fence_units, hwait, if_false, fencedDev]
  rfl

/-- A fence that need not wait for units retires once the stores it waits for have drained. -/
theorem fence_retires (h : AtOp s q 0x18) (hcl : Clean s q) (hu : coreWord s q / 2 % 2 = 0 ∨ ∀ l ∈ (coreQuad s q).units, l = []) :
    let y := fencedQuad (coreQuad s q) (coreWord s q)
    let c := waitCycle (decide (coreWord s q % 2 = 1)) y (coreCycle s q 1)
    Retires (.fence q) s q (if coreWord s q / 2 % 2 = 1 then max c (coreQuad s q).unitDone else c) y ((coreQuad s q).pc + 4) := by
  intro y c
  have hk : DrainKeeps (coreQuad s q) y := drainKeeps_fenced _
  have hd := onlyQuad_fenced h.1 hcl (coreWord s q)
  have hpos : 0 < c := waitCycle_pos (coreCycle_pos Nat.one_pos)
  have hcyc : 0 < if coreWord s q / 2 % 2 = 1 then max c (coreQuad s q).unitDone else c := by
    split
    · exact Nat.lt_of_lt_of_le hpos (Nat.le_max_left _ _)
    · exact hpos
  have hdone : y.unitDone = (coreQuad s q).unitDone := by rw [hk]
  have hpc : y.pc = (coreQuad s q).pc := by rw [hk]
  have hx := exec_fence_open h hu
  simp only [hd.2] at hx
  rw [hdone, hpc] at hx
  exact retires_onlyQuad hd (hk.ne h.1.2.2.1) hcyc hx

theorem fence_waits (h : AtOp s q 0x18) (hw : coreWord s q / 2 % 2 = 1) (hu : ∃ l ∈ (coreQuad s q).units, l ≠ []) : Passes (.fence q) s q.e := by
  refine passes_op exec_fence h (if_pos ⟨hw, fun ha => ?_⟩)
  obtain ⟨l, hl, hne⟩ := hu
  exact hne (List.isEmpty_iff.1 (List.all_eq_true.1 ha l hl))

end Sys2Proof.Machine

section

open Sys2Proof.Machine

/-- Settles O14: a command joins with what its descriptor's address gives; a fence retires from the device that its drains leave. -/
theorem fencesAndCommands : Obligations.FencesAndCommands := by
  intro s q x w u a queued
  refine ⟨?room, ?bad, cmd_full, fun h hu => (uwait_effect h hu).1, fun h hu => (uwait_effect h hu).2, ?fence, fence_waits⟩
  case room =>
    intro h hcl hu hroom ha hb
    refine cmd_joins h hu hroom ?_
    refine (if_pos ?_).trans (readQuad_clean (d := s.dev.at q.e) hcl)
    rw [Bool.and_eq_true, decide_eq_true_eq, decide_eq_true_eq]
    exact ⟨ha, hb⟩
  case bad =>
    intro h hu hroom ha
    refine cmd_joins h hu hroom (if_neg ?_)
    rw [Bool.and_eq_true, decide_eq_true_eq, decide_eq_true_eq]
    exact fun k => ha.elim (absurd k.1) (absurd k.2)
  case fence =>
    intro h hcl hlen hu
    exact ⟨fence_retires h hcl hu, drainedAll_sb hlen⟩

end

/-! Messages sent and received (03 R74, R82 to R84, R89). -/

namespace Sys2Proof.Machine

variable {s : State} {q : QuadAt} {c : Instr} {x y z : Quad} {m : Msg}

/-! ## Slots that their queues ready -/

/-- A slot armed on, or waiting for, a queue since an earlier cycle whose queue holds a message at the cycle's start (R86, R89). -/
def Readied (x : Quad) (c : Nat) (t : Slot) : Prop :=
  t.since < c ∧ ∃ j p, 0 < x.depthAt j.toNat c ∧ ((t.st = .armed ∧ t.trig = some (.queue j p)) ∨ (t.st = .waiting ∧ t.wait = some (.queue j p)))

theorem settle_of_readied {c : Nat} {t : Slot} (h : Readied x c t) :
    t.settle x c = { t with st := .ready, wait := if t.st = .armed then none else t.wait } := by
  obtain ⟨hs, j, p, hd, ⟨h1, h2⟩ | ⟨h1, h2⟩⟩ := h
  · simp [Slot.settle, h1, h2, hs, hd]
  · simp [Slot.settle, h1, h2, hs, hd]

theorem settle_of_not_readied {c : Nat} {t : Slot} (h : ¬ Readied x c t) : t.settle x c = t := by
  unfold Slot.settle
  split
  · exact if_neg fun k => h ⟨k.1, _, _, k.2, .inl ⟨‹_›, ‹_›⟩⟩
  · exact if_neg fun k => h ⟨k.1, _, _, k.2, .inr ⟨‹_›, ‹_›⟩⟩
  · rfl

theorem settle_st_running {c : Nat} (t : Slot) : (t.settle x c).st = .running ↔ t.st = .running := by
  by_cases h : Readied x c t
  · rw [settle_of_readied h]
    obtain ⟨-, j, p, -, ⟨h1, -⟩ | ⟨h1, -⟩⟩ := h <;> simp [h1]
  · rw [settle_of_not_readied h]

theorem findIdx_map_congr {α β : Type} [DecidableEq β] {b : β} {f g : α → β} {l : List α} (h : ∀ a, f a = b ↔ g a = b) :
    findIdx b (l.map f) = findIdx b (l.map g) := by
  induction l with
  | nil => rfl
  | cons a r ih => simp only [List.map_cons, findIdx, h, ih]

theorem runningSlot_settled (x : Quad) (c : Nat) : runningSlot (x.settled c) = runningSlot x := by
  unfold runningSlot Quad.settled
  rw [List.map_map]
  exact findIdx_map_congr settle_st_running

/-! ## Pops -/

/-- A pop touches the quad's queues and the slots that they ready. -/
theorem popMsg_eq {k c : Nat} (h : popMsg x k c = some (m, z)) : z = { x with slots := (x.settled c).slots, inq := z.inq } := by
  simp only [popMsg] at h
  split at h
  · exact absurd h (by simp)
  · split at h
    · exact absurd h (by simp)
    · next hm =>
      simp only [Option.some.injEq, Prod.mk.injEq] at h
      rw [← h.2]
      rfl

theorem popMsg_running {k c : Nat} (h : popMsg x k c = some (m, z)) : runningSlot z = runningSlot x := by
  rw [popMsg_eq h]
  exact runningSlot_settled x c

/-- The quad after a message has been written into its data memory (06 Table 6.6). -/
def received (x : Quad) (a : Nat) (m : Msg) : Quad := { x with mem := memWrite x.mem a m.bytes, coreTag := x.coreTag ||| m.tag }

/-- A message written into data memory: the quad alone changes. -/
theorem OnlyQuad.deliver {d : Dev} (h : OnlyQuad s q y d) (hi : y.inj = []) (hr : (runningSlot y).isSome = true) (a : Nat) (m : Msg) :
    OnlyQuad s q (received y a m) (deliverToCore d q.quad.toNat a m) := by
  have hne : ({ y with mem := memWrite y.mem a m.bytes } : Quad) ≠ {} := quad_ne_of_running hr
  have h1 := h.setQuad (quad_ne_of_running hr) hne
  have hw : writeQuad d q.quad.toNat a m.bytes = d.setQuad q.quad.toNat { y with mem := memWrite y.mem a m.bytes } := by
    rw [writeQuad_clean (h.2 ▸ hi), h.2]
  simp only [deliverToCore, hw, h1.2]
  exact h1.setQuad hne (quad_ne_of_running hr)

/-! ## The running slot -/

theorem running_runSlot : (runningSlot (coreQuad s q)).getD 0 = runSlot s q := (rfl)

theorem runningTask : nth {} (coreQuad s q).slots (runSlot s q) = runTask s q := (rfl)

theorem stopSlot_running (f : Slot → Slot) (hn : (runTask s q).cancelled = false) :
    stopSlot (coreQuad s q) (runSlot s q) f = withRunSlot s q (f (runTask s q)) := by
  simp only [stopSlot, Quad.updSlot, runningTask, hn, Bool.false_eq_true, if_false]
  rfl

/-- A cancelled slot that stops becomes IDLE (R90). -/
theorem stopSlot_cancelled {f : Slot → Slot} (hn : (runTask s q).cancelled = true) :
    stopSlot (coreQuad s q) (runSlot s q) f = withRunSlot s q (cancelledSlot (runTask s q)) := by
  simp only [stopSlot, Quad.updSlot, runningTask, hn, if_true]
  rfl

/-- A command that leaves a device which differs from the state's at most in the quad. -/
theorem does_onlyQuad {d : Dev} (h : OnlyQuad s q y d) (hy : y ≠ {}) (hx : exec c s = .next (s.withDev d)) :
    Does c s fun d => d.quad q.quad.toNat = y ∧ d = { s.dev.at q.e with quads := d.quads } ∧ (∀ m, m ≠ q.quad.toNat → d.quad m = s.dev.quad m) := by
  exact does_next hx ⟨h.2, h.only, fun m hm => h.other hy hm⟩

/-! ## Rows of the dispatcher, once the address is good -/

/-- The address of a message. -/
def msgAddr (s : State) (q : QuadAt) : Nat := ((coreQuad s q).reg (fGs1 (coreWord s q))).toNat

/-- The quad once the stores that overlap a message have drained (03 R74). -/
def msgQuadAt (s : State) (q : QuadAt) : Quad := drainedOver (coreQuad s q) (msgAddr s q) 64 8

/-- The device with that quad. -/
def msgDrained (s : State) (q : QuadAt) : Dev := drainOver (s.dev.at q.e) q.quad.toNat (msgAddr s q) 64 8

/-- The retire cycle of an instruction that waited for those stores. -/
def msgCycle (s : State) (q : QuadAt) (cost : Nat) : Nat :=
  waitCycle ((coreQuad s q).sb.any (·.overlaps (msgAddr s q) 64)) (msgQuadAt s q) (coreCycle s q cost)

theorem reg_toNat_msgAddr : ((coreQuad s q).reg (fGs1 (coreWord s q))).toNat = msgAddr s q := rfl

theorem drainOver_msgAddr : drainOver (s.dev.at q.e) q.quad.toNat (msgAddr s q) 64 8 = msgDrained s q := rfl

theorem afterDrain_msgAddr (cost : Nat) :
    afterDrain (waitsDrain (coreQuad s q) (msgAddr s q) 64) (msgQuadAt s q) (coreCycle s q cost) = msgCycle s q cost := rfl

theorem drainKeeps_msgQuadAt : DrainKeeps (coreQuad s q) (msgQuadAt s q) := drainKeeps_over 8

theorem msgQuadAt_running (h : CoreRuns s q) : (runningSlot (msgQuadAt s q)).isSome = true := by
  rw [runningSlot, drainKeeps_msgQuadAt]
  exact h.2.2.1

theorem msgQuadAt_inj (hcl : Clean s q) : (msgQuadAt s q).inj = [] := drainKeeps_msgQuadAt.inj.trans hcl

theorem onlyQuad_msgDrained (h : CoreRuns s q) (hcl : Clean s q) : OnlyQuad s q (msgQuadAt s q) (msgDrained s q) :=
  onlyQuad_at.drainOver hcl h.2.2.1 _ _ _

theorem msgCycle_pos {cost : Nat} (h : 0 < cost) : 0 < msgCycle s q cost := waitCycle_pos (coreCycle_pos h)

/-- The device once a popped message has been written at its address. -/
def msgArrived (s : State) (q : QuadAt) (z : Quad) (m : Msg) : Dev :=
  deliverToCore ((msgDrained s q).setQuad q.quad.toNat z) q.quad.toNat (msgAddr s q) m

/-- The queue that an instruction of format R names. -/
def msgField (s : State) (q : QuadAt) : Nat := coreWord s q % 4

theorem bitsAt_msgField : bitsAt 0 2 (coreWord s q) = msgField s q := bitsAt_queue _

section

variable (hcl : Clean s q) (ht : msgTrap (msgAddr s q) = none)

include ht

theorem send_full (h : AtOp s q 0x20) (hfull : 2 ≤ (coreQuad s q).outbound.length) : Passes (.send q) s q.e := by
  refine passes_op exec_send h ?_
  simp only [coreQuad_at, reg_toNat_msgAddr, ht, hfull, if_true]

include hcl

theorem send_appends (h : AtOp s q 0x20) (hroom : (coreQuad s q).outbound.length < 2) :
    Retires (.send q) s q (msgCycle s q 1) { msgQuadAt s q with
      outbound := (coreQuad s q).outbound ++ [{ bytes := memRead (msgQuadAt s q).mem (msgAddr s q) 64, tag := (coreQuad s q).coreTag }] }
      ((coreQuad s q).pc + 4) := by
  have hd := onlyQuad_msgDrained h.1 hcl
  have hk : DrainKeeps (coreQuad s q) (msgQuadAt s q) := drainKeeps_msgQuadAt
  have ho : (coreQuad s q).outbound = (msgQuadAt s q).outbound := by rw [hk]
  have hc : (coreQuad s q).coreTag = (msgQuadAt s q).coreTag := by rw [hk]
  have hp : (coreQuad s q).pc = (msgQuadAt s q).pc := by rw [hk]
  have hr : readQuad (msgDrained s q) q.quad.toNat (msgAddr s q) 64 = (memRead (msgQuadAt s q).mem (msgAddr s q) 64, false, msgDrained s q) := by
    rw [readQuad_clean (by rw [hd.2, msgQuadAt_inj hcl]), hd.2]
  refine retires_onlyQuad hd (hk.ne h.1.2.2.1) (msgCycle_pos Nat.one_pos) ?_
  rw [exec_send, execSend, coreStep_op h]
  simp only [coreQuad_at, reg_toNat_msgAddr, ht, Nat.not_le.2 hroom, if_false, drainOver_msgAddr, hr, Bool.false_eq_true, hd.2, afterDrain_msgAddr]
  rw [ho, hc, hp]

omit ht in
/-- A retirement once a message has been popped and written. -/
theorem retires_arrived (h : CoreRuns s q) {k : Nat} (hp : popMsg (msgQuadAt s q) (msgField s q) k = some (m, z)) {cyc : Nat} (hcyc : 0 < cyc)
    (hx : exec c s = .next (s.withDev (retire (msgArrived s q z m) q.quad.toNat cyc
      (((msgArrived s q z m).quad q.quad.toNat).setReg (fGd (coreWord s q)) 0) (((msgArrived s q z m).quad q.quad.toNat).pc + 4)))) :
    Retires c s q cyc ((received z (msgAddr s q) m).setReg (fGd (coreWord s q)) 0) ((coreQuad s q).pc + 4) := by
  have hz := popMsg_eq hp
  have hr : (runningSlot z).isSome = true := (popMsg_running hp).symm ▸ msgQuadAt_running h
  have hi : z.inj = [] := by
    rw [hz]
    exact msgQuadAt_inj hcl
  have hpc : z.pc = (coreQuad s q).pc := by rw [hz, drainKeeps_msgQuadAt]
  have hd : OnlyQuad s q (received z (msgAddr s q) m) (msgArrived s q z m) :=
    ((onlyQuad_msgDrained h hcl).setQuad (quad_ne_of_running (msgQuadAt_running h)) (quad_ne_of_running hr)).deliver hi hr _ _
  rw [hd.2] at hx
  rw [← hpc]
  exact retires_onlyQuad hd (quad_ne_of_running hr) hcyc hx

theorem recv_pops (h : AtOp s q 0x21) (hp : popMsg (msgQuadAt s q) (msgField s q) (msgCycle s q 2) = some (m, z)) :
    Retires (.recv q) s q (msgCycle s q 2) ((received z (msgAddr s q) m).setReg (fGd (coreWord s q)) 0) ((coreQuad s q).pc + 4) := by
  refine retires_arrived hcl h.1 hp (msgCycle_pos Nat.two_pos) ?_
  rw [exec_recv, execRecv, coreStep_op h]
  simp only [coreQuad_at, reg_toNat_msgAddr, ht, drainOver_msgAddr, (onlyQuad_msgDrained h.1 hcl).2, afterDrain_msgAddr, bitsAt_msgField, hp]
  rfl

theorem recv_empty (h : AtOp s q 0x21) (hp : popMsg (msgQuadAt s q) (msgField s q) (msgCycle s q 2) = none) :
    Retires (.recv q) s q (msgCycle s q 2) ((msgQuadAt s q).setReg (fGd (coreWord s q)) 1) ((coreQuad s q).pc + 4) := by
  have hd := onlyQuad_msgDrained h.1 hcl
  have hpc : (coreQuad s q).pc = (msgQuadAt s q).pc := by rw [drainKeeps_msgQuadAt]
  refine retires_onlyQuad hd (quad_ne_of_running (msgQuadAt_running h.1)) (msgCycle_pos Nat.two_pos) ?_
  rw [exec_recv, execRecv, coreStep_op h]
  simp only [coreQuad_at, reg_toNat_msgAddr, ht, drainOver_msgAddr, hd.2, afterDrain_msgAddr, bitsAt_msgField, hp]
  rw [hpc]

theorem recvw_pops (h : AtOp s q 0x22) (hn : (runTask s q).cancelled = false)
    (hp : popMsg (msgQuadAt s q) (msgField s q) (msgCycle s q 2) = some (m, z)) :
    Retires (.recvw q) s q (msgCycle s q 2) ((received z (msgAddr s q) m).setReg (fGd (coreWord s q)) 0) ((coreQuad s q).pc + 4) := by
  refine retires_arrived hcl h.1 hp (msgCycle_pos Nat.two_pos) ?_
  rw [exec_recvw, execRecvw, coreStep_op h]
  simp only [coreQuad_at, running_runSlot, runningTask, reg_toNat_msgAddr, ht, hn, Bool.false_eq_true, if_false, drainOver_msgAddr, (onlyQuad_msgDrained h.1 hcl).2,
    afterDrain_msgAddr, bitsAt_msgField, hp]
  rfl

/-- RECVW of an empty queue makes the slot WAITING on it (R89). -/
theorem recvw_waits (h : AtOp s q 0x22) (hn : (runTask s q).cancelled = false)
    (hp : popMsg (msgQuadAt s q) (msgField s q) (msgCycle s q 2) = none) :
    Does (.recvw q) s fun d =>
      d.quad q.quad.toNat = { msgQuadAt s q with cyc := msgCycle s q 2, fresh := false, slots := setNth (msgQuadAt s q).slots (runSlot s q) (
        { runTask s q with st := .waiting, wait := some (.queue (BitVec.ofNat 2 (msgField s q)) false), resume := (coreQuad s q).pc + 4, since := msgCycle s q 2 }) } ∧
      d = { s.dev.at q.e with quads := d.quads } ∧ (∀ m, m ≠ q.quad.toNat → d.quad m = s.dev.quad m) := by
  have hd := onlyQuad_msgDrained h.1 hcl
  have hpc : (msgQuadAt s q).pc = (coreQuad s q).pc := by rw [drainKeeps_msgQuadAt]
  have hs : (msgQuadAt s q).slots = (coreQuad s q).slots := by rw [drainKeeps_msgQuadAt]
  have hstop (f : Slot → Slot) : stopSlot (msgQuadAt s q) (runSlot s q) f =
      { msgQuadAt s q with slots := setNth (msgQuadAt s q).slots (runSlot s q) (f (runTask s q)) } := by
    simp only [stopSlot, Quad.updSlot, hs, runningTask, hn, Bool.false_eq_true, if_false]
  have hcyc (v : Quad) (h : v.cyc = msgCycle s q 2) : v ≠ {} := quad_ne_of_cyc (h ▸ msgCycle_pos Nat.two_pos)
  refine does_onlyQuad (hd.setQuad (quad_ne_of_running (msgQuadAt_running h.1)) (hcyc _ rfl)) (hcyc _ rfl) ?_
  rw [exec_recvw, execRecvw, coreStep_op h]
  simp only [coreQuad_at, running_runSlot, runningTask, reg_toNat_msgAddr, ht, hn, Bool.false_eq_true, if_false, drainOver_msgAddr, hd.2,
    afterDrain_msgAddr, bitsAt_msgField, hp, hstop, hpc]

omit hcl in
/-- RECVW of a cancelled task stops the slot without a pop (R90). -/
theorem recvw_cancelled (h : AtOp s q 0x22) (hn : (runTask s q).cancelled = true) :
    RetiresNext (.recvw q) s q 2 (withRunSlot s q (cancelledSlot (runTask s q))) := by
  refine retires_op exec_recvw h (coreCycle_pos Nat.two_pos) ?_
  simp only [coreQuad_at, running_runSlot, runningTask, reg_toNat_msgAddr, ht, hn, if_true, stopSlot_cancelled hn]

end

end Sys2Proof.Machine

section

open Sys2Proof.Machine

/-- Settles O15: each instruction from the quad that the drains of its overlapping stores leave. -/
theorem messagesLeaveAndArrive : Obligations.MessagesLeaveAndArrive := by
  intro s q x w k a n y waited c hcl ha hb
  have ht : msgTrap (msgAddr s q) = none := msgTrap_none ha hb
  exact ⟨send_appends hcl ht, send_full ht, fun m z hp => ⟨fun h => recv_pops hcl ht h hp, fun h hn => recvw_pops hcl ht h hn hp⟩,
    fun hp => ⟨fun h => recv_empty hcl ht h hp, fun h hn => recvw_waits hcl ht h hn hp⟩, recvw_cancelled ht⟩

end

/-! Task slots and their dispatch (03 R85 to R92). -/

namespace Sys2Proof.Machine

variable {s : State} {q : QuadAt} {x : Quad}

/-! ## Slots of a quad -/

theorem findIdx_isSome {α : Type} [DecidableEq α] {b : α} {l : List α} (h : b ∈ l) : (findIdx b l).isSome = true := by
  induction l with
  | nil => exact absurd h (by simp)
  | cons a r ih =>
    unfold findIdx
    split
    · rfl
    · next hne => simpa using ih ((List.mem_cons.1 h).resolve_left (Ne.symm hne))

theorem runningSlot_isSome {i : Nat} (h : (nth {} x.slots i).st = .running) : (runningSlot x).isSome = true := by
  have hi : i < x.slots.length := lt_length_of_nth_ne (d := {}) fun k => SlotState.noConfusion ((congrArg Slot.st k).symm.trans h)
  refine findIdx_isSome (List.mem_map.2 ⟨nth {} x.slots i, ?_, h⟩)
  simp [nth, hi]

theorem runningSlot_runSlot (h : CoreRuns s q) : runningSlot (coreQuad s q) = some (runSlot s q) := by
  obtain ⟨i, hi⟩ := Option.isSome_iff_exists.1 h.2.2.1
  rw [runSlot, hi, Option.getD_some]

/-- Each slot of the quad as it stands in a cycle is the slot settled. -/
theorem nth_settled (x : Quad) (c i : Nat) : nth {} (x.settled c).slots i = (nth {} x.slots i).settle x c :=
  List.getD_map (n := i) x.slots {} (Slot.settle x c)

/-- A slot is READY at a cycle when it was, or when its queue readies it (R86, R89). -/
theorem settle_ready {c : Nat} (t : Slot) : (t.settle x c).st = .ready ↔ t.st = .ready ∨ Readied x c t := by
  by_cases h : Readied x c t
  · simp [settle_of_readied h, h]
  · simp [settle_of_not_readied h, h]

theorem settle_resume {c : Nat} (t : Slot) : (t.settle x c).resume = t.resume := by
  by_cases h : Readied x c t
  · rw [settle_of_readied h]
  · rw [settle_of_not_readied h]

/-! ## Arming, cancelling, stopping and ending -/

theorem exec_arm : exec (.arm q) s = execArm q s := rfl

theorem exec_armt : exec (.armt q) s = execArmt q s := rfl

theorem exec_cancel : exec (.cancel q) s = execCancel q s := rfl

theorem exec_yield : exec (.yield q) s = execYield q s := rfl

theorem exec_waitt : exec (.waitt q) s = execWaitt q s := rfl

theorem RetiresNext.of_eq {c : Instr} {cost : Nat} {y : Quad} (h : RetiresNext c s q cost x) (e : x = y) : RetiresNext c s q cost y := e ▸ h

/-- A slot armed at a cycle. -/
def armedSlot (a : Arming) (c : Nat) (t : Slot) : Slot :=
  { t with st := .armed, trig := some a.trig, entry := a.entry, resume := a.entry, wait := none, pending := none, cancelled := false, since := c }

theorem armSlot_of_other (h : CoreRuns s q) {i : Nat} (hi : i ≠ runSlot s q) (c : Nat) (a : Arming) :
    arm (coreQuad s q) i c a = armSlot (coreQuad s q) i c a := by
  rw [arm, runningSlot_runSlot h, if_neg fun k => hi (Option.some.inj k).symm]

/-- Arming of the running slot is recorded (R92). -/
theorem pendingArm_of_running (h : CoreRuns s q) {i : Nat} (hi : i = runSlot s q) (c : Nat) (a : Arming) :
    arm (coreQuad s q) i c a =
      { coreQuad s q with slots := setNth (coreQuad s q).slots i { nth {} (coreQuad s q).slots i with pending := some a, cancelled := false } } := by
  rw [arm, runningSlot_runSlot h, hi, if_pos rfl]
  rfl

/-- The queue that ARM names as a trigger. -/
def armQueue (s : State) (q : QuadAt) : Arming :=
  { trig := .queue (BitVec.ofNat 2 (coreWord s q / 8 % 4)) (decide (coreWord s q / 32 % 2 = 1)), entry := (coreQuad s q).reg (fGs1 (coreWord s q)) }

/-- The tick that ARMT names as a trigger. -/
def armTick (s : State) (q : QuadAt) : Arming :=
  { trig := .tick ((coreQuad s q).reg (fGs2 (coreWord s q))), entry := (coreQuad s q).reg (fGs1 (coreWord s q)) }

theorem retiresNext_arm (h : AtOp s q 0x24) :
    RetiresNext (.arm q) s q 1 (arm (coreQuad s q) (coreWord s q % 8) (coreCycle s q 1) (armQueue s q)) :=
  retires_op exec_arm h (coreCycle_pos Nat.one_pos) (by rw [bitsAt_zero_left]; rfl)

theorem retiresNext_armt (h : AtOp s q 0x25) :
    RetiresNext (.armt q) s q 1 (arm (coreQuad s q) (coreWord s q % 8) (coreCycle s q 1) (armTick s q)) :=
  retires_op exec_armt h (coreCycle_pos Nat.one_pos) (by rw [bitsAt_zero_left]; rfl)

theorem retiresNext_cancel (h : AtOp s q 0x26) : RetiresNext (.cancel q) s q 1 (cancelSlot (coreQuad s q) (coreWord s q % 8)) :=
  retires_op exec_cancel h (coreCycle_pos Nat.one_pos) (by rw [bitsAt_zero_left]; rfl)

/-- What the running slot leaves when it stops: a cancelled one is IDLE (R90). -/
theorem stopSlot_runSlot (f : Slot → Slot) :
    stopSlot (coreQuad s q) (runSlot s q) f = withRunSlot s q (if (runTask s q).cancelled then cancelledSlot (runTask s q) else f (runTask s q)) := by
  cases hn : (runTask s q).cancelled with
  | true => exact stopSlot_cancelled hn
  | false => exact stopSlot_running f hn

theorem retiresNext_yield (h : AtOp s q 0x27) : RetiresNext (.yield q) s q 1 (withRunSlot s q (if (runTask s q).cancelled then cancelledSlot (runTask s q)
    else { runTask s q with st := .ready, wait := none, resume := (coreQuad s q).pc + 4 })) := by
  rw [← stopSlot_runSlot fun t => { t with st := .ready, wait := none, resume := (coreQuad s q).pc + 4 }]
  exact retires_op exec_yield h (coreCycle_pos Nat.one_pos) rfl

theorem retiresNext_waitt (h : AtOp s q 0x2B) : RetiresNext (.waitt q) s q 1 (withRunSlot s q (if (runTask s q).cancelled then cancelledSlot (runTask s q)
    else { runTask s q with st := .waiting, wait := some (.tick ((coreQuad s q).reg (fGs1 (coreWord s q)))), resume := (coreQuad s q).pc + 4 })) := by
  rw [← stopSlot_runSlot fun t =>
    { t with st := .waiting, wait := some (.tick ((coreQuad s q).reg (fGs1 (coreWord s q)))), resume := (coreQuad s q).pc + 4 }]
  exact retires_op exec_waitt h (coreCycle_pos Nat.one_pos) rfl

theorem retiresNext_done (h : AtOp s q 0x28) : RetiresNext (.done q) s q 1 (endTask (coreQuad s q) (runSlot s q) (coreCycle s q 1)) :=
  retires_op exec_done h (coreCycle_pos Nat.one_pos) rfl

section

variable {c : Nat}

theorem endTask_cancelled (h : (runTask s q).cancelled = true) :
    endTask (coreQuad s q) (runSlot s q) c = withRunSlot s q (cancelledSlot (runTask s q)) := by
  simp only [endTask, runningTask, h, if_true, stopSlot_cancelled h]

theorem endTask_pending {a : Arming} (h : (runTask s q).cancelled = false) (hp : (runTask s q).pending = some a) :
    endTask (coreQuad s q) (runSlot s q) c = withRunSlot s q (armedSlot a c (runTask s q)) := by
  simp only [endTask, runningTask, h, hp, Bool.false_eq_true, if_false]
  rfl

/-- A task of a persistent slot ends: the slot is armed again (R92). -/
theorem endTask_persistent {k : BitVec 2} (h : (runTask s q).cancelled = false) (hp : (runTask s q).pending = none)
    (ht : (runTask s q).trig = some (.queue k true)) :
    endTask (coreQuad s q) (runSlot s q) c = withRunSlot s q (armedSlot { trig := .queue k true, entry := (runTask s q).entry } c (runTask s q)) := by
  simp only [endTask, runningTask, h, hp, ht, Bool.false_eq_true, if_false]
  rfl

theorem endTask_idle (h : (runTask s q).cancelled = false) (hp : (runTask s q).pending = none)
    (ht : ∀ k, (runTask s q).trig ≠ some (.queue k true)) :
    endTask (coreQuad s q) (runSlot s q) c = withRunSlot s q { runTask s q with st := .idle, trig := none, wait := none } := by
  simp only [endTask, runningTask]
  rw [if_neg (by simp [h])]
  split
  · next ha => exact absurd (hp.symm.trans ha) (by simp)
  · next ha => exact absurd ha (ht _)
  · rfl

end

/-! ## TASK_DISPATCH -/

/-- The quad with a slot dispatched. -/
theorem startSlot_eq (x : Quad) (i c : Nat) : startSlot x i c = { x with
    slots := setNth x.slots i { nth {} x.slots i with st := .running, wait := none }
    pc := (nth {} x.slots i).resume, cyc := c, fresh := true, st := .running } := rfl

theorem startSlot_running {i : Nat} (h : i < x.slots.length) (c : Nat) : (runningSlot (startSlot x i c)).isSome = true :=
  runningSlot_isSome (i := i) (by rw [startSlot_eq, nth_setNth_self h])

section

variable {d : Dev} {n c : Nat} {l : List Nat}

theorem dispatchFrom_append (l k : List Nat) : dispatchFrom d n c (l ++ k) = dispatchFrom (dispatchFrom d n c l) n c k := by
  induction l generalizing d with
  | nil => rfl
  | cons i r ih =>
    simp only [List.cons_append, dispatchFrom, ih]
    split <;> rfl

theorem dispatchFrom_running (h : (runningSlot (d.quad n)).isSome = true) : dispatchFrom d n c l = d := by
  induction l with
  | nil => rfl
  | cons i r ih => rw [dispatchFrom, if_neg (by simp [Option.isNone_iff_eq_none, Option.isSome_iff_ne_none.1 h]), ih]

theorem dispatchFrom_none (h : ∀ i ∈ l, (nth {} (d.quad n).slots i).st ≠ .ready) : dispatchFrom d n c l = d := by
  induction l with
  | nil => rfl
  | cons i r ih => rw [dispatchFrom, if_neg fun k => h i List.mem_cons_self k.2, ih fun j hj => h j (List.mem_cons_of_mem i hj)]

theorem range_eight_split : ∀ i < 8, List.range 8 = List.range i ++ i :: List.range' (i + 1) (7 - i) := by decide

/-- The lowest-numbered READY slot is tried; once it runs, no other is (R88). -/
theorem dispatchFrom_first {i : Nat} (hi : i < 8) (hr : runningSlot (d.quad n) = none) (hs : (nth {} (d.quad n).slots i).st = .ready)
    (hlow : ∀ j, j < i → (nth {} (d.quad n).slots j).st ≠ .ready) (hrun : (runningSlot ((trySlot d n c i).quad n)).isSome = true) :
    dispatchFrom d n c (List.range 8) = trySlot d n c i := by
  rw [range_eight_split i hi, dispatchFrom_append, dispatchFrom_none fun j hj => hlow j (List.mem_range.1 hj), dispatchFrom,
    if_pos ⟨by rw [hr]; rfl, hs⟩, dispatchFrom_running hrun]

theorem trySlot_starts {i : Nat} (h : ∀ k p, (nth {} (d.quad n).slots i).wait ≠ some (.queue k p)) :
    trySlot d n c i = d.setQuad n (startSlot (d.quad n) i c) := by
  simp only [trySlot]

/-- A slot that stopped at RECVW makes its pop when it is dispatched (R89). -/
theorem trySlot_pops {i w : Nat} {k : BitVec 2} {p : Bool} {m : Msg} {z : Quad} (h : (nth {} (d.quad n).slots i).wait = some (.queue k p))
    (hp : popMsg (d.quad n) k.toNat c = some (m, z)) (hw : leVal (memRead (d.quad n).mem ((nth {} (d.quad n).slots i).resume.toNat - 4) 4) = w)
    (ht : msgTrap ((d.quad n).reg (fGs1 w)).toNat = none) :
    trySlot d n c i =
      let a := ((d.quad n).reg (fGs1 w)).toNat
      let v := deliverToCore (drainOver (d.setQuad n (startSlot z i c)) n a 64 8) n a m
      quadProgress (v.setQuad n ((v.quad n).setReg (fGd w) 0)) n := by
  simp only [trySlot, h, hp, hw, ht]

end

/-- The moment passed and the progress of the quad's partition noted, over a device that differs in the quad alone. -/
theorem OnlyQuad.progress {y : Quad} {d : Dev} (h : OnlyQuad s q y d) (hy : y ≠ {}) :
    CoreFrame s q (quadProgress d q.quad.toNat) ∧ (quadProgress d q.quad.toNat).quad q.quad.toNat = y := by
  obtain ⟨h1, h2⟩ := quadProgress_spec d q.quad.toNat
  have hquads : (quadProgress d q.quad.toNat).quads = d.quads := by rw [h1]
  have hquad (n : Nat) : (quadProgress d q.quad.toNat).quad n = d.quad n := congrArg (fun t => tabGet ({} : Quad) t n) hquads
  refine ⟨⟨?_, fun n hn => (hquad n).trans (h.other hy hn), ?_⟩, (hquad _).trans h.2⟩
  · rcases h.1 with rfl | rfl <;> exact h1.trans (by rw [hquads]; rfl)
  · rcases h.1 with rfl | rfl <;> exact h2

/-- The cycle of a dispatch: one after that in which the last task stopped (R88). -/
def dispatchCycle (s : State) (q : QuadAt) : Nat := max q.cyc ((coreQuad s q).cyc + 1)

/-- The quad in which a dispatch looks for a READY slot. -/
def dispatchQuad (s : State) (q : QuadAt) : Quad := (coreQuad s q).settled (dispatchCycle s q)

/-- The device with that quad. -/
def dispatchDev (s : State) (q : QuadAt) : Dev := (s.dev.at q.e).setQuad q.quad.toNat (dispatchQuad s q)

/-- What TASK_DISPATCH does on a fitted, live quad (R88). -/
theorem exec_taskDispatch (hf : q.quad.toNat < quadsFitted s.dev) (hl : quadLive (coreQuad s q) = true) :
    exec (.taskDispatch q) s = onUnit s true (if (runningSlot (coreQuad s q)).isNone then
      dispatchFrom (dispatchDev s q) q.quad.toNat (dispatchCycle s q) (List.range 8) else s.dev.at q.e) := by
  show execTaskDispatch q s = _
  rw [execTaskDispatch]
  simp only [coreQuad_at, hf, hl, decide_true, Bool.true_and]
  rfl

theorem quad_ne_of_live (h : quadLive x = true) : x ≠ {} := by
  rintro rfl
  exact absurd h (by decide)

section

variable {c i : Nat}

theorem dispatchQuad_ne (h : quadLive (coreQuad s q) = true) : dispatchQuad s q ≠ {} := quad_ne_of_live h

theorem onlyQuad_dispatchDev (h : quadLive (coreQuad s q) = true) : OnlyQuad s q (dispatchQuad s q) (dispatchDev s q) :=
  onlyQuad_at.setQuad (quad_ne_of_live h) (dispatchQuad_ne h)

theorem lt_length_of_ready {x : Quad} (h : (nth {} x.slots i).st = .ready) : i < x.slots.length :=
  lt_length_of_nth_ne (d := {}) fun k => SlotState.noConfusion ((congrArg Slot.st k).symm.trans h)

/-- A quad with a cycle counted is not the quad that an unlisted number reads as. -/
theorem startSlot_ne (x : Quad) (h : 0 < c) : startSlot x i c ≠ {} := quad_ne_of_cyc h

/-- The slot that the pop at a dispatch starts is there to run. -/
theorem popMsg_slots_length {k : Nat} {m : Msg} {z : Quad} (h : popMsg x k c = some (m, z)) : z.slots.length = x.slots.length := by
  rw [popMsg_eq h]
  exact List.length_map _

/-- A dispatched slot's first moments, once its message has arrived: the quad and its partition's progress (R89). -/
theorem arrival_progress {z : Quad} {m : Msg} {a w : Nat} (hc : Clean s q) (hl : quadLive (coreQuad s q) = true)
    (hz : z.inj = (coreQuad s q).inj) (hi : i < z.slots.length) :
    let e := deliverToCore (drainOver ((dispatchDev s q).setQuad q.quad.toNat (startSlot z i c)) q.quad.toNat a 64 8) q.quad.toNat a m
    let v := (received (drainedOver (startSlot z i c) a 64 8) a m).setReg (fGd w) 0
    let r := quadProgress (e.setQuad q.quad.toNat ((e.quad q.quad.toNat).setReg (fGd w) 0)) q.quad.toNat
    CoreFrame s q r ∧ r.quad q.quad.toNat = v ∧ (runningSlot v).isSome = true := by
  intro e v r
  have hrun : (runningSlot (startSlot z i c)).isSome = true := startSlot_running hi c
  have hinj : (startSlot z i c).inj = [] := hz.trans hc
  have hk : DrainKeeps (startSlot z i c) (drainedOver (startSlot z i c) a 64 8) := drainKeeps_over 8
  have hrun' : (runningSlot (drainedOver (startSlot z i c) a 64 8)).isSome = true := by rw [runningSlot, hk]; exact hrun
  have hv : (runningSlot v).isSome = true := by rw [runningSlot, show v.slots = _ by unfold v; rw [setReg_eq]]; exact hrun'
  have he : OnlyQuad s q (received (drainedOver (startSlot z i c) a 64 8) a m) e :=
    (((onlyQuad_dispatchDev hl).setQuad (dispatchQuad_ne hl) (quad_ne_of_running hrun)).drainOver hinj hrun a 64 8).deliver (hk.inj.trans hinj) hrun' a m
  have hd : OnlyQuad s q v (e.setQuad q.quad.toNat ((e.quad q.quad.toNat).setReg (fGd w) 0)) := by
    rw [he.2]
    exact he.setQuad (quad_ne_of_running hrun') (quad_ne_of_running hv)
  obtain ⟨h1, h2⟩ := hd.progress (quad_ne_of_running hv)
  exact ⟨h1, h2, hv⟩

end

section

variable {i : Nat}

theorem dispatchCycle_pos : 0 < dispatchCycle s q := Nat.lt_of_lt_of_le (Nat.succ_pos _) (Nat.le_max_right _ _)

theorem exec_taskDispatch_idle (hf : q.quad.toNat < quadsFitted s.dev) (hl : quadLive (coreQuad s q) = true) (hr : runningSlot (coreQuad s q) = none) :
    exec (.taskDispatch q) s = onUnit s true
      (dispatchFrom (dispatchDev s q) q.quad.toNat (dispatchCycle s q) (List.range 8)) :=
  (exec_taskDispatch hf hl).trans (by rw [hr]; rfl)

theorem exec_taskDispatch_first (hf : q.quad.toNat < quadsFitted s.dev) (hl : quadLive (coreQuad s q) = true) (hr : runningSlot (coreQuad s q) = none)
    (hi : i < 8) (hs : (nth {} (dispatchQuad s q).slots i).st = .ready) (hlow : ∀ j, j < i → (nth {} (dispatchQuad s q).slots j).st ≠ .ready)
    (hrun : (runningSlot ((trySlot (dispatchDev s q) q.quad.toNat (dispatchCycle s q) i).quad q.quad.toNat)).isSome = true) :
    exec (.taskDispatch q) s = onUnit s true
      (trySlot (dispatchDev s q) q.quad.toNat (dispatchCycle s q) i) := by
  have hq := (onlyQuad_dispatchDev hl).2
  rw [exec_taskDispatch_idle hf hl hr, dispatchFrom_first hi _ _ _ hrun]
  · exact (congrArg runningSlot hq).trans ((runningSlot_settled _ _).trans hr)
  · exact hq ▸ hs
  · exact hq ▸ hlow

/-- The slot that runs had not stopped at RECVW. -/
theorem dispatch_starts (hf : q.quad.toNat < quadsFitted s.dev) (hl : quadLive (coreQuad s q) = true) (hr : runningSlot (coreQuad s q) = none)
    (hi : i < 8) (hs : (nth {} (dispatchQuad s q).slots i).st = .ready) (hlow : ∀ j, j < i → (nth {} (dispatchQuad s q).slots j).st ≠ .ready)
    (hw : ∀ k p, (nth {} (dispatchQuad s q).slots i).wait ≠ some (.queue k p)) :
    Does (.taskDispatch q) s fun d => d.quad q.quad.toNat = startSlot (dispatchQuad s q) i (dispatchCycle s q) ∧
      (∀ m, m ≠ q.quad.toNat → d.quad m = s.dev.quad m) ∧ d = { s.dev.at q.e with quads := d.quads } := by
  have hd : OnlyQuad s q (dispatchQuad s q) _ := onlyQuad_dispatchDev hl
  have hne : startSlot (dispatchQuad s q) i (dispatchCycle s q) ≠ {} := startSlot_ne _ dispatchCycle_pos
  have ht := trySlot_starts (d := dispatchDev s q) (n := q.quad.toNat) (c := dispatchCycle s q) (i := i)
    (by rw [hd.2]; exact hw)
  rw [hd.2] at ht
  have h1 := hd.setQuad (dispatchQuad_ne hl) hne
  rw [← ht] at h1
  have hx := exec_taskDispatch_first hf hl hr hi hs hlow (h1.2 ▸ startSlot_running (lt_length_of_ready hs) _)
  exact does_onUnit hx ⟨h1.2, fun m hm => h1.other hne hm, h1.only⟩

/-- The slot that runs had stopped at RECVW: its pop is made at the dispatch (R89). -/
theorem dispatch_pops (hf : q.quad.toNat < quadsFitted s.dev) (hl : quadLive (coreQuad s q) = true) (hr : runningSlot (coreQuad s q) = none)
    (hi : i < 8) (hs : (nth {} (dispatchQuad s q).slots i).st = .ready) (hlow : ∀ j, j < i → (nth {} (dispatchQuad s q).slots j).st ≠ .ready)
    {k : BitVec 2} {p : Bool} {m : Msg} {z : Quad} {w : Nat} (hw : (nth {} (dispatchQuad s q).slots i).wait = some (.queue k p))
    (hp : popMsg (dispatchQuad s q) k.toNat (dispatchCycle s q) = some (m, z)) (hc : Clean s q)
    (hword : leVal (memRead (coreQuad s q).mem ((nth {} (coreQuad s q).slots i).resume.toNat - 4) 4) = w)
    (ht : msgTrap ((coreQuad s q).reg (fGs1 w)).toNat = none) :
    let a := ((coreQuad s q).reg (fGs1 w)).toNat
    Does (.taskDispatch q) s fun d => CoreFrame s q d ∧
      d.quad q.quad.toNat = (received (drainedOver (startSlot z i (dispatchCycle s q)) a 64 8) a m).setReg (fGd w) 0 := by
  intro a
  have hq := (onlyQuad_dispatchDev hl).2
  have hres : (nth {} (dispatchQuad s q).slots i).resume = (nth {} (coreQuad s q).slots i).resume := by
    rw [dispatchQuad, nth_settled, settle_resume]
  have htry := trySlot_pops (d := dispatchDev s q) (n := q.quad.toNat) (c := dispatchCycle s q) (i := i) (w := w)
    (m := m) (z := z) (k := k) (p := p) (hq ▸ hw) (hq ▸ hp) (by rw [hq, hres]; exact hword) (hq ▸ ht)
  have hlen : i < z.slots.length := by rw [popMsg_slots_length hp]; exact lt_length_of_ready hs
  have hz : z.inj = (coreQuad s q).inj := by rw [popMsg_eq hp]; rfl
  obtain ⟨h1, h2, h3⟩ := arrival_progress (c := dispatchCycle s q) (a := a) (m := m) (w := w) hc hl hz hlen
  rw [hq] at htry
  have hx := exec_taskDispatch_first hf hl hr hi hs hlow (by rw [htry]; exact h2 ▸ h3)
  rw [htry] at hx
  exact does_onUnit hx ⟨h1, h2⟩

/-- No slot is READY: none runs. -/
theorem dispatch_none (hf : q.quad.toNat < quadsFitted s.dev) (hl : quadLive (coreQuad s q) = true) (hr : runningSlot (coreQuad s q) = none)
    (hs : ∀ i, i < 8 → (nth {} (dispatchQuad s q).slots i).st ≠ .ready) :
    Does (.taskDispatch q) s fun d => d.quad q.quad.toNat = dispatchQuad s q ∧
      (∀ m, m ≠ q.quad.toNat → d.quad m = s.dev.quad m) ∧ d = { s.dev.at q.e with quads := d.quads } := by
  have hd : OnlyQuad s q (dispatchQuad s q) _ := onlyQuad_dispatchDev hl
  have hx := exec_taskDispatch_idle hf hl hr
  rw [dispatchFrom_none fun i hi => by rw [hd.2]; exact hs i (List.mem_range.1 hi)] at hx
  exact does_onUnit hx ⟨hd.2, fun m hm => hd.other (dispatchQuad_ne hl) hm, hd.only⟩

end

end Sys2Proof.Machine

section

open Sys2Proof.Machine

/-- Settles O16: each stop of the running slot, and a dispatch by the lowest-numbered slot that is READY once the queues have readied theirs. -/
theorem taskSlotsAndDispatch : Obligations.TaskSlotsAndDispatch := by
  constructor
  · intro s q x w i r t u onQueue onTick put armed
    exact ⟨fun h hi => (retiresNext_arm h).of_eq (armSlot_of_other h.1 hi _ _), fun h hi => (retiresNext_arm h).of_eq (pendingArm_of_running h.1 hi _ _),
      fun h hi => (retiresNext_armt h).of_eq (armSlot_of_other h.1 hi _ _), fun h hi => (retiresNext_armt h).of_eq (pendingArm_of_running h.1 hi _ _),
      retiresNext_cancel, retiresNext_yield, retiresNext_waitt, fun h => ⟨fun hn => (retiresNext_done h).of_eq (endTask_cancelled hn),
        fun a hn hp => (retiresNext_done h).of_eq (endTask_pending hn hp), fun k hn hp ht => (retiresNext_done h).of_eq (endTask_persistent hn hp ht),
        fun hn hp ht => (retiresNext_done h).of_eq (endTask_idle hn hp ht)⟩⟩
  · intro s q hf hl x n c y started
    have hrun (hr : (runningSlot x).isSome = true) : ¬ (runningSlot x).isNone = true := by
      simp [Option.isSome_iff_ne_none.1 hr]
    exact ⟨⟨rfl, fun i => nth_settled x c i ▸ settle_ready _⟩,
      fun i hi hr hs hlow => ⟨dispatch_starts hf hl hr hi hs hlow,
        fun k p m z hw hp hc ha hb => dispatch_pops hf hl hr hi hs hlow hw hp hc rfl (msgTrap_none ha hb)⟩,
      fun hr => does_onUnit (exec_taskDispatch hf hl) (if_neg (hrun hr)), fun hs hr => dispatch_none hf hl hr hs⟩

end

/-! Unit commands that break their table (03 R105, 04 R144, R146, 05 R177, R181, R183). -/

namespace Sys2Proof.Machine

variable {s : State} {q : QuadAt} {c : Instr} {u : Nat} {cmd : UnitCmd} {r : List UnitCmd} {m : Bytes → Bool} {f : Dev → Nat → Nat → UnitCmd → Dev}

/-! ## The command at the head of a unit's queue -/

theorem headCmd_of_unitAt (h : UnitAt s q u cmd r) : headCmd (coreQuad s q) u = some cmd := by
  obtain ⟨-, -, hu, hd⟩ := h
  simp only [headCmd, unitQueue, hu, hd, Option.isNone_none, if_true]

/-- A unit's row at its command does the command's work. -/
theorem unitStep_runs (h : UnitAt s q u cmd r) (hm : m cmd.desc = true) :
    unitStep s q u m f = onUnit s true (f (s.dev.at q.e) q.quad.toNat (unitCycle s q u) cmd) := by
  simp only [unitStep, coreQuad_at, headCmd_of_unitAt h, h.1, h.2.1, hm, decide_true, Bool.and_self, if_true]
  rfl

/-- The quad with its unit's head command replaced. -/
theorem setHead_of_cons {x : Quad} {v w : UnitCmd} (h : nth [] x.units u = v :: r) :
    setHead x u w = { x with units := setNth x.units u (w :: r) } := by
  simp only [setHead, unitQueue, h]
  rfl

/-- The head command of a unit finishes where the unit is at it. -/
theorem finishHead_of_cons {d : Dev} {n st mv due : Nat} {v : UnitCmd} (h : nth [] (d.quad n).units u = v :: r) (hd : v.done = none) :
    finishHead d n u st mv due =
      d.setQuad n { d.quad n with units := setNth (d.quad n).units u ({ v with done := some (BitVec.ofNat 8 st, mv), due := due } :: r) } := by
  simp only [finishHead, headCmd, unitQueue, h, hd, Option.isNone_none, if_true, setHead_of_cons h]

/-- A command whose work is one finish ends and leaves its quad as it was. -/
theorem unitEnds_of_finish {st mv due : Nat} (hx : exec c s = unitStep s q u m f) (h : UnitAt s q u cmd r) (hm : m cmd.desc = true)
    (hf : f (s.dev.at q.e) q.quad.toNat (unitCycle s q u) cmd = finishHead (s.dev.at q.e) q.quad.toNat u st mv due) :
    UnitEnds c s q u cmd r (BitVec.ofNat 8 st) mv due fun y => y = coreQuad s q :=
  does_onUnit (hx.trans (unitStep_runs h hm))
    ⟨coreQuad s q, { cmd with done := some (BitVec.ofNat 8 st, mv), due := due }, rfl, rfl, rfl, rfl, rfl, hf.trans (finishHead_of_cons (d := s.dev.at q.e) h.2.2.1 h.2.2.2)⟩

/-! ## Rows of the dispatcher -/

theorem exec_copy : exec (.copy q) s = execCopy q s := rfl

theorem exec_gather : exec (.gather q) s = execGather q s := rfl

theorem exec_scatter : exec (.scatter q) s = execScatter q s := rfl

theorem exec_zero : exec (.zero q) s = execZero q s := rfl

theorem exec_cimLoad : exec (.cimLoad q) s = execCimLoad q s := rfl

theorem exec_dot : exec (.dot q) s = execDot q s := rfl

theorem exec_had : exec (.had q) s = execHad q s := rfl

theorem exec_bench : exec (.bench q) s = execBench q s := rfl

theorem exec_fwd : exec (.fwd q) s = execFwd q s := rfl

theorem exec_inv : exec (.inv q) s = execInv q s := rfl

theorem exec_automorphismEval : exec (.automorphismEval q) s = execAutomorphismEval q s := rfl

theorem exec_automorphismCoef : exec (.automorphismCoef q) s = execAutomorphismCoef q s := rfl

theorem exec_bext : exec (.bext q) s = execBext q s := rfl

theorem exec_kfetch : exec (.kfetch q) s = execKfetch q s := rfl

/-! ## Checks that fail -/

section

variable {d : Dev} {n k : Nat}

/-- The list of a quad without injected errors is read without a change. -/
theorem readList_clean (hi : (d.quad n).inj = []) (b : Bytes) : readList d n b = ((readList d n b).1, false, d) := by
  unfold readList
  simp only
  split
  · rw [readQuad_clean hi]
  · rfl

theorem moverCommand_invalid (hi : (d.quad n).inj = []) (hs : cmd.started = false) (h : movesOf cmd.desc (readList d n cmd.desc).1 = none) :
    moverCommand d n k cmd = finishHead d n 0 stInvalid 0 k := by
  simp only [moverCommand, hs, Bool.false_eq_true, if_false]
  split
  · rfl
  · rw [readList_clean hi]
    simp only [Bool.false_eq_true, if_false, h]

theorem descOk_length {b : Bytes} (h : b.length ≠ 32) : descOk b = false := by
  simp [descOk, h]

theorem movesOf_none {b : Bytes} {l : List Nat} (h : descOk b = false) : movesOf b l = none := by
  simp [movesOf, h]

/-- What BENCH asks of its descriptor and its arrays (Table 4.10). -/
theorem benchCommand_invalid {x : Quad} (hx : d.quad n = x)
    (h : leAt 0 1 cmd.desc ≠ 3 ∨ leAt 2 1 cmd.desc = 0 ∨ leAt 3 1 cmd.desc ≠ 0 ∨ allZero (slice 18 2 cmd.desc) = false ∨
      ∃ k ∈ arraysOf (leAt 2 1 cmd.desc), (x.array k).st = .unloaded) :
    benchCommand d n k cmd = finishHead d n 2 stInvalid 0 k := by
  refine if_neg fun hok => ?_
  simp only [hx, Bool.and_eq_true, decide_eq_true_eq, List.all_eq_true, and_assoc] at hok
  obtain ⟨h3, hsel, hflags, hzero, hall⟩ := hok
  rcases h with h | h | h | h | ⟨j, hj, h⟩
  · exact h h3
  · exact hsel h
  · exact h hflags
  · exact absurd hzero (by simp [h])
  · exact hall j hj h

end

end Sys2Proof.Machine

section

open Sys2Proof.Machine

/-- Settles O25: each command's own check fails, and the command finishes from the state's device. -/
theorem unitCommandsRefuseBadDescriptors : Obligations.UnitCommandsRefuseBadDescriptors := by
  intro s q cmd r hcl
  dsimp only
  have ok {p : Bool} (h : p = false) : ¬ p = true := by simp [h]
  refine ⟨?move, ?moveEmpty, ?cim, ?cimEmpty, ?ntt, ?auto, ?bext, ?kfetch⟩
  case move =>
    intro h hs hl hm
    have hf := moverCommand_invalid (d := s.dev.at q.e) (k := unitCycle s q 0) hcl hs hm
    exact ⟨fun ho => unitEnds_of_finish exec_copy h (by simp [isMove, hl, ho]) hf,
      fun ho => unitEnds_of_finish exec_gather h (by simp [isMove, hl, ho]) hf,
      fun ho => unitEnds_of_finish exec_scatter h (by simp [isMove, hl, ho]) hf,
      fun ho => unitEnds_of_finish exec_zero h (by simp [hl, ho]) hf⟩
  case moveEmpty =>
    intro h hs hl
    exact unitEnds_of_finish exec_copy h (by simp [hl]) (moverCommand_invalid (d := s.dev.at q.e) hcl hs (movesOf_none (descOk_length hl)))
  case cim =>
    intro h hl
    exact ⟨fun ho hok => unitEnds_of_finish exec_cimLoad h (by simp [ho]) (if_pos (ok hok)),
      fun ho hok => unitEnds_of_finish exec_dot h (by simp [hl, ho]) (if_pos (ok hok)),
      fun ho hok => unitEnds_of_finish exec_had h (by simp [hl, ho]) (if_pos (ok hok)),
      fun ho hok => unitEnds_of_finish exec_bench h (by simp [hl, ho]) (benchCommand_invalid rfl hok)⟩
  case cimEmpty =>
    intro h hl
    exact unitEnds_of_finish exec_cimLoad h (by simp [hl]) (if_pos (by simp [loadOk, hl]))
  case ntt =>
    intro h hok
    exact ⟨fun hl ho => unitEnds_of_finish exec_fwd h (by simp [hl, ho]) (if_pos (ok hok)),
      fun ho => unitEnds_of_finish exec_inv h (by simpa using ho) (if_pos (ok hok))⟩
  case auto =>
    intro h hok
    exact ⟨fun hl ho => unitEnds_of_finish exec_automorphismEval h (by simp [hl, ho]) (if_pos (ok hok)),
      fun ho => unitEnds_of_finish exec_automorphismCoef h (by simpa using ho) (if_pos (ok hok))⟩
  case bext =>
    intro h hok ho
    exact unitEnds_of_finish exec_bext h (by simpa [or_assoc] using ho) (if_pos (ok hok))
  case kfetch =>
    intro h hl ho hok
    exact unitEnds_of_finish exec_kfetch h (by simp [hl, ho]) (if_pos (ok hok))

end

/-! Completion of unit commands and its message (03 R84, R96, R97, 04 R158). -/

namespace Sys2Proof.Machine

/-! ## What stack memory and its faults leave of the quads -/

section

variable {d : Dev} {r : Raise}

theorem isolate_quads (h : r.quad = none) (t : Stamp) : (isolate d r t).quads = d.quads := by
  have hq (n : Nat) : attribution r ≠ .quad n := by
    unfold attribution
    rw [h]
    split
    · split <;> simp_all
    · split
      · split <;> simp
      · simp
  unfold isolate
  split
  · rfl
  · exact recoveryDue_quads _ _ _
  · next n hn => exact absurd hn (hq n)

/-- A raise that names no quad leaves every quad as it was. -/
theorem raise_quads (h : r.quad = none) : (raise d r).quads = d.quads := by
  rcases raise_isolates d r with k | ⟨p, t, hp, k⟩
  · exact k.quads
  · exact k.quads.trans ((isolate_quads h t).trans hp.quads)

theorem checkStackWord_quads (w : Nat × Nat) : (checkStackWord d w).2.quads = d.quads := by
  unfold checkStackWord raiseStack
  split
  · exact (raise_quads rfl).trans rfl
  · exact (deviceRaiseKeeps_setCause _ _).quads.trans (raise_quads rfl)

theorem checkStackWords_quads (ws : List (Nat × Nat)) : (checkStackWords d ws).2.quads = d.quads :=
  List.foldlRecOn (motive := fun a : Bool × Dev => a.2.quads = d.quads) ws _ rfl fun _ h w _ => (checkStackWord_quads w).trans h

theorem dropStackInj_quads (gone : Nat × Nat → Bool) : (dropStackInj d gone).quads = d.quads := by
  unfold dropStackInj
  simp only
  split
  · rfl
  · split
    · exact (deviceRaiseKeeps_setCause _ _).quads
    · rfl

theorem writeStack_quads (a : Nat) (bs : Bytes) : (writeStack d a bs).quads = d.quads :=
  (dropStackInj_quads _).trans (checkStackWords_quads _)

theorem writePage_quads (p page off : Nat) (bs : Bytes) : (writePage d p page off bs).quads = d.quads := by
  unfold writePage
  split
  · exact writeStack_quads _ _
  · rfl

theorem pageBytesOf_quads (p page off len : Nat) : (pageBytesOf d p page off len).2.quads = d.quads := by
  unfold pageBytesOf
  split
  · simp only [stackBytes]
    split
    · exact checkStackWords_quads _
    · exact checkStackWords_quads _
  · rfl

theorem takeRecord_quads (p n : Nat) : (takeRecord d p n).quads = d.quads := by
  have he : (emitRecord d p n).2.quads = d.quads := pageBytesOf_quads _ _ _ _
  simp only [takeRecord]
  split
  · exact he
  · split
    · exact he
    · exact (writePage_quads _ _ _ _).trans he

theorem takeWritten_quads (p : Nat) (c : UnitCmd) : (takeWritten d p c).quads = d.quads := by
  unfold takeWritten
  simp only
  split
  · rfl
  · exact List.foldlRecOn (motive := fun x : Dev => x.quads = d.quads) _ _ rfl fun _ h n _ => (takeRecord_quads p n).trans h

theorem takeWritten_nil (p : Nat) {c : UnitCmd} (h : c.wrote = []) : takeWritten d p c = d := by
  unfold takeWritten
  exact if_pos (.inr (by rw [h]; rfl))

end

/-! ## Octets of a message -/

theorem leVal_le (n v : Nat) : leVal (le n v) = v % 256 ^ n := by
  induction n generalizing v with
  | zero => simp [le, leVal, Nat.mod_one]
  | succ n ih => rw [le, leVal, ih, Nat.pow_succ', Nat.mod_mul, BitVec.toNat_ofNat]

theorem take_le {m n : Nat} (h : m ≤ n) (v : Nat) : (le n v).take m = le m v := by
  induction m generalizing n v with
  | zero => rfl
  | succ m ih =>
    cases n with
    | zero => omega
    | succ n => rw [le, le, List.take_succ_cons, ih (Nat.le_of_succ_le_succ h)]

/-- A field between what stands before it and what stands after it. -/
theorem leAt_append {a b : Bytes} (c : Bytes) {i n : Nat} (hi : a.length = i) (hn : b.length = n) : leAt i n (a ++ (b ++ c)) = leVal b := by
  subst hi hn
  rw [leAt, slice, List.drop_left, List.take_left]

/-- The tag of a header is its low word. -/
theorem headerOf_tag (dev part quad queue pencil tag : Nat) : headerOf dev part quad queue pencil tag % 2 ^ 32 = tag % 2 ^ 32 := by
  unfold headerOf
  omega

/-- A completion message is 64 octets with the tag, the unit, the status and the bytes moved (Table 3.9). -/
theorem completionMsg_bytes (d : Dev) (p l u : Nat) (cmd : UnitCmd) (st : Byte) (mv : Nat) (hu : u < 6) :
    let b := (completionMsg d p l u cmd st mv).bytes
    b.length = 64 ∧ leAt 0 4 b = cmd.spec.toNat % 65536 ∧ leAt 8 1 b = u ∧ leAt 9 1 b = st.toNat ∧
      leAt 12 4 b = if u = 0 then mv % 2 ^ 32 else 0 := by
  intro b
  have hst := st.isLt
  let h := headerOf (devField d) p l (bitsAt 16 2 cmd.spec.toNat) (bit (decide (cmd.tag ≠ 0))) (bitsAt 0 16 cmd.spec.toNat)
  have hb : b = le 8 h ++ (le 1 u ++ (le 1 st.toNat ++ (zeros 2 ++ (le 4 (if u = 0 then mv else 0) ++ zeros 48)))) := by
    simp only [b, completionMsg, List.append_assoc]
    rfl
  refine ⟨?_, ?_, ?_, ?_, ?_⟩
  · simp [hb, zeros]
  · have ht : slice 0 4 b = le 4 h := by
      rw [hb, slice, List.drop_zero, List.take_append_of_le_length (by simp), take_le (by decide)]
    rw [leAt, ht, leVal_le, show (256 : Nat) ^ 4 = 2 ^ 32 from rfl, headerOf_tag, bitsAt_zero_left]
    exact Nat.mod_eq_of_lt (by omega)
  · rw [hb, leAt_append _ (le_length _ _) (le_length _ _), leVal_le]
    omega
  · rw [hb, ← List.append_assoc, leAt_append _ (by simp) (le_length _ _), leVal_le]
    omega
  · rw [hb, ← List.append_assoc, ← List.append_assoc, ← List.append_assoc, leAt_append _ (by simp [zeros]) (le_length _ _), leVal_le]
    split <;> rfl

/-! ## The quad that a completion leaves -/

section

variable {x y : Quad} {u k c : Nat} {m : Msg} {cmd : UnitCmd} {r : List UnitCmd}

theorem pushMsg_eq (h : pushMsg x k c m = some y) : y = { x with slots := y.slots, inq := y.inq } := by
  simp only [pushMsg] at h
  split at h
  · rw [← Option.some.inj h]
    rfl
  · exact absurd h (by simp)

theorem pushDone_eq (h : pushDone x u k c m = some y) : y = { x with slots := y.slots, inq := y.inq } := by
  unfold pushDone at h
  split at h
  · exact absurd h (by simp)
  · exact pushMsg_eq h

/-- The quad as a completion of unit u leaves it: the last command of unit 2 opens its idle span (04 R158, R163). -/
def leftQuad (x y : Quad) (u c : Nat) (r : List UnitCmd) (t : Stamp) : Quad := { y with
  unitDone := max x.unitDone (c + 1), idleFrom := if u = 2 ∧ r = [] then t else x.idleFrom, idleTo := if u = 2 ∧ r = [] then none else x.idleTo }

theorem idleSince_of_left (hu : nth [] x.units u = cmd :: r) (hy : y = { x with units := setNth x.units u r, slots := y.slots, inq := y.inq }) (t : Stamp) :
    ({ y with unitDone := max y.unitDone (c + 1) } : Quad).idleSince x t = leftQuad x y u c r t := by
  have hlen : u < x.units.length := lt_length_of_nth_ne (d := []) (by simp [hu])
  have hunits : y.units = setNth x.units u r := by rw [hy]
  have hdone : y.unitDone = x.unitDone := by rw [hy]
  have hfrom : y.idleFrom = x.idleFrom := by rw [hy]
  have hto : y.idleTo = x.idleTo := by rw [hy]
  simp only [Quad.idleSince, unitQueue, leftQuad, hunits, hdone, List.isEmpty_iff]
  by_cases h2 : u = 2
  · subst h2
    rw [hu, nth_setNth_self hlen]
    by_cases hr : r = []
    · simp [hr]
    · simp [hr, ← hfrom, ← hto]
  · rw [nth_setNth_other (Ne.symm h2)]
    simp [h2, ← hfrom, ← hto]

end

/-! ## UNIT_COMMAND_COMPLETE -/

section

variable {d : Dev} {n u c mv : Nat} {st : Byte} {cmd : UnitCmd} {r : List UnitCmd} {y : Quad}

/-- The message of a completion, with the numbers of the quad's owner. -/
def doneMsg (d : Dev) (n u : Nat) (cmd : UnitCmd) (st : Byte) (mv : Nat) : Msg :=
  completionMsg d (((quadOwner d n).map (·.1)).getD 0) (((quadOwner d n).map (·.2)).getD 0) u cmd st mv

/-- The quad as the completion's message has joined its queue, if it may (R97). -/
def pushedDone (d : Dev) (n u c : Nat) (cmd : UnitCmd) (r : List UnitCmd) (st : Byte) (mv : Nat) : Option Quad :=
  let y := setUnitQueue (d.quad n) u r
  if bitsAt 18 1 cmd.spec.toNat = 1 then pushDone y u (bitsAt 16 2 cmd.spec.toNat) c (doneMsg d n u cmd st mv) else some y

theorem completeCommand_early (hu : nth [] (d.quad n).units u = cmd :: r) (hd : cmd.done = some (st, mv)) (h : c < cmd.due) :
    completeCommand d n u c = d := by
  simp only [completeCommand, unitQueue, hu, hd, h, if_true]

theorem completeCommand_refused (hu : nth [] (d.quad n).units u = cmd :: r) (hd : cmd.done = some (st, mv)) (h : cmd.due ≤ c)
    (hp : pushedDone d n u c cmd r st mv = none) :
    completeCommand d n u c = d.setQuad n { d.quad n with units := setNth (d.quad n).units u ({ cmd with offered := true } :: r) } := by
  simp only [pushedDone, doneMsg] at hp
  simp only [completeCommand, unitQueue, hu, hd, Nat.not_lt.2 h, if_false, hp]
  rfl

theorem completeCommand_leaves (hu : nth [] (d.quad n).units u = cmd :: r) (hd : cmd.done = some (st, mv)) (h : cmd.due ≤ c)
    (hp : pushedDone d n u c cmd r st mv = some y) :
    completeCommand d n u c =
      let e := quadProgress (d.setQuad n (({ y with unitDone := max y.unitDone (c + 1) } : Quad).idleSince (d.quad n) (now d))) n
      if u = 0 then takeWritten e (((quadOwner d n).map (·.1)).getD 0) cmd else e := by
  simp only [pushedDone, doneMsg] at hp
  simp only [completeCommand, unitQueue, hu, hd, Nat.not_lt.2 h, if_false, hp]

end

section

variable {s : State} {q : QuadAt} {u mv : Nat} {st : Byte} {cmd : UnitCmd} {r : List UnitCmd} {y : Quad}

theorem exec_unitCommandComplete (hf : q.quad.toNat < quadsFitted s.dev) (hu : u < 6) (hl : quadLive (coreQuad s q) = true) :
    exec (.unitCommandComplete q u) s = onUnit s true (completeCommand (s.dev.at q.e) q.quad.toNat u q.cyc) := by
  show execUnitCommandComplete q u s = _
  rw [execUnitCommandComplete]
  simp only [coreQuad_at, hf, hu, hl, decide_true, Bool.and_self, if_true]

/-- A completion whose message, if any, has joined its queue. -/
theorem completion_ends (hf : q.quad.toNat < quadsFitted s.dev) (hu6 : u < 6) (hl : quadLive (coreQuad s q) = true)
    (hu : nth [] (coreQuad s q).units u = cmd :: r) (hd : cmd.done = some (st, mv)) (h : cmd.due ≤ q.cyc)
    (hp : pushedDone (s.dev.at q.e) q.quad.toNat u q.cyc cmd r st mv = some y)
    (hy : y = { coreQuad s q with units := setNth (coreQuad s q).units u r, slots := y.slots, inq := y.inq }) :
    Does (.unitCommandComplete q u) s fun d =>
      d.quad q.quad.toNat = leftQuad (coreQuad s q) y u q.cyc r (now (s.dev.at q.e)) ∧
      (∀ m, m ≠ q.quad.toNat → d.quad m = s.dev.quad m) ∧ ((u ≠ 0 ∨ cmd.wrote = []) → CoreFrame s q d) := by
  have hst : y.st = (coreQuad s q).st := by rw [hy]
  have hne : leftQuad (coreQuad s q) y u q.cyc r (now (s.dev.at q.e)) ≠ {} :=
    quad_ne_of_live (x := leftQuad _ _ _ _ _ _) (by unfold quadLive leftQuad at *; rwa [hst])
  have hx := completeCommand_leaves (d := s.dev.at q.e) hu hd h hp
  rw [coreQuad_at, idleSince_of_left hu hy] at hx
  obtain ⟨hframe, hquad⟩ := (onlyQuad_at.setQuad (quad_ne_of_live hl) hne).progress hne
  refine does_onUnit ((exec_unitCommandComplete hf hu6 hl).trans (by rw [hx])) ?_
  dsimp only
  by_cases h0 : u = 0
  · rw [if_pos h0]
    have hk (m : Nat) := congrArg (fun t => tabGet ({} : Quad) t m) (takeWritten_quads
      (d := quadProgress ((s.dev.at q.e).setQuad q.quad.toNat (leftQuad (coreQuad s q) y u q.cyc r (now (s.dev.at q.e)))) q.quad.toNat)
      (((quadOwner (s.dev.at q.e) q.quad.toNat).map (·.1)).getD 0) cmd)
    refine ⟨(hk _).trans hquad, fun m hm => (hk m).trans (hframe.2.1 m hm), fun hw => ?_⟩
    rw [takeWritten_nil _ (hw.resolve_left (not_not.2 h0))]
    exact hframe
  · rw [if_neg h0]
    exact ⟨hquad, hframe.2.1, fun _ => hframe⟩

end

end Sys2Proof.Machine

section

open Sys2Proof.Machine

/-- Settles O34: by the quad that the push of the message, when one is asked for, leaves. -/
theorem unitCompletion : Obligations.UnitCompletion := by
  intro s q u cmd r st mv hf hu6 x n t hl hu hd
  have hx := exec_unitCommandComplete hf hu6 hl
  refine ⟨fun h => does_onUnit hx (completeCommand_early (d := s.dev.at q.e) hu hd h), fun h => ⟨fun hn => ?quiet, fun hn p l m ho hm => ?tells⟩⟩
  case quiet =>
    exact completion_ends hf hu6 hl hu hd h (if_neg fun h1 => absurd (hn.symm.trans h1) (by decide)) rfl
  case tells =>
    subst hm
    have hp : pushedDone (s.dev.at q.e) n u q.cyc cmd r st mv =
        pushDone { x with units := setNth x.units u r } u (cmd.spec.toNat / 65536 % 4) q.cyc (completionMsg s.dev p l u cmd st mv) := by
      have hmsg : doneMsg (s.dev.at q.e) n u cmd st mv = completionMsg s.dev p l u cmd st mv := by
        simp only [doneMsg, show quadOwner (s.dev.at q.e) n = some (p, l) from ho]
        rfl
      rw [← hmsg]
      exact if_pos hn
    refine ⟨completionMsg_bytes _ _ _ _ _ _ _ hu6, fun y hy => completion_ends hf hu6 hl hu hd h (hp.trans hy) (pushDone_eq hy), fun hy => ?_⟩
    exact does_onUnit hx (completeCommand_refused (d := s.dev.at q.e) hu hd h (hp.trans hy))

end

/-! Messages delivered by the mesh, by bearings and from the ingress area (03 R79, R80, R83, R84, 06 R246, 10 R419). -/

namespace Sys2Proof.Machine

/-! ## Packets of this device leave the ingress area as it was -/

section

variable {d x y : Dev}

/-- What a packet sent to another device may touch; the messages that have arrived are kept. -/
def SendKeeps (d x : Dev) : Prop := EdgeEndKeeps d x ∧ x.aksia.ingress = d.aksia.ingress

theorem SendKeeps.refl : SendKeeps d d := ⟨rfl, rfl⟩

theorem SendKeeps.trans (h : SendKeeps d x) (k : SendKeeps x y) : SendKeeps d y := ⟨h.1.trans k.1, k.2.trans h.2⟩

theorem DeviceRaiseKeeps.sends (h : DeviceRaiseKeeps d x) : SendKeeps d x := ⟨h.edgeEnd, by rw [h]⟩

theorem sendKeeps_freeBuffer (h : Option (Nat × Bool)) (p : Packet) : SendKeeps d (freeBuffer d h p) := by
  refine ⟨edgeEndKeeps_freeBuffer h p, ?_⟩
  unfold freeBuffer
  split
  · rfl
  · split <;> rfl

theorem sendKeeps_sendQueued (port i : Nat) : SendKeeps d (sendQueued d port i) := by
  refine ⟨edgeEndKeeps_sendQueued port i, ?_⟩
  unfold sendQueued
  dsimp only
  split
  · rfl
  · exact (sendKeeps_freeBuffer _ _).2.trans rfl

theorem sendKeeps_servePort (port fuel : Nat) : SendKeeps d (servePort d port fuel) := by
  induction fuel generalizing d with
  | zero => exact .refl
  | succ n ih =>
    unfold servePort
    split
    · exact (sendKeeps_sendQueued _ _).trans ih
    · exact .refl

theorem sendKeeps_offer (port : Nat) (q : Queued) : SendKeeps d (offer d port q) :=
  SendKeeps.trans (x := d.setPort port { d.port port with queue := (d.port port).queue ++ [q] }) ⟨rfl, rfl⟩ (sendKeeps_servePort _ _)

theorem sendKeeps_dropPacket (port : Nat) (p : Packet) : SendKeeps d (dropPacket d port p) :=
  SendKeeps.trans (x := { d with aksia := { d.aksia with dropped := d.aksia.dropped + 1 } }) ⟨rfl, rfl⟩ (deviceRaiseKeeps_raiseDev _ _ _).sends

theorem sendKeeps_sendHop (dir : Nat) (fresh : Bool) (h : Option (Nat × Bool)) (p : Packet) : SendKeeps d (sendHop d dir fresh h p) := by
  simp only [sendHop]
  split
  · exact sendKeeps_offer _ _
  · exact (sendKeeps_dropPacket _ _).trans (sendKeeps_freeBuffer _ _)

/-- A packet for another device touches ports, counters and what a raise may touch. -/
theorem sendKeeps_sendPacket {dst : Nat} (h : dst ≠ deviceNumber d) (cls : PktClass) (kind : PktKind) (dpart spart : Nat) (tag : BitVec 16)
    (payload : Bytes) : SendKeeps d (sendPacket d cls kind dst dpart spart tag payload) := by
  simp only [sendPacket]
  rw [if_neg h]
  split
  · split
    · exact sendKeeps_sendHop _ _ _ _
    · exact .refl
  · exact SendKeeps.trans (x := { d with aksia := { d.aksia with unreachable := d.aksia.unreachable + 1 } }) ⟨rfl, rfl⟩
      (deviceRaiseKeeps_raiseDev _ _ _).sends

theorem sendKeeps_updGiven (given : Tab Nat) : SendKeeps d (d.updAksia fun a => { a with msgGiven := given }) := ⟨rfl, rfl⟩

theorem sendKeeps_grantTo (p : Nat) (peer : Nat × Nat) : SendKeeps d (grantTo d p peer) := by
  simp only [grantTo]
  split
  · exact .refl
  · next h =>
    refine (sendKeeps_updGiven _).trans (sendKeeps_sendPacket ?_ _ _ _ _ _ _)
    exact fun k => h (.inl k)

theorem sendKeeps_returnMsgCredit (p dev part : Nat) : SendKeeps d (returnMsgCredit d p dev part) := by
  simp only [returnMsgCredit]
  split
  · exact (sendKeeps_updGiven _).trans (sendKeeps_grantTo _ _)
  · exact sendKeeps_updGiven _

end

/-! ## A pushed message -/

section

variable {x y : Quad} {k c : Nat} {m : Msg}

theorem pushMsg_inq (h : pushMsg x k c m = some y) : ∃ i : InQueue, i.pushed = true ∧ y.inq = setNth x.inq k i := by
  simp only [pushMsg] at h
  split at h
  · exact ⟨_, rfl, (congrArg Quad.inq (Option.some.inj h)).symm⟩
  · exact absurd h (by simp)

theorem quad_ne_of_inq (h : x.inq ≠ ({} : Quad).inq) : x ≠ {} := fun e => h (congrArg Quad.inq e)

/-- A quad that has taken a push is not the quad that an unlisted number reads as. -/
theorem inq_ne_of_pushMsg (h : pushMsg x k c m = some y) (hk : k < 4) : y.inq ≠ ({} : Quad).inq := by
  obtain ⟨i, hi, hy⟩ := pushMsg_inq h
  intro hd
  have hlen : k < x.inq.length := by
    have := congrArg List.length (hy.symm.trans hd)
    rw [setNth_eq_set, List.length_set] at this
    rw [this]
    exact hk
  have hn : nth {} ({} : Quad).inq k = i := by rw [← hd, hy, nth_setNth_self hlen]
  have h0 : ∀ j < 4, (nth {} ({} : Quad).inq j).pushed = false := by decide
  rw [← hn, h0 k hk] at hi
  exact Bool.noConfusion hi

theorem pushMesh_pushMsg (h : pushMesh x k c m = some y) : pushMsg x k c m = some y := by
  unfold pushMesh at h
  split at h
  · exact absurd h (by simp)
  · exact h

theorem msgQueue_lt (h : Nat) : msgQueue h < 4 := Nat.mod_lt _ (by decide)

end

/-! ## MESSAGE_DELIVERY -/

section

variable {d : Dev} {n c p l t : Nat} {m : Msg} {r : List Msg} {y : Quad}

theorem leaveOutbound_of_cons (ho : (d.quad n).outbound = m :: r) : leaveOutbound d n = d.setQuad n { d.quad n with outbound := r } := by
  simp only [leaveOutbound, ho, List.drop_succ_cons, List.drop_zero]

section

variable (ho : (d.quad n).outbound = m :: r) (hq : quadOwner d n = some (p, l))

include ho hq

theorem deliverFrom_pencilled (hl : leavesPencilled d p m = true) : deliverFrom d n c = d := by
  simp only [deliverFrom, ho, hq, hl, if_true]

variable (hl : leavesPencilled d p m = false) (hd : msgDev (leAt 0 8 m.bytes) = devField d)

include hl hd

theorem deliverFrom_breach {side : Nat} (hb : localBreach d p (msgPart (leAt 0 8 m.bytes)) = some side) :
    deliverFrom d n c = isolationFault (d.setQuad n { d.quad n with outbound := r }) side := by
  rw [← leaveOutbound_of_cons ho]
  simp only [deliverFrom, ho, hq, hl, hd, hb, Bool.false_eq_true, if_false, ne_eq, not_true_eq_false]
  rfl

variable (hb : localBreach d p (msgPart (leAt 0 8 m.bytes)) = none)
  (ht : physQuad d (msgPart (leAt 0 8 m.bytes)) (msgQuad (leAt 0 8 m.bytes)) = some t)

include hb ht

theorem deliverFrom_full (hp : pushMesh (d.quad t) (msgQueue (leAt 0 8 m.bytes)) c (stampHeader d p l m) = none) : deliverFrom d n c = d := by
  simp only [deliverFrom, ho, hq, hl, hd, hb, ht, hp, Bool.false_eq_true, if_false, ne_eq, not_true_eq_false]

theorem deliverFrom_pushed (hp : pushMesh (d.quad t) (msgQueue (leAt 0 8 m.bytes)) c (stampHeader d p l m) = some y) :
    deliverFrom d n c = leaveOutbound (d.setQuad t y) n := by
  simp only [deliverFrom, ho, hq, hl, hd, hb, ht, hp, Bool.false_eq_true, if_false, ne_eq, not_true_eq_false]

end

/-- The sender and the receiver of a delivered message. -/
theorem leaveOutbound_pushed {k : Nat} (ho : (d.quad n).outbound = m :: r) {v : Msg} (hk : k < 4) (hp : pushMsg (d.quad t) k c v = some y)
    (hy : y ≠ {}) (hx : { d.quad n with outbound := r } ≠ ({} : Quad)) :
    let e := leaveOutbound (d.setQuad t y) n
    (t ≠ n → e.quad t = y ∧ e.quad n = { d.quad n with outbound := r }) ∧ (t = n → e.quad t = { y with outbound := r }) ∧
      (∀ j, j ≠ t → j ≠ n → e.quad j = d.quad j) ∧ e = { d with quads := e.quads } := by
  intro e
  by_cases htn : t = n
  · subst htn
    have hout : y.outbound = m :: r := (by rw [pushMsg_eq hp] : y.outbound = (d.quad t).outbound).trans ho
    have hinq : y.inq ≠ ({} : Quad).inq := inq_ne_of_pushMsg hp hk
    have hne : ({ y with outbound := r } : Quad) ≠ {} := quad_ne_of_inq hinq
    have he : e = d.setQuad t { y with outbound := r } := by
      have hself : (d.setQuad t y).quad t = y := Dev.quad_setQuad_self hy
      unfold e
      rw [leaveOutbound_of_cons (m := m) (r := r) (by rw [hself, hout]), hself, Dev.setQuad_setQuad hy]
    rw [he]
    exact ⟨fun h => absurd rfl h, fun _ => Dev.quad_setQuad_self hne, fun j hj _ => Dev.quad_setQuad_other hne hj, rfl⟩
  · have hn : (d.setQuad t y).quad n = d.quad n := Dev.quad_setQuad_other hy (Ne.symm htn)
    have he : e = (d.setQuad t y).setQuad n { d.quad n with outbound := r } := by
      unfold e
      rw [leaveOutbound_of_cons (m := m) (r := r) (by rw [hn, ho]), hn]
    rw [he]
    exact ⟨fun h => ⟨(Dev.quad_setQuad_other hx h).trans (Dev.quad_setQuad_self hy), Dev.quad_setQuad_self hx⟩, fun h => absurd h htn,
      fun j hj hjn => (Dev.quad_setQuad_other hx hjn).trans (Dev.quad_setQuad_other hy hj), rfl⟩

end

section

variable {s : State} {e c p l t : Nat} {y : Quad}

theorem exec_deliverQuad {n : BitVec 8} (hf : n.toNat < quadsFitted s.dev) :
    exec (.messageDelivery e c (.quad n)) s = onUnit s true (deliverFrom (s.dev.at e) n.toNat c) := by
  show execMessageDelivery e c (.quad n) s = _
  simp only [execMessageDelivery, hf, decide_true]

theorem exec_deliverNotice (hp : p < 64) (hl : l < 256) :
    exec (.messageDelivery e c (.notice p l)) s = onUnit s true (deliverNotice (s.dev.at e) p l c) := by
  show execMessageDelivery e c (.notice p l) s = _
  simp only [execMessageDelivery, hp, hl, decide_true, Bool.and_self]

theorem exec_deliverIngress {k : BitVec 2} (hp : p < 64) (hl : l < 256) :
    exec (.messageDelivery e c (.ingress p l k)) s = onUnit s true (deliverIngress (s.dev.at e) p l k c) := by
  show execMessageDelivery e c (.ingress p l k) s = _
  simp only [execMessageDelivery, hp, hl, decide_true, Bool.and_self]

variable {d : Dev}

theorem deliverNotice_pushed {i : Notice} {r : List Notice}
    (hi : takeFirst (fun (i : Notice) => decide (i.partition = p) && decide (i.quad = l)) d.notices = some (i, r))
    (ht : physQuad d p l = some t) (hp : pushMesh (d.quad t) i.queue.toNat c i.msg = some y) :
    deliverNotice d p l c = { d.setQuad t y with notices := r } := by
  simp only [deliverNotice, hi, ht, hp]

theorem deliverIngress_pushed {k : BitVec 2} {i : Ingress} {r : List Ingress}
    (hi : takeFirst (fun (i : Ingress) => decide (i.partition = p) && decide (i.quad = l) && decide (i.queue = k)) d.aksia.ingress = some (i, r))
    (ht : physQuad d p l = some t) (hp : pushMesh (d.quad t) k.toNat c i.msg = some y) :
    deliverIngress d p l k c = returnMsgCredit { d.setQuad t y with aksia := { d.aksia with ingress := r } } p i.srcDev.toNat i.srcPart.toNat := by
  simp only [deliverIngress, hi, ht, hp]

end

end Sys2Proof.Machine

section

open Sys2Proof.Machine

/-- Settles O17: the outcome of each offer, and the tables that it changes. -/
theorem messageDelivery : Obligations.MessageDelivery := by
  intro s e c
  refine ⟨?quad, ?notice, ?ingress⟩
  case quad =>
    intro n m r p l x h hf ho hq
    have hx := exec_deliverQuad (e := e) (c := c) hf
    refine ⟨fun hl => does_onUnit hx (deliverFrom_pencilled (d := s.dev.at e) ho hq hl), fun hl hd => ⟨fun side hb => ?_, fun t hb ht => ⟨?_, fun hp => ?_⟩⟩⟩
    · exact does_onUnit hx (deliverFrom_breach (d := s.dev.at e) ho hq hl hd hb)
    · intro y hp hy hne
      obtain ⟨hapart, hsame, hother, honly⟩ := leaveOutbound_pushed (d := s.dev.at e) ho (msgQueue_lt _) (pushMesh_pushMsg hp) hy hne
      rw [deliverFrom_pushed (d := s.dev.at e) ho hq hl hd hb ht hp] at hx
      exact does_onUnit hx ⟨hapart, fun htn _ => hsame htn, hother, honly⟩
    · exact does_onUnit hx (deliverFrom_full (d := s.dev.at e) ho hq hl hd hb ht hp)
  case notice =>
    intro p l i r t y hp hl hi ht hpush hy
    refine does_onUnit (exec_deliverNotice hp hl) ?_
    rw [deliverNotice_pushed (d := s.dev.at e) hi ht hpush]
    exact ⟨Dev.quad_setQuad_self hy, fun k hk => Dev.quad_setQuad_other hy hk, rfl⟩
  case ingress =>
    intro p l k i r t y hp hl hi ht hpush hy
    refine does_onUnit (exec_deliverIngress hp hl) ?_
    rw [deliverIngress_pushed (d := s.dev.at e) hi ht hpush]
    obtain ⟨hkeeps, hin⟩ := sendKeeps_returnMsgCredit
      (d := { (s.dev.at e).setQuad t y with aksia := { s.dev.aksia with ingress := r } }) p i.srcDev.toNat i.srcPart.toNat
    have hquad (n : Nat) := congrArg (fun v => tabGet ({} : Quad) v n) hkeeps.quads
    exact ⟨(hquad t).trans (Dev.quad_setQuad_self hy), fun n hn => (hquad n).trans (Dev.quad_setQuad_other hy hn), hin, hkeeps.stackMem, hkeeps.strips⟩

end

/-! The block mover within a quad (03 R105 to R107, Table 3.11). -/

namespace Sys2Proof.Machine

/-! ## Octets of spans -/

section

variable {m v : Mem} {a b n : Nat}

theorem memRead_getElem {i : Nat} (h : i < (memRead m a n).length) : (memRead m a n)[i] = memByte m (a + i) := by
  induction n generalizing a i with
  | zero => simp at h
  | succ n ih =>
    cases i with
    | zero => rfl
    | succ i =>
      simp only [memRead, List.getElem_cons_succ, ih]
      rw [show a + 1 + i = a + (i + 1) by omega]

theorem memRead_congr (h : ∀ i, i < n → memByte m (a + i) = memByte v (b + i)) : memRead m a n = memRead v b n :=
  List.ext_getElem (by simp) fun i hi hj => by
    rw [memRead_getElem, memRead_getElem]
    exact h i (by simpa using hi)

/-- Octet `i` of a record: of the memory it is copied from, or zero. -/
def srcByte (m : Mem) (src : Option Nat) (i : Nat) : Byte := (src.map fun a => memByte m (a + i)).getD 0

/-- The octets of a piece of a record. -/
def pieceBytes (m : Mem) (src : Option Nat) (off len : Nat) : Bytes := (src.map fun a => memRead m (a + off) len).getD (zeros len)

theorem pieceBytes_length (m : Mem) (src : Option Nat) (off len : Nat) : (pieceBytes m src off len).length = len := by
  cases src <;> simp [pieceBytes, zeros]

theorem pieceBytes_getElem {src : Option Nat} {off len i : Nat} (h : i < (pieceBytes m src off len).length) :
    (pieceBytes m src off len)[i] = srcByte m src (off + i) := by
  cases src with
  | none => simp [pieceBytes, zeros, srcByte]
  | some a =>
    simp only [pieceBytes, srcByte, Option.map_some, Option.getD_some, memRead_getElem]
    rw [Nat.add_assoc]

/-- Memory after a piece of a record has been written. -/
theorem memByte_piece (w : Memory.wf m) (src : Option Nat) (off len t : Nat) :
    memByte (memWrite m t (pieceBytes m src off len)) b = if t ≤ b ∧ b < t + len then srcByte m src (off + (b - t)) else memByte m b := by
  have hlen := pieceBytes_length m src off len
  split
  · next h =>
    obtain ⟨i, rfl⟩ := Nat.exists_eq_add_of_le h.1
    rw [memByte_memWrite_inside w (by omega), pieceBytes_getElem, Nat.add_sub_cancel_left]
  · next h => exact memByte_memWrite_outside w (by omega)

end

/-! ## A record copied piece by piece -/

section

variable {x y : Quad} {src : Option Nat} {t n len : Nat}

/-- The quad with octets and their tag written. -/
def putAt (y : Quad) (t : Nat) (bs : Bytes) (tag : PTag) : Quad := tagSpan { y with mem := memWrite y.mem t bs } t bs.length tag

theorem putAt_mem (y : Quad) (t : Nat) (bs : Bytes) (tag : PTag) : (putAt y t bs tag).mem = memWrite y.mem t bs := by
  rw [putAt, tagSpan_eq]

theorem MemTags.refl : MemTags x x := rfl

theorem MemTags.trans {z : Quad} (h : MemTags x y) (k : MemTags y z) : MemTags x z := by
  unfold MemTags at *
  rw [k, h]

theorem memTags_putAt (bs : Bytes) (tag : PTag) : MemTags y (putAt y t bs tag) := by
  unfold MemTags
  rw [putAt, tagSpan_eq]

theorem MemTags.inj (h : MemTags x y) : y.inj = x.inj := by rw [h]

theorem MemTags.units (h : MemTags x y) : y.units = x.units := by rw [h]

theorem MemTags.ne (h : MemTags x y) (hl : quadLive x = true) : y ≠ {} := quad_ne_of_live (by rw [h]; exact hl)

/-- The first `n` octets of a record are at its destination, and nothing else has changed. -/
def Copied (x y : Quad) (src : Option Nat) (t n : Nat) : Prop :=
  MemTags x y ∧ Memory.wf y.mem = true ∧
    ∀ b, memByte y.mem b = if t ≤ b ∧ b < t + n then srcByte x.mem src (b - t) else memByte x.mem b

theorem copied_zero (w : Memory.wf x.mem = true) : Copied x x src t 0 := ⟨rfl, w, fun b => (if_neg (by omega)).symm⟩

/-- A record that does not meet its source is read as it was however much of it has been written. -/
theorem Copied.srcByte (h : Copied x y src t n) {src' : Option Nat} {i : Nat} (ha : ∀ a, src' = some a → a + i < t ∨ t + n ≤ a + i) :
    srcByte y.mem src' i = srcByte x.mem src' i := by
  cases src' with
  | none => rfl
  | some a =>
    have := ha a rfl
    exact (h.2.2 (a + i)).trans (if_neg (by omega))

theorem Copied.piece {k : Nat} (h : Copied x y src t n) (hn : n + k ≤ len) (ha : ∀ a, src = some a → Apart len a t) (tag : PTag) :
    Copied x (putAt y (t + n) (pieceBytes y.mem src n k) tag) src t (n + k) := by
  obtain ⟨hm, hw, hb⟩ := h
  refine ⟨hm.trans (memTags_putAt _ _), ?_, fun b => ?_⟩
  · rw [putAt_mem]
    exact memWrite_wf hw
  · rw [putAt_mem, memByte_piece hw]
    by_cases h1 : t + n ≤ b ∧ b < t + n + k
    · rw [if_pos h1, if_pos (by omega), show n + (b - (t + n)) = b - t by omega]
      refine Copied.srcByte ⟨hm, hw, hb⟩ fun a e => ?_
      rcases ha a e with k | k <;> omega
    · rw [if_neg h1, hb]
      by_cases h2 : t ≤ b ∧ b < t + n
      · rw [if_pos h2, if_pos (by omega)]
      · rw [if_neg h2, if_neg (by omega)]

end

/-! ## The run of a command -/

section

variable {s : State} {q : QuadAt} {y : Quad} {R : MoveRun} {mv p : Nat} {tag : PTag}

/-- A command under way that has written to its own quad alone: the quad is `y`, and `mv` bytes are moved. -/
def Moving (s : State) (q : QuadAt) (R : MoveRun) (y : Quad) (mv : Nat) : Prop :=
  OnlyQuad s q y R.dev ∧ R.status = stOk ∧ R.moved = mv ∧ R.wrote = [] ∧ R.awaits = []

theorem storeQuad_clean {d : Dev} {n a : Nat} {bs : Bytes} (hi : (d.quad n).inj = []) :
    storeQuad d n a bs = (false, d.setQuad n { d.quad n with mem := memWrite (d.quad n).mem a bs }) := by
  refine Prod.ext ?_ (writeQuad_clean hi)
  simp only [storeQuad, injected, checkWords, hi, List.filter_nil, List.foldl_nil]

/-- Octets put into the quad. -/
theorem Moving.put (h : Moving s q R y mv) (hi : y.inj = []) (hl : quadLive y = true) (t : Nat) (bs : Bytes) :
    Moving s q (putBytes R q.quad.toNat p tag (.local_ t) bs) (putAt y t bs tag) (mv + bs.length) := by
  obtain ⟨hd, hs, hm, hw, ha⟩ := h
  have hne : ({ y with mem := memWrite y.mem t bs } : Quad) ≠ {} := quad_ne_of_live hl
  have h1 := hd.setQuad (quad_ne_of_live hl) hne
  have hput : putBytes R q.quad.toNat p tag (.local_ t) bs = { R with
      dev := (R.dev.setQuad q.quad.toNat { y with mem := memWrite y.mem t bs }).setQuad q.quad.toNat (putAt y t bs tag), moved := R.moved + bs.length } := by
    simp only [putBytes, storeQuad_clean (hd.2 ▸ hi), hd.2, h1.2, MoveRun.wroteAt]
    rfl
  rw [hput]
  exact ⟨h1.setQuad hne ((memTags_putAt bs tag).ne hl), hs, congrArg (· + bs.length) hm, hw, ha⟩

/-- A piece read from the quad, or zeros, and put into it. -/
theorem Moving.piece (h : Moving s q R y mv) (hi : y.inj = []) (hl : quadLive y = true) (src : Option Nat) (t o off len : Nat) :
    Moving s q (movePiece R q.quad.toNat p tag ((src.map Place.local_).map (·.plus o)) ((Place.local_ t).plus o) off len)
      (putAt y (t + o) (pieceBytes y.mem src o len) tag) (mv + len) := by
  have hput := h.put (p := p) (tag := tag) hi hl (t + o) (pieceBytes y.mem src o len)
  rw [pieceBytes_length] at hput
  obtain ⟨hd, hs, -, -, -⟩ := h
  cases src with
  | none =>
    simp only [movePiece, if_neg (not_not.2 hs), Option.map_none]
    exact hput
  | some a =>
    simp only [movePiece, if_neg (not_not.2 hs), Option.map_some, Place.plus, readQuad_clean (hd.2 ▸ hi), Bool.false_eq_true, hd.2]
    exact hput

/-- A transfer between local addresses of the quad, or of zeros to one. -/
def localMove (len : Nat) (r : Option Nat × Nat) : Move := ⟨r.1.map Place.local_, .local_ r.2, len⟩

theorem pieceSize_localMove (d : Dev) (len : Nat) (r : Option Nat × Nat) : pieceSize d (localMove len r) = 64 := by
  obtain ⟨src, t⟩ := r
  cases src <;> rfl

/-- A piece of 64 octets between local addresses meets no page's end. -/
theorem cutPiece_localMove {len : Nat} (r : Option Nat × Nat) (off : Nat) {k : Nat} (hk : k ≤ 64) : cutPiece (localMove len r) off k 2 = [(off, k)] := by
  obtain ⟨src, t⟩ := r
  have hroom : k ≤ pageBytes := Nat.le_trans hk (by decide)
  cases src <;> simp [cutPiece, localMove, Place.plus, Place.room, hroom]

/-- A record moves within the quad, 64 octets at a time (R107). -/
theorem Moving.move (h : Moving s q R y mv) (hi : y.inj = []) (hl : quadLive y = true) (hw : Memory.wf y.mem = true) {src : Option Nat} {t k : Nat}
    (ha : ∀ a, src = some a → Apart (64 * k) a t) (base : Nat) :
    ∃ z, Copied y z src t (64 * k) ∧ Moving s q (runMove R q.quad.toNat p tag (localMove (64 * k) (src, t)) base) z (mv + 64 * k) := by
  unfold runMove
  simp only [pieceSize_localMove, show (localMove (64 * k) (src, t)).len = 64 * k from rfl, show (64 * k + 64 - 1) / 64 = k by omega]
  suffices hj : ∀ j, j ≤ k → ∃ z, Copied y z src t (64 * j) ∧ Moving s q ((List.range j).foldl (fun r i =>
      (cutPiece (localMove (64 * k) (src, t)) (64 * i) (min 64 (64 * k - 64 * i)) 2).foldl (fun r c =>
        movePiece r q.quad.toNat p tag ((localMove (64 * k) (src, t)).src.map (·.plus c.1)) ((localMove (64 * k) (src, t)).dst.plus c.1) (base + c.1) c.2) r) R)
      z (mv + 64 * j) from hj k (Nat.le_refl k)
  intro j hjk
  induction j with
  | zero => exact ⟨y, copied_zero hw, h⟩
  | succ j ih =>
    obtain ⟨z, hc, hm⟩ := ih (by omega)
    have hz : quadLive z = true := by rw [hc.1]; exact hl
    rw [List.range_succ, List.foldl_concat, show min 64 (64 * k - 64 * j) = 64 by omega, cutPiece_localMove _ _ (Nat.le_refl 64)]
    exact ⟨_, hc.piece (len := 64 * k) (k := 64) (by omega) ha tag, hm.piece (hc.1.inj.trans hi) hz src t (64 * j) _ 64⟩

/-! ## All records of a command -/

/-- Every record is at its destination, and nothing else has changed. -/
def Moved (x y : Quad) (len : Nat) (recs : List (Option Nat × Nat)) : Prop :=
  MemTags x y ∧ (∀ r ∈ recs, ∀ i, i < len → memByte y.mem (r.2 + i) = srcByte x.mem r.1 i) ∧
    ∀ b, (∀ r ∈ recs, b < r.2 ∨ r.2 + len ≤ b) → memByte y.mem b = memByte x.mem b

/-- Records of which no destination meets a source or another destination. -/
def RecordsApart (len : Nat) (recs : List (Option Nat × Nat)) : Prop :=
  recs.Pairwise (fun a b => Apart len a.2 b.2) ∧ ∀ r ∈ recs, ∀ a, r.1 = some a → ∀ u ∈ recs, Apart len a u.2

theorem Moved.cons {x y z : Quad} {len : Nat} {src : Option Nat} {t : Nat} {recs : List (Option Nat × Nat)} (hc : Copied x y src t len)
    (hm : Moved y z len recs) (ha : RecordsApart len ((src, t) :: recs)) : Moved x z len ((src, t) :: recs) := by
  obtain ⟨hpair, hsrc⟩ := ha
  obtain ⟨hmt, hin, hout⟩ := hm
  have hfar := (List.pairwise_cons.1 hpair).1
  refine ⟨hc.1.trans hmt, fun r hr i hi => ?_, fun b hb => ?_⟩
  · rcases List.mem_cons.1 hr with rfl | hr
    · rw [hout _ fun u hu => by rcases hfar u hu with k | k <;> simp only at k <;> omega, hc.2.2, if_pos (by omega), Nat.add_sub_cancel_left]
    · rw [hin r hr i hi]
      exact hc.srcByte fun a e => by
        rcases hsrc r (List.mem_cons_of_mem _ hr) a e _ List.mem_cons_self with k | k <;> simp only at k <;> omega
  · rw [hout b fun u hu => hb u (List.mem_cons_of_mem _ hu), hc.2.2]
    have := hb _ List.mem_cons_self
    exact if_neg (by omega)

theorem RecordsApart.tail {len : Nat} {r : Option Nat × Nat} {recs : List (Option Nat × Nat)} (h : RecordsApart len (r :: recs)) : RecordsApart len recs :=
  ⟨(List.pairwise_cons.1 h.1).2, fun u hu a e v hv => h.2 u (List.mem_cons_of_mem _ hu) a e v (List.mem_cons_of_mem _ hv)⟩

/-- The records of a command move in order, each at its offset in the command. -/
theorem Moving.moves {k : Nat} (recs : List (Option Nat × Nat)) (j : Nat) (h : Moving s q R y mv) (hi : y.inj = []) (hl : quadLive y = true)
    (hw : Memory.wf y.mem = true) (ha : RecordsApart (64 * k) recs) :
    ∃ z, Moved y z (64 * k) recs ∧ Moving s q (((recs.map (localMove (64 * k))).zipIdx j).foldl
      (fun r x => runMove r q.quad.toNat p tag x.1 (64 * k * x.2)) R) z (mv + recs.length * (64 * k)) := by
  induction recs generalizing R y mv j with
  | nil => exact ⟨y, ⟨rfl, fun r hr => absurd hr (by simp), fun _ _ => rfl⟩, by simpa using h⟩
  | cons r recs ih =>
    obtain ⟨z, hc, hm⟩ := h.move (p := p) (tag := tag) hi hl hw (src := r.1) (t := r.2) (k := k)
      (fun a e => ha.2 r List.mem_cons_self a e r List.mem_cons_self) (64 * k * j)
    obtain ⟨v, hmv, hrun⟩ := ih (j + 1) hm (hc.1.inj.trans hi) (by rw [hc.1]; exact hl) hc.2.1 ha.tail
    refine ⟨v, hmv.cons hc ha, ?_⟩
    rw [show mv + (r :: recs).length * (64 * k) = mv + 64 * k + recs.length * (64 * k) by rw [List.length_cons, Nat.succ_mul]; omega]
    exact hrun

end

/-! ## The command -/

/-- The transfers of a command in order. -/
def runMoves (d : Dev) (n p : Nat) (tag : PTag) (moves : List Move) (len : Nat) : MoveRun :=
  moves.zipIdx.foldl (fun r x => runMove r n p tag x.1 (len * x.2)) { dev := d, status := stOk, moved := 0, wrote := [], awaits := [] }

theorem descOk_of_movesOf {b : Bytes} {l : List Nat} {ms : List Move} (h : movesOf b l = some ms) : descOk b = true := by
  by_contra hn
  rw [movesOf_none (Bool.eq_false_iff.2 hn)] at h
  exact absurd h (by simp)

/-- What the limits of R105 say of the length of a record. -/
theorem descOk_len {b : Bytes} (h : descOk b = true) : b.length = 32 ∧ leAt 16 4 b % 64 = 0 := by
  simp only [descOk, Bool.and_eq_true, decide_eq_true_eq, and_assoc] at h
  obtain ⟨hl, -, -, -, hm, -⟩ := h
  exact ⟨hl, hm⟩

section

variable {cmd : UnitCmd} {r : List UnitCmd} {moves : List Move}

/-- A command whose transfers have run: with no reply awaited it finishes. -/
def finishMoves (n k : Nat) (cmd : UnitCmd) (tag : PTag) (r : MoveRun) : Dev :=
  let waits := if r.status = stOk then r.awaits else []
  let e := r.dev.setQuad n (setHead (r.dev.quad n) 0 { cmd with tag := tag, wrote := r.wrote, awaits := waits, started := true, moved := r.moved })
  if waits.isEmpty then finishHead e n 0 r.status r.moved (k + (r.moved + 63) / 64) else e

/-- A command without places outside its partition runs its transfers. -/
theorem moverCommand_runs {d : Dev} {n k : Nat} (hi : (d.quad n).inj = []) (hs : cmd.started = false)
    (hm : movesOf cmd.desc (readList d n cmd.desc).1 = some moves) (hin : ∀ p, ∀ m ∈ moves, m.dst.outside d p = false) :
    ∃ p tag, moverCommand d n k cmd = finishMoves n k cmd tag (runMoves d n p tag moves (leAt 16 4 cmd.desc)) := by
  have hany (p : Nat) : moves.any (fun m => m.dst.outside d p) = false := List.any_eq_false.2 fun m hmem => by simp [hin p m hmem]
  simp only [moverCommand, hs, descOk_of_movesOf hm, Bool.false_eq_true, not_true_eq_false, if_false]
  rw [readList_clean hi]
  simp only [hm, hany, Bool.false_eq_true, and_false, if_false]
  exact ⟨_, _, rfl⟩

/-- A command that has moved its bytes, with the cycle at which it completes. -/
def movedCmd (cmd : UnitCmd) (tag : PTag) (mv due : Nat) : UnitCmd :=
  { cmd with tag := tag, wrote := [], awaits := [], started := true, moved := mv, done := some (0, mv), due := due }

/-- A command that has written to its own quad alone ends with status OK and the bytes moved. -/
theorem Moving.finish {s : State} {q : QuadAt} {y : Quad} {R : MoveRun} {mv : Nat} (h : Moving s q R y mv) (hl : quadLive y = true)
    (hu : nth [] y.units 0 = cmd :: r) (hd : cmd.done = none) (k : Nat) (tag : PTag) :
    finishMoves q.quad.toNat k cmd tag R = 
      (s.dev.at q.e).setQuad q.quad.toNat { y with units := setNth y.units 0 (movedCmd cmd tag mv (k + (mv + 63) / 64) :: r) } := by
  obtain ⟨hdev, hs, hm, hw, ha⟩ := h
  have hlen : 0 < y.units.length := lt_length_of_nth_ne (d := []) (by simp [hu])
  let v : UnitCmd := { cmd with tag := tag, wrote := [], awaits := [], started := true, moved := mv }
  let z : Quad := { y with units := setNth y.units 0 (v :: r) }
  have hz : z ≠ {} := quad_ne_of_live hl
  have hset := hdev.setQuad (quad_ne_of_live hl) hz
  have hfin := finishHead_of_cons (d := R.dev.setQuad q.quad.toNat z) (n := q.quad.toNat) (u := 0) (st := stOk) (mv := mv) (due := k + (mv + 63) / 64)
    (v := v) (r := r) (by rw [hset.2]; exact nth_setNth_self hlen) hd
  rw [hset.2] at hfin
  simp only [finishMoves, hs, hm, hw, ha, hdev.2, setHead_of_cons hu, if_true, List.isEmpty_nil]
  refine hfin.trans ?_
  rw [hset.setQuad_eq hz]
  simp only [z, setNth_eq_set, List.set_set]
  rfl

end

section

variable {s : State} {q : QuadAt} {c : Instr} {cmd : UnitCmd} {r : List UnitCmd} {m : Bytes → Bool} {recs : List (Option Nat × Nat)}

theorem UnitEnds.mono {u moved due : Nat} {status : Byte} {P Q : Quad → Prop} (h : UnitEnds c s q u cmd r status moved due P) (k : ∀ y, P y → Q y) :
    UnitEnds c s q u cmd r status moved due Q := by
  obtain ⟨t, ht, hp, hf, y, z, hy, hz⟩ := h
  exact ⟨t, ht, hp, hf, y, z, k y hy, hz⟩

/-- A command of records within the quad moves them all (R105 to R107). -/
theorem mover_ends (hx : exec c s = unitStep s q 0 m moverCommand) (h : UnitAt s q 0 cmd r) (hs : cmd.started = false) (hcl : Clean s q)
    (hw : Memory.wf (coreQuad s q).mem = true) (hm : m cmd.desc = true)
    (hmv : movesOf cmd.desc (readList (s.dev.at q.e) q.quad.toNat cmd.desc).1 = some (recs.map (localMove (leAt 16 4 cmd.desc))))
    (ha : RecordsApart (leAt 16 4 cmd.desc) recs) :
    UnitEnds c s q 0 cmd r 0 (recs.length * leAt 16 4 cmd.desc) (unitCycle s q 0 + recs.length * leAt 16 4 cmd.desc / 64)
      fun y => Moved (coreQuad s q) y (leAt 16 4 cmd.desc) recs := by
  obtain ⟨k, hk⟩ : ∃ k, leAt 16 4 cmd.desc = 64 * k := Nat.dvd_of_mod_eq_zero (descOk_len (descOk_of_movesOf hmv)).2
  obtain ⟨p, tag, hrun⟩ := moverCommand_runs (d := s.dev.at q.e) (k := unitCycle s q 0) hcl hs hmv fun p v hv => by
    obtain ⟨u, -, rfl⟩ := List.mem_map.1 hv
    rfl
  rw [hk] at ha hrun ⊢
  have hstart : Moving s q { dev := s.dev.at q.e, status := stOk, moved := 0, wrote := [], awaits := [] } (coreQuad s q) 0 := ⟨onlyQuad_at, rfl, rfl, rfl, rfl⟩
  obtain ⟨y, hy, hmoving⟩ := hstart.moves (p := p) (tag := tag) recs 0 hcl h.2.1 hw ha
  rw [Nat.zero_add] at hmoving
  have hdue : (recs.length * (64 * k) + 63) / 64 = recs.length * (64 * k) / 64 := by
    rw [Nat.mul_left_comm]
    omega
  have hfin := Moving.finish (cmd := cmd) (r := r) hmoving (by rw [hy.1]; exact h.2.1) (by rw [hy.1.units]; exact h.2.2.1) h.2.2.2 (unitCycle s q 0) tag
  rw [hdue, hy.1.units] at hfin
  exact does_onUnit (hx.trans (unitStep_runs h hm)) ⟨y, movedCmd cmd tag _ _, hy, rfl, rfl, rfl, rfl, hrun.trans hfin⟩

/-- The records of a copy, gather or scatter. -/
def copyRecords (srcs dsts : List Nat) : List (Option Nat × Nat) := (srcs.zip dsts).map fun p => (some p.1, p.2)

theorem localMoves_of_map {len : Nat} {moves : List Move} {srcs dsts : List Nat} (hs : moves.map (·.src) = srcs.map fun a => some (Place.local_ a))
    (hd : moves.map (·.dst) = dsts.map Place.local_) (hl : ∀ v ∈ moves, v.len = len) :
    moves = (copyRecords srcs dsts).map (localMove len) ∧ srcs.length = moves.length ∧ dsts.length = moves.length := by
  refine ⟨?_, by simpa using (congrArg List.length hs).symm, by simpa using (congrArg List.length hd).symm⟩
  induction moves generalizing srcs dsts with
  | nil =>
    rw [List.map_eq_nil_iff.1 hs.symm]
    rfl
  | cons v moves ih =>
    obtain ⟨a, srcs', rfl, ha, hs'⟩ := List.map_eq_cons_iff.1 hs.symm
    obtain ⟨u, dsts', rfl, hu, hd'⟩ := List.map_eq_cons_iff.1 hd.symm
    have hv : v = localMove len (some a, u) := by
      rw [localMove, ← hl v List.mem_cons_self, hu]
      exact congrArg (fun w : Option Place => (⟨w, v.dst, v.len⟩ : Move)) ha.symm
    rw [hv, ih hs'.symm hd'.symm fun w hw => hl w (List.mem_cons_of_mem _ hw)]
    rfl

theorem mem_copyRecords {srcs dsts : List Nat} {u : Option Nat × Nat} (h : u ∈ copyRecords srcs dsts) : ∃ a ∈ srcs, u.1 = some a ∧ u.2 ∈ dsts := by
  obtain ⟨⟨a, t⟩, hp, rfl⟩ := List.mem_map.1 h
  obtain ⟨ha, ht⟩ := List.of_mem_zip hp
  exact ⟨a, ha, rfl, ht⟩

theorem recordsApart_copyRecords {len : Nat} {srcs dsts : List Nat} (hl : dsts.length = srcs.length) (hd : dsts.Pairwise (Apart len))
    (hs : ∀ a ∈ srcs, ∀ t ∈ dsts, Apart len a t) : RecordsApart len (copyRecords srcs dsts) := by
  constructor
  · rw [copyRecords, List.pairwise_map]
    rw [← List.map_snd_zip (l₁ := srcs) (l₂ := dsts) (Nat.le_of_eq hl), List.pairwise_map] at hd
    exact hd
  · intro u hu a ha v hv
    obtain ⟨a', ha', hu', -⟩ := mem_copyRecords hu
    obtain ⟨-, -, -, hv'⟩ := mem_copyRecords hv
    rw [ha] at hu'
    rw [Option.some.inj hu']
    exact hs a' ha' _ hv'

/-- COPY, GATHER and SCATTER of records within the quad. -/
theorem localMoves_end (hx : exec c s = unitStep s q 0 m moverCommand) (h : UnitAt s q 0 cmd r) (hs : cmd.started = false) (hcl : Clean s q)
    (hw : Memory.wf (coreQuad s q).mem = true) (hm : cmd.desc.length = 32 → m cmd.desc = true) {srcs dsts : List Nat} (hmv : LocalMoves s q cmd.desc srcs dsts)
    (hd : dsts.Pairwise (Apart (leAt 16 4 cmd.desc))) (ha : ∀ a ∈ srcs, ∀ t ∈ dsts, Apart (leAt 16 4 cmd.desc) a t) :
    UnitEnds c s q 0 cmd r 0 (srcs.length * leAt 16 4 cmd.desc) (unitCycle s q 0 + srcs.length * leAt 16 4 cmd.desc / 64) fun y =>
      MemTags (coreQuad s q) y ∧
      (∀ p ∈ srcs.zip dsts, memRead y.mem p.2 (leAt 16 4 cmd.desc) = memRead (coreQuad s q).mem p.1 (leAt 16 4 cmd.desc)) ∧
      ∀ a, (∀ t ∈ dsts, a < t ∨ t + leAt 16 4 cmd.desc ≤ a) → memByte y.mem a = memByte (coreQuad s q).mem a := by
  obtain ⟨moves, hmoves, hsrc, hdst, hlen⟩ := hmv
  obtain ⟨rfl, hsl, hdl⟩ := localMoves_of_map hsrc hdst hlen
  have hl : (copyRecords srcs dsts).length = srcs.length := by rw [hsl, List.length_map]
  have hend := mover_ends hx h hs hcl hw (hm (descOk_len (descOk_of_movesOf hmoves)).1) hmoves (recordsApart_copyRecords (hdl.trans hsl.symm) hd ha)
  rw [hl] at hend
  refine hend.mono fun y hy => ⟨hy.1, fun p hp => memRead_congr fun i hi => hy.2.1 _ (List.mem_map_of_mem hp) i hi, fun a hout => hy.2.2 a fun u hu => ?_⟩
  obtain ⟨-, -, -, hu'⟩ := mem_copyRecords hu
  exact hout _ hu'

end

end Sys2Proof.Machine

section

open Sys2Proof.Machine

/-- Settles O26: records move 64 octets at a time, and none meets a source or another destination. -/
theorem blockMoverMovesWithinAQuad : Obligations.BlockMoverMovesWithinAQuad := by
  intro s q cmd r h hs hcl hw
  dsimp only
  refine ⟨fun srcs dsts hmv hd ha _ => ⟨fun ho => ?_, fun ho => ?_, fun ho => ?_⟩, fun a ho hl hmv => ?_⟩
  · exact localMoves_end exec_copy h hs hcl hw (fun hl => by simp [isMove, hl, ho]) hmv hd ha
  · exact localMoves_end exec_gather h hs hcl hw (fun hl => by simp [isMove, hl, ho]) hmv hd ha
  · exact localMoves_end exec_scatter h hs hcl hw (fun hl => by simp [isMove, hl, ho]) hmv hd ha
  · have hlist : (readList (s.dev.at q.e) q.quad.toNat cmd.desc).1 = [] := by
      simp [readList, ho]
    have hend := mover_ends (recs := [(none, a)]) exec_zero h hs hcl hw (by simp [hl, ho]) (by rw [hlist]; exact hmv)
      ⟨List.pairwise_singleton _ _, fun u hu b hb => by simp [List.mem_singleton.1 hu] at hb⟩
    refine hend.mono fun y hy => ⟨hy.1, fun i hi hi' => ?_, fun i hout => hy.2.2 i fun u hu => ?_⟩
    · obtain ⟨j, rfl⟩ := Nat.exists_eq_add_of_le hi
      exact hy.2.1 _ List.mem_cons_self j (Nat.lt_of_add_lt_add_left hi')
    · rw [List.mem_singleton.1 hu]
      exact hout a List.mem_cons_self

end

/-! Integer lane values: exact, saturated once (04 R131). -/

namespace Sys2Proof.Machine

/-! ## Two's complement -/

section

variable {n : Nat} {i : Int}

theorem ofInt_lt (n : Nat) (i : Int) : ofInt n i < 2 ^ n := by
  have hp : (0 : Int) < (2 ^ n : Nat) := mod_cast Nat.two_pow_pos n
  have h0 := Int.emod_nonneg i (Int.ne_of_gt hp)
  have h1 := Int.emod_lt_of_pos i hp
  unfold ofInt
  omega

theorem two_pow_eq_double (hn : 0 < n) : 2 ^ n = 2 * 2 ^ (n - 1) := by
  rw [← Nat.two_pow_pred_mul_two hn, Nat.mul_comm]

/-- A number of `n` bits stands for an integer of its range. -/
theorem toInt_range (hn : 0 < n) (v : Nat) : -(2 ^ (n - 1) : Nat) ≤ toInt n v ∧ toInt n v ≤ (2 ^ (n - 1) : Nat) - 1 := by
  have h2 := two_pow_eq_double hn
  have hlt := Nat.mod_lt v (Nat.two_pow_pos n)
  unfold toInt
  generalize 2 ^ (n - 1) = p at *
  generalize v % 2 ^ n = w at *
  rw [h2] at *
  split <;> omega

/-- An integer of the range is read back. -/
theorem toInt_ofInt (hn : 0 < n) (hlo : -(2 ^ (n - 1) : Nat) ≤ i) (hhi : i ≤ (2 ^ (n - 1) : Nat) - 1) : toInt n (ofInt n i) = i := by
  have h2 := two_pow_eq_double hn
  rw [toInt, Nat.mod_eq_of_lt (ofInt_lt n i), ofInt, h2]
  generalize 2 ^ (n - 1) = p at *
  by_cases h0 : 0 ≤ i
  · rw [Int.emod_eq_of_lt h0 (by omega)]
    split <;> omega
  · rw [← Int.add_emod_right, Int.emod_eq_of_lt (by omega) (by omega)]
    split <;> omega

/-- An arithmetic shift to the right stays in the range. -/
theorem ediv_two_pow_range {p : Nat} (k : Nat) (hlo : -(p : Int) ≤ i) (hhi : i ≤ (p : Int) - 1) : -(p : Int) ≤ i / 2 ^ k ∧ i / 2 ^ k ≤ (p : Int) - 1 := by
  have hk : (1 : Int) ≤ 2 ^ k := one_le_pow₀ (by decide)
  refine ⟨Int.le_ediv_of_mul_le (by omega) (by nlinarith), Int.le_sub_one_of_lt (Int.ediv_lt_of_lt_mul (by omega) (by nlinarith))⟩

end

/-! ## Saturation -/

section

variable {t : Nat}

theorem typeBits_pos (t : Nat) : 0 < typeBits t := by
  unfold typeBits typeBytes
  split
  · decide
  · split
    · decide
    · split <;> decide

/-- What R131 says of a result: the exact integer clamped to the type's range, with SAT set exactly when it was clamped. -/
def SaturatesTo (t : Nat) (z : Int) (v : LaneRes) : Prop :=
  let lo : Int := -(2 ^ (typeBits t - 1) : Nat)
  let hi : Int := (2 ^ (typeBits t - 1) : Nat) - 1
  v.1 < 2 ^ typeBits t ∧ iVal t v.1 = max lo (min hi z) ∧ v.2 = if lo ≤ z ∧ z ≤ hi then 0 else 1

theorem satInt_saturates (t : Nat) (z : Int) : SaturatesTo t z (satInt t z) := by
  have hpos := Nat.two_pow_pos (typeBits t - 1)
  have back {i : Int} := toInt_ofInt (i := i) (typeBits_pos t)
  unfold SaturatesTo satInt iVal
  simp only [show (2 : Int) ^ (typeBits t - 1) = (2 ^ (typeBits t - 1) : Nat) by push_cast; rfl]
  generalize 2 ^ (typeBits t - 1) = p at *
  split
  · exact ⟨ofInt_lt _ _, (back (by omega) (by omega)).trans (by omega), (if_neg (by omega)).symm⟩
  · split
    · exact ⟨ofInt_lt _ _, (back (by omega) (by omega)).trans (by omega), (if_neg (by omega)).symm⟩
    · exact ⟨ofInt_lt _ _, (back (by omega) (by omega)).trans (by omega), (if_pos (by omega)).symm⟩

theorem isIntType_of_le (h : t ≤ 2) : isIntType t = true := decide_eq_true h

theorem tAdd_int (h : t ≤ 2) (a b : Nat) : tAdd t a b = satInt t (iVal t a + iVal t b) := if_pos (isIntType_of_le h)

theorem tSub_int (h : t ≤ 2) (a b : Nat) : tSub t a b = satInt t (iVal t a - iVal t b) := if_pos (isIntType_of_le h)

theorem tMul_int (h : t ≤ 2) (a b : Nat) : tMul t a b = satInt t (iVal t a * iVal t b) := if_pos (isIntType_of_le h)

theorem tMac_int (h : t ≤ 2) (c a b : Nat) : tMac t c a b = satInt t (iVal t c + iVal t a * iVal t b) := if_pos (isIntType_of_le h)

theorem tAbs_int (h : t ≤ 2) (a : Nat) : tAbs t a = satInt t |iVal t a| := by
  rw [Int.abs_eq_natAbs]
  exact if_pos (isIntType_of_le h)

theorem tNeg_int (h : t ≤ 2) (a : Nat) : tNeg t a = satInt t (-iVal t a) := if_pos (isIntType_of_le h)

/-- A lane value that is a saturated integer. -/
theorem laneValue_saturates {x : Lanes} {i : LaneIns} {l : Nat} {z : Int} {v : LaneRes} (hx : laneValue x i l = some v) (hv : v = satInt t z) :
    ∃ v, laneValue x i l = some v ∧ SaturatesTo t z v := ⟨v, hx, hv ▸ satInt_saturates t z⟩

end

end Sys2Proof.Machine

section

open Sys2Proof.Machine

/-- Settles O18: a saturated operation is one `satInt` of the exact integer, and a shift to the right stays in the range. -/
theorem laneIntegersSaturate : Obligations.LaneIntegersSaturate := by
  intro x a l ht
  have hpos := typeBits_pos a.type.toNat
  obtain ⟨hlo, hhi⟩ := toInt_range hpos (laneOp x a.type.toNat l a.va.toNat)
  obtain ⟨hlo', hhi'⟩ := ediv_two_pow_range (a.imm.toNat % 32) hlo hhi
  exact ⟨laneValue_saturates rfl (tAdd_int ht _ _), laneValue_saturates rfl (tSub_int ht _ _), laneValue_saturates rfl (tMul_int ht _ _),
    laneValue_saturates rfl (tMac_int ht _ _ _), laneValue_saturates rfl (tAbs_int ht _), laneValue_saturates rfl (tNeg_int ht _),
    laneValue_saturates rfl rfl, ⟨_, rfl, ofInt_lt _ _, toInt_ofInt hpos hlo' hhi', rfl⟩, rfl, rfl, rfl⟩

end

/-! Lane rows: an instruction in every executing lane (04 R118 to R120, R126 to R128, Table 4.4). -/

namespace Sys2Proof.Machine

/-! ## Tables written at many keys -/

section

variable {w : Nat} {key : Nat → Nat} {val : Nat → BitVec w} {t : Tab (BitVec w)} {ls : List Nat}

/-- A table with the value of each of some lanes written at the lane's key. -/
def setAll (key : Nat → Nat) (val : Nat → BitVec w) (t : Tab (BitVec w)) (ls : List Nat) : Tab (BitVec w) :=
  ls.foldl (fun t l => tabSet 0 t (key l) (val l)) t

theorem tabGet_setAll_other (h : tabWf 0 t = true) {k : Nat} (hk : ∀ l ∈ ls, key l ≠ k) : tabGet 0 (setAll key val t ls) k = tabGet 0 t k := by
  induction ls generalizing t with
  | nil => rfl
  | cons a ls ih =>
    refine (ih (tabSet_wf h) fun l hl => hk l (List.mem_cons_of_mem _ hl)).trans ?_
    exact tabGet_tabSet_other_wf h (hk a List.mem_cons_self).symm

theorem tabGet_setAll_self (h : tabWf 0 t = true) {l : Nat} (hl : l ∈ ls) (hk : ∀ a ∈ ls, key a = key l → a = l) :
    tabGet 0 (setAll key val t ls) (key l) = val l := by
  induction ls generalizing t with
  | nil => exact absurd hl List.not_mem_nil
  | cons a ls ih =>
    have hk' : ∀ b ∈ ls, key b = key l → b = l := fun b hb => hk b (List.mem_cons_of_mem _ hb)
    by_cases hm : l ∈ ls
    · exact ih (tabSet_wf h) hm hk'
    · have ha : a = l := (List.mem_cons.1 hl).resolve_right hm |>.symm
      subst ha
      refine (tabGet_setAll_other (tabSet_wf h) fun b hb e => hm (hk' b hb e ▸ hb)).trans ?_
      exact tabGet_tabSet_self_wf h

end

/-! ## Registers and flags of the executing lanes -/

section

variable {x : Lanes} {vd : Nat} {ls : List Nat} {v : Nat → LaneRes}

/-- The register file with register `vd` of some lanes written. -/
def setRegs (vd : Nat) (f : Nat → Nat) (t : Tab DWord) (ls : List Nat) : Tab DWord := setAll (16 * · + vd) (fun l => BitVec.ofNat 64 (f l)) t ls

theorem reg_setRegs {f : Nat → Nat} {l r : Nat} (h : tabWf 0 x.v = true) (hd : vd < 16) (hr : r < 16) :
    ({ x with v := setRegs vd f x.v ls } : Lanes).reg l r = if r = vd ∧ l ∈ ls then f l % 2 ^ 64 else x.reg l r := by
  unfold Lanes.reg setRegs
  split
  · next hc =>
    obtain ⟨rfl, hl⟩ := hc
    rw [tabGet_setAll_self h hl fun a _ e => by omega, BitVec.toNat_ofNat]
  · next hc =>
    rw [tabGet_setAll_other h fun a ha e => hc ?_]
    obtain rfl : r = vd := by omega
    obtain rfl : l = a := by omega
    exact ⟨rfl, ha⟩

theorem foldl_setReg (f : Nat → Nat) : ls.foldl (fun y l => y.setReg l vd (f l)) x = { x with v := setRegs vd f x.v ls } := by
  induction ls generalizing x with
  | nil => rfl
  | cons l ls ih => exact ih

/-- Flags gathered from some lanes (04 R125). -/
def gathered (v : Nat → LaneRes) (f : Word) (ls : List Nat) : Word := ls.foldl (fun f l => f ||| BitVec.ofNat 32 (v l).2) f

theorem getLsbD_gathered {f : Word} {k : Nat} (hk : k < 32) :
    (gathered v f ls).getLsbD k = true ↔ f.getLsbD k = true ∨ ∃ l ∈ ls, (v l).2.testBit k = true := by
  induction ls generalizing f with
  | nil => simp [gathered]
  | cons l ls ih =>
    refine (ih (f := f ||| BitVec.ofNat 32 (v l).2)).trans ?_
    simp only [BitVec.getLsbD_or, BitVec.getLsbD_ofNat, hk, decide_true, Bool.true_and, Bool.or_eq_true, or_assoc, List.mem_cons, exists_eq_or_imp]

theorem foldl_setReg_flag : ls.foldl (fun y l => (y.setReg l vd (v l).1).flag (v l).2) x =
    { x with v := setRegs vd (fun l => (v l).1) x.v ls, flags := gathered v x.flags ls } := by
  induction ls generalizing x with
  | nil => rfl
  | cons l ls ih => exact ih

end

/-! ## The run of one instruction -/

section

variable {s : State} {q : QuadAt} {c : Instr} {op : Nat} {a : LaneArgs} {r : LaneRun} {x z : Quad} {tag : PTag} {wrote : List (Nat × Nat)}

/-- A run that has touched its own quad alone: the quad is `z`, with the tags read and the spans written so far. -/
def LaneRunAt (s : State) (q : QuadAt) (z : Quad) (tag : PTag) (wrote : List (Nat × Nat)) (r : LaneRun) : Prop :=
  OnlyQuad s q z r.dev ∧ r.tag = tag ∧ r.wrote = wrote

/-- The run with which an instruction by itself begins. -/
def laneStart (s : State) (q : QuadAt) : LaneRun := { dev := s.dev.at q.e, tag := laneTagNow (coreQuad s q), wrote := [] }

theorem laneRunAt_start : LaneRunAt s q (coreQuad s q) (laneTagNow (coreQuad s q)) [] (laneStart s q) := ⟨onlyQuad_at, rfl, rfl⟩

theorem lanes_laneStart : (laneStart s q).lanes q.quad.toNat = laneArray s q := rfl

theorem LaneRunAt.lanes (h : LaneRunAt s q z tag wrote r) : r.lanes q.quad.toNat = z.lanes := congrArg Quad.lanes h.1.2

theorem LaneRunAt.setLanes (h : LaneRunAt s q z tag wrote r) (hl : quadLive z = true) (y : Lanes) :
    LaneRunAt s q { z with lanes := y } tag wrote (r.setLanes q.quad.toNat y) := by
  obtain ⟨hd, ht, hw⟩ := h
  refine ⟨?_, ht, hw⟩
  rw [LaneRun.setLanes, hd.2]
  exact hd.setQuad (quad_ne_of_live hl) (quad_ne_of_live hl)

/-- The quad as a lane instruction leaves it: what it wrote gains the tags read (06 Table 6.6). -/
def laneTagged (z : Quad) (tag : PTag) (wrote : List (Nat × Nat)) : Quad :=
  wrote.foldl (fun z w => tagSpan z w.1 w.2 tag) { z with laneTag := tag }

/-- The row of a lane instruction that is ready. -/
theorem does_laneRow (hx : exec c s = laneRow op q a s) (h : LaneReady s q op a)
    (hr : LaneRunAt s q z tag wrote (laneExec (laneStart s q) q.quad.toNat { op := op, a := a })) (hl : quadLive z = true) :
    Does c s fun d => d = (s.dev.at q.e).setQuad q.quad.toNat (laneTagged z tag wrote) := by
  obtain ⟨hf, hlive, hok, -⟩ := h
  obtain ⟨hd, ht, hw⟩ := hr
  have hrow : laneRow op q a s = onUnit s true (let r := laneExec (laneStart s q) q.quad.toNat { op := op, a := a }
      r.dev.setQuad q.quad.toNat (laneTagged (r.dev.quad q.quad.toNat) r.tag r.wrote)) := by
    simp only [laneRow, coreQuad_at, hf, hlive, decide_true, Bool.true_and]
    exact congrArg _ (if_pos hok)
  refine does_onUnit (hx.trans hrow) ?_
  simp only [hd.2, ht, hw]
  exact hd.setQuad_eq (quad_ne_of_live hl)

/-- An instruction that changes the lane array alone. -/
theorem laneLeaves_of (hx : exec c s = laneRow op q a s) (h : LaneReady s q op a) {y : Lanes}
    (he : laneExec (laneStart s q) q.quad.toNat { op := op, a := a } = (laneStart s q).setLanes q.quad.toNat y) : LaneLeaves c s q y := by
  have hlive := h.2.1
  exact does_laneRow (z := { coreQuad s q with lanes := y }) hx h (he ▸ laneRunAt_start.setLanes hlive y) hlive

/-- An instruction that changes nothing. -/
theorem laneLeaves_same (hx : exec c s = laneRow op q a s) (h : LaneReady s q op a)
    (he : laneExec (laneStart s q) q.quad.toNat { op := op, a := a } = laneStart s q) : LaneLeaves c s q (laneArray s q) :=
  does_laneRow (wrote := []) hx h (by rw [he]; exact laneRunAt_start) h.2.1

theorem lanesOf_laneArray : lanesOf (laneArray s q) { op := op, a := a } = laneList s q op a := rfl

theorem mem_laneList {l : Nat} : l ∈ laneList s q op a ↔ l < 64 ∧ laneRuns s q op a l = true := by
  rw [laneList, List.mem_filter, List.mem_range]

/-- An instruction that writes register vd of the executing lanes and gathers flags. -/
theorem laneWrites_of (hx : exec c s = laneRow op q a s) {v : Nat → LaneRes} {f : Word}
    (he : LaneReady s q op a → laneExec (laneStart s q) q.quad.toNat { op := op, a := a } = (laneStart s q).setLanes q.quad.toNat { laneArray s q with
      v := setRegs a.vd.toNat (fun l => (v l).1) (laneArray s q).v (laneList s q op a), flags := f })
    (hf : ∀ k, k < 32 → (f.getLsbD k = true ↔ (laneArray s q).flags.getLsbD k = true ∨ ∃ l ∈ laneList s q op a, (v l).2.testBit k = true)) :
    LaneWrites c s q op a v := by
  intro h hw
  refine ⟨_, laneLeaves_of hx h (he h), fun l r hl hr => ?_, fun k hk => ?_, rfl⟩
  · refine (reg_setRegs (x := laneArray s q) hw a.vd.isLt hr).trans ?_
    simp only [mem_laneList, hl, true_and]
  · simpa only [mem_laneList, and_assoc] using hf k hk

/-! ## Operations that give each lane a value -/

/-- The operations whose result in a lane is a function of that lane's operands. -/
abbrev laneValued (op : Nat) : Prop := 0x03 ≤ op ∧ op ≤ 0x12 ∨ op = 0x16 ∨ 0x1E ≤ op

/-- The lane array with an operation's result, if it has one, in a lane. -/
def putValue (x : Lanes) (i : LaneIns) (y : Lanes) (l : Nat) : Lanes :=
  match laneValue x i l with
  | some v => (y.setReg l i.a.vd.toNat v.1).flag v.2
  | none => y

theorem laneExec_puts {n : Nat} {i : LaneIns} (hs : (r.lanes n).stopped = false) (hop : laneValued i.op) :
    laneExec r n i = r.setLanes n ((lanesOf (r.lanes n) i).foldl (putValue (r.lanes n) i) (r.lanes n)) := by
  unfold laneValued at hop
  unfold laneExec
  dsimp only
  rw [if_neg (by simp [hs]), if_neg (by omega), if_neg (by omega), if_neg (by omega), if_neg (by omega), if_neg (by omega), if_neg (by omega), if_neg (by omega),
    if_neg (by omega), if_neg (by omega)]
  rfl

theorem laneExec_valued {n : Nat} {i : LaneIns} {v : Nat → LaneRes} (hs : (r.lanes n).stopped = false) (hop : laneValued i.op)
    (hv : ∀ l, laneValue (r.lanes n) i l = some (v l)) :
    laneExec r n i = r.setLanes n { r.lanes n with
      v := setRegs i.a.vd.toNat (fun l => (v l).1) (r.lanes n).v (lanesOf (r.lanes n) i), flags := gathered v (r.lanes n).flags (lanesOf (r.lanes n) i) } := by
  have hput : putValue (r.lanes n) i = fun y l => (y.setReg l i.a.vd.toNat (v l).1).flag (v l).2 := by
    funext y l
    rw [putValue, hv]
  rw [laneExec_puts hs hop, hput]
  exact congrArg _ foldl_setReg_flag

theorem laneWrites_valued (hx : exec c s = laneRow op q a s) (hop : laneValued op) {v : Nat → LaneRes}
    (hv : ∀ l, laneValue (laneArray s q) { op := op, a := a } l = some (v l)) : LaneWrites c s q op a v :=
  laneWrites_of hx (fun h => laneExec_valued (r := laneStart s q) h.2.2.2 hop hv) fun _ hk => getLsbD_gathered hk

end

end Sys2Proof.Machine

section

open Sys2Proof.Machine

/-- Settles O19: the value of each operation in a lane is `laneValue` at its OP. -/
theorem laneArithmetic : Obligations.LaneArithmetic := by
  intro s q a
  dsimp only
  and_intros <;> exact laneWrites_valued rfl (.inl (by decide)) fun _ => rfl

end

/-! Moves, conversions and residues of the lanes (04 R134, R136, Table 4.4). -/

namespace Sys2Proof.Machine

/-- A residue that 04 defines is the exact one (R134). -/
theorem residue_exact {m : Nat} {os : List Nat} (hm : modulusOk m = true) (ho : ∀ o ∈ os, o < m) (a b : Nat) (z : Int) : (residue m a b os z : Int) = z % m := by
  have hpos : 2 ^ 29 < m := by
    simp only [modulusOk, Bool.and_eq_true, decide_eq_true_eq, and_assoc] at hm
    exact hm.2.1
  rw [residue, if_pos (by simpa [hm] using ho), Int.toNat_of_nonneg (Int.emod_nonneg z (by omega))]

/-- The modular result of a lane, by its operands: free where 04 leaves it undefined (log 10). -/
def laneResidue (x : Lanes) (l : Nat) (z : Int) (os : List Nat) : Nat := residue (x.modulus l) (nth 0 os 0) (nth 0 os 1) os z

end Sys2Proof.Machine

section

open Sys2Proof.Machine

/-- Settles O20: the value of each operation in a lane is `laneValue` at its OP, and the modular ones are `laneResidue`. -/
theorem laneMovesAndResidues : Obligations.LaneMovesAndResidues := by
  intro s q a
  refine ⟨?_, ?_, ?_, ?_, ?_, ?_, laneResidue (laneArray s q), fun l z os hm ho => residue_exact hm ho _ _ z, ?_⟩
  case refine_7 => and_intros <;> exact laneWrites_valued rfl (.inr (.inr (by decide))) fun _ => rfl
  case refine_4 => exact laneWrites_valued rfl (.inr (.inl rfl)) fun _ => rfl
  case refine_5 => exact laneWrites_valued rfl (.inr (.inr (by decide))) fun _ => rfl
  case refine_6 => exact laneWrites_valued rfl (.inr (.inr (by decide))) fun _ => rfl
  all_goals exact laneWrites_valued rfl (.inl (by decide)) fun _ => rfl

end

/-! Compares and mask operations of the lanes (04 R128, Table 4.4). -/

namespace Sys2Proof.Machine

section

variable {p : Nat → Bool} {n l : Nat}

/-- The powers of two of some numbers together. -/
theorem foldl_two_pow_lt (p : Nat → Bool) (n : Nat) : ((List.range n).filter p).foldl (fun m l => m + 2 ^ l) 0 < 2 ^ n := by
  induction n with
  | zero => exact Nat.one_pos
  | succ n ih =>
    rw [List.range_succ, List.filter_append, List.foldl_append, Nat.pow_succ]
    cases hp : p n <;> simp [hp] <;> omega

theorem testBit_foldl_two_pow : (((List.range n).filter p).foldl (fun m l => m + 2 ^ l) 0).testBit l = (decide (l < n) && p l) := by
  induction n with
  | zero => simp
  | succ n ih =>
    have hlt := foldl_two_pow_lt p n
    rw [List.range_succ, List.filter_append, List.foldl_append]
    generalize ((List.range n).filter p).foldl (fun m l => m + 2 ^ l) 0 = m at *
    cases hp : p n with
    | false =>
      rw [List.filter_cons_of_neg (by simp [hp]), List.filter_nil, List.foldl_nil, ih]
      by_cases hl : l = n
      · simp [hl, hp]
      · simp [show l < n + 1 ↔ l < n by omega]
    | true =>
      rw [List.filter_cons_of_pos hp, List.filter_nil, List.foldl_cons, List.foldl_nil, Nat.add_comm]
      rcases Nat.lt_trichotomy l n with h | rfl | h
      · rw [Nat.testBit_two_pow_add_gt h, ih]
        simp [h, Nat.lt_succ_of_lt h]
      · rw [Nat.testBit_two_pow_add_eq, ih]
        simp [hp]
      · rw [Nat.testBit_lt_two_pow (Nat.lt_of_lt_of_le (m := 2 ^ (n + 1)) (by rw [Nat.pow_succ]; omega) (Nat.pow_le_pow_right (by decide) h))]
        simp [show ¬ l < n + 1 by omega]

/-- The mask of some lanes. -/
theorem getLsbD_maskOf (h : l < 64) : (maskOf ((List.range 64).filter p)).getLsbD l = p l := by
  rw [maskOf, BitVec.getLsbD_ofNat, testBit_foldl_two_pow]
  simp [h]

end

section

variable {s : State} {q : QuadAt} {c : Instr} {op : Nat} {a : LaneArgs} {r : LaneRun} {n : Nat} {i : LaneIns}

/-- Where no residue that 04 leaves undefined is compared, the comparison is the type's (Undefined uses). -/
theorem laneCompare_defined {x : Lanes} {l : Nat} (h : i.a.type.toNat = 8 → modulusOk (x.modulus l) = true ∧
      laneOp x i.a.type.toNat l i.a.va.toNat < x.modulus l ∧ laneOp x i.a.type.toNat l i.a.vb.toNat < x.modulus l) :
    laneCompare x i l = (let t := i.a.type.toNat; let va := laneOp x t l i.a.va.toNat; let vb := laneOp x t l i.a.vb.toNat
      if i.op = 0x13 then tEq t va vb else if i.op = 0x14 then tLt t va vb else tEq t va vb || tLt t va vb) :=
  if_neg fun hu => hu.2 (h hu.1)

theorem laneExec_compare (hs : (r.lanes n).stopped = false) (hop : 0x13 ≤ i.op ∧ i.op ≤ 0x15) :
    laneExec r n i = r.setLanes n ((r.lanes n).setMask (i.a.imm.toNat % 4) (maskOf ((lanesOf (r.lanes n) i).filter fun l => laneCompare (r.lanes n) i l))) := by
  unfold laneExec
  dsimp only
  rw [if_neg (by simp [hs]), if_neg (by omega), if_neg (by omega), if_neg (by omega), if_pos hop]

/-- A compare writes its mask register: the comparison in every lane that executes, 0 in every other (R128). -/
theorem lane_compares (hx : exec c s = laneRow op q a s) (hop : 0x13 ≤ op ∧ op ≤ 0x15) (h : LaneReady s q op a) {p : Nat → Bool}
    (hp : ∀ l, l < 64 → laneCompare (laneArray s q) { op := op, a := a } l = p l) :
    ∃ v, LaneLeaves c s q ((laneArray s q).setMask (a.imm.toNat % 4) v) ∧ ∀ l, l < 64 → v.getLsbD l = (laneRuns s q op a l && p l) := by
  refine ⟨_, laneLeaves_of hx h (laneExec_compare (r := laneStart s q) h.2.2.2 hop), fun l hl => ?_⟩
  rw [← hp l hl, Bool.and_comm]
  exact (congrArg (fun ls => (maskOf ls).getLsbD l) List.filter_filter).trans (getLsbD_maskOf hl)

/-- LANE_SETQ sets the modulus of the executing lanes. -/
theorem laneExec_setq (hs : (r.lanes n).stopped = false) (hop : i.op = 0x1D) :
    laneExec r n i = r.setLanes n { r.lanes n with q := setAll id (fun l => BitVec.ofNat 36 ((r.lanes n).reg l i.a.va.toNat)) (r.lanes n).q (lanesOf (r.lanes n) i) } := by
  unfold laneExec
  dsimp only
  rw [if_neg (by simp [hs]), if_neg (by omega), if_neg (by omega), if_neg (by omega), if_neg (by omega), if_neg (by omega), if_neg (by omega), if_neg (by omega),
    if_neg (by omega), if_pos hop]
  rfl

theorem modulus_setAll {x : Lanes} {f : Nat → BitVec 36} {ls : List Nat} (h : tabWf 0 x.q = true) (l : Nat) :
    ({ x with q := setAll id f x.q ls } : Lanes).modulus l = if l ∈ ls then (f l).toNat else x.modulus l := by
  unfold Lanes.modulus
  split
  · next hl => exact congrArg _ (tabGet_setAll_self h hl fun _ _ e => e)
  · next hl => exact congrArg _ (tabGet_setAll_other h fun b hb e => hl (e ▸ hb))

theorem laneExec_nop (hs : (r.lanes n).stopped = false) (hop : i.op = 0x00) : laneExec r n i = r := by simp [laneExec, hs, hop]

theorem laneExec_mand (hs : (r.lanes n).stopped = false) (hop : i.op = 0x17) : laneExec r n i = r.setLanes n
    ((r.lanes n).setMask (i.a.imm.toNat % 4) ((r.lanes n).mask (i.a.va.toNat % 4) &&& (r.lanes n).mask (i.a.vb.toNat % 4))) := by simp [laneExec, hs, hop]

theorem laneExec_mor (hs : (r.lanes n).stopped = false) (hop : i.op = 0x18) : laneExec r n i = r.setLanes n
    ((r.lanes n).setMask (i.a.imm.toNat % 4) ((r.lanes n).mask (i.a.va.toNat % 4) ||| (r.lanes n).mask (i.a.vb.toNat % 4))) := by simp [laneExec, hs, hop]

theorem laneExec_mnot (hs : (r.lanes n).stopped = false) (hop : i.op = 0x19) : laneExec r n i = r.setLanes n
    ((r.lanes n).setMask (i.a.imm.toNat % 4) (~~~ (r.lanes n).mask (i.a.va.toNat % 4))) := by simp [laneExec, hs, hop]

end

end Sys2Proof.Machine

section

open Sys2Proof.Machine

/-- Settles O21: the mask of the executing lanes in which the comparison holds; each other instruction by its OP. -/
theorem laneComparesAndMasks : Obligations.LaneComparesAndMasks := by
  intro s q a
  dsimp only
  have hstop {op : Nat} (h : LaneReady s q op a) : ((laneStart s q).lanes q.quad.toNat).stopped = false := h.2.2.2
  refine ⟨fun h hd => ?ceq, fun h hd => ?clt, fun h hd => ?cle, fun h => laneLeaves_of rfl h (laneExec_mand (hstop h) rfl),
    fun h => laneLeaves_of rfl h (laneExec_mor (hstop h) rfl), fun h => laneLeaves_of rfl h (laneExec_mnot (hstop h) rfl),
    fun h => laneLeaves_same rfl h (laneExec_nop (hstop h) rfl), fun h hw => ⟨_, laneLeaves_of rfl h (laneExec_setq (hstop h) rfl), rfl, fun l hl => ?setq⟩⟩
  case setq =>
    refine (modulus_setAll (x := laneArray s q) hw l).trans ?_
    simp only [lanes_laneStart, lanesOf_laneArray, mem_laneList, hl, true_and, BitVec.toNat_ofNat]
  all_goals exact lane_compares rfl (by decide) h fun l hl => laneCompare_defined fun ht => hd ht l hl

end

/-! Reductions over the executing lanes (04 R134, R135, Table 4.4). -/

namespace Sys2Proof.Machine

section

variable {s : State} {q : QuadAt} {c : Instr} {op : Nat} {a : LaneArgs} {r : LaneRun} {n : Nat} {i : LaneIns} {x : Lanes} {ls : List Nat}

/-- The one value of a reduction over some lanes. -/
def laneReduced (x : Lanes) (i : LaneIns) (ls : List Nat) : LaneRes :=
  if i.op = 0x1A then laneXsum x i ls else if i.op = 0x1B then laneExtreme tMax x i ls else laneExtreme tMin x i ls

abbrev laneReduces (op : Nat) : Prop := op = 0x1A ∨ op = 0x1B ∨ op = 0x1C

theorem laneExec_reduce (hs : (r.lanes n).stopped = false) (hop : laneReduces i.op) :
    laneExec r n i = if (lanesOf (r.lanes n) i).isEmpty then r else
      let v := laneReduced (r.lanes n) i (lanesOf (r.lanes n) i)
      r.setLanes n { r.lanes n with
        v := setRegs i.a.vd.toNat (fun _ => v.1) (r.lanes n).v (lanesOf (r.lanes n) i), flags := (r.lanes n).flags ||| BitVec.ofNat 32 v.2 } := by
  have h := hop
  unfold laneReduces at h
  unfold laneExec
  dsimp only
  rw [if_neg (by simp [hs]), if_neg (by omega), if_neg (by omega), if_neg (by omega), if_neg (by omega), if_neg (by omega), if_neg (by omega), if_neg (by omega),
    if_pos hop, foldl_setReg]
  rfl

/-- A reduction with a lane executing writes its value in every executing lane. -/
theorem laneWrites_reduced (hx : exec c s = laneRow op q a s) (hop : laneReduces op) (hne : laneList s q op a ≠ []) {v : LaneRes}
    (hv : laneReduced (laneArray s q) { op := op, a := a } (laneList s q op a) = v) : LaneWrites c s q op a fun _ => v := by
  subst hv
  refine laneWrites_of hx (fun h => (laneExec_reduce (r := laneStart s q) h.2.2.2 hop).trans (if_neg ?_)) fun k hk => ?_
  · exact fun h => hne (List.isEmpty_iff.1 h)
  · obtain ⟨l, hl⟩ := List.exists_mem_of_ne_nil _ hne
    simp only [BitVec.getLsbD_or, BitVec.getLsbD_ofNat, hk, decide_true, Bool.true_and, Bool.or_eq_true]
    exact or_congr_right ⟨fun h => ⟨l, hl, h⟩, fun ⟨_, _, h⟩ => h⟩

theorem laneLeaves_reduced_nil (hx : exec c s = laneRow op q a s) (hop : laneReduces op) (h : LaneReady s q op a) (hnil : laneList s q op a = []) :
    LaneLeaves c s q (laneArray s q) :=
  laneLeaves_same hx h ((laneExec_reduce (r := laneStart s q) h.2.2.2 hop).trans (if_pos (List.isEmpty_iff.2 hnil)))

/-! ## The value -/

theorem foldl_add_eq_sum {α : Type} [AddMonoid α] (f : Nat → α) (ls : List Nat) : ls.foldl (fun a l => a + f l) 0 = (ls.map f).sum := by
  rw [List.sum_eq_foldl, List.foldl_map]

theorem laneXsum_int (h : i.a.type.toNat ≤ 2) :
    laneXsum x i ls = satInt i.a.type.toNat (ls.map fun l => iVal i.a.type.toNat (laneOp x i.a.type.toNat l i.a.va.toNat)).sum := by
  unfold laneXsum
  dsimp only
  rw [if_neg (by omega), if_pos (isIntType_of_le h), foldl_add_eq_sum]

theorem laneXsum_float (h : 3 ≤ i.a.type.toNat ∧ i.a.type.toNat ≤ 7) :
    laneXsum x i ls = treeSum i.a.type.toNat 6 ((List.range 64).map fun l => (if l ∈ ls then laneOp x i.a.type.toNat l i.a.va.toNat else 0, 0)) := by
  unfold laneXsum
  dsimp only
  rw [if_neg (by omega), if_neg]
  simp only [isIntType, decide_eq_true_eq]
  omega

theorem laneXsum_residue (h : i.a.type.toNat = 8) (hm : modulusOk (x.modulus (nth 0 ls 0)) = true) (ho : ∀ l ∈ ls, laneOp x i.a.type.toNat l i.a.va.toNat < x.modulus (nth 0 ls 0)) :
    laneXsum x i ls = ((ls.map fun l => laneOp x i.a.type.toNat l i.a.va.toNat).sum % x.modulus (nth 0 ls 0), 0) := by
  unfold laneXsum
  dsimp only
  rw [if_pos h]
  congr 1
  refine Int.ofNat_inj.1 ((residue_exact hm (fun o hmem => ?_) _ _ _).trans ?_)
  · obtain ⟨l, hl, rfl⟩ := List.mem_map.1 hmem
    exact ho l hl
  · rw [foldl_add_eq_sum, Int.natCast_emod, Nat.cast_list_sum, List.map_map]
    rfl

/-- The maximum or minimum is taken lane by lane in rising order. -/
theorem laneExtreme_of_ne_nil (f : Nat → Nat → Nat → LaneRes) (h : ls ≠ []) :
    laneExtreme f x i ls = (ls.drop 1).foldl (fun acc l => ((f i.a.type.toNat acc.1 (laneOp x i.a.type.toNat l i.a.va.toNat)).1,
      acc.2 ||| (f i.a.type.toNat acc.1 (laneOp x i.a.type.toNat l i.a.va.toNat)).2)) (laneOp x i.a.type.toNat (nth 0 ls 0) i.a.va.toNat, 0) := by
  cases ls with
  | nil => exact absurd rfl h
  | cons l ls => exact List.foldl_map

end

end Sys2Proof.Machine

section

open Sys2Proof.Machine

/-- Settles O22: by the value of each reduction over the lanes that execute. -/
theorem laneReductions : Obligations.LaneReductions := by
  intro s q a
  dsimp only
  have hsum : laneReduces 0x1A := .inl rfl
  have hmax : laneReduces 0x1B := .inr (.inl rfl)
  have hmin : laneReduces 0x1C := .inr (.inr rfl)
  refine ⟨fun ht hne => ?int, fun h3 h7 hne => ?float, fun ht hne hm ho => ?residue, fun hne => ?max, fun hne => ?min, fun h hn => ?_, fun h hn => ?_, fun h hn => ?_⟩
  case int => exact laneWrites_reduced rfl hsum hne (laneXsum_int ht)
  case float =>
    refine laneWrites_reduced rfl hsum hne ((laneXsum_float ⟨h3, h7⟩).trans (congrArg (treeSum _ 6) (List.map_congr_left fun l hl => ?_)))
    simp only [mem_laneList, List.mem_range.1 hl, true_and]
    rfl
  case residue => exact laneWrites_reduced rfl hsum hne (laneXsum_residue ht hm ho)
  case max => exact laneWrites_reduced rfl hmax hne (laneExtreme_of_ne_nil tMax hne)
  case min => exact laneWrites_reduced rfl hmin hne (laneExtreme_of_ne_nil tMin hne)
  · exact laneLeaves_reduced_nil rfl hsum h hn
  · exact laneLeaves_reduced_nil rfl hmax h hn
  · exact laneLeaves_reduced_nil rfl hmin h hn

end

/-! Lane loads and stores through a stream (04 R122, R129, R138). -/

namespace Sys2Proof.Machine

/-! ## Spans written in order -/

section

variable {addr : Nat → Nat} {bytes : Nat → Bytes} {m : Mem} {ls : List Nat} {n : Nat}

/-- A memory with the octets of each of some lanes written at the lane's address. -/
def writeAll (addr : Nat → Nat) (bytes : Nat → Bytes) (m : Mem) (ls : List Nat) : Mem := ls.foldl (fun m l => memWrite m (addr l) (bytes l)) m

theorem memByte_writeAll_outside (w : Memory.wf m) (hn : ∀ l, (bytes l).length = n) {b : Nat} (hb : ∀ l ∈ ls, b < addr l ∨ addr l + n ≤ b) :
    memByte (writeAll addr bytes m ls) b = memByte m b := by
  induction ls generalizing m with
  | nil => rfl
  | cons a ls ih =>
    refine (ih (memWrite_wf w) fun l hl => hb l (List.mem_cons_of_mem _ hl)).trans (memByte_memWrite_outside w ?_)
    rw [hn]
    exact hb a List.mem_cons_self

/-- The octets of a lane stay when no later lane's meet them. -/
theorem memRead_writeAll (w : Memory.wf m) (hn : ∀ l, (bytes l).length = n) (hs : ls.Pairwise (· < ·)) {l : Nat} (hl : l ∈ ls)
    (ha : ∀ k ∈ ls, l < k → addr k + n ≤ addr l ∨ addr l + n ≤ addr k) : memRead (writeAll addr bytes m ls) (addr l) n = bytes l := by
  induction ls generalizing m with
  | nil => exact absurd hl List.not_mem_nil
  | cons b ls ih =>
    obtain ⟨hb, hs'⟩ := List.pairwise_cons.1 hs
    rcases List.mem_cons.1 hl with rfl | hl
    · rw [← hn l]
      refine (memRead_congr fun i hi => ?_).trans (memRead_memWrite (a := addr l) w)
      exact memByte_writeAll_outside (memWrite_wf w) hn fun k hk => by
        have := ha k (List.mem_cons_of_mem _ hk) (hb k hk)
        rw [hn] at hi
        omega
    · exact ih (memWrite_wf w) hs' hl fun k hk => ha k (List.mem_cons_of_mem _ hk)

end

/-! ## One lane of a quad without injected errors -/

section

variable {r : LaneRun} {n : Nat} {i : LaneIns} {l : Nat}

/-- The stream of a load or store. -/
def LaneIns.stream (i : LaneIns) (x : Lanes) : Stream := nth ⟨0, 0, 0, 0⟩ x.streams (i.a.imm.toNat % 8)

/-- The address of a lane's element (R122). -/
def LaneIns.elem (i : LaneIns) (x : Lanes) (l : Nat) : Nat := (elemAddr (i.stream x) l x.iter).toNat

theorem laneLoad_clean (hi : (r.dev.quad n).inj = []) (hs : (r.lanes n).stopped = false) :
    ∃ g, laneLoad r n i l = LaneRun.setLanes { r with tag := r.tag ||| g } n ((r.lanes n).setReg l i.a.vd.toNat
      (leVal (memRead (r.dev.quad n).mem (i.elem (r.lanes n) l) (typeBytes (i.stream (r.lanes n)).type)))) := by
  unfold laneLoad
  dsimp only
  rw [if_neg (by simp [hs]), readQuad_clean hi]
  exact ⟨_, rfl⟩

theorem laneStore_clean (hi : (r.dev.quad n).inj = []) (hs : (r.lanes n).stopped = false) :
    let bs := le (typeBytes (i.stream (r.lanes n)).type) (laneOp (r.lanes n) (i.stream (r.lanes n)).type l i.a.va.toNat)
    let m := memWrite (r.dev.quad n).mem (i.elem (r.lanes n) l) bs
    ∃ wrote, laneStore r n i l = { r with dev := r.dev.setQuad n { r.dev.quad n with mem := m }, wrote := wrote } := by
  unfold laneStore
  dsimp only
  rw [if_neg (by simp [hs]), storeQuad_clean hi]
  exact ⟨_, rfl⟩

end

section

variable {s : State} {q : QuadAt} {c : Instr} {op l : Nat} {a : LaneArgs} {r : LaneRun} {tag : PTag} {wrote : List (Nat × Nat)}

/-- The stream of a lane load or store. -/
def laneStream (s : State) (q : QuadAt) (a : LaneArgs) : Stream := nth ⟨0, 0, 0, 0⟩ (laneArray s q).streams (a.imm.toNat % 8)

/-! ## Loads -/

/-- The element that a load gives a lane. -/
def laneLoaded (s : State) (q : QuadAt) (a : LaneArgs) (l : Nat) : Nat :=
  leVal (memRead (coreQuad s q).mem (laneElem s q a l) (typeBytes (laneStream s q a).type))

/-- The quad with the lane array's registers replaced. -/
def withRegs (s : State) (q : QuadAt) (v : Tab DWord) : Quad := { coreQuad s q with lanes := { laneArray s q with v := v } }

theorem laneLoad_runs (hcl : Clean s q) (h : LaneReady s q op a) {v : Tab DWord} (hr : LaneRunAt s q (withRegs s q v) tag [] r) :
    ∃ g, LaneRunAt s q (withRegs s q (tabSet 0 v (16 * l + a.vd.toNat) (BitVec.ofNat 64 (laneLoaded s q a l)))) (tag ||| g) []
      (laneLoad r q.quad.toNat { op := op, a := a } l) := by
  obtain ⟨-, hlive, -, hstop⟩ := h
  have hlanes : r.lanes q.quad.toNat = { laneArray s q with v := v } := hr.lanes
  obtain ⟨hd, ht, hw⟩ := hr
  obtain ⟨g, hg⟩ := laneLoad_clean (i := { op := op, a := a }) (l := l) (by rw [hd.2]; exact hcl) (by rw [hlanes]; exact hstop)
  rw [hlanes, hd.2] at hg
  have hr' : LaneRunAt s q (withRegs s q v) (tag ||| g) [] { r with tag := r.tag ||| g } := ⟨hd, congrArg (· ||| g) ht, hw⟩
  exact ⟨g, hg ▸ hr'.setLanes hlive _⟩

theorem laneLoads_run (hcl : Clean s q) (h : LaneReady s q op a) (ls : List Nat) {v : Tab DWord} (hr : LaneRunAt s q (withRegs s q v) tag [] r) :
    ∃ g, LaneRunAt s q (withRegs s q (setRegs a.vd.toNat (laneLoaded s q a) v ls)) (tag ||| g) []
      (ls.foldl (fun r l => laneLoad r q.quad.toNat { op := op, a := a } l) r) := by
  induction ls generalizing r v tag with
  | nil => exact ⟨0, by rwa [show tag ||| 0 = tag from BitVec.or_zero]⟩
  | cons l ls ih =>
    obtain ⟨g, hg⟩ := laneLoad_runs (l := l) hcl h hr
    obtain ⟨g', hg'⟩ := ih hg
    exact ⟨g ||| g', by rwa [BitVec.or_assoc] at hg'⟩

theorem laneExec_ld {n : Nat} {i : LaneIns} (hs : (r.lanes n).stopped = false) (hop : i.op = 0x01) :
    laneExec r n i = (lanesOf (r.lanes n) i).foldl (fun r l => laneLoad r n i l) r := by simp [laneExec, hs, hop]

/-! ## Stores -/

/-- The octets that a store writes for a lane. -/
def laneStored (s : State) (q : QuadAt) (a : LaneArgs) (l : Nat) : Bytes :=
  le (typeBytes (laneStream s q a).type) (laneOp (laneArray s q) (laneStream s q a).type l a.va.toNat)

/-- The quad with its memory replaced. -/
def withMem (s : State) (q : QuadAt) (m : Mem) : Quad := { coreQuad s q with mem := m }

theorem laneStore_runs (hcl : Clean s q) (h : LaneReady s q op a) {m : Mem} (hr : LaneRunAt s q (withMem s q m) tag wrote r) :
    ∃ wrote', LaneRunAt s q (withMem s q (memWrite m (laneElem s q a l) (laneStored s q a l))) tag wrote' (laneStore r q.quad.toNat { op := op, a := a } l) := by
  obtain ⟨-, hlive, -, hstop⟩ := h
  have hlanes : r.lanes q.quad.toNat = laneArray s q := hr.lanes
  obtain ⟨hd, ht, -⟩ := hr
  obtain ⟨wrote', hw⟩ := laneStore_clean (i := { op := op, a := a }) (l := l) (by rw [hd.2]; exact hcl) (by rw [hlanes]; exact hstop)
  rw [hlanes, hd.2] at hw
  rw [hw]
  exact ⟨wrote', hd.setQuad (quad_ne_of_live hlive) (quad_ne_of_live hlive), ht, rfl⟩

theorem laneStores_run (hcl : Clean s q) (h : LaneReady s q op a) (ls : List Nat) {m : Mem} (hr : LaneRunAt s q (withMem s q m) tag wrote r) :
    ∃ wrote', LaneRunAt s q (withMem s q (writeAll (laneElem s q a) (laneStored s q a) m ls)) tag wrote'
      (ls.foldl (fun r l => laneStore r q.quad.toNat { op := op, a := a } l) r) := by
  induction ls generalizing r m wrote with
  | nil => exact ⟨wrote, hr⟩
  | cons l ls ih =>
    obtain ⟨w, hw⟩ := laneStore_runs (l := l) hcl h hr
    exact ih hw

theorem laneExec_st {n : Nat} {i : LaneIns} (hs : (r.lanes n).stopped = false) (hop : i.op = 0x02) :
    laneExec r n i = (lanesOf (r.lanes n) i).foldl (fun r l => laneStore r n i l) r := by simp [laneExec, hs, hop]

/-- Spans that gain a tag change the tags of blocks alone. -/
theorem foldl_tagSpan (z : Quad) (tag : PTag) (wrote : List (Nat × Nat)) : ∃ tg, wrote.foldl (fun z w => tagSpan z w.1 w.2 tag) z = { z with tags := tg } :=
  List.foldlRecOn (motive := fun y : Quad => ∃ tg, y = { z with tags := tg }) wrote _ ⟨z.tags, rfl⟩ fun y ⟨tg, h⟩ w _ => by
    rw [tagSpan_eq, h]
    exact ⟨_, rfl⟩

theorem laneTagged_eq (z : Quad) (tag : PTag) (wrote : List (Nat × Nat)) : ∃ tg, laneTagged z tag wrote = { z with tags := tg, laneTag := tag } :=
  foldl_tagSpan { z with laneTag := tag } tag wrote

theorem laneList_pairwise : (laneList s q op a).Pairwise (· < ·) := List.pairwise_lt_range.filter _

end

end Sys2Proof.Machine

section

open Sys2Proof.Machine

/-- Settles O23: the lanes are gone through in rising order, each with one read or one write of the quad's memory. -/
theorem laneLoadsAndStores : Obligations.LaneLoadsAndStores := by
  intro s q a
  dsimp only
  refine ⟨fun hcl h hw => ?ld, fun hcl h hw => ?st⟩
  case ld =>
    obtain ⟨g, hg⟩ := laneLoads_run (v := (laneArray s q).v) hcl h (laneList s q 0x01 a) laneRunAt_start
    have he := laneExec_ld (r := laneStart s q) (n := q.quad.toNat) (i := { op := 0x01, a := a }) h.2.2.2 rfl
    rw [lanes_laneStart, lanesOf_laneArray] at he
    rw [← he] at hg
    refine ⟨_, g, does_laneRow rfl h hg h.2.1, fun l r hl hr => ?_, rfl⟩
    refine (reg_setRegs (x := laneArray s q) hw a.vd.isLt hr).trans ?_
    simp only [mem_laneList, hl, true_and]
    rfl
  case st =>
    obtain ⟨wrote, hr⟩ := laneStores_run (m := (coreQuad s q).mem) hcl h (laneList s q 0x02 a) laneRunAt_start
    have he := laneExec_st (r := laneStart s q) (n := q.quad.toNat) (i := { op := 0x02, a := a }) h.2.2.2 rfl
    rw [lanes_laneStart, lanesOf_laneArray] at he
    rw [← he] at hr
    obtain ⟨t, ht, hp, hf, hd⟩ := does_laneRow (c := .laneSt q a) rfl h hr h.2.1
    obtain ⟨tg, htg⟩ := laneTagged_eq (withMem s q (writeAll (laneElem s q a) (laneStored s q a) (coreQuad s q).mem (laneList s q 0x02 a))) (laneTagNow (coreQuad s q)) wrote
    have hn (l : Nat) : (laneStored s q a l).length = typeBytes (laneStream s q a).type := le_length _ _
    refine ⟨t, ht, hp, hf, _, tg, hd.trans (congrArg _ htg), fun b hb => ?_, fun l hl hrun hap => ?_⟩
    · exact memByte_writeAll_outside hw hn fun l hl => hb l (mem_laneList.1 hl).1 (mem_laneList.1 hl).2
    · have hread := memRead_writeAll hw hn laneList_pairwise (mem_laneList.2 ⟨hl, hrun⟩) fun k hk hlk => hap k hlk (mem_laneList.1 hk).1 (mem_laneList.1 hk).2
      refine (congrArg leVal hread).trans ((leVal_le _ _).trans ?_)
      rw [Nat.pow_mul]
      rfl

end

/-! A whole lane command (04 R121, R123 to R125, R130, R137, R138). -/

namespace Sys2Proof.Machine

/-! ## A run in a quad without injected errors -/

section

variable {x z : Quad} {r : LaneRun} {n : Nat}

/-- A quad in which a lane command that began in `x` has met no uncorrectable word: its units and its state are those of `x`. -/
def LaneSound (x z : Quad) : Prop := z.units = x.units ∧ z.st = x.st ∧ z.inj = [] ∧ z.lanes.stopped = false

theorem LaneSound.live (h : LaneSound x z) (hl : quadLive x = true) : quadLive z = true := by
  rw [quadLive, h.2.1]
  exact hl

theorem LaneSound.ne (h : LaneSound x z) (hl : quadLive x = true) : z ≠ {} := quad_ne_of_live (h.live hl)

theorem LaneSound.setQuad {d : Dev} (h : LaneSound x z) (hl : quadLive x = true) : LaneSound x ((d.setQuad n z).quad n) := by
  rw [Dev.quad_setQuad_self (h.ne hl)]
  exact h

theorem LaneSound.withLanes (h : LaneSound x z) {y : Lanes} (hy : y.stopped = false) : LaneSound x { z with lanes := y } := ⟨h.1, h.2.1, h.2.2.1, hy⟩

theorem LaneSound.setLanes (h : LaneSound x (r.dev.quad n)) (hl : quadLive x = true) {y : Lanes} (hy : y.stopped = false) :
    LaneSound x ((r.setLanes n y).dev.quad n) := (h.withLanes hy).setQuad hl

theorem LaneSound.load (h : LaneSound x (r.dev.quad n)) (hl : quadLive x = true) (i : LaneIns) (l : Nat) : LaneSound x ((laneLoad r n i l).dev.quad n) := by
  obtain ⟨g, hg⟩ := laneLoad_clean (i := i) (l := l) h.2.2.1 h.2.2.2
  rw [hg]
  exact LaneSound.setLanes (r := { r with tag := r.tag ||| g }) h hl h.2.2.2

/-- A store in a quad without injected errors stops nothing. -/
theorem LaneSound.storeQuad {d : Dev} (h : LaneSound x (d.quad n)) (hl : quadLive x = true) (a : Nat) (bs : Bytes) :
    (storeQuad d n a bs).1 = false ∧ LaneSound x ((storeQuad d n a bs).2.quad n) := by
  rw [storeQuad_clean h.2.2.1]
  exact ⟨rfl, LaneSound.setQuad h hl⟩

theorem LaneSound.store (h : LaneSound x (r.dev.quad n)) (hl : quadLive x = true) (i : LaneIns) (l : Nat) : LaneSound x ((laneStore r n i l).dev.quad n) := by
  obtain ⟨wrote, hw⟩ := laneStore_clean (i := i) (l := l) h.2.2.1 h.2.2.2
  rw [hw]
  exact LaneSound.setQuad (z := { r.dev.quad n with mem := _ }) h hl

theorem stopped_foldl {f : Lanes → Nat → Lanes} (hf : ∀ y l, (f y l).stopped = y.stopped) (y : Lanes) (ls : List Nat) : (ls.foldl f y).stopped = y.stopped :=
  List.foldlRecOn (motive := fun z : Lanes => z.stopped = y.stopped) ls _ rfl fun z h l _ => (hf z l).trans h

theorem stopped_setMask (y : Lanes) (k : Nat) (v : DWord) : (y.setMask k v).stopped = y.stopped := by
  unfold Lanes.setMask
  split
  · rfl
  · split
    · rfl
    · split <;> rfl

/-- What an instruction can do: nothing, a load or a store in each executing lane, or a change of the lane array that does not stop it. -/
theorem laneExec_cases {i : LaneIns} (hs : (r.lanes n).stopped = false) : laneExec r n i = r ∨
    laneExec r n i = (lanesOf (r.lanes n) i).foldl (fun r l => laneLoad r n i l) r ∨
    laneExec r n i = (lanesOf (r.lanes n) i).foldl (fun r l => laneStore r n i l) r ∨
    ∃ y, y.stopped = false ∧ laneExec r n i = r.setLanes n y := by
  have mask (v : DWord) : ((r.lanes n).setMask (i.a.imm.toNat % 4) v).stopped = false := (stopped_setMask _ _ v).trans hs
  rcases (by unfold laneReduces laneValued; omega : i.op = 0x00 ∨ i.op = 0x01 ∨ i.op = 0x02 ∨ (0x13 ≤ i.op ∧ i.op ≤ 0x15) ∨ i.op = 0x17 ∨ i.op = 0x18 ∨ i.op = 0x19 ∨
    laneReduces i.op ∨ i.op = 0x1D ∨ laneValued i.op) with h | h | h | h | h | h | h | h | h | h
  · exact .inl (laneExec_nop hs h)
  · exact .inr (.inl (laneExec_ld hs h))
  · exact .inr (.inr (.inl (laneExec_st hs h)))
  · exact .inr (.inr (.inr ⟨_, mask _, laneExec_compare hs h⟩))
  · exact .inr (.inr (.inr ⟨_, mask _, laneExec_mand hs h⟩))
  · exact .inr (.inr (.inr ⟨_, mask _, laneExec_mor hs h⟩))
  · exact .inr (.inr (.inr ⟨_, mask _, laneExec_mnot hs h⟩))
  · rw [laneExec_reduce hs h]
    split
    · exact .inl rfl
    · refine .inr (.inr (.inr ⟨_, ?_, rfl⟩))
      exact hs
  · refine .inr (.inr (.inr ⟨_, ?_, laneExec_setq hs h⟩))
    exact hs
  · refine .inr (.inr (.inr ⟨_, (stopped_foldl (fun y l => ?_) _ _).trans hs, laneExec_puts hs h⟩))
    unfold putValue
    split <;> rfl

theorem LaneSound.exec (h : LaneSound x (r.dev.quad n)) (hl : quadLive x = true) (i : LaneIns) : LaneSound x ((laneExec r n i).dev.quad n) := by
  rcases laneExec_cases (i := i) h.2.2.2 with e | e | e | ⟨y, hy, e⟩
  · rwa [e]
  · rw [e]
    exact List.foldlRecOn (motive := fun r : LaneRun => LaneSound x (r.dev.quad n)) _ _ h fun r hr l _ => hr.load hl i l
  · rw [e]
    exact List.foldlRecOn (motive := fun r : LaneRun => LaneSound x (r.dev.quad n)) _ _ h fun r hr l _ => hr.store hl i l
  · rw [e]
    exact h.setLanes hl hy

theorem LaneSound.iterate (hl : quadLive x = true) (kernel : List LaneIns) (k first : Nat) (h : LaneSound x (r.dev.quad n)) :
    LaneSound x ((laneIterate n kernel k first r).dev.quad n) := by
  induction k generalizing first r with
  | zero => exact h
  | succ k ih =>
    refine ih (first + 1) ?_
    exact List.foldlRecOn (motive := fun r : LaneRun => LaneSound x (r.dev.quad n)) _ _ (h.setLanes hl h.2.2.2) fun r hr i _ => hr.exec hl i

/-! ## The end of a command -/

/-- The quad with the tag of its lane command, if one is under way. -/
def tagHead (z : Quad) (tag : PTag) : Quad :=
  match headCmd z 1 with
  | some c => setHead z 1 { c with tag := tag }
  | none => z

/-- The quad with the tags of the spans that a command has written. -/
def spansTagged (z : Quad) (tag : PTag) (wrote : List (Nat × Nat)) : Quad := { wrote.foldl (fun x w => tagSpan x w.1 w.2 tag) z with laneTag := tag }

theorem LaneSound.spansTagged (h : LaneSound x z) (tag : PTag) (wrote : List (Nat × Nat)) : LaneSound x (spansTagged z tag wrote) := by
  obtain ⟨tg, htg⟩ := foldl_tagSpan z tag wrote
  rw [Machine.spansTagged, htg]
  exact h

/-- The end of a command whose flag word has been stored, if it has an address, with the answer `g`. -/
def laneEnded (r : LaneRun) (n due : Nat) (wrote : List (Nat × Nat)) (g : Bool × Dev) : Dev :=
  finishHead (g.2.setQuad n (tagHead (spansTagged (g.2.quad n) r.tag wrote) r.tag)) n 1
    (if (r.lanes n).stopped || g.1 then stUncorrectable else stOk) 0 due

theorem laneFinish_eq (r : LaneRun) (n faddr due : Nat) : laneFinish r n faddr due =
    laneEnded r n due (if faddr = 0 then r.wrote else r.wrote ++ [(faddr, 4)])
      (if faddr = 0 then (false, r.dev) else storeQuad r.dev n faddr (le 4 (r.lanes n).flags.toNat)) := rfl

theorem tagHead_of_cons {cmd : UnitCmd} {cs : List UnitCmd} (hu : nth [] z.units 1 = cmd :: cs) (hd : cmd.done = none) (tag : PTag) :
    tagHead z tag = { z with units := setNth z.units 1 ({ cmd with tag := tag } :: cs) } := by
  have hhead : headCmd z 1 = some cmd := by
    simp only [headCmd, unitQueue, hu, hd, Option.isNone_none, if_true]
  rw [tagHead, hhead]
  exact setHead_of_cons hu

theorem withUnits_ne (hl : quadLive z = true) (l : List (List UnitCmd)) : ({ z with units := l } : Quad) ≠ {} := quad_ne_of_live (x := { z with units := l }) hl

/-- A live quad's unit finishes the command that has been put at its head. -/
theorem finishHead_setQuad {d : Dev} {u st mv due : Nat} {v : UnitCmd} {cs : List UnitCmd} (hl : quadLive z = true) (hu : u < z.units.length) (hd : v.done = none) :
    finishHead (d.setQuad n { z with units := setNth z.units u (v :: cs) }) n u st mv due =
      d.setQuad n { z with units := setNth z.units u ({ v with done := some (BitVec.ofNat 8 st, mv), due := due } :: cs) } := by
  rw [finishHead_of_cons (v := v) (r := cs) (by rw [Dev.quad_setQuad_self (withUnits_ne hl _)]; exact nth_setNth_self hu) hd, Dev.quad_setQuad_self (withUnits_ne hl _),
    Dev.setQuad_setQuad (withUnits_ne hl _)]
  simp only [setNth_eq_set, List.set_set]

/-- The head command of a lane unit ends with status OK. -/
def LaneEnds (z : Quad) (cmd : UnitCmd) (cs : List UnitCmd) (due : Nat) : Prop :=
  ∃ y, nth [] z.units 1 = y :: cs ∧ y.desc = cmd.desc ∧ y.spec = cmd.spec ∧ y.done = some (0, 0) ∧ y.due = due

theorem laneEnded_ends {cmd : UnitCmd} {cs : List UnitCmd} {d : Dev} (hl : quadLive x = true) (hu : nth [] x.units 1 = cmd :: cs) (hd : cmd.done = none)
    (hs : (r.lanes n).stopped = false) (h : LaneSound x (d.quad n)) (due : Nat) (wrote : List (Nat × Nat)) :
    LaneEnds ((laneEnded r n due wrote (false, d)).quad n) cmd cs due := by
  have hz := h.spansTagged r.tag wrote
  have hlive := hz.live hl
  rw [← hz.1] at hu
  unfold laneEnded
  dsimp only
  generalize spansTagged (d.quad n) r.tag wrote = z at *
  have hlen : 1 < z.units.length := lt_length_of_nth_ne (d := []) (by simp [hu])
  rw [hs, tagHead_of_cons hu hd, finishHead_setQuad (v := { cmd with tag := r.tag }) hlive hlen hd, Dev.quad_setQuad_self (withUnits_ne hlive _)]
  exact ⟨_, nth_setNth_self hlen, rfl, rfl, rfl, rfl⟩

/-- A command that met no uncorrectable word ends with status OK. -/
theorem laneFinish_ends {cmd : UnitCmd} {cs : List UnitCmd} (hl : quadLive x = true) (hu : nth [] x.units 1 = cmd :: cs) (hd : cmd.done = none)
    (h : LaneSound x (r.dev.quad n)) (faddr due : Nat) : LaneEnds ((laneFinish r n faddr due).quad n) cmd cs due := by
  rw [laneFinish_eq]
  split
  · exact laneEnded_ends hl hu hd h.2.2.2 h due _
  · obtain ⟨hf, hsound⟩ := h.storeQuad (n := n) hl faddr (le 4 (r.lanes n).flags.toNat)
    rw [show storeQuad r.dev n faddr (le 4 (r.lanes n).flags.toNat) = (false, _) from Prod.ext hf rfl]
    exact laneEnded_ends hl hu hd h.2.2.2 hsound due _

end

/-! ## LANE_COMMAND -/

section

variable {d : Dev} {n k : Nat} {cmd : UnitCmd}

/-- The kernel of a lane command, as its memory holds it (R126). -/
def laneKernel (m : Mem) (f : Bytes) : List LaneIns := (chunks 8 (leAt 4 2 f) (memRead m (leAt 0 4 f) (8 * leAt 4 2 f))).map fun b => laneDecode (leVal b)

/-- The stream table of a lane command, as its memory holds it (Table 4.3). -/
def laneTable (m : Mem) (f : Bytes) : List Bytes := chunks 16 (leAt 28 1 f) (memRead m (leAt 20 4 f) (16 * leAt 28 1 f))

/-- What the descriptor has to meet before the kernel and the stream table are read. -/
def descInside (f : Bytes) : Bool :=
  decide (f.length = 32) && decide (leAt 4 2 f ≤ 128) && decide (leAt 28 1 f ≤ 8) && decide (bankSpan (leAt 0 4 f) (8 * leAt 4 2 f) = some .act) &&
    (decide (leAt 28 1 f = 0) || decide (bankSpan (leAt 20 4 f) (16 * leAt 28 1 f) = some .act))

theorem descInside_of_laneCheck {f : Bytes} {kernel : List LaneIns} {table : List Bytes} (h : laneCheck f kernel table = true) : descInside f = true := by
  simp only [laneCheck, Bool.and_eq_true, decide_eq_true_eq, and_assoc] at h
  obtain ⟨hlen, -, -, hk, -, -, -, hn, -, hkernel, htable, -, -, -⟩ := h
  simp only [descInside, hlen, hk, hn, hkernel, decide_true, Bool.true_and, Bool.or_eq_true, decide_eq_true_eq]
  by_cases h0 : leAt 28 1 f = 0
  · exact .inl h0
  · rw [if_neg h0, Bool.and_eq_true, decide_eq_true_eq, decide_eq_true_eq] at htable
    exact .inr htable.2

theorem laneCommand_invalid (hi : (d.quad n).inj = []) (h : laneCheck cmd.desc (laneKernel (d.quad n).mem cmd.desc) (laneTable (d.quad n).mem cmd.desc) = false) :
    laneCommand d n k cmd = finishHead d n 1 stInvalid 0 (k + 8) := by
  unfold laneCommand
  dsimp only
  split
  · rfl
  · rw [readQuad_clean hi]
    dsimp only
    rw [readQuad_clean hi]
    dsimp only
    rw [if_neg (by simp)]
    exact if_pos (Bool.eq_false_iff.1 h)

/-- The device as a lane command's iterations begin (R124). -/
def laneBegun (d : Dev) (n : Nat) (f : Bytes) (streams : List Stream) : Dev :=
  d.setQuad n { d.quad n with lanes := { (d.quad n).lanes with m0 := BitVec.ofNat 64 (leAt 8 8 f), streams := streams, iter := 0, flags := 0, stopped := false } }

theorem laneCommand_checked (hi : (d.quad n).inj = []) (h : laneCheck cmd.desc (laneKernel (d.quad n).mem cmd.desc) (laneTable (d.quad n).mem cmd.desc) = true) :
    let kernel := laneKernel (d.quad n).mem cmd.desc
    let streams := (laneTable (d.quad n).mem cmd.desc).map streamOf
    ∃ tag, laneCommand d n k cmd = laneFinish (laneIterate n kernel (leAt 16 4 cmd.desc) 0 { dev := laneBegun d n cmd.desc streams, tag := tag, wrote := [] }) n
      (leAt 24 4 cmd.desc) (k + 8 + leAt 16 4 cmd.desc * (kernel.map (laneCycles streams)).sum) := by
  have hin := descInside_of_laneCheck h
  unfold descInside at hin
  unfold laneKernel laneTable at h
  unfold laneCommand
  dsimp only
  rw [if_neg (not_not.2 hin), readQuad_clean hi]
  dsimp only
  rw [readQuad_clean hi]
  dsimp only
  rw [if_neg (by simp), if_neg (not_not.2 h), List.sum_eq_foldl]
  exact ⟨_, rfl⟩

end

end Sys2Proof.Machine

section

open Sys2Proof.Machine

/-- Settles O24: a command that fails its check finishes at once; one that passes runs its iterations in a quad without injected
errors, which leave its unit's queue and stop nothing. -/
theorem laneCommandChecks : Obligations.LaneCommandChecks := by
  intro s q cmd cs hf hl hu hd hcl
  have hat : UnitAt s q 1 cmd cs := ⟨hf, hl, hu, hd⟩
  have hx : exec (.laneCommand q) s = onUnit s true (laneCommand (s.dev.at q.e) q.quad.toNat (unitCycle s q 1) cmd) :=
    unitStep_runs (m := fun _ => true) (f := laneCommand) hat rfl
  rw [show unitCycle s q 1 = max q.cyc (coreQuad s q).cyc from Nat.max_zero _] at hx
  refine ⟨fun h => does_onUnit hx ?_, fun h => does_onUnit hx ?_⟩
  · rw [laneCommand_invalid (d := s.dev.at q.e) hcl h]
    exact finishHead_of_cons (d := s.dev.at q.e) hu hd
  · obtain ⟨tag, ht⟩ := laneCommand_checked (d := s.dev.at q.e) (k := max q.cyc (coreQuad s q).cyc) hcl h
    rw [ht]
    refine laneFinish_ends hl hu hd (LaneSound.iterate hl _ _ _ ?_) _ _
    exact LaneSound.setQuad ⟨rfl, rfl, hcl, rfl⟩ hl

end

/-! Arrays loaded (04 R141 to R144, R155). -/

namespace Sys2Proof.Machine

/-! ## A unit command that has touched its quad alone -/

section

variable {s : State} {q : QuadAt} {c : Instr} {u : Nat} {cmd v : UnitCmd} {r : List UnitCmd} {m : Bytes → Bool} {f : Dev → Nat → Nat → UnitCmd → Dev} {y : Quad} {d : Dev}

theorem OnlyQuad.finish (h : OnlyQuad s q { y with units := setNth y.units u (v :: r) } d) (hl : quadLive y = true) (hu : u < y.units.length) (hd : v.done = none)
    (st mv due : Nat) : finishHead d q.quad.toNat u st mv due = (s.dev.at q.e).setQuad q.quad.toNat
      { y with units := setNth y.units u ({ v with done := some (BitVec.ofNat 8 st, mv), due := due } :: r) } := by
  rw [finishHead_of_cons (v := v) (r := r) (by rw [h.2]; exact nth_setNth_self hu) hd, h.setQuad_eq (withUnits_ne hl _), h.2]
  simp only [setNth_eq_set, List.set_set]

theorem lt_units_of_unitAt (h : UnitAt s q u cmd r) : u < (coreQuad s q).units.length := by
  obtain ⟨-, -, hu, -⟩ := h
  exact lt_length_of_nth_ne (d := []) (by simp [hu])

/-- A unit's command that ends after it has left the quad `y` but for its queue. -/
theorem unitEnds_of_onlyQuad {st mv due : Nat} {P : Quad → Prop} (hx : exec c s = unitStep s q u m f) (h : UnitAt s q u cmd r) (hm : m cmd.desc = true)
    (hf : f (s.dev.at q.e) q.quad.toNat (unitCycle s q u) cmd = finishHead d q.quad.toNat u st mv due)
    (hd : OnlyQuad s q { y with units := setNth y.units u (v :: r) } d) (hv : v.desc = cmd.desc ∧ v.spec = cmd.spec ∧ v.done = none)
    (hy : quadLive y = true) (hunits : y.units = (coreQuad s q).units) (hP : P y) : UnitEnds c s q u cmd r (BitVec.ofNat 8 st) mv due P := by
  obtain ⟨hdesc, hspec, hdone⟩ := hv
  have hlen : u < y.units.length := hunits ▸ lt_units_of_unitAt h
  refine does_onUnit (hx.trans (unitStep_runs h hm)) ⟨y, { v with done := some (BitVec.ofNat 8 st, mv), due := due }, hP, hdesc, hspec, rfl, rfl, ?_⟩
  rw [hf, hd.finish hy hlen hdone, hunits]

end

/-! ## Arrays replaced -/

section

variable {f : Nat → CimArray} {l : List CimArray} {ks : List Nat}

/-- Some arrays replaced. -/
def setArrays (f : Nat → CimArray) (l : List CimArray) (ks : List Nat) : List CimArray := ks.foldl (fun l k => setNth l k (f k)) l

theorem nth_setArrays {j : Nat} (hj : j < l.length) : nth {} (setArrays f l ks) j = if j ∈ ks then f j else nth {} l j := by
  induction ks generalizing l with
  | nil => rfl
  | cons k ks ih =>
    refine (ih (l := setNth l k (f k)) (by rwa [setNth_eq_set, List.length_set])).trans ?_
    by_cases hm : j ∈ ks
    · rw [if_pos hm, if_pos (List.mem_cons_of_mem _ hm)]
    · rw [if_neg hm]
      by_cases hk : j = k
      · subst hk
        rw [nth_setNth_self hj, if_pos List.mem_cons_self]
      · rw [nth_setNth_other hk, if_neg (by simp [hk, hm])]

theorem mem_arraysOf {mask k : Nat} : k ∈ arraysOf mask ↔ k < 8 ∧ bitsAt k 1 mask = 1 := by
  rw [arraysOf, List.mem_filter, List.mem_range, decide_eq_true_eq]

end

/-! ## CIM_LOAD -/

section

variable {s : State} {q : QuadAt} {d : Dev} {n : Nat} {y : Quad} {b : Bytes} {tag : PTag}

/-- The array that an image loads, with its reference sums (R143, R155). -/
def loadedArray (b img : Bytes) : CimArray :=
  let a : CimArray := { st := .loaded, mode := BitVec.ofNat 8 (leAt 1 1 b), rows := leAt 4 2 b, cols := leAt 6 2 b, q := BitVec.ofNat 36 (loadQ b), w := (elements (cimIn (leAt 1 1 b)) img).map (BitVec.ofNat 64) }
  { a with s1 := (benchSums a).1.map (BitVec.ofNat 64), s2 := (benchSums a).2.map (BitVec.ofNat 64) }

/-- The image of an array of a LOAD. -/
def loadImage (m : Mem) (b : Bytes) (k : Nat) : Bytes := memRead m (leAt 8 4 b + k * leAt 20 4 b) (leAt 4 2 b * leAt 6 2 b * cimIn (leAt 1 1 b))

theorem OnlyQuad.loadArray (h : OnlyQuad s q y d) (hl : quadLive y = true) (k : Nat) (img : Bytes) :
    ∃ t, OnlyQuad s q { y with cim := setNth y.cim k (loadedArray b img), cimTag := t } (loadArray d q.quad.toNat k b tag img) := by
  have hload : Machine.loadArray d q.quad.toNat k b tag img = d.setQuad q.quad.toNat
      { y with cim := setNth y.cim k (loadedArray b img), cimTag := tabSet 0 y.cimTag k (tabGet 0 y.cimTag k ||| tag) } := by
    rw [Machine.loadArray, h.2]
    rfl
  rw [hload]
  exact ⟨_, h.setQuad (quad_ne_of_live hl) (quad_ne_of_live hl)⟩

theorem OnlyQuad.loadArrays (img : Nat → Bytes) (ks : List Nat) (h : OnlyQuad s q y d) (hl : quadLive y = true) :
    ∃ t, OnlyQuad s q { y with cim := setArrays (fun k => loadedArray b (img k)) y.cim ks, cimTag := t }
      ((ks.map fun k => (k, img k)).foldl (fun d kb => Machine.loadArray d q.quad.toNat kb.1 b tag kb.2) d) := by
  induction ks generalizing d y with
  | nil => exact ⟨y.cimTag, h⟩
  | cons k ks ih =>
    obtain ⟨t, ht⟩ := h.loadArray (b := b) (tag := tag) hl k (img k)
    exact ih ht hl

/-- What a LOAD reads: the image of every selected array, as the fold of its reads gathers them. -/
theorem foldl_readQuad_clean (hi : (d.quad n).inj = []) (addr : Nat → Nat) (len : Nat) (ks : List Nat) (l : List (Nat × Bytes)) :
    ks.foldl (fun (acc : Bool × List (Nat × Bytes) × Dev) k =>
      let g := readQuad acc.2.2 n (addr k) len
      (acc.1 || g.2.1, acc.2.1 ++ [(k, g.1)], g.2.2)) (false, l, d) = (false, l ++ ks.map (fun k => (k, memRead (d.quad n).mem (addr k) len)), d) := by
  induction ks generalizing l with
  | nil => simp
  | cons k ks ih =>
    rw [List.foldl_cons]
    simp only [readQuad_clean hi, Bool.or_self]
    rw [ih, List.append_assoc]
    rfl

/-- A LOAD without an uncorrectable read loads every selected array in turn. -/
theorem cimLoad_loads {k : Nat} {cmd : UnitCmd} {r : List UnitCmd} (hl : quadLive (d.quad n) = true) (hi : (d.quad n).inj = [])
    (hu : nth [] (d.quad n).units 2 = cmd :: r) (hok : loadOk cmd.desc = true) : ∃ tag,
    cimLoad d n k cmd = finishHead
      (((arraysOf (leAt 2 1 cmd.desc)).map fun j => (j, loadImage (d.quad n).mem cmd.desc j)).foldl (fun d kb => Machine.loadArray d n kb.1 cmd.desc tag kb.2)
        (d.setQuad n { d.quad n with units := setNth (d.quad n).units 2 ({ cmd with tag := tag } :: r) }))
      n 2 stOk 0 (k + 16 + (leAt 4 2 cmd.desc * leAt 6 2 cmd.desc * cimIn (leAt 1 1 cmd.desc) + 31) / 32) := by
  have hquad (v : UnitCmd) := Dev.quad_setQuad_self (d := d) (n := n) (withUnits_ne hl (setNth (d.quad n).units 2 (v :: r)))
  unfold cimLoad
  dsimp only
  rw [if_neg (not_not.2 hok), setHead_of_cons hu, foldl_readQuad_clean (by rw [hquad]; exact hi), if_neg (by simp), hquad]
  exact ⟨_, rfl⟩

end

end Sys2Proof.Machine

section

open Sys2Proof.Machine

/-- Settles O27: the images are read before an array is loaded, and each load replaces its array. -/
theorem cimArraysLoad : Obligations.CimArraysLoad := by
  intro s q cmd r h hcl hlen hop hok
  dsimp only
  intro hcim
  have hl : quadLive (coreQuad s q) = true := h.2.1
  obtain ⟨tag, hrun⟩ := cimLoad_loads (d := s.dev.at q.e) (n := q.quad.toNat) (k := unitCycle s q 2) hl hcl h.2.2.1 hok
  have hstart : OnlyQuad s q { coreQuad s q with units := setNth (coreQuad s q).units 2 ({ cmd with tag := tag } :: r) } _ :=
    onlyQuad_at.setQuad (quad_ne_of_live hl) (withUnits_ne hl _)
  obtain ⟨t, hloaded⟩ := hstart.loadArrays (b := cmd.desc) (tag := tag) (loadImage (coreQuad s q).mem cmd.desc) (arraysOf (leAt 2 1 cmd.desc)) hl
  refine unitEnds_of_onlyQuad (y := { coreQuad s q with cim := setArrays (fun k => loadedArray cmd.desc (loadImage (coreQuad s q).mem cmd.desc k)) (coreQuad s q).cim (arraysOf (leAt 2 1 cmd.desc)), cimTag := t })
    exec_cimLoad h (by simp [hop]) hrun hloaded ⟨rfl, rfl, h.2.2.2⟩ hl rfl ⟨rfl, fun k hk => ?_⟩
  have harray := nth_setArrays (f := fun k => loadedArray cmd.desc (loadImage (coreQuad s q).mem cmd.desc k)) (ks := arraysOf (leAt 2 1 cmd.desc)) (j := k) (hcim ▸ hk)
  simp only [mem_arraysOf, hk, true_and] at harray
  split
  · next hb => exact harray.trans (if_pos hb)
  · next hb => exact harray.trans (if_neg hb)

end

/-! Dot products of the CIM arrays (04 R145 to R147, R152). -/

namespace Sys2Proof.Machine

/-! ## Elements of octets -/

section

variable {w n : Nat}

theorem chunks_flatten {α : Type} (hw : 0 < w) (ls : List (List α)) (h : ∀ l ∈ ls, l.length = w) : chunks w ls.length ls.flatten = ls := by
  induction ls with
  | nil => rfl
  | cons l ls ih =>
    obtain ⟨hl, hls⟩ := List.forall_mem_cons.1 h
    rw [List.length_cons, List.flatten_cons, chunks, if_neg (by simp; rintro rfl; simp at hl; omega), List.take_left' hl, List.drop_left' hl, ih hls]

theorem length_flatten_le (w : Nat) (ys : List Nat) : ((ys.map (le w)).flatten).length = w * ys.length := by
  induction ys with
  | nil => rfl
  | cons y ys ih => rw [List.map_cons, List.flatten_cons, List.length_append, le_length, ih, List.length_cons, Nat.mul_succ, Nat.add_comm]

/-- Numbers written as elements are read back. -/
theorem elements_flatten_le (hw : 0 < w) (ys : List Nat) : elements w (ys.map (le w)).flatten = ys.map (· % 256 ^ w) := by
  have hc := chunks_flatten hw (ys.map (le w)) fun l hl => by
    obtain ⟨y, -, rfl⟩ := List.mem_map.1 hl
    exact le_length _ _
  rw [List.length_map] at hc
  rw [elements, length_flatten_le, Nat.mul_div_cancel_left _ hw, hc, List.map_map]
  exact List.map_congr_left fun y _ => leVal_le w y

theorem chunks_length {α : Type} (hw : 0 < w) (n : Nat) (l : List α) (h : w * n ≤ l.length) : (chunks w n l).length = n := by
  induction n generalizing l with
  | zero => rfl
  | succ n ih =>
    rw [Nat.mul_succ] at h
    rw [chunks, if_neg (by simp; rintro rfl; simp at h; omega), List.length_cons, ih _ (by rw [List.length_drop]; omega)]

theorem elements_length (hw : 0 < w) (bs : Bytes) : (elements w bs).length = bs.length / w := by
  rw [elements, List.length_map, chunks_length hw _ _ (Nat.mul_div_le _ _)]

end

/-! ## The sums of INT8 -/

theorem satInt_word (z : Int) : (satInt 2 z).1 = ofInt 32 (max (-2147483648) (min 2147483647 z)) := by
  have hword : (2 : Int) ^ (32 - 1) = 2147483648 := by norm_num
  unfold satInt
  simp only [show typeBits 2 = 32 from rfl, hword]
  split
  · dsimp only
    congr 1
    omega
  · split <;> dsimp only <;> congr 1 <;> omega

theorem nth_map_range {α : Type} {d : α} (f : Nat → α) {n i : Nat} (h : i < n) : nth d ((List.range n).map f) i = f i := by
  simp [nth, h]

theorem zipWith_eq_map_range {α : Type} (f : Nat → Nat → α) (xs ws : List Nat) :
    List.zipWith f xs ws = (List.range (min xs.length ws.length)).map fun i => f (nth 0 xs i) (nth 0 ws i) := by
  refine List.ext_getElem (by simp) fun i hi _ => ?_
  rw [List.length_zipWith] at hi
  simp [nth, show i < xs.length by omega, show i < ws.length by omega]

/-- The INT8 sum of some inputs with a column of weights, of which the inputs are `x i` row by row. -/
theorem cimSum_int8 {q rows cols c : Nat} {xs w : List Nat} {x : Nat → Nat} (hx : ∀ i, i < min xs.length rows → nth 0 xs i = x i) :
    cimSum 0 q xs (column w rows cols c) = ofInt 32 (max (-2147483648) (min 2147483647
      ((List.range (min xs.length rows)).map fun i => toInt 8 (x i) * toInt 8 (nth 0 w (i * cols + c))).sum)) := by
  have hlen : (column w rows cols c).length = rows := by simp [column]
  refine (satInt_word _).trans ?_
  rw [← List.sum_eq_foldl, zipWith_eq_map_range, hlen]
  congr 4
  refine List.map_congr_left fun i hi => ?_
  have hi := List.mem_range.1 hi
  rw [hx i hi, column, nth_map_range _ (by omega)]

/-! ## One vector on one array -/

section

variable {d : Dev} {n k cyc : Nat} {b : Bytes}

/-- The input of a vector of an array. -/
def dotInput (had : Bool) (x : Quad) (b : Bytes) (k v : Nat) : List Nat :=
  elements (cimIn (x.array k).mode.toNat) (memRead x.mem (inputAddr b k v) (cimIn (x.array k).mode.toNat * inputCount had (x.array k)))

/-- The outputs of an input. -/
def dotOutput (had : Bool) (a : CimArray) (xs : List Nat) : List Nat := if had then cimHad a xs else cimDot a xs

theorem dotOutput_length (had : Bool) (a : CimArray) (xs : List Nat) : (dotOutput had a xs).length = a.cols := by
  cases had <;> simp [dotOutput, cimHad, cimDot]

/-- The cycles of an input: the row pairs that are not skipped (R152). -/
def dotCycles (had : Bool) (a : CimArray) (xs : List Nat) : Nat := (a.rows + 1) / 2 - if had then 0 else skipped a.mode.toNat xs

/-- The quad with outputs written. -/
def putOutputs (x : Quad) (b : Bytes) (k v : Nat) (ys : List Nat) : Quad :=
  { x with mem := memWrite x.mem (outputAddr b k v) ((ys.map (le (cimOut (x.array k).mode.toNat))).flatten) }

theorem writeOutputs_clean (hi : (d.quad n).inj = []) (hb : leAt 3 1 b = 0) (hm : ((d.quad n).array k).mode.toNat < 3) (v : Nat) (ys : List Nat) :
    writeOutputs (d, false, cyc) n k b v ys = (d.setQuad n (putOutputs (d.quad n) b k v ys), false, cyc) := by
  have hprev (o : Nat) : elements o [] = [] := by simp [elements, chunks]
  unfold writeOutputs
  simp only [hb, show bitsAt 0 1 0 = 0 from rfl, Nat.zero_ne_one, if_false, Bool.false_eq_true, hprev, List.isEmpty_nil, if_true]
  rw [if_neg (by omega), storeQuad_clean hi]
  rfl

theorem dotVector_clean (had : Bool) (hi : (d.quad n).inj = []) (hb : leAt 3 1 b = 0) (hm : ((d.quad n).array k).mode.toNat < 3) (v : Nat) :
    dotVector n b had [k] (d, false, cyc) v =
      (d.setQuad n (putOutputs (d.quad n) b k v (dotOutput had ((d.quad n).array k) (dotInput had (d.quad n) b k v))), false,
        cyc + dotCycles had ((d.quad n).array k) (dotInput had (d.quad n) b k v)) := by
  have hwrite (c : Nat) (ys : List Nat) := writeOutputs_clean (cyc := c) hi hb hm v ys
  unfold dotVector
  simp only [List.foldl_cons, List.foldl_nil, readQuad_clean hi, hb, show bitsAt 1 1 0 = 0 from rfl, Bool.false_eq_true, if_false, Bool.or_self, Nat.zero_ne_one,
    List.nil_append, List.map_cons, List.map_nil, hwrite, Nat.zero_max]
  rfl

/-- The quad of a DOT or HAD under way: its output blocks and its command tagged. -/
def dotTagged (x : Quad) (cmd : UnitCmd) (k : Nat) (tag : PTag) : Quad :=
  setHead (tagSpan x (outputAddr cmd.desc k 0) (cimOut (x.array k).mode.toNat * (x.array k).cols) tag) 2 { cmd with tag := tag }

theorem dotHad_eq_dotVector {had : Bool} {cmd : UnitCmd} (hok : dotOk (d.quad n) cmd.desc had = true) (hk : arraysOf (leAt 2 1 cmd.desc) = [k])
    (hvec : leAt 16 2 cmd.desc = 1) : ∃ tag,
    dotHad had d n cyc cmd =
      let g := dotVector n cmd.desc had [k] (d.setQuad n (dotTagged (d.quad n) cmd k tag), false, 0) 0
      finishHead g.1 n 2 (if g.2.1 then stUncorrectable else stOk) 0 (cyc + 16 + g.2.2) := by
  unfold dotHad
  dsimp only
  rw [if_neg (not_not.2 hok), hk, hvec, List.range_one]
  exact ⟨_, rfl⟩

/-- DOT or HAD of one vector on one array, without ACC: its outputs are written, then it finishes. -/
theorem dotHad_runs {had : Bool} {cmd : UnitCmd} {r : List UnitCmd} (hl : quadLive (d.quad n) = true) (hi : (d.quad n).inj = [])
    (hu : nth [] (d.quad n).units 2 = cmd :: r) (hok : dotOk (d.quad n) cmd.desc had = true) (hk : arraysOf (leAt 2 1 cmd.desc) = [k])
    (hflags : leAt 3 1 cmd.desc = 0) (hvec : leAt 16 2 cmd.desc = 1) (hm : ((d.quad n).array k).mode.toNat < 3) :
    ∃ tags tag, dotHad had d n cyc cmd = finishHead
      (d.setQuad n { putOutputs (d.quad n) cmd.desc k 0 (dotOutput had ((d.quad n).array k) (dotInput had (d.quad n) cmd.desc k 0)) with
        tags := tags, units := setNth (d.quad n).units 2 ({ cmd with tag := tag } :: r) })
      n 2 stOk 0 (cyc + 16 + dotCycles had ((d.quad n).array k) (dotInput had (d.quad n) cmd.desc k 0)) := by
  obtain ⟨tag, hrun⟩ := dotHad_eq_dotVector (cyc := cyc) hok hk hvec
  obtain ⟨tags, htagged⟩ : ∃ t, dotTagged (d.quad n) cmd k tag =
      { d.quad n with tags := t, units := setNth (d.quad n).units 2 ({ cmd with tag := tag } :: r) } := by
    rw [dotTagged, tagSpan_eq]
    exact ⟨_, setHead_of_cons (x := { d.quad n with tags := _ }) (v := cmd) (r := r) hu⟩
  have hne : ({ d.quad n with tags := tags, units := setNth (d.quad n).units 2 ({ cmd with tag := tag } :: r) } : Quad) ≠ {} :=
    quad_ne_of_live (x := { d.quad n with tags := tags, units := _ }) hl
  rw [htagged] at hrun
  have hself := Dev.quad_setQuad_self (d := d) (n := n) hne
  rw [dotVector_clean had (by rw [hself]; exact hi) hflags (by rw [hself]; exact hm), hself, Dev.setQuad_setQuad hne] at hrun
  refine ⟨tags, tag, hrun.trans ?_⟩
  rw [Nat.zero_add]
  rfl

end

/-! ## What the outputs hold -/

section

variable {x y : Quad} {b : Bytes} {k v : Nat} {ys : List Nat}

theorem cimOut_eq_four {mode : Nat} (h : mode < 3) : cimOut mode = 4 := by
  rw [cimOut, if_neg (by omega)]

/-- The memory of a quad with outputs written holds them, and every other octet of before. -/
theorem putOutputs_outputs (hw : Memory.wf x.mem = true) (hm : (x.array k).mode.toNat < 3) (hy : y.mem = (putOutputs x b k v ys).mem) :
    elements (cimOut (x.array k).mode.toNat) (memRead y.mem (outputAddr b k v) (cimOut (x.array k).mode.toNat * ys.length)) = ys.map (· % 2 ^ 32) ∧
      ∀ i, i < outputAddr b k v ∨ outputAddr b k v + cimOut (x.array k).mode.toNat * ys.length ≤ i → memByte y.mem i = memByte x.mem i := by
  rw [hy, putOutputs, cimOut_eq_four hm, ← length_flatten_le]
  exact ⟨by rw [memRead_memWrite hw, elements_flatten_le (by decide), show 256 ^ 4 = 2 ^ 32 by norm_num], fun i hi => memByte_memWrite_outside hw hi⟩

/-- The outputs of INT8: the exact sums saturated once to 32 bits. -/
theorem dotOutput_int8 {had : Bool} {a : CimArray} {xs : List Nat} {c : Nat} (hmode : a.mode.toNat = 0) (hc : c < a.cols)
    (hxs : had = true → xs.length = a.rows * a.cols) :
    nth 0 (dotOutput had a xs) c = ofInt 32 (max (-2147483648) (min 2147483647 (((List.range (min xs.length a.rows)).map fun i =>
      toInt 8 (nth 0 xs (if had then i * a.cols + c else i)) * toInt 8 (nth 0 (a.w.map (·.toNat)) (i * a.cols + c))).sum))) := by
  cases had with
  | false =>
    rw [dotOutput, cimDot, hmode]
    exact (nth_map_range _ hc).trans (cimSum_int8 fun _ _ => rfl)
  | true =>
    have hrows : a.rows ≤ xs.length := hxs rfl ▸ Nat.le_mul_of_pos_right _ (by omega)
    have hlen : (column xs a.rows a.cols c).length = a.rows := by simp [column]
    rw [dotOutput, cimHad, hmode, Nat.min_eq_right hrows]
    refine (nth_map_range _ hc).trans ((cimSum_int8 (x := fun i => nth 0 xs (i * a.cols + c)) fun i hi => ?_).trans (by rw [hlen, Nat.min_self]; rfl))
    exact nth_map_range _ (by omega)

theorem dotInput_length (x : Quad) (b : Bytes) (k v : Nat) (had : Bool) (hm : (x.array k).mode.toNat = 0) :
    (dotInput had x b k v).length = inputCount had (x.array k) := by
  have hone : cimIn 0 = 1 := rfl
  rw [dotInput, hm, hone, elements_length Nat.one_pos, memRead_length, Nat.one_mul, Nat.div_one]

/-- The command DOT or HAD of a quad. -/
def dotInstr (had : Bool) (q : QuadAt) : Instr := if had then .had q else .dot q

theorem exec_dotInstr {s : State} {q : QuadAt} (had : Bool) : exec (dotInstr had q) s =
    unitStep s q 2 (fun b => decide (b.length = 32) && decide (leAt 0 1 b = if had then 2 else 1)) (dotHad had) := by
  cases had
  · exact exec_dot
  · exact exec_had

theorem length_of_dotOk {had : Bool} (h : dotOk x b had = true) : b.length = 32 := by
  simp only [dotOk, Bool.and_eq_true, decide_eq_true_eq] at h
  tauto

end

end Sys2Proof.Machine

section

open Sys2Proof.Machine

/-- Settles O28: the input is read before the outputs are written, and the outputs are the products of R147. -/
theorem cimDotProducts : Obligations.CimDotProducts := by
  intro s q cmd r k h hcl hw
  dsimp only
  intro hk8 hk hflags hvec hm hop hok
  have hl : quadLive (coreQuad s q) = true := h.2.1
  generalize hhad : decide (leAt 0 1 cmd.desc = 2) = had at hok ⊢
  refine ⟨fun due hdue => ?_, fun hmode c hc => ?_⟩
  · obtain ⟨tags, tag, hrun⟩ := dotHad_runs (d := s.dev.at q.e) (n := q.quad.toNat) (cyc := unitCycle s q 2) hl hcl h.2.2.1 hok hk hflags hvec hm
    subst hdue
    have hput := putOutputs_outputs (b := cmd.desc) (v := 0) (ys := dotOutput had ((coreQuad s q).array k) (dotInput had (coreQuad s q) cmd.desc k 0)) hw hm rfl
    rw [dotOutput_length] at hput
    have hcode : leAt 0 1 cmd.desc = if had then 2 else 1 := by
      rcases hop with hop | hop <;> simp [← hhad, hop]
    refine unitEnds_of_onlyQuad (y := { putOutputs (coreQuad s q) cmd.desc k 0 (dotOutput had ((coreQuad s q).array k) (dotInput had (coreQuad s q) cmd.desc k 0)) with tags := tags })
      (exec_dotInstr had) h ?_ hrun (onlyQuad_at.setQuad (quad_ne_of_live hl) ?_) ⟨rfl, rfl, h.2.2.2⟩ hl rfl ⟨rfl, hput⟩
    · simp [length_of_dotOk hok, hcode]
    · exact quad_ne_of_live hl
  · exact dotOutput_int8 hmode hc fun hh => (dotInput_length (coreQuad s q) cmd.desc k 0 had hmode).trans (by rw [hh]; rfl)

end

/-! Benchmark passes of the CIM arrays (04 R156 to R163). -/

namespace Sys2Proof.Machine

/-! ## A pass -/

section

variable {d : Dev} {n : Nat} {x : Quad} {ks : List Nat}

/-- The device with one more pass counted. -/
def countPass (d : Dev) : Dev := { d with cim := { d.cim with benchPasses := d.cim.benchPasses + 1 } }

/-- Every loaded one of some arrays gives its reference sums. -/
def Sound (x : Quad) (ks : List Nat) : Prop := ∀ k ∈ ks, (x.array k).st ≠ .unloaded → benchArray (x.array k) = none

/-- The failing ones of some arrays, with the column at which each fails. -/
def badArrays (x : Quad) (ks : List Nat) : List (Nat × Nat) :=
  (ks.filter fun k => decide ((x.array k).st ≠ .unloaded)).filterMap fun k => (benchArray (x.array k)).map fun c => (k, c)

theorem badArrays_eq_nil : badArrays x ks = [] ↔ Sound x ks := by
  simp [badArrays, Sound, List.filterMap_eq_nil_iff]

theorem failArray_cim (d : Dev) (n k src failure col : Nat) : (failArray d n k src failure col).cim = d.cim := raise_cim _

/-- A pass in which every loaded array gives its reference sums is counted, and nothing else (R157). -/
theorem benchPass_of_sound (h : Sound (d.quad n) ks) : benchPass d n ks = countPass d :=
  if_pos (List.isEmpty_iff.2 (badArrays_eq_nil.2 h))

/-- A pass in which an array does not give its reference sums is counted as a failed one (R157). -/
theorem benchPass_of_not_sound (h : ¬ Sound (d.quad n) ks) :
    (benchPass d n ks).cim.benchFails = d.cim.benchFails + 1 ∧ (benchPass d n ks).cim.benchPasses = d.cim.benchPasses := by
  have hpass : benchPass d n ks = (badArrays (d.quad n) ks).foldl (fun d b => failArray d n b.1 0x60 1 b.2)
      { d with cim := { d.cim with benchFails := d.cim.benchFails + 1 } } :=
    if_neg fun hbad => h (badArrays_eq_nil.1 (List.isEmpty_iff.1 hbad))
  have hcim : (benchPass d n ks).cim = { d.cim with benchFails := d.cim.benchFails + 1 } := by
    rw [hpass]
    refine List.foldlRecOn (motive := fun e => e.cim = { d.cim with benchFails := d.cim.benchFails + 1 }) (badArrays (d.quad n) ks) _ ?_
      fun e he b _ => (failArray_cim e n b.1 0x60 1 b.2).trans he
    rfl
  rw [hcim]
  exact ⟨rfl, rfl⟩

theorem finishHead_cim (d : Dev) (n u st mv due : Nat) : (finishHead d n u st mv due).cim = d.cim := by
  unfold finishHead
  dsimp only
  split <;> rfl

theorem finishHead_countPass (d : Dev) (n u st mv due : Nat) : finishHead (countPass d) n u st mv due = countPass (finishHead d n u st mv due) := by
  have hquad : (countPass d).quad n = d.quad n := rfl
  unfold finishHead
  dsimp only
  rw [hquad]
  cases headCmd (d.quad n) u <;> rfl

end

/-! ## BENCH -/

section

variable {d : Dev} {n k : Nat} {cmd : UnitCmd} {r : List UnitCmd}

/-- The command BENCH with the tags of its arrays. -/
def benchTagged (x : Quad) (cmd : UnitCmd) : UnitCmd := { cmd with tag := (arraysOf (leAt 2 1 cmd.desc)).foldl (fun t k => t ||| tabGet 0 x.cimTag k) cmd.tag }

/-- The quad with the command BENCH tagged. -/
def benchQuad (x : Quad) (cmd : UnitCmd) (r : List UnitCmd) : Quad := { x with units := setNth x.units 2 (benchTagged x cmd :: r) }

theorem benchCommand_valid (hu : nth [] (d.quad n).units 2 = cmd :: r) (hop : leAt 0 1 cmd.desc = 3) (hsel : leAt 2 1 cmd.desc ≠ 0)
    (hflags : leAt 3 1 cmd.desc = 0) (hzero : allZero (slice 18 2 cmd.desc) = true)
    (hloaded : ∀ k ∈ arraysOf (leAt 2 1 cmd.desc), ((d.quad n).array k).st ≠ .unloaded) :
    benchCommand d n k cmd = finishHead (benchPass (d.setQuad n (benchQuad (d.quad n) cmd r)) n (arraysOf (leAt 2 1 cmd.desc))) n 2 stOk 0
      (k + 32 + 2 * longestRows (d.quad n) (arraysOf (leAt 2 1 cmd.desc))) := by
  rw [benchQuad, ← setHead_of_cons hu]
  refine if_pos ?_
  simp only [Bool.and_eq_true, decide_eq_true_eq, List.all_eq_true]
  exact ⟨⟨⟨⟨hop, hsel⟩, hflags⟩, hzero⟩, hloaded⟩

end

/-! ## A slot's pass -/

section

variable {s : State} {q : QuadAt} {i : Nat} {t : TimedRec} {st : Stamp}

theorem exec_benchSlotPass : exec (.benchSlotPass q i) s = execBenchSlotPass q i s := rfl

theorem exec_benchSlotMissed : exec (.benchSlotMissed q i) s = execBenchSlotMissed q i s := rfl

/-- A slot is open for a pass: unit 2 has no command and the slot no pass (R161). -/
def SlotOpen (s : State) (q : QuadAt) (i : Nat) (t : TimedRec) (st : Stamp) : Prop :=
  quadLive (coreQuad s q) ∧ before (now (s.dev.at q.e)) (st + BitVec.ofNat 60 t.len) ∧ tabGet 0 (coreQuad s q).benchSeen i ≠ st ∧
    (unitQueue (coreQuad s q) 2).isEmpty

/-- The loaded ones of the arrays that a slot's record names. -/
def slotArrays (x : Quad) (t : TimedRec) : List Nat := (arraysOf t.units.toNat).filter fun k => decide ((x.array k).st ≠ .unloaded)

/-- The quad with a pass in the slot. -/
def slotQuad (s : State) (q : QuadAt) (i : Nat) (t : TimedRec) (st : Stamp) : Quad :=
  { coreQuad s q with benchSeen := tabSet 0 (coreQuad s q).benchSeen i st, passUntil := max q.cyc (coreQuad s q).cyc + 32 + 2 * longestRows (coreQuad s q) (slotArrays (coreQuad s q) t) }

/-- BENCH_SLOT_PASS runs a pass in an open slot (R161). -/
theorem exec_benchSlotPass_open (hn : q.quad.toNat < quadsFitted s.dev) (hi : i < 64) (ht : (coreQuad s q).bench[i]? = some t)
    (ho : occurrence (s.dev.at q.e) q.quad.toNat t 0 = some st) (h : SlotOpen s q i t st) : exec (.benchSlotPass q i) s = onUnit s true
      (benchPass ((s.dev.at q.e).setQuad q.quad.toNat (slotQuad s q i t st)) q.quad.toNat (slotArrays (coreQuad s q) t)) := by
  rw [exec_benchSlotPass, execBenchSlotPass]
  simp only [coreQuad_at, ht, ho, hn, hi, decide_true, Bool.and_self]
  exact congrArg (onUnit s true) (if_pos h)

/-- Where the slot is not open, BENCH_SLOT_PASS lets its moment pass. -/
theorem exec_benchSlotPass_closed (hn : q.quad.toNat < quadsFitted s.dev) (hi : i < 64) (ht : (coreQuad s q).bench[i]? = some t)
    (ho : occurrence (s.dev.at q.e) q.quad.toNat t 0 = some st) (h : ¬ SlotOpen s q i t st) : exec (.benchSlotPass q i) s = onUnit s true (s.dev.at q.e) := by
  rw [exec_benchSlotPass, execBenchSlotPass]
  simp only [coreQuad_at, ht, ho, hn, hi, decide_true, Bool.and_self]
  exact congrArg (onUnit s true) (if_neg h)

/-- BENCH_SLOT_MISSED at an occurrence of its record (R163). -/
theorem exec_benchSlotMissed_at (hn : q.quad.toNat < quadsFitted s.dev) (hi : i < 64) (ht : (coreQuad s q).bench[i]? = some t)
    (ho : occurrence (s.dev.at q.e) q.quad.toNat t t.len = some st) : exec (.benchSlotMissed q i) s = onUnit s true
      (if quadLive (coreQuad s q) ∧ (tabGet 0 (coreQuad s q).benchSeen i = 0 ∨ before (tabGet 0 (coreQuad s q).benchSeen i) st) ∧
          busyThrough (coreQuad s q) st (st + BitVec.ofNat 60 t.len) then
        let e := (s.dev.at q.e).setQuad q.quad.toNat { coreQuad s q with benchSeen := tabSet 0 (coreQuad s q).benchSeen i st }
        raiseQuad { e with cim := { e.cim with benchMissed := e.cim.benchMissed + 1 } } 0x63 q.quad.toNat 0 0 [] false
      else s.dev.at q.e) := by
  rw [exec_benchSlotMissed, execBenchSlotMissed]
  simp only [coreQuad_at, ht, ho, hn, hi, decide_true, Bool.and_self]

end

end Sys2Proof.Machine

section

open Sys2Proof.Machine

/-- Settles O29: a pass reads arrays that neither the command's tag nor the slot's mark touches. -/
theorem cimBenchmarks : Obligations.CimBenchmarks := by
  intro s q
  dsimp only
  refine ⟨fun cmd r h hlen hop hsel hflags hzero hloaded => ?_, fun i t st hn hl hi ht ho hseen hbefore hidle => ?_,
    fun i t st hn hl hi ht ho => ⟨fun hfirst hbusy => ?_, fun hnot => ?_⟩, fun i t st hn hi ht ho hnot => ?_⟩
  · have hl : quadLive (coreQuad s q) = true := h.2.1
    have hquad : ((s.dev.at q.e).setQuad q.quad.toNat (benchQuad (coreQuad s q) cmd r)).quad q.quad.toNat = benchQuad (coreQuad s q) cmd r :=
      Dev.quad_setQuad_self (withUnits_ne hl _)
    have hrun := (unitStep_runs (m := fun b => decide (b.length = 32) && decide (3 ≤ leAt 0 1 b)) (f := benchCommand) h (by simp [hlen, hop])).trans
      (congrArg (onUnit s true) (benchCommand_valid h.2.2.1 hop hsel hflags hzero hloaded))
    rw [coreQuad_at] at hrun
    refine ⟨fun hs => does_onUnit (exec_bench.trans hrun) ?_, fun hs => does_onUnit (exec_bench.trans hrun) ?_⟩
    · rw [benchPass_of_sound (by rw [hquad]; exact hs), finishHead_countPass]
      exact congrArg countPass (finishHead_setQuad hl (lt_units_of_unitAt h) h.2.2.2)
    · rw [finishHead_cim]
      exact benchPass_of_not_sound (by rw [hquad]; exact hs)
  · have hrun := exec_benchSlotPass_open hn hi ht ho ⟨hl, hbefore, hseen, List.isEmpty_iff.2 hidle⟩
    have hquad : ((s.dev.at q.e).setQuad q.quad.toNat (slotQuad s q i t st)).quad q.quad.toNat = slotQuad s q i t st :=
      Dev.quad_setQuad_self (quad_ne_of_live hl)
    refine ⟨fun hs => does_onUnit hrun (benchPass_of_sound ?_), fun hs => does_onUnit hrun (benchPass_of_not_sound ?_)⟩ <;> rw [hquad] <;> exact hs
  · exact does_onUnit (exec_benchSlotMissed_at hn hi ht ho) (if_pos ⟨hl, hfirst, hbusy⟩)
  · refine does_onUnit (exec_benchSlotMissed_at hn hi ht ho) (if_neg ?_)
    rintro ⟨-, hfirst, hbusy⟩
    rcases hnot with ⟨hzero, hlate⟩ | hfree
    · rcases hfirst with hfirst | hfirst
      · exact hzero hfirst
      · exact Bool.eq_false_iff.1 hlate hfirst
    · exact Bool.eq_false_iff.1 hfree hbusy
  · refine does_onUnit (exec_benchSlotPass_closed hn hi ht ho ?_) rfl
    rintro ⟨-, -, hseen, hidle⟩
    exact hnot.elim hseen fun hbusy => hbusy (List.isEmpty_iff.1 hidle)

end

/-! The inverse number-theoretic transform undoes the forward one (05 R172, R175). -/

namespace Sys2Proof.Machine

/-! ## Elements of a limb -/

theorem nth_eq_getElem {l : List Nat} {i : Nat} (h : i < l.length) : nth 0 l i = l[i] := by
  simp [nth, h]

/-! ## Bits reversed -/

section

variable {n i : Nat}

theorem brv_lt (n i : Nat) : brv n i < 2 ^ n := by
  induction n generalizing i with
  | zero => exact Nat.one_pos
  | succ n ih =>
    have hlow := ih (i / 2)
    have hbit : i % 2 * 2 ^ n ≤ 1 * 2 ^ n := Nat.mul_le_mul_right _ (by omega)
    rw [brv, Nat.pow_succ]
    omega

theorem testBit_brv {j : Nat} (h : j < n) : (brv n i).testBit j = i.testBit (n - 1 - j) := by
  induction n generalizing i with
  | zero => omega
  | succ n ih =>
    rw [brv, Nat.mul_comm, Nat.testBit_two_pow_mul_add _ (brv_lt n _)]
    split
    · next hj => rw [ih hj, Nat.testBit_div_two, show n + 1 - 1 - j = n - 1 - j + 1 by omega]
    · rw [show j - n = 0 by omega, show n + 1 - 1 - j = 0 by omega]
      simp

theorem brv_brv (h : i < 2 ^ n) : brv n (brv n i) = i := by
  refine Nat.eq_of_testBit_eq fun j => ?_
  by_cases hj : j < n
  · rw [testBit_brv hj, testBit_brv (by omega), show n - 1 - (n - 1 - j) = j by omega]
  · have hpow : 2 ^ n ≤ 2 ^ j := Nat.pow_le_pow_right Nat.two_pos (by omega)
    rw [Nat.testBit_lt_two_pow (Nat.lt_of_lt_of_le (brv_lt n _) hpow), Nat.testBit_lt_two_pow (Nat.lt_of_lt_of_le h hpow)]

theorem sum_brv {M : Type} [AddCommMonoid M] (n : Nat) (f : Nat → M) : ∑ i ∈ Finset.range (2 ^ n), f (brv n i) = ∑ i ∈ Finset.range (2 ^ n), f i :=
  Finset.sum_nbij' (brv n) (brv n) (fun i _ => Finset.mem_range.2 (brv_lt n i)) (fun i _ => Finset.mem_range.2 (brv_lt n i))
    (fun _ h => brv_brv (Finset.mem_range.1 h)) (fun _ h => brv_brv (Finset.mem_range.1 h)) fun _ _ => rfl

end

/-! ## Residue arithmetic as arithmetic of ZMod -/

section

variable {q : Nat}

theorem powModAux_lt (hq : 0 < q) (n b e : Nat) {acc : Nat} (h : acc < q) : powModAux q n b e acc < q := by
  induction n generalizing b e acc with
  | zero => exact h
  | succ n ih =>
    refine ih _ _ ?_
    split
    · exact Nat.mod_lt _ hq
    · exact h

theorem powMod_lt (hq : 0 < q) (b e : Nat) : powMod b e q < q := powModAux_lt hq _ _ _ (Nat.mod_lt _ hq)

theorem cast_powModAux (n b e acc : Nat) : ((powModAux q n b e acc : Nat) : ZMod q) = acc * (b : ZMod q) ^ (e % 2 ^ n) := by
  induction n generalizing b e acc with
  | zero => simp [powModAux, Nat.mod_one]
  | succ n ih =>
    rw [powModAux, ih, ZMod.natCast_mod, Nat.cast_mul, ← pow_two, ← pow_mul, Nat.pow_succ', Nat.mod_mul, pow_add, ← mul_assoc]
    congr 1
    rcases Nat.mod_two_eq_zero_or_one e with h | h <;> simp [h]

theorem cast_powMod {e : Nat} (b : Nat) (h : e < 2 ^ 40) : (powMod b e q : ZMod q) = (b : ZMod q) ^ e := by
  rw [powMod, cast_powModAux, Nat.mod_eq_of_lt h, ZMod.natCast_mod, ZMod.natCast_mod, Nat.cast_one, one_mul]

theorem polyEval_lt (hq : 0 < q) (r : Nat) (x : List Nat) : polyEval q r x < q := by
  cases x with
  | nil => exact hq
  | cons c x => exact Nat.mod_lt _ hq

theorem cast_polyEval (r : Nat) (x : List Nat) : (polyEval q r x : ZMod q) = ∑ j ∈ Finset.range x.length, ((nth 0 x j : Nat) : ZMod q) * (r : ZMod q) ^ j := by
  induction x with
  | nil => simp [polyEval]
  | cons c x ih =>
    have hcons : polyEval q r (c :: x) = (c + r * polyEval q r x) % q := rfl
    rw [hcons, ZMod.natCast_mod, Nat.cast_add, Nat.cast_mul, ih, List.length_cons, Finset.sum_range_succ', Finset.mul_sum, add_comm]
    congr 1
    · refine Finset.sum_congr rfl fun j _ => ?_
      rw [pow_succ, show nth 0 (c :: x) (j + 1) = nth 0 x j from rfl]
      ring
    · simp [nth]

/-- A sum reduced at each step. -/
theorem cast_foldl_addMod (f : Nat → Nat) (n : Nat) :
    ((List.range n).foldl (fun acc i => (acc + f i) % q) 0 : ℕ) = ∑ i ∈ Finset.range n, (f i : ZMod q) := by
  induction n with
  | zero => simp
  | succ n ih => rw [List.range_succ, List.foldl_concat, ZMod.natCast_mod, Nat.cast_add, ih, Finset.sum_range_succ]

/-- Residues with one image in ZMod are equal. -/
theorem eq_of_cast_eq {a b : Nat} (ha : a < q) (hb : b < q) (h : (a : ZMod q) = b) : a = b := by
  rw [ZMod.natCast_eq_natCast_iff', Nat.mod_eq_of_lt ha, Nat.mod_eq_of_lt hb] at h
  exact h

theorem cast_invMod [Fact q.Prime] {a : Nat} (hq : q < 2 ^ 40) (ha : (a : ZMod q) ≠ 0) : (invMod a q : ZMod q) = (a : ZMod q)⁻¹ := by
  have htwo : 2 ≤ q := (Fact.out : q.Prime).two_le
  rw [invMod, cast_powMod a (by omega)]
  refine eq_inv_of_mul_eq_one_right ?_
  rw [← pow_succ', show q - 2 + 1 = q - 1 by omega, ZMod.pow_card_sub_one_eq_one ha]

end

/-! ## The transforms in ZMod -/

section

variable {q psi n i : Nat} {x : List Nat}

theorem nttFwd_length (q psi n : Nat) (x : List Nat) : (nttFwd q psi n x).length = 2 ^ n := by simp [nttFwd]

theorem nttInv_length (q psi n : Nat) (x : List Nat) : (nttInv q psi n x).length = 2 ^ n := by simp [nttInv]

theorem nth_nttFwd (hi : i < 2 ^ n) : nth 0 (nttFwd q psi n x) i = polyEval q (powMod psi (2 * brv n i + 1) q) x := nth_map_range _ hi

theorem nttFwd_lt (hq : 0 < q) : ∀ v ∈ nttFwd q psi n x, v < q := by
  simp only [nttFwd, List.mem_map]
  rintro _ ⟨i, -, rfl⟩
  exact polyEval_lt hq _ _

theorem nttInv_lt (hq : 0 < q) : ∀ v ∈ nttInv q psi n x, v < q := by
  simp only [nttInv, List.mem_map]
  rintro _ ⟨i, -, rfl⟩
  exact Nat.mod_lt _ hq

/-- The odd exponents of the root stay below the width that `powMod` looks at. -/
theorem oddExponent_lt (hn : n ≤ 17) (i : Nat) : 2 * brv n i + 1 < 2 ^ 40 := by
  have hlt := brv_lt n i
  have hpow : 2 ^ n ≤ 2 ^ 17 := Nat.pow_le_pow_right Nat.two_pos hn
  omega

/-- FWD evaluates at the odd powers of the root (05 R175). -/
theorem cast_nttFwd (hn : n ≤ 17) (hi : i < 2 ^ n) : ((nth 0 (nttFwd q psi n x) i : Nat) : ZMod q) =
    ∑ j ∈ Finset.range x.length, ((nth 0 x j : Nat) : ZMod q) * ((psi : ZMod q) ^ (2 * brv n i + 1)) ^ j := by
  rw [nth_nttFwd hi, cast_polyEval, cast_powMod psi (oddExponent_lt hn i)]

/-- INV sums over the inverse powers of the root (05 R175). -/
theorem cast_nttInv [Fact q.Prime] (hq : q < 2 ^ 40) (hpsi : (psi : ZMod q) ≠ 0) (htwo : (2 : ZMod q) ≠ 0) (hn : n ≤ 17) (hi : i < 2 ^ n) :
    ((nth 0 (nttInv q psi n x) i : Nat) : ZMod q) =
      ((2 : ZMod q) ^ n)⁻¹ * ∑ k ∈ Finset.range (2 ^ n), ((nth 0 x k : Nat) : ZMod q) * (((psi : ZMod q)⁻¹) ^ (2 * brv n k + 1)) ^ i := by
  have hpow : 2 ^ n ≤ 2 ^ 17 := Nat.pow_le_pow_right Nat.two_pos hn
  have hcast : ((2 ^ n : Nat) : ZMod q) = 2 ^ n := by push_cast; rfl
  rw [nttInv, nth_map_range _ hi, ZMod.natCast_mod, Nat.cast_mul, cast_invMod hq (by rw [hcast]; exact pow_ne_zero n htwo), hcast, cast_foldl_addMod]
  congr 1
  refine Finset.sum_congr rfl fun k _ => ?_
  rw [Nat.cast_mul, cast_powMod _ (by omega), cast_powMod _ (oddExponent_lt hn k), cast_invMod hq hpsi]

end

/-! ## Orthogonality of the odd powers -/

section

variable {K : Type} [Field K] {z : K} {n j k : Nat}

/-- A number whose 2^n-th power is −1 is a primitive root of unity of order 2^(n+1). -/
theorem isPrimitiveRoot_of_pow_eq_neg_one (hne : (-1 : K) ≠ 1) (hz : z ^ 2 ^ n = -1) : IsPrimitiveRoot z (2 ^ (n + 1)) :=
  IsPrimitiveRoot.iff_orderOf.2 (orderOf_eq_prime_pow (by rwa [hz]) (by rw [pow_succ, pow_mul, hz, neg_one_sq]))

/-- The sum of the odd powers of z^k / z^j over one period is the period for k = j, and else 0. -/
theorem sum_odd_powers (hz : IsPrimitiveRoot z (2 ^ (n + 1))) (hj : j < 2 ^ n) (hk : k < 2 ^ n) :
    ∑ i ∈ Finset.range (2 ^ n), (z ^ k * z⁻¹ ^ j) ^ (2 * i + 1) = if k = j then 2 ^ n else 0 := by
  have hz0 : z ≠ 0 := hz.ne_zero (Nat.pos_iff_ne_zero.1 (Nat.two_pow_pos _))
  have hsq : IsPrimitiveRoot (z ^ 2) (2 ^ n) := hz.pow (Nat.two_pow_pos _) (Nat.pow_succ' ..)
  split
  · next h =>
    subst h
    rw [inv_pow, mul_inv_cancel₀ (pow_ne_zero _ hz0)]
    simp
  · next h =>
    have hu : (z ^ k * z⁻¹ ^ j) ^ 2 = (z ^ 2) ^ k * ((z ^ 2) ^ j)⁻¹ := by
      rw [mul_pow, inv_pow, inv_pow, ← pow_mul, ← pow_mul, ← pow_mul, ← pow_mul, Nat.mul_comm k, Nat.mul_comm j]
    have hone : (z ^ k * z⁻¹ ^ j) ^ 2 ≠ 1 := fun e => h (hsq.pow_inj hk hj (by
      rwa [hu, mul_inv_eq_one₀ (pow_ne_zero _ (pow_ne_zero _ hz0))] at e))
    have hperiod : ((z ^ k * z⁻¹ ^ j) ^ 2) ^ 2 ^ n = 1 := by
      rw [hu, mul_pow, inv_pow, pow_right_comm, hsq.pow_eq_one, pow_right_comm, hsq.pow_eq_one, one_pow, one_pow, inv_one, mul_one]
    simp only [pow_succ _ (2 * _), pow_mul _ 2]
    rw [← Finset.sum_mul, geom_sum_eq hone, hperiod, sub_self, zero_div, zero_mul]

end

/-! ## The premises of a transform -/

section

variable {q psi n : Nat}

/-- What the check of the modulus and the root gives in ZMod. -/
theorem root_of_rootOk [Fact q.Prime] (hq : 2 < q) (hn : n ≤ 17) (h : rootOk q psi n = true) :
    IsPrimitiveRoot (psi : ZMod q) (2 ^ (n + 1)) := by
  have : Fact (2 < q) := ⟨hq⟩
  have hpow : 2 ^ n ≤ 2 ^ 17 := Nat.pow_le_pow_right Nat.two_pos hn
  simp only [rootOk, Bool.and_eq_true, decide_eq_true_eq] at h
  refine isPrimitiveRoot_of_pow_eq_neg_one (ZMod.neg_one_ne_one) ?_
  rw [← cast_powMod psi (by omega), h.2, Nat.cast_sub (by omega), ZMod.natCast_self, Nat.cast_one, zero_sub]

theorem prime_of_rootOk (h : rootOk q psi n = true) : q.Prime := by
  simp only [rootOk, Bool.and_eq_true, decide_eq_true_eq] at h
  exact h.1

theorem bounds_of_primeForm (h : primeForm q n = true) : 2 < q ∧ q < 2 ^ 36 := by
  simp only [primeForm, Bool.and_eq_true, decide_eq_true_eq] at h
  omega

end

/-- Each coefficient comes back: the sum over the evaluations of its inverse powers keeps the one that matches. -/
theorem cast_nttInv_nttFwd {q psi n j : Nat} {x : List Nat} [Fact q.Prime] (hq : 2 < q) (hlt : q < 2 ^ 36) (hn : n ≤ 17) (hr : rootOk q psi n = true)
    (hx : x.length = 2 ^ n) (hj : j < 2 ^ n) : ((nth 0 (nttInv q psi n (nttFwd q psi n x)) j : Nat) : ZMod q) = ((nth 0 x j : Nat) : ZMod q) := by
  have hroot := root_of_rootOk hq hn hr
  have hpsi : (psi : ZMod q) ≠ 0 := hroot.ne_zero (Nat.pos_iff_ne_zero.1 (Nat.two_pow_pos _))
  have : Fact (2 < q) := ⟨hq⟩
  have htwo : (2 : ZMod q) ≠ 0 := by
    intro h
    exact ZMod.neg_one_ne_one (n := q) (by linear_combination -h)
  have hterm (k i : Nat) : ((psi : ZMod q) ^ (2 * i + 1)) ^ k * ((psi : ZMod q)⁻¹ ^ (2 * i + 1)) ^ j = ((psi : ZMod q) ^ k * (psi : ZMod q)⁻¹ ^ j) ^ (2 * i + 1) := by
    rw [mul_pow, pow_right_comm, pow_right_comm (psi : ZMod q)⁻¹]
  calc ((nth 0 (nttInv q psi n (nttFwd q psi n x)) j : Nat) : ZMod q)
      = (2 ^ n)⁻¹ * ∑ i ∈ Finset.range (2 ^ n), (∑ k ∈ Finset.range (2 ^ n), ((nth 0 x k : Nat) : ZMod q) * ((psi : ZMod q) ^ (2 * brv n i + 1)) ^ k) *
          ((psi : ZMod q)⁻¹ ^ (2 * brv n i + 1)) ^ j := by
        rw [cast_nttInv (by omega) hpsi htwo hn hj]
        congr 1
        refine Finset.sum_congr rfl fun i hi => ?_
        rw [cast_nttFwd hn (Finset.mem_range.1 hi), hx]
    _ = (2 ^ n)⁻¹ * ∑ k ∈ Finset.range (2 ^ n), ((nth 0 x k : Nat) : ZMod q) * ∑ i ∈ Finset.range (2 ^ n), ((psi : ZMod q) ^ k * (psi : ZMod q)⁻¹ ^ j) ^ (2 * brv n i + 1) := by
        simp only [Finset.sum_mul, Finset.mul_sum, mul_assoc, hterm]
        rw [Finset.sum_comm]
    _ = (2 ^ n)⁻¹ * ∑ k ∈ Finset.range (2 ^ n), ((nth 0 x k : Nat) : ZMod q) * if k = j then 2 ^ n else 0 := by
        congr 1
        refine Finset.sum_congr rfl fun k hk => ?_
        rw [sum_brv n fun i => ((psi : ZMod q) ^ k * (psi : ZMod q)⁻¹ ^ j) ^ (2 * i + 1), sum_odd_powers hroot hj (Finset.mem_range.1 hk)]
    _ = ((nth 0 x j : Nat) : ZMod q) := by
        simp only [mul_ite, mul_zero, Finset.sum_ite_eq', Finset.mem_range, hj, if_true]
        rw [mul_comm, mul_assoc, mul_inv_cancel₀ (pow_ne_zero n htwo), mul_one]

end Sys2Proof.Machine

section

open Sys2Proof.Machine

/-- Settles O31: both sides are residues, and their images in the field of q elements agree by the orthogonality of the odd
powers of the root. -/
theorem nttInverse : Obligations.NttInverse := by
  intro q psi n x _ hn hform hroot hx hres
  obtain ⟨htwo, hlt⟩ := bounds_of_primeForm hform
  have : Fact q.Prime := ⟨prime_of_rootOk hroot⟩
  refine List.ext_getElem ((nttInv_length ..).trans hx.symm) fun j hj hjx => ?_
  refine eq_of_cast_eq (nttInv_lt (by omega) _ (List.getElem_mem hj)) (hres _ (List.getElem_mem hjx)) ?_
  rw [← nth_eq_getElem hj, ← nth_eq_getElem hjx]
  exact cast_nttInv_nttFwd htwo hlt hn hroot hx (hx ▸ hjx)

end

/-! Limbs transformed in turn (05 R173 to R177, R179 to R181). -/

namespace Sys2Proof.Machine

/-! ## Residues in memory -/

section

variable {w i : Nat} {b : Bytes} {l : List Nat}

theorem nth_lt {v : Nat} (h : ∀ x ∈ l, x < v) (hv : 0 < v) (i : Nat) : nth 0 l i < v := by
  by_cases hi : i < l.length
  · rw [nth_eq_getElem hi]
    exact h _ (List.getElem_mem hi)
  · rwa [nth, List.getD_eq_default _ _ (Nat.not_lt.1 hi)]

theorem nth_map_mod (l : List Nat) (w i : Nat) : nth 0 (l.map (· % w)) i = nth 0 l i % w := by
  by_cases hi : i < l.length
  · rw [nth_eq_getElem hi, nth_eq_getElem (by rwa [List.length_map]), List.getElem_map]
  · rw [nth, nth, List.getD_eq_default _ _ (by simpa using hi), List.getD_eq_default _ _ (by simpa using hi), Nat.zero_mod]

theorem map_mod_of_lt {w : Nat} (h : ∀ v ∈ l, v < w) : l.map (· % w) = l := by
  rw [List.map_congr_left fun v hv => Nat.mod_eq_of_lt (h v hv), List.map_id']

theorem leVal_lt_of_length_le (h : b.length ≤ w) : leVal b < 256 ^ w :=
  Nat.lt_of_lt_of_le (leVal_lt b) (Nat.pow_le_pow_right (by decide) h)

theorem leAt_lt (i n : Nat) (b : Bytes) : leAt i n b < 256 ^ n := leVal_lt_of_length_le (List.length_take_le _ _)

theorem length_of_mem_chunks {α : Type} {n k : Nat} {l c : List α} (h : c ∈ chunks n k l) : c.length ≤ n := by
  induction k generalizing l with
  | zero => exact absurd h List.not_mem_nil
  | succ k ih =>
    rw [chunks] at h
    split at h
    · exact absurd h List.not_mem_nil
    · rcases List.mem_cons.1 h with rfl | h
      · exact List.length_take_le _ _
      · exact ih h

theorem elements_lt (w : Nat) (bs : Bytes) : ∀ v ∈ elements w bs, v < 256 ^ w := by
  simp only [elements, List.mem_map]
  rintro _ ⟨c, hc, rfl⟩
  exact leVal_lt_of_length_le (length_of_mem_chunks hc)

/-- The octets of residues as WIDE residues (05 R173). -/
def wideBytes (ys : List Nat) : Bytes := (ys.map (le 8)).flatten

theorem wideBytes_length (ys : List Nat) : (wideBytes ys).length = 8 * ys.length := length_flatten_le 8 ys

theorem elements_wideBytes (ys : List Nat) : elements 8 (wideBytes ys) = ys.map (· % 2 ^ 64) := elements_flatten_le (by decide) ys

/-- Residues written one by one, as WIDE residues. -/
theorem flatten_map_le (f : Nat → Nat) (ks : List Nat) : (ks.map fun k => le 8 (f k)).flatten = wideBytes (ks.map f) := by
  rw [wideBytes, List.map_map]
  rfl

theorem length_flatten_map_le (f : Nat → Nat) (len : Nat) : (((List.range len).map fun i => le 8 (f i)).flatten).length = 8 * len := by
  rw [flatten_map_le, wideBytes_length, List.length_map, List.length_range]

theorem nth_elements_flatten_map_le (f : Nat → Nat) {len : Nat} (hi : i < len) :
    nth 0 (elements 8 ((List.range len).map fun i => le 8 (f i)).flatten) i = f i % 2 ^ 64 := by
  rw [flatten_map_le, elements_wideBytes, nth_map_mod, nth_map_range f hi]

/-- Residues written from an address are read back there. -/
theorem nth_elements_memWrite {m : Mem} {t len : Nat} (f : Nat → Nat) (hw : Memory.wf m = true) (hi : i < len) :
    nth 0 (elements 8 (memRead (memWrite m t ((List.range len).map fun i => le 8 (f i)).flatten) t (8 * len))) i = f i % 2 ^ 64 := by
  have hread := memRead_memWrite (a := t) (bs := ((List.range len).map fun i => le 8 (f i)).flatten) hw
  rw [length_flatten_map_le] at hread
  rw [hread, nth_elements_flatten_map_le f hi]

end

/-! ## Spans tagged and written -/

section

variable {s : State} {q : QuadAt} {y : Quad} {d : Dev}

/-- Tagging spans changes no more of a quad than its tags. -/
theorem exists_tags_of_tagSpans (x : Quad) (addr : Nat → Nat) (len : Nat) (tag : PTag) (ks : List Nat) :
    ∃ t, ks.foldl (fun x k => tagSpan x (addr k) len tag) x = { x with tags := t } := by
  induction ks generalizing x with
  | nil => exact ⟨x.tags, rfl⟩
  | cons k ks ih =>
    obtain ⟨t, ht⟩ := ih (tagSpan x (addr k) len tag)
    rw [tagSpan_eq] at ht
    exact ⟨t, (congrArg (fun z => ks.foldl (fun x k => tagSpan x (addr k) len tag) z) (tagSpan_eq x (addr k) len tag)).trans ht⟩

theorem OnlyQuad.readQuad (h : OnlyQuad s q y d) (hi : y.inj = []) (a len : Nat) : Machine.readQuad d q.quad.toNat a len = (memRead y.mem a len, false, d) := by
  rw [readQuad_clean (by rw [h.2]; exact hi), h.2]

theorem OnlyQuad.writeQuad (h : OnlyQuad s q y d) (hi : y.inj = []) (hl : quadLive y = true) (a : Nat) (bs : Bytes) :
    OnlyQuad s q { y with mem := memWrite y.mem a bs } (Machine.writeQuad d q.quad.toNat a bs) := by
  rw [writeQuad_clean (h.2 ▸ hi), h.2]
  exact h.setQuad (quad_ne_of_live hl) (quad_ne_of_live hl)

theorem OnlyQuad.writeQuads (addr : Nat → Nat) (bytes : Nat → Bytes) (ks : List Nat) (h : OnlyQuad s q y d) (hi : y.inj = []) (hl : quadLive y = true) :
    OnlyQuad s q { y with mem := writeAll addr bytes y.mem ks } (ks.foldl (fun d k => Machine.writeQuad d q.quad.toNat (addr k) (bytes k)) d) := by
  induction ks generalizing y d with
  | nil => exact h
  | cons k ks ih => exact ih (h.writeQuad hi hl (addr k) (bytes k)) hi hl

end

/-! ## Limbs read and written in turn -/

section

variable {s : State} {q : QuadAt} {y : Quad} {d : Dev} {count src dst stride bytes j k : Nat} {f : List Nat → List Nat}

/-- The octets that limb `k` becomes. -/
def limbOut (f : List Nat → List Nat) (x : Quad) (src stride bytes k : Nat) : Bytes := wideBytes (f (limbAt x src stride bytes k))

/-- The memory with every destination limb written. -/
def limbsMem (f : List Nat → List Nat) (x : Quad) (src dst stride bytes count : Nat) : Mem :=
  writeAll (fun k => dst + k * stride) (limbOut f x src stride bytes) x.mem (List.range count)

/-- Destination limbs do not meet a source limb that is read after them. -/
def SourcesStay (src dst stride bytes count : Nat) : Prop :=
  ∀ j k, j < k → k < count → src + k * stride + bytes ≤ dst + j * stride ∨ dst + j * stride + bytes ≤ src + k * stride

theorem limb_before (h : count = 1 ∨ bytes ≤ stride) (hjk : j < k) (hk : k < count) : j * stride + bytes ≤ k * stride := by
  rcases h with h | h
  · omega
  · calc j * stride + bytes ≤ j * stride + stride := Nat.add_le_add_left h _
      _ = (j + 1) * stride := (Nat.succ_mul ..).symm
      _ ≤ k * stride := Nat.mul_le_mul_right _ hjk

/-- In place, or between ranges that do not overlap (05 R177, R181). -/
theorem sourcesStay_of_check (hs : src = dst ∨ rangesOverlap src dst stride count bytes = false) (h : count = 1 ∨ bytes ≤ stride) :
    SourcesStay src dst stride bytes count := by
  intro j k hjk hk
  have hbefore := limb_before h hjk hk
  rcases hs with rfl | hs
  · omega
  · have hlast : k * stride ≤ (count - 1) * stride := Nat.mul_le_mul_right _ (by omega)
    simp only [rangesOverlap, Bool.and_eq_false_iff, decide_eq_false_iff_not] at hs
    omega

theorem limbOut_length {n : Nat} (hf : ∀ l, (f l).length = 2 ^ n) (x : Quad) (src stride bytes k : Nat) :
    (limbOut f x src stride bytes k).length = limbBytes n := by
  rw [limbOut, wideBytes_length, hf, limbBytes]

/-- Each limb is read as it was before the command. -/
theorem foldl_limbs (h : OnlyQuad s q y d) (hi : y.inj = []) (hl : quadLive y = true) (hw : Memory.wf y.mem = true)
    (hf : ∀ k, (limbOut f y src stride bytes k).length = bytes) (ha : SourcesStay src dst stride bytes count) (hj : j ≤ count) :
    (List.range j).foldl (fun (acc : Bool × Dev) c =>
      if acc.1 then acc
      else
        let g := Machine.readQuad acc.2 q.quad.toNat (src + c * stride) bytes
        if g.2.1 then (true, g.2.2)
        else (false, Machine.writeQuad g.2.2 q.quad.toNat (dst + c * stride) (((f (elements 8 g.1)).map (le 8)).flatten))) (false, d) =
      (false, (List.range j).foldl (fun d k => Machine.writeQuad d q.quad.toNat (dst + k * stride) (limbOut f y src stride bytes k)) d) := by
  induction j with
  | zero => rfl
  | succ j ih =>
    have hdev := h.writeQuads (fun k => dst + k * stride) (limbOut f y src stride bytes) (List.range j) hi hl
    have hread : memRead (writeAll (fun k => dst + k * stride) (limbOut f y src stride bytes) y.mem (List.range j)) (src + j * stride) bytes =
        memRead y.mem (src + j * stride) bytes := by
      refine memRead_congr fun i hlt => memByte_writeAll_outside hw hf fun k hk => ?_
      have hk := ha k j (List.mem_range.1 hk) hj
      omega
    rw [List.range_succ, List.foldl_concat, List.foldl_concat, ih (by omega)]
    simp only [Bool.false_eq_true, if_false, hdev.readQuad hi, hread]
    rfl

/-- The memory after all limbs. -/
theorem limbAt_limbsMem {n : Nat} (hf : ∀ l, (f l).length = 2 ^ n) (hw : Memory.wf y.mem = true) (h : count = 1 ∨ limbBytes n ≤ stride) (hk : k < count)
    {z : Quad} (hz : z.mem = limbsMem f y src dst stride (limbBytes n) count) :
    limbAt z dst stride (limbBytes n) k = (f (limbAt y src stride (limbBytes n) k)).map (· % 2 ^ 64) := by
  have hread := memRead_writeAll (addr := fun k => dst + k * stride) (bytes := limbOut f y src stride (limbBytes n)) (ls := List.range count) hw
    (limbOut_length hf y src stride _) List.pairwise_lt_range (List.mem_range.2 hk) fun i hi hki => by
      have := limb_before h hki (List.mem_range.1 hi)
      omega
  rw [limbAt, hz, limbsMem, hread]
  exact elements_wideBytes _

end

section

variable {s : State} {q : QuadAt} {c : Instr} {u : Nat} {cmd : UnitCmd} {r : List UnitCmd} {m : Bytes → Bool} {g : Dev → Nat → Nat → UnitCmd → Dev}
  {f : List Nat → List Nat} {due : Nat}

/-- A run over limbs writes each limb's transform, then finishes with status OK. -/
theorem limbRun_clean {count src dst stride bytes : Nat} (h : UnitAt s q u cmd r) (hcl : Clean s q) (hw : Memory.wf (coreQuad s q).mem = true)
    (hf : ∀ k, (limbOut f (coreQuad s q) src stride bytes k).length = bytes) (ha : SourcesStay src dst stride bytes count) :
    ∃ tags tag d, limbRun (s.dev.at q.e) q.quad.toNat u cmd count src dst stride bytes due f = finishHead d q.quad.toNat u stOk 0 due ∧
      OnlyQuad s q { coreQuad s q with
        mem := limbsMem f (coreQuad s q) src dst stride bytes count, tags := tags, units := setNth (coreQuad s q).units u ({ cmd with tag := tag } :: r) } d := by
  obtain ⟨-, hl, hu, -⟩ := h
  unfold limbRun
  dsimp only
  rw [coreQuad_at]
  generalize (List.range count).foldl (fun t c => t ||| spanTag (coreQuad s q) (src + c * stride) bytes) cmd.tag = tag
  obtain ⟨tags, htags⟩ := exists_tags_of_tagSpans (coreQuad s q) (fun k => dst + k * stride) bytes tag (List.range count)
  rw [htags, setHead_of_cons (x := { coreQuad s q with tags := tags }) hu]
  have hstart : OnlyQuad s q { coreQuad s q with tags := tags, units := setNth (coreQuad s q).units u ({ cmd with tag := tag } :: r) } _ :=
    onlyQuad_at.setQuad (quad_ne_of_live hl) (quad_ne_of_live hl)
  rw [foldl_limbs hstart hcl hl hw hf ha (Nat.le_refl count)]
  exact ⟨tags, tag, _, rfl, hstart.writeQuads _ _ _ hcl hl⟩

/-- A command that runs over limbs transforms them. -/
theorem transformsLimbs_of_limbRun {good : List Nat → Prop} {F : List Nat → List Nat → Prop} (hx : exec c s = unitStep s q u m g) (h : UnitAt s q u cmd r)
    (hcl : Clean s q) (hw : Memory.wf (coreQuad s q).mem = true) (hm : m cmd.desc = true)
    (hg : g (s.dev.at q.e) q.quad.toNat (unitCycle s q u) cmd = limbRun (s.dev.at q.e) q.quad.toNat u cmd (leAt 2 1 cmd.desc) (leAt 4 4 cmd.desc) (leAt 8 4 cmd.desc)
      (leAt 12 4 cmd.desc) (limbBytes (leAt 1 1 cmd.desc)) due f)
    (hs : leAt 4 4 cmd.desc = leAt 8 4 cmd.desc ∨
      rangesOverlap (leAt 4 4 cmd.desc) (leAt 8 4 cmd.desc) (leAt 12 4 cmd.desc) (leAt 2 1 cmd.desc) (limbBytes (leAt 1 1 cmd.desc)) = false)
    (hlen : ∀ l, (f l).length = 2 ^ leAt 1 1 cmd.desc)
    (hF : ∀ l, l.length = 2 ^ leAt 1 1 cmd.desc → (∀ v ∈ l, v < 2 ^ 64) → good l → F l ((f l).map (· % 2 ^ 64))) :
    TransformsLimbs c s q u cmd r due good F := by
  intro hst hgood
  obtain ⟨tags, tag, d, hrun, hd⟩ := limbRun_clean (due := due) h hcl hw (limbOut_length hlen (coreQuad s q) (leAt 4 4 cmd.desc) _ _) (sourcesStay_of_check hs hst)
  refine unitEnds_of_onlyQuad (y := { coreQuad s q with mem := limbsMem f (coreQuad s q) _ _ _ _ _, tags := tags }) hx h hm (hg.trans hrun) hd ⟨rfl, rfl, h.2.2.2⟩ h.2.1 rfl
    ⟨rfl, fun k hk => ?_, fun a ha => ?_⟩
  · rw [limbAt_limbsMem (dst := leAt 8 4 cmd.desc) hlen hw hst hk rfl]
    refine hF _ ?_ (elements_lt 8 _) (hgood k hk)
    rw [limbAt, elements_length (by decide), memRead_length, limbBytes, Nat.mul_div_cancel_left _ (by decide)]
  · exact memByte_writeAll_outside hw (limbOut_length hlen _ _ _ _) fun k hk => ha k (List.mem_range.1 hk)

end

/-! ## FWD and INV -/

section

variable {m psi n : Nat} {l : List Nat} {b : Bytes}

theorem nttLimb_length (inverse : Bool) (m psi n : Nat) (l : List Nat) : (nttLimb inverse m psi n l).length = 2 ^ n := by
  unfold nttLimb
  split
  · split
    · exact nttInv_length ..
    · exact nttFwd_length ..
  · simp

/-- On a prime with a root, and residues below it, the transform is the one that R175 defines. -/
theorem nttLimb_defined (hr : rootOk m psi n = true) (hl : ∀ v ∈ l, v < m) (inverse : Bool) :
    nttLimb inverse m psi n l = if inverse then nttInv m psi n l else nttFwd m psi n l :=
  if_pos ⟨hr, List.all_eq_true.2 fun v hv => decide_eq_true (hl v hv)⟩

/-- FWD with its powers written out. -/
theorem nth_nttFwd_eq_sum {i : Nat} (hm : 0 < m) (hn : n ≤ 17) (hl : l.length = 2 ^ n) (hi : i < 2 ^ n) : nth 0 (nttFwd m psi n l) i =
    ((List.range (2 ^ n)).map fun j => nth 0 l j * psi ^ (j * (2 * brv n i + 1))).sum % m := by
  refine eq_of_cast_eq (nth_lt (nttFwd_lt hm) hm i) (Nat.mod_lt _ hm) ?_
  rw [cast_nttFwd hn hi, ZMod.natCast_mod, Nat.cast_list_sum, List.map_map, hl]
  refine Finset.sum_congr (s₁ := Finset.range (2 ^ n)) rfl fun j _ => ?_
  rw [Function.comp_apply, Nat.cast_mul, Nat.cast_pow, ← pow_mul, Nat.mul_comm j]

theorem of_nlogOk (h : nlogOk n = true) : 15 ≤ n ∧ n ≤ 17 := by
  simpa [nlogOk] using h

/-- What the check of R177 says of the degree, the modulus and the ranges. -/
theorem of_nttOk (h : nttOk b = true) : b.length = 32 ∧ leAt 0 1 b ≤ 1 ∧ nlogOk (leAt 1 1 b) = true ∧ primeForm (leAt 16 8 b) (leAt 1 1 b) = true ∧
    (leAt 4 4 b = leAt 8 4 b ∨ rangesOverlap (leAt 4 4 b) (leAt 8 4 b) (leAt 12 4 b) (leAt 2 1 b) (limbBytes (leAt 1 1 b)) = false) := by
  simp only [nttOk, Bool.and_eq_true, Bool.or_eq_true, Bool.not_eq_true', decide_eq_true_eq, and_assoc] at h
  obtain ⟨hlen, hop, hn, -, -, -, hq, -, -, hs⟩ := h
  exact ⟨hlen, hop, hn, hq, hs⟩

end

/-- FWD and INV transform the limbs of a descriptor that passes R177. -/
theorem ntt_transformsLimbs {s : State} {q : QuadAt} {c : Instr} {cmd : UnitCmd} {r : List UnitCmd} {m : Bytes → Bool} {F : List Nat → List Nat → Prop}
    (hx : exec c s = unitStep s q 3 m nttCommand) (h : UnitAt s q 3 cmd r) (hcl : Clean s q) (hw : Memory.wf (coreQuad s q).mem = true) (hok : nttOk cmd.desc = true)
    (hroot : rootOk (leAt 16 8 cmd.desc) (leAt 24 8 cmd.desc) (leAt 1 1 cmd.desc) = true) (hm : m cmd.desc = true)
    (hF : ∀ l, l.length = 2 ^ leAt 1 1 cmd.desc → F l (if leAt 0 1 cmd.desc = 1 then nttInv (leAt 16 8 cmd.desc) (leAt 24 8 cmd.desc) (leAt 1 1 cmd.desc) l
      else nttFwd (leAt 16 8 cmd.desc) (leAt 24 8 cmd.desc) (leAt 1 1 cmd.desc) l)) :
    TransformsLimbs c s q 3 cmd r (unitCycle s q 3 + 64 + leAt 2 1 cmd.desc * (2 ^ leAt 1 1 cmd.desc / 2) * leAt 1 1 cmd.desc / 32)
      (fun l => ∀ v ∈ l, v < leAt 16 8 cmd.desc) F := by
  obtain ⟨-, -, -, hq, hs⟩ := of_nttOk hok
  obtain ⟨hpos, hlt⟩ := bounds_of_primeForm hq
  refine transformsLimbs_of_limbRun hx h hcl hw hm (if_neg (not_not.2 hok)) hs (nttLimb_length _ _ _ _) fun l hlen _ hres => ?_
  rw [nttLimb_defined hroot hres, map_mod_of_lt]
  · simpa only [decide_eq_true_eq] using hF l hlen
  · intro v hv
    refine Nat.lt_trans ?_ (Nat.lt_trans hlt (by norm_num))
    split at hv
    · exact nttInv_lt (by omega) v hv
    · exact nttFwd_lt (by omega) v hv

end Sys2Proof.Machine

section

open Sys2Proof.Machine

/-- Settles O30: the limbs are transformed in turn, and no destination limb meets a source limb still to be read. -/
theorem nttTransforms : Obligations.NttTransforms := by
  intro s q cmd r h hcl hw hok
  dsimp only
  intro hroot
  obtain ⟨hlen, -, hn, hq, -⟩ := of_nttOk hok
  obtain ⟨hpos, -⟩ := bounds_of_primeForm hq
  refine ⟨fun hop => ?_, fun hop => ?_⟩
  · refine ntt_transformsLimbs exec_fwd h hcl hw hok hroot (by simp [hlen, hop]) fun l hl => ?_
    rw [if_neg (by omega)]
    exact ⟨nttFwd_length .., fun i hi => nth_nttFwd_eq_sum (by omega) (of_nlogOk hn).2 hl hi⟩
  · refine ntt_transformsLimbs exec_inv h hcl hw hok hroot (by simp [hop]) fun l _ => ?_
    rw [if_pos hop]

end

/-! The automorphism unit permutes limbs (05 R179 to R182). -/

namespace Sys2Proof.Machine

section

variable {n g m i j k : Nat} {l : List Nat} {b : Bytes}

theorem autoEval_length (n g : Nat) (l : List Nat) : (autoEval n g l).length = 2 ^ n := by simp [autoEval]

/-- In EVAL form an output takes the input whose odd power the automorphism sends there (05 R179). -/
theorem nth_autoEval (hj : j < 2 ^ n) (hk : k < 2 ^ n) (h : (2 * brv n k + 1) % (2 * 2 ^ n) = (2 * brv n j + 1) * g % (2 * 2 ^ n)) :
    nth 0 (autoEval n g l) j = nth 0 l k := by
  have hlt := brv_lt n k
  rw [Nat.mod_eq_of_lt (by omega)] at h
  rw [autoEval, nth_map_range _ hj, ← h, show (2 * brv n k + 1 - 1) / 2 = brv n k by omega, brv_brv hk]

/-- The value that coefficient `i` gives its place (05 R180). -/
def coefVal (n g q : Nat) (l : List Nat) (i : Nat) : Nat :=
  if i * g % (2 * 2 ^ n) < 2 ^ n then nth 0 l i
  else if nth 0 l i = 0 then 0 else if nth 0 l i < q then q - nth 0 l i else freeRes q (nth 0 l i) i

/-- The place of a coefficient modulo 2N, and below N. -/
theorem coefPlace_eq (n a : Nat) : (if a % (2 * 2 ^ n) < 2 ^ n then a % (2 * 2 ^ n) else a % (2 * 2 ^ n) - 2 ^ n) = a % 2 ^ n := by
  have hlt : a % (2 * 2 ^ n) < 2 * 2 ^ n := Nat.mod_lt _ (by positivity)
  rw [← Nat.mod_mul_left_mod a 2 (2 ^ n)]
  split
  · next h => rw [Nat.mod_eq_of_lt h]
  · next h => rw [Nat.mod_eq_sub_mod (Nat.not_lt.1 h), Nat.mod_eq_of_lt (a := a % (2 * 2 ^ n) - 2 ^ n) (by omega)]

/-- Each coefficient in its place. -/
def placed {α : Type} (pos : Nat → Nat) (val : Nat → α) (l : List α) (k : Nat) : List α := (List.range k).foldl (fun l i => setNth l (pos i) (val i)) l

theorem placed_succ {α : Type} (pos : Nat → Nat) (val : Nat → α) (l : List α) (k : Nat) :
    placed pos val l (k + 1) = setNth (placed pos val l k) (pos k) (val k) := by
  rw [placed, List.range_succ, List.foldl_concat, placed]

theorem placed_length {α : Type} (pos : Nat → Nat) (val : Nat → α) (l : List α) (k : Nat) : (placed pos val l k).length = l.length := by
  induction k with
  | zero => rfl
  | succ k ih => rw [placed_succ, setNth_eq_set, List.length_set, ih]

/-- A value stays where no later one is placed. -/
theorem nth_placed {α : Type} {d : α} {pos : Nat → Nat} {val : Nat → α} {l : List α} (hp : pos i < l.length) (hi : i < k)
    (hinj : ∀ j, i < j → j < k → pos i ≠ pos j) : nth d (placed pos val l k) (pos i) = val i := by
  induction k with
  | zero => omega
  | succ k ih =>
    rw [placed_succ]
    by_cases h : i = k
    · subst h
      exact nth_setNth_self (by rwa [placed_length])
    · rw [nth_setNth_other (hinj k (by omega) (by omega))]
      exact ih (by omega) fun j hj hjk => hinj j hj (by omega)

theorem autoCoef_eq_placed (n g q : Nat) (l : List Nat) :
    autoCoef n g q l = placed (fun i => i * g % 2 ^ n) (coefVal n g q l) (List.replicate (2 ^ n) 0) (2 ^ n) := by
  unfold autoCoef placed
  dsimp only
  congr 1
  funext out i
  rw [← coefPlace_eq, coefVal]
  split <;> rfl

theorem autoCoef_length (n g q : Nat) (l : List Nat) : (autoCoef n g q l).length = 2 ^ n := by
  rw [autoCoef_eq_placed, placed_length, List.length_replicate]

/-- An odd factor keeps residues modulo a power of two apart. -/
theorem mul_odd_ne (hg : g % 2 = 1) (hij : i < j) (hj : j < 2 ^ n) : i * g % 2 ^ n ≠ j * g % 2 ^ n := by
  intro h
  have hcop : Nat.gcd (2 ^ n) g = 1 := Nat.Coprime.pow_left n ((Nat.coprime_two_left).2 (Nat.odd_iff.2 hg))
  have hmod := Nat.ModEq.cancel_right_of_coprime hcop h
  rw [Nat.ModEq, Nat.mod_eq_of_lt (by omega), Nat.mod_eq_of_lt hj] at hmod
  omega

theorem nth_autoCoef (hg : g % 2 = 1) (hi : i < 2 ^ n) : nth 0 (autoCoef n g m l) (i * g % 2 ^ n) = coefVal n g m l i := by
  rw [autoCoef_eq_placed]
  refine nth_placed (pos := fun i => i * g % 2 ^ n) ?_ hi fun j hij hj => mul_odd_ne hg hij hj
  rw [List.length_replicate]
  exact Nat.mod_lt _ (Nat.two_pow_pos n)

/-- The change of sign of a residue. -/
theorem neg_residue {v : Nat} (hv : v < m) : (if v = 0 then 0 else if v < m then m - v else freeRes m v i) = (m - v) % m := by
  split
  · next h => rw [h, Nat.sub_zero, Nat.mod_self]
  · rw [Nat.mod_eq_of_lt (a := m - v) (by omega)]

/-- What the check of R181 says of the exponent and the ranges. -/
theorem of_autoOk (h : autoOk b = true) : b.length = 32 ∧ leAt 24 4 b % 2 = 1 ∧
    rangesOverlap (leAt 4 4 b) (leAt 8 4 b) (leAt 12 4 b) (leAt 2 1 b) (limbBytes (leAt 1 1 b)) = false := by
  simp only [autoOk, Bool.and_eq_true, Bool.not_eq_true', decide_eq_true_eq, and_assoc] at h
  obtain ⟨hlen, -, -, -, -, -, hg, -, -, -, hs⟩ := h
  exact ⟨hlen, hg, hs⟩

/-- A coefficient below N keeps its sign, one beyond has it changed (05 R180). -/
theorem autoCoef_places (hg : g % 2 = 1) (hm : m < 2 ^ 64) (hl : ∀ v ∈ l, v < 2 ^ 64) (hlen : l.length = 2 ^ n) (hres : ∀ v ∈ l, v < m) (hi : i < 2 ^ n) :
    let o := (autoCoef n g m l).map (· % 2 ^ 64)
    if i * g % (2 * 2 ^ n) < 2 ^ n then nth 0 o (i * g % (2 * 2 ^ n)) = nth 0 l i
    else nth 0 o (i * g % (2 * 2 ^ n) - 2 ^ n) = (m - nth 0 l i) % m := by
  have hv : nth 0 l i < m := by
    rw [nth_eq_getElem (hlen ▸ hi)]
    exact hres _ (List.getElem_mem _)
  have hplace := coefPlace_eq n (i * g)
  have hval := nth_autoCoef (m := m) (l := l) hg hi
  dsimp only
  rw [nth_map_mod, nth_map_mod]
  split <;> rename_i h
  · rw [if_pos h] at hplace
    rw [hplace, hval, coefVal, if_pos h, Nat.mod_eq_of_lt (nth_lt hl (by norm_num) i)]
  · rw [if_neg h] at hplace
    rw [hplace, hval, coefVal, if_neg h, neg_residue hv, Nat.mod_eq_of_lt (Nat.lt_trans (Nat.mod_lt _ (by omega)) hm)]

end

end Sys2Proof.Machine

section

open Sys2Proof.Machine

/-- Settles O32: bit reversal is its own inverse, and an odd factor permutes the places of a limb. -/
theorem automorphismsPermute : Obligations.AutomorphismsPermute := by
  intro s q cmd r h hcl hw hok
  dsimp only
  obtain ⟨hlen, hg, hs⟩ := of_autoOk hok
  refine ⟨fun hop => ?_, fun hop => ?_⟩
  · refine transformsLimbs_of_limbRun (g := autoCommand) (f := autoEval (leAt 1 1 cmd.desc) (leAt 24 4 cmd.desc)) exec_automorphismEval h hcl hw (by simp [hlen, hop]) ?_
      (.inr hs) (autoEval_length _ _) fun l _ hl _ => ⟨by rw [List.length_map, autoEval_length], fun j k hj hk hjk => ?_⟩
    · simp [autoCommand, hok, hop]
    · rw [nth_map_mod, nth_autoEval hj hk hjk, Nat.mod_eq_of_lt (nth_lt hl (by norm_num) k)]
  · refine transformsLimbs_of_limbRun (g := autoCommand) (f := autoCoef (leAt 1 1 cmd.desc) (leAt 24 4 cmd.desc) (leAt 16 8 cmd.desc)) exec_automorphismCoef h hcl hw (by simp [hop]) ?_
      (.inr hs) (autoCoef_length _ _ _) fun l hl h64 hres => ⟨by rw [List.length_map, autoCoef_length], fun i hi => ?_⟩
    · simp [autoCommand, hok, hop]
    · exact autoCoef_places hg (leAt_lt 16 8 _) h64 hl hres hi

end

/-! Base extension (05 R183 to R186). -/

namespace Sys2Proof.Machine

/-! ## What the check and the table say -/

section

variable {b : Bytes} {ns nt i j k : Nat} {table : List Nat} {src : Nat → List Nat}

/-- What Table 5.4 says of the operation and the number of sources. -/
theorem of_bextOk (h : bextOk b = true) : leAt 0 1 b = 0 ∧ 1 ≤ leAt 2 1 b := by
  simp only [bextOk, Bool.and_eq_true, decide_eq_true_eq, and_assoc] at h
  obtain ⟨-, hop, -, hs, -⟩ := h
  exact ⟨hop, hs⟩

/-- A target prime of a correct table is above 1. -/
theorem one_lt_target (h : bextTableOk ns nt table = true) (hs : 1 ≤ ns) (hj : j < nt) : 1 < nth 0 table (2 * ns + j) := by
  simp only [bextTableOk, List.all_eq_true, Bool.and_eq_true, decide_eq_true_eq, List.mem_range] at h
  exact ((h 0 hs).2 j hj).1

/-- A target residue (05 R185). -/
def bextSum (ns nt : Nat) (table : List Nat) (src : Nat → List Nat) (j k : Nat) : Nat :=
  ((List.range ns).map fun i => nth 0 (src i) k * nth 0 table (2 * i + 1) % nth 0 table (2 * i) * nth 0 table (2 * ns + nt + i * nt + j)).sum %
    nth 0 table (2 * ns + j)

theorem bextSum_lt (ht : ∀ v ∈ table, v < 2 ^ 64) (h : bextTableOk ns nt table = true) (hs : 1 ≤ ns) (hj : j < nt) : bextSum ns nt table src j k < 2 ^ 64 :=
  Nat.lt_trans (Nat.mod_lt _ (Nat.lt_trans Nat.one_pos (one_lt_target h hs hj))) (nth_lt ht (by norm_num) _)

/-- With source residues below their primes the residue is the one that R185 defines. -/
theorem bextAt_defined (hsrc : ∀ i, i < ns → nth 0 (src i) k < nth 0 table (2 * i)) :
    bextAt ns nt table ((List.range ns).map src) true j k = bextSum ns nt table src j k := by
  have hnth (i : Nat) (hi : i < ns) : nth [] ((List.range ns).map src) i = src i := nth_map_range src hi
  refine (if_pos ⟨rfl, List.all_eq_true.2 fun i hi => ?below⟩).trans ?sum
  case below =>
    simpa only [hnth i (List.mem_range.1 hi), decide_eq_true_eq] using hsrc i (List.mem_range.1 hi)
  case sum =>
    rw [bextSum, List.sum_eq_foldl, List.foldl_map]
    congr 1
    refine List.foldl_ext _ _ _ fun a i hi => ?_
    dsimp only
    rw [hnth i (List.mem_range.1 hi)]

end

/-! ## The run -/

section

variable {s : State} {q : QuadAt} {d : Dev} {y : Quad} {n : Nat} {b : Bytes} {cmd : UnitCmd} {r : List UnitCmd}

/-- The slices that a list of reads gathers. -/
theorem foldl_readSlices_clean (hi : (d.quad n).inj = []) (addr : Nat → Nat) (len : Nat) (ks : List Nat) (l : List (List Nat)) :
    ks.foldl (fun (acc : Bool × List (List Nat) × Dev) i =>
      let g := readQuad acc.2.2 n (addr i) len
      (acc.1 || g.2.1, acc.2.1 ++ [elements 8 g.1], g.2.2)) (false, l, d) = (false, l ++ ks.map (fun i => elements 8 (memRead (d.quad n).mem (addr i) len)), d) := by
  induction ks generalizing l with
  | nil => simp
  | cons k ks ih =>
    rw [List.foldl_cons]
    simp only [readQuad_clean hi, Bool.or_self]
    rw [ih, List.append_assoc]
    rfl

/-- Source slice `i` of a BEXT. -/
def bextSrc (m : Mem) (b : Bytes) (i : Nat) : List Nat := elements 8 (memRead m (leAt 4 4 b + i * leAt 20 4 b) (8 * leAt 16 4 b))

/-- The constant table of a BEXT. -/
def bextTable (m : Mem) (b : Bytes) : List Nat := elements 8 (memRead m (leAt 12 4 b) (16 * leAt 2 1 b + 8 * leAt 3 1 b + 8 * leAt 2 1 b * leAt 3 1 b))

/-- The address of target slice `j`. -/
def bextDst (b : Bytes) (j : Nat) : Nat := leAt 8 4 b + j * leAt 24 4 b

/-- The octets of target slice `j`. -/
def bextOut (m : Mem) (b : Bytes) (j : Nat) : Bytes :=
  ((List.range (leAt 16 4 b)).map fun k => le 8 (bextAt (leAt 2 1 b) (leAt 3 1 b) (bextTable m b) ((List.range (leAt 2 1 b)).map (bextSrc m b))
    (bextTableOk (leAt 2 1 b) (leAt 3 1 b) (bextTable m b)) j k)).flatten

theorem bextOut_length (m : Mem) (b : Bytes) (j : Nat) : (bextOut m b j).length = 8 * leAt 16 4 b := length_flatten_map_le _ _

/-- The memory after a BEXT. -/
def bextMem (m : Mem) (b : Bytes) : Mem := writeAll (bextDst b) (bextOut m b) m (List.range (leAt 3 1 b))

/-- The cycle at which a BEXT completes (05 R186). -/
def bextDue (c : Nat) (b : Bytes) : Nat := c + 64 + (leAt 16 4 b * leAt 2 1 b * (leAt 3 1 b + 1) + 31) / 32

/-- A BEXT writes every target slice, then finishes with status OK. -/
theorem bextCommand_clean (h : UnitAt s q 5 cmd r) (hcl : Clean s q) (hok : bextOk cmd.desc = true) (c : Nat) : ∃ tags tag d,
    bextCommand (s.dev.at q.e) q.quad.toNat c cmd = finishHead d q.quad.toNat 5 stOk 0 (bextDue c cmd.desc) ∧
      OnlyQuad s q { coreQuad s q with
        mem := bextMem (coreQuad s q).mem cmd.desc, tags := tags, units := setNth (coreQuad s q).units 5 ({ cmd with tag := tag } :: r) } d := by
  obtain ⟨-, hl, hu, -⟩ := h
  unfold bextCommand
  dsimp only
  rw [if_neg (not_not.2 hok), coreQuad_at]
  generalize (List.foldl _ _ _ : PTag) = tag
  obtain ⟨tags, htags⟩ := exists_tags_of_tagSpans (coreQuad s q) (bextDst cmd.desc) (8 * leAt 16 4 cmd.desc) tag (List.range (leAt 3 1 cmd.desc))
  simp only [bextDst] at htags
  rw [htags, setHead_of_cons (x := { coreQuad s q with tags := tags }) hu]
  have hstart : OnlyQuad s q { coreQuad s q with tags := tags, units := setNth (coreQuad s q).units 5 ({ cmd with tag := tag } :: r) } _ :=
    onlyQuad_at.setQuad (quad_ne_of_live hl) (quad_ne_of_live hl)
  rw [hstart.readQuad hcl, foldl_readSlices_clean (by rw [hstart.2]; exact hcl), if_neg Bool.false_ne_true, hstart.2]
  exact ⟨tags, tag, _, rfl, hstart.writeQuads (bextDst cmd.desc) (bextOut (coreQuad s q).mem cmd.desc) (List.range (leAt 3 1 cmd.desc)) hcl hl⟩

/-- Target slices do not meet. -/
theorem memRead_bextMem {m : Mem} {j : Nat} (hw : Memory.wf m = true) (h : leAt 3 1 b = 1 ∨ 8 * leAt 16 4 b ≤ leAt 24 4 b) (hj : j < leAt 3 1 b) :
    memRead (bextMem m b) (bextDst b j) (8 * leAt 16 4 b) = bextOut m b j :=
  memRead_writeAll hw (bextOut_length m b) List.pairwise_lt_range (List.mem_range.2 hj) fun k hk hjk => by
    have := limb_before h hjk (List.mem_range.1 hk)
    unfold bextDst
    omega

/-- A residue of a target slice. -/
theorem nth_bextOut {m : Mem} {j k : Nat} (hs : 1 ≤ leAt 2 1 b) (ht : bextTableOk (leAt 2 1 b) (leAt 3 1 b) (bextTable m b) = true)
    (hsrc : ∀ i, i < leAt 2 1 b → ∀ v ∈ bextSrc m b i, v < nth 0 (bextTable m b) (2 * i)) (hj : j < leAt 3 1 b) (hk : k < leAt 16 4 b) :
    nth 0 (elements 8 (bextOut m b j)) k = bextSum (leAt 2 1 b) (leAt 3 1 b) (bextTable m b) (bextSrc m b) j k := by
  have hlen (i : Nat) : (bextSrc m b i).length = leAt 16 4 b := by
    rw [bextSrc, elements_length (by decide), memRead_length, Nat.mul_div_cancel_left _ (by decide)]
  rw [bextOut, nth_elements_flatten_map_le (fun k => bextAt _ _ _ _ _ _ k) hk, ht, bextAt_defined fun i hi => ?_]
  · exact Nat.mod_eq_of_lt (bextSum_lt (elements_lt 8 _) ht hs hj)
  · rw [nth_eq_getElem (by rwa [hlen])]
    exact hsrc i hi _ (List.getElem_mem _)

end

end Sys2Proof.Machine

section

open Sys2Proof.Machine

/-- Settles O33: sources and table are read before the first target is written, and no target meets another. -/
theorem baseExtension : Obligations.BaseExtension := by
  intro s q cmd r h hcl hw hok
  dsimp only
  intro htable hsrc hst
  obtain ⟨hop, hs⟩ := of_bextOk hok
  obtain ⟨tags, tag, d, hrun, hd⟩ := bextCommand_clean h hcl hok (unitCycle s q 5)
  refine unitEnds_of_onlyQuad (y := { coreQuad s q with mem := bextMem (coreQuad s q).mem cmd.desc, tags := tags }) (exec_bext (s := s)) h (by simp [hop]) hrun hd
    ⟨rfl, rfl, h.2.2.2⟩ h.2.1 rfl ⟨rfl, fun j k hj hk => ?_, fun a ha => ?_⟩
  · exact (congrArg (fun bs => nth 0 (elements 8 bs) k) (memRead_bextMem hw hst hj)).trans (nth_bextOut hs htable hsrc hj hk)
  · exact memByte_writeAll_outside hw (bextOut_length _ _) fun j hj => ha j (List.mem_range.1 hj)

end

/-! Key limbs multiplied and expanded (05 R174, R190, R204 to R207, Table 5.8). -/

namespace Sys2Proof.Machine

/-! ## Spans within a page -/

section

variable {d : Dev} {p page off a o len : Nat}

theorem stackParts_within (h : off + len ≤ pageBytes) (hl : 0 < len) : stackParts (page * pageBytes + off) len = [(page * pageBytes + off, len)] := by
  have hbytes : pageBytes = 4194304 := rfl
  simp only [stackParts, hbytes] at *
  rw [show ((page * 4194304 + off) % 4194304 + len + 4194304 - 1) / 4194304 = 1 by omega]
  simp only [List.range_one, List.map_cons, List.map_nil, List.cons.injEq, Prod.mk.injEq, and_true]
  omega

theorem readStack_clean (hi : d.stackInj = []) (a len : Nat) : readStack d a len = (memRead d.stackMem a len, false, d) := by
  unfold readStack injected checkStackWords
  rw [hi]
  rfl

theorem pageAddr_add (h : pageAddr d p page off = some a) (o : Nat) : pageAddr d p page (off + o) = some (a + o) := by
  obtain ⟨x, hx, rfl⟩ := Option.map_eq_some_iff.1 h
  rw [pageAddr, hx, Option.map_some, Nat.add_assoc]

/-- A span within a page that the partition owns is read from that page. -/
theorem readOwned_clean (hi : d.stackInj = []) (ha : pageAddr d p page off = some a) (h : off + o + len ≤ pageBytes) (hl : 0 < len) :
    readOwned d p (page * pageBytes + off + o) len = some (memRead d.stackMem (a + o) len, false, d) := by
  have hpos : 0 < pageBytes := by decide
  have hdiv : (page * pageBytes + (off + o)) / pageBytes = page := by
    rw [Nat.mul_comm, Nat.mul_add_div hpos, Nat.div_eq_of_lt (by omega), Nat.add_zero]
  have hmod : (page * pageBytes + (off + o)) % pageBytes = off + o := by
    rw [Nat.mul_comm, Nat.mul_add_mod, Nat.mod_eq_of_lt (by omega)]
  rw [Nat.add_assoc, readOwned, stackParts_within h hl]
  simp only [List.foldl_cons, List.foldl_nil, Option.bind_some, hdiv, hmod, pageAddr_add ha, Option.map_some, readStack_clean hi, List.nil_append, Bool.or_self]

end

/-! ## A landed key page -/

section

variable (s : State) (q : QuadAt) (b : Bytes) (p page off a : Nat)

/-- The header of the key page at a physical address. -/
abbrev keyHeader : Bytes := memRead s.dev.stackMem a 4096

/-- N_LOG2 of the page. -/
abbrev keyDegree : Nat := leAt 6 1 (keyHeader s a)

/-- Bytes of a limb of the page (05 R174). -/
abbrev keyLimbBytes : Nat := 9 * 2 ^ keyDegree s a / 2

/-- The limb that a descriptor names. -/
def keyLimb : Bytes := memRead s.dev.stackMem (a + 4096 + leAt 2 1 b * keyLimbBytes s a) (keyLimbBytes s a)

/-- The prime of that limb. -/
abbrev keyModulus : Nat := leAt (80 + 8 * leAt 2 1 b) 8 (keyHeader s a)

/-- The b-half residue at place `i` of the command. -/
def keyB (i : Nat) : Nat := pack36 (keyLimb s b a) (leAt 24 4 b + i)

/-- The expanded a-half residue at place `i` of the command (05 R187). -/
def keyA (i : Nat) : Nat :=
  expandA (slice 24 32 (keyHeader s a)) (leAt 20 1 (keyHeader s a)) (leAt (64 + leAt 2 1 b) 1 (keyHeader s a)) (keyDegree s a) (keyModulus s b a) (leAt 24 4 b + i)

/-- A landed key page of the quad's own partition, on which a descriptor passes Table 5.8. -/
structure KeyPage : Prop where
  landed : ((coreQuad s q).fetch.any fun t => decide (t.dst.toNat = leAt 8 8 b)) = false
  owner : (quadOwner s.dev q.quad.toNat).map (·.1) = some p
  named : stackGlobal (leAt 8 8 b) = some (page, off)
  owned : pageAddr s.dev p page off = some a
  stack : s.dev.stackInj = []
  header : slice 0 4 (keyHeader s a) = ascii "ZXKP" ∧ leAt 4 2 (keyHeader s a) = 1 ∧ nlogOk (keyDegree s a) = true ∧
    kmacOk b (keyDegree s a) (leAt 7 1 (keyHeader s a)) = true
  inside : off + 4096 + leAt 7 1 (keyHeader s a) * keyLimbBytes s a ≤ pageBytes
  tenant : leAt 12 4 (keyHeader s a) = tenant s.dev p
  modulus : modulusOk (keyModulus s b a) = true

end

section

variable {s : State} {q : QuadAt} {b : Bytes} {p page off a : Nat}

theorem limb_lt_of_kmacOk {n limbs : Nat} (h : kmacOk b n limbs = true) : leAt 2 1 b < limbs := by
  simp only [kmacOk, Bool.and_eq_true, decide_eq_true_eq, and_assoc] at h
  exact h.2.2.1

theorem keyLimbBytes_pos (s : State) (a : Nat) : 0 < keyLimbBytes s a := by
  have := Nat.two_pow_pos (keyDegree s a)
  unfold keyLimbBytes
  omega

/-- The limb lies within the page. -/
theorem KeyPage.limb_inside (h : KeyPage s q b p page off a) : off + (4096 + leAt 2 1 b * keyLimbBytes s a) + keyLimbBytes s a ≤ pageBytes := by
  have hlt := limb_lt_of_kmacOk h.header.2.2.2
  have hle : (leAt 2 1 b + 1) * keyLimbBytes s a ≤ leAt 7 1 (keyHeader s a) * keyLimbBytes s a := Nat.mul_le_mul_right _ hlt
  have := h.inside
  rw [Nat.succ_mul] at hle
  omega

theorem KeyPage.readHeader (h : KeyPage s q b p page off a) {d : Dev} (hd : d = { s.dev with quads := d.quads, grat := d.grat }) :
    readOwned d p (page * pageBytes + off) 4096 = some (keyHeader s a, false, d) := by
  have := h.inside
  have hread := readOwned_clean (o := 0) (len := 4096) (d := { s.dev with quads := d.quads, grat := d.grat }) h.stack h.owned (by omega) (by decide)
  rw [hd]
  simpa only [Nat.add_zero] using hread

theorem KeyPage.readLimb (h : KeyPage s q b p page off a) {d : Dev} (hd : d = { s.dev with quads := d.quads, grat := d.grat }) :
    readOwned d p (page * pageBytes + off + 4096 + leAt 2 1 b * keyLimbBytes s a) (keyLimbBytes s a) = some (keyLimb s b a, false, d) := by
  rw [hd, Nat.add_assoc _ 4096, keyLimb, Nat.add_assoc a]
  exact readOwned_clean (d := { s.dev with quads := d.quads, grat := d.grat }) h.stack h.owned h.limb_inside (keyLimbBytes_pos s a)

end

/-! ## The command -/

section

variable {s : State} {q : QuadAt} {cmd : UnitCmd} {r : List UnitCmd} {p page off a : Nat}

/-- While an open fetch entry has the page as its destination the command waits (05 R204). -/
theorem kmacCommand_waits {d : Dev} {n c : Nat} (h : ((d.quad n).fetch.any fun t => decide (t.dst.toNat = leAt 8 8 cmd.desc)) = true) : kmacCommand d n c cmd = d :=
  if_pos h

/-- The residues of a digit multiplied by a half of a key limb, onto nothing. -/
def kmacOut (s : State) (a : Nat) (x : Quad) (b : Bytes) (key : Nat → Nat) : Bytes :=
  ((List.range (leAt 28 4 b)).map fun i => le 8 (kmacAt (keyModulus s b a) (nth 0 (elements 8 (memRead x.mem (leAt 4 4 b) (8 * leAt 28 4 b))) i) (key i)
    (nth 0 (elements 8 (zeros (8 * leAt 28 4 b))) i))).flatten

/-- The expanded residues. -/
def expandOut (s : State) (a : Nat) (b : Bytes) : Bytes := ((List.range (leAt 28 4 b)).map fun i => le 8 (keyA s b a i)).flatten

/-- The memory after EXPAND, and after KMAC without ACC. -/
def kmacMem (s : State) (a : Nat) (x : Quad) (b : Bytes) : Mem :=
  if leAt 0 1 b = 4 then memWrite x.mem (leAt 20 4 b) (expandOut s a b)
  else memWrite (memWrite x.mem (leAt 16 4 b) (kmacOut s a x b (keyB s b a))) (leAt 20 4 b) (kmacOut s a x b (keyA s b a))

/-- A unit's quad with its command and some spans tagged. -/
theorem onlyQuad_keyTagged (hu : nth [] (coreQuad s q).units 5 = cmd :: r) (hl : quadLive (coreQuad s q) = true) (tag : PTag) (ks : List Nat) (len : Nat) :
    ∃ tags, OnlyQuad s q { coreQuad s q with tags := tags, units := setNth (coreQuad s q).units 5 ({ cmd with tag := tag } :: r) }
      ((s.dev.at q.e).setQuad q.quad.toNat (ks.foldl (fun x a => tagSpan x a len tag) (setHead (coreQuad s q) 5 { cmd with tag := tag }))) := by
  obtain ⟨tags, htags⟩ := exists_tags_of_tagSpans (setHead (coreQuad s q) 5 { cmd with tag := tag }) id len tag ks
  refine ⟨tags, ?_⟩
  rw [show ks.foldl (fun x a => tagSpan x a len tag) (setHead (coreQuad s q) 5 { cmd with tag := tag }) = _ from htags, setHead_of_cons hu]
  exact onlyQuad_at.setQuad (quad_ne_of_live hl) (quad_ne_of_live hl)

/-- On a landed page the command writes its halves, then finishes with status OK. -/
theorem kmacCommand_clean (h : UnitAt s q 5 cmd r) (hcl : Clean s q) (hp : KeyPage s q cmd.desc p page off a) (hacc : leAt 0 1 cmd.desc ≠ 4 → leAt 3 1 cmd.desc = 0)
    (c : Nat) : ∃ tags tag d, kmacCommand (s.dev.at q.e) q.quad.toNat c cmd = finishHead d q.quad.toNat 5 stOk 0 (c + 64 + leAt 28 4 cmd.desc / 32) ∧
      OnlyQuad s q { coreQuad s q with
        mem := kmacMem s a (coreQuad s q) cmd.desc, tags := tags, units := setNth (coreQuad s q).units 5 ({ cmd with tag := tag } :: r) } d := by
  obtain ⟨-, hl, hu, -⟩ := h
  have howner : ((quadOwner (s.dev.at q.e) q.quad.toNat).map (·.1)).getD 0 = p := congrArg (·.getD 0) hp.owner
  have htenant : ¬ leAt 12 4 (keyHeader s a) ≠ Machine.tenant (s.dev.at q.e) p := not_not.2 hp.tenant
  have hlanded : ¬ ((s.dev.at q.e).quad q.quad.toNat).fetch.any (fun t => decide (t.dst.toNat = leAt 8 8 cmd.desc)) = true := Bool.eq_false_iff.1 hp.landed
  have hheader := hp.readHeader (d := s.dev.at q.e) rfl
  have hlimb := fun d => hp.readLimb (d := d)
  generalize he : kmacCommand (s.dev.at q.e) q.quad.toNat c cmd = e
  replace he := (if_neg hlanded).symm.trans he
  have hnamed := hp.named
  -- With `readOwned` and `stackGlobal` as variables the checker does not evaluate their arithmetic of 4 MiB pages and 2^62.
  obtain ⟨R, hR⟩ : ∃ R, readOwned = R := ⟨_, rfl⟩
  obtain ⟨G, hG⟩ : ∃ G, stackGlobal = G := ⟨_, rfl⟩
  rw [hR] at he hheader
  simp only [hR] at hlimb
  rw [hG] at he hnamed
  rw [howner, hnamed] at he
  dsimp only at he
  rw [hheader] at he
  dsimp only at he
  rw [if_neg Bool.false_ne_true, if_neg (not_not.2 hp.header), if_neg htenant] at he
  by_cases hop : leAt 0 1 cmd.desc = 4
  · simp only [hop, decide_true, if_true, hp.modulus, coreQuad_at] at he
    generalize (cmd.tag ||| _ ||| _ ||| _ : PTag) = tag at he
    obtain ⟨tags, hd⟩ := onlyQuad_keyTagged hu hl tag [leAt 20 4 cmd.desc] (8 * leAt 28 4 cmd.desc)
    simp only [List.foldl_cons, List.foldl_nil] at hd
    refine ⟨tags, tag, _, he.symm, ?_⟩
    rw [kmacMem, if_pos hop]
    exact hd.writeQuad hcl hl _ _
  · simp only [hop, hacc hop, decide_false, Bool.false_eq_true, if_false, coreQuad_at, Nat.zero_ne_one] at he
    generalize (cmd.tag ||| _ ||| _ ||| _ : PTag) = tag at he
    obtain ⟨tags, hd⟩ := onlyQuad_keyTagged hu hl tag [leAt 20 4 cmd.desc, leAt 16 4 cmd.desc] (8 * leAt 28 4 cmd.desc)
    simp only [List.foldl_cons, List.foldl_nil] at hd
    rw [hlimb _ rfl] at he
    dsimp only at he
    rw [hd.readQuad hcl] at he
    replace he := (if_neg Bool.false_ne_true).symm.trans he
    refine ⟨tags, tag, _, he.symm, ?_⟩
    rw [kmacMem, if_neg hop]
    exact (hd.writeQuad hcl hl _ _).writeQuad hcl hl _ _

end

/-! ## What the halves hold -/

section

variable {s : State} {q : QuadAt} {x : Quad} {b : Bytes} {a i : Nat} {m : Mem}

theorem elements_zeros (n : Nat) : elements 8 (zeros (8 * n)) = List.replicate n 0 := by
  have hzeros : zeros (8 * n) = wideBytes (List.replicate n 0) := by
    rw [wideBytes, List.map_replicate, show le 8 0 = List.replicate 8 0 by decide, List.flatten_replicate_replicate, Nat.mul_comm]
    rfl
  rw [hzeros, elements_wideBytes, List.map_replicate, Nat.zero_mod]

/-- A product onto nothing, of residues below the modulus. -/
theorem kmacAt_zero {p d k : Nat} (hp : modulusOk p = true) (hd : d < p) (hk : k < p) : kmacAt p d k 0 = d * k % p := by
  have hall : (modulusOk p && [d, k, 0].all fun x => decide (x < p)) = true := by
    simp only [hp, List.all_cons, List.all_nil, hd, hk, Nat.zero_lt_of_lt hd, decide_true, Bool.and_self]
  refine (if_pos hall).trans ?_
  rw [Nat.cast_zero, zero_add, ← Nat.cast_mul, ← Int.natCast_emod, Int.toNat_natCast]

/-- A residue of a half that KMAC writes. -/
theorem nth_kmacOut {key : Nat → Nat} {t : Nat} (hw : Memory.wf m = true) (hp : modulusOk (keyModulus s b a) = true) (hi : i < leAt 28 4 b)
    (hd : nth 0 (elements 8 (memRead x.mem (leAt 4 4 b) (8 * leAt 28 4 b))) i < keyModulus s b a) (hk : key i < keyModulus s b a) :
    nth 0 (elements 8 (memRead (memWrite m t (kmacOut s a x b key)) t (8 * leAt 28 4 b))) i =
      nth 0 (elements 8 (memRead x.mem (leAt 4 4 b) (8 * leAt 28 4 b))) i * key i % keyModulus s b a := by
  have hlt : keyModulus s b a < 2 ^ 64 := leAt_lt _ 8 _
  have hzero : nth 0 (elements 8 (zeros (8 * leAt 28 4 b))) i = 0 := by
    rw [elements_zeros, nth, List.getD_replicate _ hi]
  rw [kmacOut, nth_elements_memWrite (fun i => kmacAt _ _ _ _) hw hi, hzero, kmacAt_zero hp hd hk, Nat.mod_eq_of_lt (Nat.lt_trans (Nat.mod_lt _ (by omega)) hlt)]

/-- KMAC's b-half stays when the a-half is written after it. -/
theorem memRead_kmacMem (hw : Memory.wf x.mem = true) (hop : leAt 0 1 b ≠ 4) (h : Apart (8 * leAt 28 4 b) (leAt 16 4 b) (leAt 20 4 b)) :
    memRead (kmacMem s a x b) (leAt 16 4 b) (8 * leAt 28 4 b) =
      memRead (memWrite x.mem (leAt 16 4 b) (kmacOut s a x b (keyB s b a))) (leAt 16 4 b) (8 * leAt 28 4 b) := by
  rw [kmacMem, if_neg hop]
  refine memRead_congr fun i hi => memByte_memWrite_outside (memWrite_wf hw) ?_
  rw [kmacOut, length_flatten_map_le]
  rcases h with h | h <;> omega

end

theorem exec_kmac {s : State} {q : QuadAt} : exec (.kmac q) s = execKmac q s := rfl

theorem exec_expand {s : State} {q : QuadAt} : exec (.expand q) s = execExpand q s := rfl

section

variable {s : State} {q : QuadAt} {cmd : UnitCmd} {r : List UnitCmd} {p page off a : Nat}

/-- EXPAND writes the expanded residues (05 R206, R207). -/
theorem expand_ends (h : UnitAt s q 5 cmd r) (hcl : Clean s q) (hw : Memory.wf (coreQuad s q).mem = true) (hlen : cmd.desc.length = 32)
    (hp : KeyPage s q cmd.desc p page off a) (hop : leAt 0 1 cmd.desc = 4) :
    UnitEnds (.expand q) s q 5 cmd r 0 0 (unitCycle s q 5 + 64 + leAt 28 4 cmd.desc / 32) fun y => MemTags (coreQuad s q) y ∧
      (∀ i, i < leAt 28 4 cmd.desc → nth 0 (elements 8 (memRead y.mem (leAt 20 4 cmd.desc) (8 * leAt 28 4 cmd.desc))) i = keyA s cmd.desc a i % 2 ^ 64) ∧
      ∀ i, i < leAt 20 4 cmd.desc ∨ leAt 20 4 cmd.desc + 8 * leAt 28 4 cmd.desc ≤ i → memByte y.mem i = memByte (coreQuad s q).mem i := by
  obtain ⟨tags, tag, d, hrun, hd⟩ := kmacCommand_clean h hcl hp (absurd hop) (unitCycle s q 5)
  refine unitEnds_of_onlyQuad (y := { coreQuad s q with mem := kmacMem s a (coreQuad s q) cmd.desc, tags := tags }) exec_expand h (by simp [hlen, hop]) hrun hd
    ⟨rfl, rfl, h.2.2.2⟩ h.2.1 rfl ⟨rfl, fun i hi => ?_, fun i hi => ?_⟩
  all_goals simp only [kmacMem, if_pos hop, expandOut]
  · exact nth_elements_memWrite (keyA s cmd.desc a) hw hi
  · exact memByte_memWrite_outside hw (by rwa [length_flatten_map_le])

/-- KMAC without ACC writes the digit times the two halves of the key limb (05 R204, R205). -/
theorem kmac_ends (h : UnitAt s q 5 cmd r) (hcl : Clean s q) (hw : Memory.wf (coreQuad s q).mem = true) (hlen : cmd.desc.length = 32)
    (hp : KeyPage s q cmd.desc p page off a) (hop : leAt 0 1 cmd.desc = 2) (hacc : leAt 3 1 cmd.desc = 0)
    (hapart : Apart (8 * leAt 28 4 cmd.desc) (leAt 16 4 cmd.desc) (leAt 20 4 cmd.desc))
    (hres : ∀ i, i < leAt 28 4 cmd.desc → nth 0 (elements 8 (memRead (coreQuad s q).mem (leAt 4 4 cmd.desc) (8 * leAt 28 4 cmd.desc))) i < keyModulus s cmd.desc a ∧
      keyB s cmd.desc a i < keyModulus s cmd.desc a ∧ keyA s cmd.desc a i < keyModulus s cmd.desc a) :
    UnitEnds (.kmac q) s q 5 cmd r 0 0 (unitCycle s q 5 + 64 + leAt 28 4 cmd.desc / 32) fun y => MemTags (coreQuad s q) y ∧
      (∀ i, i < leAt 28 4 cmd.desc → nth 0 (elements 8 (memRead y.mem (leAt 16 4 cmd.desc) (8 * leAt 28 4 cmd.desc))) i =
        nth 0 (elements 8 (memRead (coreQuad s q).mem (leAt 4 4 cmd.desc) (8 * leAt 28 4 cmd.desc))) i * keyB s cmd.desc a i % keyModulus s cmd.desc a) ∧
      (∀ i, i < leAt 28 4 cmd.desc → nth 0 (elements 8 (memRead y.mem (leAt 20 4 cmd.desc) (8 * leAt 28 4 cmd.desc))) i =
        nth 0 (elements 8 (memRead (coreQuad s q).mem (leAt 4 4 cmd.desc) (8 * leAt 28 4 cmd.desc))) i * keyA s cmd.desc a i % keyModulus s cmd.desc a) ∧
      ∀ i, (i < leAt 16 4 cmd.desc ∨ leAt 16 4 cmd.desc + 8 * leAt 28 4 cmd.desc ≤ i) → (i < leAt 20 4 cmd.desc ∨ leAt 20 4 cmd.desc + 8 * leAt 28 4 cmd.desc ≤ i) →
        memByte y.mem i = memByte (coreQuad s q).mem i := by
  have hne : leAt 0 1 cmd.desc ≠ 4 := by omega
  obtain ⟨tags, tag, d, hrun, hd⟩ := kmacCommand_clean h hcl hp (fun _ => hacc) (unitCycle s q 5)
  refine unitEnds_of_onlyQuad (y := { coreQuad s q with mem := kmacMem s a (coreQuad s q) cmd.desc, tags := tags }) exec_kmac h (by simp [hlen, hop]) hrun hd
    ⟨rfl, rfl, h.2.2.2⟩ h.2.1 rfl ⟨rfl, fun i hi => ?_, fun i hi => ?_, fun i hb ha => ?_⟩
  · obtain ⟨hdigit, hkey, -⟩ := hres i hi
    dsimp only
    rw [memRead_kmacMem hw hne hapart]
    exact nth_kmacOut hw hp.modulus hi hdigit hkey
  · obtain ⟨hdigit, -, hkey⟩ := hres i hi
    simp only [kmacMem, if_neg hne]
    exact nth_kmacOut (memWrite_wf hw) hp.modulus hi hdigit hkey
  · simp only [kmacMem, if_neg hne]
    exact (memByte_memWrite_outside (memWrite_wf hw) (by rwa [kmacOut, length_flatten_map_le])).trans
      (memByte_memWrite_outside hw (by rwa [kmacOut, length_flatten_map_le]))

end

end Sys2Proof.Machine

section

open Sys2Proof.Machine

/-- Settles O35: the page is read through the partition's own map, and digit and key before the first half is written. -/
theorem keyMultiplyAndExpand : Obligations.KeyMultiplyAndExpand := by
  intro s q cmd r p l page off a h hlen
  dsimp only
  refine fun _ => ⟨fun hopen => ⟨fun hop => ?_, fun hop => ?_⟩,
    fun hlanded howner hnamed howned _ hcl hstack hw hmagic hversion hdegree hok hinside htenant hmod => ?_⟩
  · exact does_onUnit (exec_kmac.trans (unitStep_runs h (by simp [hlen, hop]))) (kmacCommand_waits hopen)
  · exact does_onUnit (exec_expand.trans (unitStep_runs h (by simp [hlen, hop]))) (kmacCommand_waits hopen)
  · have hp : KeyPage s q cmd.desc p page off a :=
      ⟨hlanded, by rw [howner]; rfl, hnamed, howned, hstack, ⟨hmagic, hversion, hdegree, hok⟩, hinside, htenant, hmod⟩
    exact ⟨expand_ends h hcl hw hlen hp, fun hop hacc hapart hres => kmac_ends h hcl hw hlen hp hop hacc hapart hres⟩

end

/-! What a restart writes in LAST_RECOVERY when the checkpoint's own beat has lost its frame (07 R310, R311, Table 7.6). -/

namespace Sys2Proof.Machine

/-- Partition 7 halted in tick 5,150 and loaded by tick 5,160, in tick 5,200, with a complete checkpoint of beat 8. The frame
that fed beat 8 of its strip 5 stands in the landing ring no more. -/
def ringLeftState : State := { dev := {
  grat := { everLocked := true, state := .locked, tick := 5200 }
  quads := [(0, { st := .loaded })]
  parts := [(7, {
    st := .recovering, quadMap := [0], loaded := [0], begun := true, haltAt := 5150 * 4096, loadedAt := 5160 * 4096, cause := 0x51
    ckpt0 := some { instant := 5120 * 4096, beat := 8, complete := true, strips := [] } })]
  strips := [(5, { st := .recovering, partition := 7 })]
  stripTx := [(5, { feeds := [(8, some { beat := 8, kind := 0, slot := 0, fseq := 3, present := 0, eot := 0, landed := 0 })] })] } }

/-- Partition 7 as it stands there. -/
abbrev ringLeftPartition : Partition := ringLeftState.dev.partition 7

/-- Lost frames, byte 3 of LAST_RECOVERY (07 Table 7.6), after a command that answers a next state. -/
def lostFramesAfter (c : Instr) (s : State) (p : Nat) : Option Byte :=
  match exec c s with
  | .next t => some (nth 0 (t.dev.partition p).lastRecovery 3)
  | _ => none

theorem lostFramesAfter_next {c : Instr} {s t : State} (h : exec c s = .next t) (p : Nat) :
    lostFramesAfter c s p = some (nth 0 (t.dev.partition p).lastRecovery 3) := by
  rw [lostFramesAfter, h]

/-- The restart opens beat 8, finds its frame lost, and counts it in the record that it has just written. -/
theorem lostFramesAfter_restart : lostFramesAfter (.partitionRestart 0 7) ringLeftState 7 = some 1 := by decide +kernel

/-- The record made before the beat opens counts no lost frame. -/
theorem recoveryRecord_ringLeft : nth 0 (recoveryRecord ringLeftPartition (restartAt ringLeftPartition) 8) 3 = 0 := by decide +kernel

/-- The restart is due: the partition is recovering, loaded, and past the edge of R307. -/
theorem restart_due_ringLeft : PartTables ringLeftState ∧ allLoaded ringLeftPartition = true ∧
    reached (ringLeftState.dev.at 0) (restartAt ringLeftPartition) = true ∧
    newestCkpt ((completeCkpt (ringLeftState.dev.at 0) 7).partition 7) = some (0, { instant := 5120 * 4096, beat := 8, complete := true, strips := [] }) := by
  unfold PartTables
  decide +kernel

end Sys2Proof.Machine

section

open Sys2Proof.Machine

/-- Refutes O40: LAST_RECOVERY is not the record made before the restart's beat opens. A frame lost at that beat is counted in
byte 3 of the record (07 R310, R311, Table 7.6): in `ringLeftState` it reads 1 where the statement has 0. -/
theorem not_partitionsLoadRunAndStop : ¬ Obligations.PartitionsLoadRunAndStop := by
  intro h
  obtain ⟨htables, hloaded, hreached, hckpt⟩ := restart_due_ringLeft
  obtain ⟨-, -, -, -, -, -, -, -, -, hrestart, -⟩ := h ringLeftState 0 7 htables (by decide)
  obtain ⟨t, hexec, -, -, -, -, -, -, hrecord, -⟩ := hrestart 0 _ rfl rfl hloaded hreached rfl hckpt
  have hlost := lostFramesAfter_restart
  rw [lostFramesAfter_next hexec, hrecord, recoveryRecord_ringLeft] at hlost
  exact absurd hlost (by decide)

end

/-! Partitions and strips under raises, stack memory and packets: a recovery that a raise makes due is all that these change of a
partition, and of a strip nothing (16 R616, 07 R302). -/

namespace Sys2Proof.Machine

/-! ## Partitions and strips read back -/

section

variable {d x y : Dev} {p k : Nat}

theorem Dev.partition_setPartition_self (w : tabWf {} d.parts = true) (v : Partition) : (d.setPartition p v).partition p = v :=
  tabGet_tabSet_self_wf w

theorem Dev.partition_setPartition_of_ne {v : Partition} (h : v ≠ {}) : (d.setPartition p v).partition p = v := tabGet_tabSet_self h

theorem Dev.strip_setStrip_self (w : tabWf {} d.strips = true) (v : Strip) : (d.setStrip k v).strip k = v := tabGet_tabSet_self_wf w

theorem Dev.strip_setStrip_other (w : tabWf {} d.strips = true) {j : Nat} (h : j ≠ k) (v : Strip) : (d.setStrip k v).strip j = d.strip j :=
  tabGet_tabSet_other_wf w h

@[simp] theorem updStrip_parts (f : Strip → Strip) : (updStrip d k f).parts = d.parts := rfl

@[simp] theorem updPart_strips (f : Partition → Partition) : (updPart d p f).strips = d.strips := rfl

@[simp] theorem updPart_stackMem (f : Partition → Partition) : (updPart d p f).stackMem = d.stackMem := rfl

theorem partition_updPart_self (w : tabWf {} d.parts = true) (f : Partition → Partition) : (updPart d p f).partition p = f (d.partition p) :=
  Dev.partition_setPartition_self w _

theorem strip_updStrip_self (w : tabWf {} d.strips = true) (f : Strip → Strip) : (updStrip d k f).strip k = f (d.strip k) :=
  Dev.strip_setStrip_self w _

theorem strip_updStrip_other (w : tabWf {} d.strips = true) {j : Nat} (h : j ≠ k) (f : Strip → Strip) : (updStrip d k f).strip j = d.strip j :=
  Dev.strip_setStrip_other w h _

theorem updStrip_wf (w : tabWf {} d.strips = true) (f : Strip → Strip) : tabWf {} (updStrip d k f).strips = true := tabSet_wf w

/-! ## The strips that a list names, all changed alike -/

variable {β : Type} {key : β → Nat} {f : Strip → Strip} {l : List β}

/-- The strips that a list names changed one after another. -/
def updStrips (d : Dev) (key : β → Nat) (f : Strip → Strip) (l : List β) : Dev := l.foldl (fun d b => updStrip d (key b) f) d

/-- What no change of one strip touches, the changes of several leave as it was. -/
theorem updStrips_leaves {α : Type} {g : Dev → α} (hg : ∀ x k, g (updStrip x k f) = g x) : g (updStrips d key f l) = g d :=
  List.foldlRecOn (motive := fun x : Dev => g x = g d) l _ rfl fun _ h _ _ => (hg _ _).trans h

/-- What the change brings about in every strip stays through later changes. -/
theorem updStrips_keeps {P : Strip → Prop} (hf : ∀ v, P (f v)) (w : tabWf {} d.strips = true) (h : P (d.strip k)) : P ((updStrips d key f l).strip k) := by
  induction l generalizing d with
  | nil => exact h
  | cons b r ih =>
    refine ih (updStrip_wf w f) ?_
    by_cases hk : k = key b
    · rw [hk, strip_updStrip_self w]
      exact hf _
    · rwa [strip_updStrip_other w hk]

theorem updStrips_strip {P : Strip → Prop} (hf : ∀ v, P (f v)) (w : tabWf {} d.strips = true) : ∀ b ∈ l, P ((updStrips d key f l).strip (key b)) := by
  induction l generalizing d with
  | nil => simp
  | cons a r ih =>
    intro b hb
    rcases List.mem_cons.1 hb with rfl | hb
    · refine updStrips_keeps (d := updStrip d (key b) f) hf (updStrip_wf w f) ?_
      rw [strip_updStrip_self w]
      exact hf _
    · exact ih (updStrip_wf w f) b hb

end

/-! ## Raises that name no quad -/

section

variable {d x y : Dev} {r : Raise}

/-- Of a partition nothing but the halt that it owes changes, and no strip. -/
def PartsKeepButHalt (d x : Dev) : Prop := x.strips = d.strips ∧ ∀ p, ∃ due, x.partition p = { d.partition p with haltDue := due }

theorem partsKeepButHalt_of_eq (hp : x.parts = d.parts) (hs : x.strips = d.strips) : PartsKeepButHalt d x :=
  ⟨hs, fun p => ⟨(d.partition p).haltDue, congrArg (fun t => tabGet ({} : Partition) t p) hp⟩⟩

theorem PartsKeepButHalt.refl : PartsKeepButHalt d d := partsKeepButHalt_of_eq rfl rfl

theorem PartsKeepButHalt.trans (h : PartsKeepButHalt d x) (k : PartsKeepButHalt x y) : PartsKeepButHalt d y :=
  ⟨k.1.trans h.1, fun p => by
    obtain ⟨due, hx⟩ := h.2 p
    obtain ⟨due', hy⟩ := k.2 p
    exact ⟨due', by rw [hy, hx]⟩⟩

theorem PartsKeepButHalt.pages (h : PartsKeepButHalt d x) (p : Nat) : (x.partition p).pages = (d.partition p).pages := by
  obtain ⟨due, hx⟩ := h.2 p
  rw [hx]

theorem DeviceRaiseKeeps.partsKeepButHalt (h : DeviceRaiseKeeps d x) : PartsKeepButHalt d x :=
  partsKeepButHalt_of_eq (by rw [h]) (by rw [h])

theorem partsKeepButHalt_recoveryDue (p s : Nat) (t : Stamp) : PartsKeepButHalt d (recoveryDue d p s t) := by
  simp only [recoveryDue]
  split
  · refine ⟨rfl, fun n => ?_⟩
    have hne : ({ d.partition p with haltDue := some (t, BitVec.ofNat 8 s) } : Partition) ≠ {} := fun h => Option.some_ne_none _ (congrArg Partition.haltDue h)
    by_cases hn : n = p
    · exact ⟨_, by rw [hn, Dev.partition_setPartition_of_ne hne]⟩
    · exact ⟨(d.partition n).haltDue, tabGet_tabSet_other hne hn⟩
  · exact .refl

theorem attribution_ne_quad (h : r.quad = none) (n : Nat) : attribution r ≠ .quad n := by
  unfold attribution
  rw [h]
  split
  · split <;> simp_all
  · split
    · split <;> simp
    · simp

theorem partsKeepButHalt_isolate (h : r.quad = none) (t : Stamp) : PartsKeepButHalt d (isolate d r t) := by
  unfold isolate
  split
  · exact .refl
  · exact partsKeepButHalt_recoveryDue _ _ _
  · next n hn => exact absurd hn (attribution_ne_quad h n)

theorem partsKeepButHalt_raise (h : r.quad = none) : PartsKeepButHalt d (raise d r) := by
  rcases raise_isolates d r with k | ⟨p, t, hp, k⟩
  · exact k.partsKeepButHalt
  · exact (hp.partsKeepButHalt.trans (partsKeepButHalt_isolate h t)).trans k.partsKeepButHalt

end

/-! ## Stack memory read and written -/

section

variable {d x y : Dev} {p page off a : Nat} {bs : Bytes}

/-- A read of stack memory: no octet of it changes, and of the partitions the halts that they owe at most. -/
def StackReadKeeps (d x : Dev) : Prop := PartsKeepButHalt d x ∧ x.stackMem = d.stackMem

theorem StackReadKeeps.trans (h : StackReadKeeps d x) (k : StackReadKeeps x y) : StackReadKeeps d y := ⟨h.1.trans k.1, k.2.trans h.2⟩

theorem stackReadKeeps_checkStackWord (w : Nat × Nat) : StackReadKeeps d (checkStackWord d w).2 := by
  unfold checkStackWord raiseStack
  split
  · exact StackReadKeeps.trans (x := { d with stackInj := tabSet 0 d.stackInj w.1 0 }) ⟨partsKeepButHalt_of_eq rfl rfl, rfl⟩
      ⟨partsKeepButHalt_raise rfl, raise_stackMem _⟩
  · exact StackReadKeeps.trans ⟨partsKeepButHalt_raise rfl, raise_stackMem _⟩ ⟨(deviceRaiseKeeps_setCause _ _).partsKeepButHalt, rfl⟩

theorem stackReadKeeps_checkStackWords (ws : List (Nat × Nat)) : StackReadKeeps d (checkStackWords d ws).2 :=
  List.foldlRecOn (motive := fun acc : Bool × Dev => StackReadKeeps d acc.2) ws _ ⟨.refl, rfl⟩
    fun _ h w _ => h.trans (stackReadKeeps_checkStackWord w)

theorem stackReadKeeps_pageBytesOf (len : Nat) : StackReadKeeps d (pageBytesOf d p page off len).2 := by
  unfold pageBytesOf
  split
  · simp only [stackBytes]
    split
    · exact (stackReadKeeps_checkStackWords _).trans ⟨partsKeepButHalt_of_eq rfl rfl, rfl⟩
    · exact stackReadKeeps_checkStackWords _
  · exact ⟨.refl, rfl⟩

theorem stackReadKeeps_dropStackInj (gone : Nat × Nat → Bool) : StackReadKeeps d (dropStackInj d gone) := by
  simp only [dropStackInj]
  split
  · exact ⟨partsKeepButHalt_of_eq rfl rfl, rfl⟩
  · split
    · exact ⟨partsKeepButHalt_of_eq rfl rfl, rfl⟩
    · exact ⟨partsKeepButHalt_of_eq rfl rfl, rfl⟩

/-- A write of stack memory writes its octets; of the partitions only halts that they owe change. -/
theorem writeStack_keeps : PartsKeepButHalt d (writeStack d a bs) ∧ (writeStack d a bs).stackMem = memWrite d.stackMem a bs := by
  unfold writeStack storeStack
  extract_lets hit part r
  have hr : StackReadKeeps d r.2 := stackReadKeeps_checkStackWords _
  have hw := stackReadKeeps_dropStackInj (d := { r.2 with stackMem := memWrite r.2.stackMem a bs }) fun w => decide (w.1 ∈ hit.map (·.1))
  exact ⟨(hr.1.trans (partsKeepButHalt_of_eq rfl rfl)).trans hw.1, hw.2.trans (by rw [← hr.2])⟩

theorem writePage_keeps : PartsKeepButHalt d (writePage d p page off bs) := by
  unfold writePage
  split
  · exact writeStack_keeps.1
  · exact .refl

theorem writePage_stackMem (h : pageAddr d p page off = some a) : (writePage d p page off bs).stackMem = memWrite d.stackMem a bs := by
  unfold writePage
  rw [h]
  exact writeStack_keeps.2

end

/-! ## Packets -/

section

variable {d : Dev}

/-- A packet handed on or sent touches no partition, no strip and no octet of stack memory (10 R419 to R422). -/
theorem sendPacket_keeps (cls : PktClass) (kind : PktKind) (dst dpart spart : Nat) (tag : BitVec 16) (payload : Bytes) :
    let x := sendPacket d cls kind dst dpart spart tag payload
    x.parts = d.parts ∧ x.strips = d.strips ∧ x.stackMem = d.stackMem := by
  by_cases h : dst = deviceNumber d
  · simp only [sendPacket, if_pos h]
    cases kind <;> exact ⟨rfl, rfl, rfl⟩
  · have hk := (sendKeeps_sendPacket h cls kind dpart spart tag payload).1
    exact ⟨by rw [hk], hk.strips, hk.stackMem⟩

theorem partsKeepButHalt_sendRequestPacket (kind : PktKind) (dst dpart spart : Nat) (tag : BitVec 16) (payload : Bytes) :
    PartsKeepButHalt d (sendRequestPacket d kind dst dpart spart tag payload) := by
  simp only [sendRequestPacket]
  have hp := fun z : Dev => sendPacket_keeps (d := z) .req kind dst dpart spart tag payload
  split
  · exact partsKeepButHalt_of_eq (hp d).1 (hp d).2.1
  · exact partsKeepButHalt_of_eq ((hp _).1.trans rfl) ((hp _).2.1.trans rfl)

end

end Sys2Proof.Machine

/-! ABORT: the write of one entry of a strip's, and its sessions slot by slot (07 R288 to R291; 13 R520). -/

namespace Sys2Proof.Machine

/-! ## Slots -/

section

variable {stamp : Stamp} {ord n j : Nat} {x y z : Strip} {l : List Nat} {v : Byte} {t : Session}

/-- Two strips have the same session and status in a slot. -/
def SameSlot (x y : Strip) (n : Nat) : Prop := sessionOf y n = sessionOf x n ∧ nth 0 y.abortStatus n = nth 0 x.abortStatus n

theorem sameSlot_setStatus (h : j ≠ n) (v : Byte) : SameSlot x (x.setStatus n v) j := ⟨rfl, nth_setNth_other h⟩

theorem sameSlot_setSession (ht : t ≠ {}) (h : j ≠ n) : SameSlot x (x.setSession n t) j := ⟨tabGet_tabSet_other ht h, rfl⟩

theorem nth_setStatus (h : n < x.abortStatus.length) (v : Byte) : nth 0 (x.setStatus n v).abortStatus n = v := nth_setNth_self h

theorem length_setStatus (v : Byte) : (x.setStatus n v).abortStatus.length = x.abortStatus.length := by simp [Strip.setStatus, setNth_eq_set]

/-- A session aborted is not the session that an empty slot reads as. -/
theorem aborted_ne_default (t : Session) (stamp : Stamp) (ord : Nat) :
    ({ t with st := .aborted, abortAt := stamp, abortOrd := ord, cleared := false } : Session) ≠ {} :=
  fun h => SessState.noConfusion (congrArg Session.st h)

theorem sameSlot_abortSlot (h : j ≠ n) : SameSlot x (abortSlot stamp ord x n) j := by
  simp only [abortSlot]
  split
  · exact sameSlot_setStatus h _
  · split
    · exact sameSlot_setStatus h _
    · split
      · exact sameSlot_setStatus h _
      · exact ⟨(sameSlot_setSession (aborted_ne_default _ _ _) h).1, nth_setNth_other h⟩

theorem length_abortSlot : (abortSlot stamp ord x n).abortStatus.length = x.abortStatus.length := by
  simp only [abortSlot]
  split
  · exact length_setStatus _
  · split
    · exact length_setStatus _
    · split
      · exact length_setStatus _
      · exact length_setStatus (x := x.setSession n _) _

theorem holds_eq_false_iff (t : Session) : ¬ t.holds = true ↔ t.st ≠ .active ∧ t.ctx = none := by
  simp [Session.holds]

/-- The slot that an abort names answers as Table 7.8 has it. -/
theorem abortedSlot_abortSlot (h : n < x.abortStatus.length) : AbortedSlot stamp ord true x (abortSlot stamp ord x n) n := by
  unfold AbortedSlot
  simp only [Bool.true_eq_false, if_false, ← holds_eq_false_iff]
  unfold abortSlot
  simp only [List.isEmpty_iff]
  split
  · exact ⟨rfl, nth_setStatus h _⟩
  · split
    · exact ⟨rfl, nth_setStatus h _⟩
    · split
      · exact ⟨rfl, nth_setStatus h _⟩
      · exact ⟨tabGet_tabSet_self (aborted_ne_default _ _ _), nth_setStatus (x := x.setSession n _) h _⟩

/-- The answer of a slot turns on that slot alone, before and after. -/
theorem AbortedSlot.congr {named : Bool} (h : AbortedSlot stamp ord named x y n) {w : Strip} (hx : SameSlot z x n) (hy : SameSlot y w n) :
    AbortedSlot stamp ord named z w n := by
  unfold AbortedSlot at *
  rwa [hy.1, hy.2, ← hx.1, ← hx.2]

theorem sameSlot_of_not_named (h : AbortedSlot stamp ord false x y n) : SameSlot x y n := by
  unfold AbortedSlot at h
  exact h

theorem abortedSlot_of_sameSlot (h : SameSlot x y n) : AbortedSlot stamp ord false x y n := by
  unfold AbortedSlot
  exact h

/-- Slots aborted one after another: each named one answers, and no other changes. -/
theorem abortedSlot_foldl (hl : l.Nodup) (hlen : ∀ i ∈ l, i < x.abortStatus.length) (n : Nat) :
    AbortedSlot stamp ord (decide (n ∈ l)) x (l.foldl (abortSlot stamp ord) x) n := by
  induction l generalizing x with
  | nil => exact abortedSlot_of_sameSlot ⟨rfl, rfl⟩
  | cons a r ih =>
    obtain ⟨har, hr⟩ := List.nodup_cons.1 hl
    have hlater := ih (x := abortSlot stamp ord x a) hr fun i hi => by
      rw [length_abortSlot]
      exact hlen i (List.mem_cons_of_mem a hi)
    by_cases hn : n = a
    · subst hn
      rw [decide_eq_false har] at hlater
      rw [decide_eq_true (List.mem_cons_self ..)]
      exact (abortedSlot_abortSlot (hlen n (List.mem_cons_self ..))).congr ⟨rfl, rfl⟩ (sameSlot_of_not_named hlater)
    · rw [show decide (n ∈ a :: r) = decide (n ∈ r) by simp [hn]]
      exact hlater.congr (sameSlot_abortSlot hn) ⟨rfl, rfl⟩

theorem mem_slotsOf {m : BitVec 64} : n ∈ slotsOf m ↔ n < 64 ∧ m.getLsbD n = true := by simp [slotsOf]

theorem nodup_slotsOf (m : BitVec 64) : (slotsOf m).Nodup := List.nodup_range.filter _

/-- ABORT's slots (07 R288): 64 statuses, one for each. -/
theorem abortedSlot_slotsOf (hlen : x.abortStatus.length = 64) (m : BitVec 64) (hn : n < 64) :
    AbortedSlot stamp ord (m.getLsbD n) x ((slotsOf m).foldl (abortSlot stamp ord) x) n := by
  have h := abortedSlot_foldl (stamp := stamp) (ord := ord) (x := x) (nodup_slotsOf m) (fun i hi => hlen ▸ (mem_slotsOf.1 hi).1) n
  rwa [show decide (n ∈ slotsOf m) = m.getLsbD n by simp [mem_slotsOf, hn]] at h

end

/-! ## The write -/

section

variable {d : Dev} {s : State} {e k : Nat} {mask : BitVec 64}

theorem beVal_reverse (l : Bytes) : beVal l.reverse = leVal l := by
  rw [beVal, List.foldl_reverse]
  induction l with
  | nil => rfl
  | cons b r ih => rw [List.foldr_cons, ih, leVal, Nat.add_comm]

theorem beVal_be (n v : Nat) : beVal (be n v) = v % 256 ^ n := by rw [be, beVal_reverse, leVal_le]

theorem be_length (n v : Nat) : (be n v).length = n := by rw [be, List.length_reverse, le_length]

/-- Key of a strip's ABORT. -/
abbrev abortKey (k : Nat) : Nat := legKey (0x4000 + k) 0x0B

theorem abortKey_index (k : Nat) : abortKey k / 256 = 0x4000 + k := by simp only [legKey]; omega

theorem abortKey_sub (k : Nat) : abortKey k % 256 = 0x0B := by simp only [legKey]; omega

theorem entryRow_abort (hk : k < 256) : entryRow (0x4000 + k) 0x0B = some ⟨0x0B, 0x0B, .uint 8, .wo, 0, [], false⟩ := by
  have hgroup : legGroup (0x4000 + k) = rows4000 := by
    unfold legGroup
    rw [if_neg (by omega), if_neg (by omega), if_neg (by omega), if_pos (by omega)]
  rw [entryRow, if_neg (by omega), legRow, hgroup]
  rfl

theorem isAction_abort (hk : k < 256) : isAction (0x4000 + k) 0x0B = true := by simp [isAction, entryRow_abort hk]

theorem ruleOk_abort (hk : k < 256) (f : Fuses) (off : Nat) (data v : Bytes) : ruleOk f d (0x4000 + k) 0x0B off data v = true := by
  unfold ruleOk
  dsimp only
  iterate 15 rw [if_neg (by omega)]

/-- A mask of 8 octets is in range, whatever it names. -/
theorem checkWrite_abort (hk : k < 256) (f : Fuses) (m : BitVec 64) (old : Bytes) :
    checkWrite f d false (0x4000 + k) 0x0B false 0 (be 8 m.toNat) old = (.ok, be 8 m.toNat) := by
  simp [checkWrite, entryRow_abort hk, mayWrite, patched, be_length, LegTy.size, inRange, ruleOk_abort hk]

theorem holding_abort (hk : k < 256) : holding d (abortKey k) = none := by
  unfold holding
  rw [abortKey_index]
  dsimp only
  rw [if_neg (by omega), if_neg (by omega)]

theorem resources_abort (hk : k < 256) : resources d [abortKey k] = d := by
  have hgiven (grow : Bool) (a : Dev) : sizePages grow a (abortKey k) = a := by rw [sizePages, holding_abort hk]
  unfold resources
  simp only [List.foldl_cons, List.foldl_nil, hgiven, List.any_cons, List.any_nil, abortKey_index]
  rw [if_neg (by simp [legKey]; omega), if_neg (by omega)]

theorem follow_abort (hk : k < 256) (d0 : Dev) : follow d0 d (abortKey k) = d := by
  unfold follow
  rw [abortKey_index, abortKey_sub]
  dsimp only
  iterate 14 rw [if_neg (by omega)]

theorem act_abort (hk : k < 256) (f : Fuses) (m : BitVec 64) : act (f, d) (abortKey k) (be 8 m.toNat) = (f, abortStrip d k m) := by
  have hm : beVal (be 8 m.toNat) = m.toNat := (beVal_be _ _).trans (Nat.mod_eq_of_lt m.isLt)
  unfold act
  rw [abortKey_index, abortKey_sub]
  dsimp only
  rw [hm, isAction_abort hk, if_neg (by simp), if_neg (by omega), if_neg (by omega), if_neg (by omega), if_pos (by omega), Nat.add_sub_cancel_left, BitVec.ofNat_toNat, BitVec.setWidth_eq]

theorem valuePut_abort (hk : k < 256) (v : Bytes) : valuePut d (abortKey k) v = d := by
  unfold valuePut
  rw [abortKey_index, abortKey_sub]
  exact if_pos (isAction_abort hk)

theorem applyWrites_abort (hk : k < 256) (f : Fuses) (m : BitVec 64) :
    applyWrites (f, d) [(abortKey k, be 8 m.toNat)] = (f, abortStrip (bumpChange d (abortKey k)) k m) := by
  simp only [applyWrites, List.map_cons, List.map_nil, List.foldl_cons, List.foldl_nil, valuePut_abort hk, resources_abort hk, follow_abort hk, act_abort hk]

/-- ABORT while Ezith executes and no transaction locks it. -/
theorem exec_abort (hk : k < 256) (h : OpenForWrites s e (0x4000 + k) 0x0B) (mask : BitVec 64) :
    exec (.abort_ e k mask) s = .next (s.withDev (abortStrip (bumpChange (s.dev.at e) (abortKey k)) k mask)) := by
  have hbuffer : bufferLocked (s.dev.at e) (0x4000 + k) 0x0B (be 8 mask.toNat) = false := by
    rw [bufferLocked, decide_eq_false (by omega), Bool.false_and]
  have hread : (readEntry s.fuses (s.dev.at e) (0x4000 + k) 0x0B).2 = s.dev.at e := by
    unfold readEntry
    rw [if_neg (by omega)]
  calc exec (.abort_ e k mask) s = writeRow e (0x4000 + k) 0x0B (be 8 mask.toNat) s := if_pos hk
    _ = _ := writeRow_ok h.1 (checkWrite_abort hk _ _ _) h.2 hbuffer
    _ = _ := by rw [hread, if_neg (by omega), applyWrites_abort hk]; rfl

end

end Sys2Proof.Machine

/-! Checkpoints complete, and mirrors are sent, written and acknowledged (07 R294 to R300). -/

namespace Sys2Proof.Machine

/-! ## A mirror sent -/

section

variable {d : Dev} {p slot : Nat} {c : Ckpt}

theorem sendMirror_none (h : partNat d p 0x09 = 0xFFFF) : sendMirror d p slot c = d := if_pos h

/-- A mirror sent waits for its acknowledgement; of a partition else only the halt that it owes may change (R299). -/
theorem sendMirror_some (h : partNat d p 0x09 ≠ 0xFFFF) :
    (sendMirror d p slot c).strips = d.strips ∧
      ∃ due, (sendMirror d p slot c).partition p = { d.partition p with haltDue := due, mirrorSent := some c.beat } := by
  unfold sendMirror
  extract_lets buddy r strips parts d1
  have hr : PartsKeepButHalt d r.2 :=
    List.foldlRecOn (motive := fun acc : Bytes × Dev => PartsKeepButHalt d acc.2) _ _ .refl
      fun _ k _ _ => k.trans (stackReadKeeps_pageBytesOf _).1
  have hd : PartsKeepButHalt d d1 :=
    List.foldlRecOn (motive := fun x : Dev => PartsKeepButHalt d x) parts _ hr fun _ k _ _ => k.trans (partsKeepButHalt_sendRequestPacket _ _ _ _ _ _)
  obtain ⟨due, hp⟩ := hd.2 p
  rw [if_neg h]
  refine ⟨hd.1, due, ?_⟩
  have hne : ({ d1.partition p with mirrorSent := some c.beat } : Partition) ≠ {} := fun k => Option.some_ne_none _ (congrArg Partition.mirrorSent k)
  calc (updPart d1 p fun x => { x with mirrorSent := some c.beat }).partition p = { d1.partition p with mirrorSent := some c.beat } :=
        Dev.partition_setPartition_of_ne hne
    _ = _ := by rw [hp]

end

/-! ## A checkpoint complete -/

section

variable {d : Dev} {s : State} {e p slot : Nat} {c : Ckpt}

/-- The checkpoint of a slot stands complete, and its beat is the last checkpointed one of its strips (R296). -/
def ckptNoted (d : Dev) (p slot : Nat) (c : Ckpt) : Dev :=
  updStrips (updPart d p fun x => if slot = 0 then { x with ckpt0 := some { c with complete := true } } else { x with ckpt1 := some { c with complete := true } })
    CkptStrip.strip (fun y => { y with ckptBeat := c.beat }) c.strips

theorem completeCkpt_slot0 (h : (d.partition p).ckpt0 = some c) (hc : c.complete = false) :
    completeCkpt d p = sendMirror (ckptNoted d p 0 c) p 0 { c with complete := true } := by
  simp only [completeCkpt, h, hc]
  rfl

theorem completeCkpt_slot1 (h0 : ∀ b, (d.partition p).ckpt0 = some b → b.complete = true) (h : (d.partition p).ckpt1 = some c) (hc : c.complete = false) :
    completeCkpt d p = sendMirror (ckptNoted d p 1 c) p 1 { c with complete := true } := by
  cases hb : (d.partition p).ckpt0 with
  | none =>
    simp only [completeCkpt, hb, h, hc]
    rfl
  | some b =>
    simp only [completeCkpt, hb, h, hc, h0 b hb]
    rfl

theorem completeCkpt_none (h0 : ∀ b, (d.partition p).ckpt0 = some b → b.complete = true) (h1 : ∀ b, (d.partition p).ckpt1 = some b → b.complete = true) :
    completeCkpt d p = d := by
  cases ha : (d.partition p).ckpt0 with
  | none =>
    cases hb : (d.partition p).ckpt1 with
    | none => simp only [completeCkpt, ha, hb]
    | some b => simp [completeCkpt, ha, hb, h1 b hb]
  | some a =>
    cases hb : (d.partition p).ckpt1 with
    | none => simp [completeCkpt, ha, hb, h0 a ha]
    | some b => simp [completeCkpt, ha, hb, h0 a ha, h1 b hb]

theorem ckptNoted_partition (w : tabWf {} d.parts = true) : (ckptNoted d p slot c).partition p =
    if slot = 0 then { d.partition p with ckpt0 := some { c with complete := true } } else { d.partition p with ckpt1 := some { c with complete := true } } := by
  unfold ckptNoted
  rw [updStrips_leaves (g := fun x => x.partition p) fun _ _ => rfl, partition_updPart_self w]

theorem ckptNoted_strip (w : tabWf {} d.strips = true) : ∀ t ∈ c.strips, ((ckptNoted d p slot c).strip t.strip).ckptBeat = c.beat :=
  updStrips_strip (P := fun y => y.ckptBeat = c.beat) (fun _ => rfl) w

theorem ckptNoted_buddy : partNat (ckptNoted d p slot c) p 0x09 = partNat d p 0x09 :=
  updStrips_leaves (g := fun x => partNat x p 0x09) fun _ _ => rfl

theorem ckptNoted_wire : (ckptNoted d p slot c).wire = d.wire := updStrips_leaves (g := Dev.wire) fun _ _ => rfl

/-- The checkpoint completed and its mirror sent, when there is a buddy. -/
theorem sendMirror_ckptNoted (hparts : tabWf {} d.parts = true) (hstrips : tabWf {} d.strips = true) :
    let x := sendMirror (ckptNoted d p slot c) p slot { c with complete := true }
    (x.partition p).ckpt0 = (if slot = 0 then some { c with complete := true } else (d.partition p).ckpt0) ∧
    (x.partition p).ckpt1 = (if slot = 0 then (d.partition p).ckpt1 else some { c with complete := true }) ∧
    (∀ t ∈ c.strips, (x.strip t.strip).ckptBeat = c.beat) ∧
    (if partNat d p 0x09 = 0xFFFF then x.wire = d.wire ∧ (x.partition p).mirrorSent = (d.partition p).mirrorSent
      else (x.partition p).mirrorSent = some c.beat) := by
  dsimp only
  have hpart := ckptNoted_partition (p := p) (slot := slot) (c := c) hparts
  have hstrip := ckptNoted_strip (p := p) (slot := slot) (c := c) hstrips
  by_cases hb : partNat d p 0x09 = 0xFFFF
  · rw [sendMirror_none (ckptNoted_buddy.trans hb), if_pos hb, hpart]
    refine ⟨?_, ?_, hstrip, ckptNoted_wire, ?_⟩ <;> split <;> rfl
  · obtain ⟨hs, due, hp⟩ := sendMirror_some (slot := slot) (c := { c with complete := true }) fun h => hb (ckptNoted_buddy.symm.trans h)
    rw [if_neg hb, hp, hpart]
    refine ⟨?_, ?_, fun t ht => ?_, rfl⟩
    · split <;> rfl
    · split <;> rfl
    · rw [Dev.strip, hs]
      exact hstrip t ht

theorem exec_checkpointComplete (hp : p < 64) : exec (.checkpointComplete e p) s = onUnit s true (completeCkpt (s.dev.at e) p) :=
  congrArg (onUnit s · _) (decide_eq_true hp)

end

/-! ## A mirror written -/

section

variable {d : Dev} {s : State} {e h slot n first : Nat} {pages : Bytes}

/-- The pages of a mirror written one after another from a page index. -/
def mirrorPages (d : Dev) (h first : Nat) (pages : Bytes) (n : Nat) : Dev :=
  (List.range n).foldl (fun d i => writePage d h (first + i) 0 (fit pageBytes (slice (i * pageBytes) pageBytes pages))) d

theorem mirrorPages_succ : mirrorPages d h first pages (n + 1) =
    writePage (mirrorPages d h first pages n) h (first + n) 0 (fit pageBytes (slice (n * pageBytes) pageBytes pages)) := by
  rw [mirrorPages, List.range_succ, List.foldl_append]
  rfl

theorem mirrorPages_keeps : PartsKeepButHalt d (mirrorPages d h first pages n) :=
  List.foldlRecOn (motive := fun x : Dev => PartsKeepButHalt d x) _ _ .refl fun _ k _ _ => k.trans writePage_keeps

theorem fit_length (n : Nat) (bs : Bytes) : (fit n bs).length = n := by
  simp [fit, zeros]
  omega

theorem fit_slice_getElem {off len i : Nat} {bs : Bytes} (hi : i < (fit len (slice off len bs)).length) :
    (fit len (slice off len bs))[i] = nth 0 bs (off + i) := by
  have hlen : i < len := by rwa [fit_length] at hi
  simp only [fit, slice, zeros, nth, List.getD_eq_getElem?_getD, List.getElem_append, List.getElem_replicate, List.length_take, List.length_drop]
  split
  · next hin =>
    have : off + i < bs.length := by omega
    simp [List.getElem_take, List.getElem_drop, this]
  · next hout =>
    have : bs.length ≤ off + i := by omega
    simp [this]

theorem physPage_injective {i j a : Nat} (hpages : (d.partition h).pages.Nodup) (hi : physPage d h i = some a) (hj : physPage d h j = some a) : i = j :=
  (List.getElem?_inj (List.getElem?_eq_some_iff.1 hi).1 hpages).1 (hi.trans hj.symm)

/-- The pages written stand in the holder's pages, and stack memory keeps its canonical form. -/
theorem memByte_mirrorPages (hpages : (d.partition h).pages.Nodup) (w : Memory.wf d.stackMem = true) (hall : ∀ i, i < n → (physPage d h (first + i)).isSome = true) :
    Memory.wf (mirrorPages d h first pages n).stackMem = true ∧
      ∀ i j, i < n → j < pageBytes → ∀ a, physPage d h (first + i) = some a →
        memByte (mirrorPages d h first pages n).stackMem (a * pageBytes + j) = nth 0 pages (i * pageBytes + j) := by
  induction n with
  | zero => exact ⟨w, fun i j hi => absurd hi (Nat.not_lt_zero i)⟩
  | succ n ih =>
    obtain ⟨hwf, hbytes⟩ := ih fun i hi => hall i (Nat.lt_succ_of_lt hi)
    obtain ⟨b, hb⟩ := Option.isSome_iff_exists.1 (hall n (Nat.lt_succ_self n))
    have haddr : pageAddr (mirrorPages d h first pages n) h (first + n) 0 = some (b * pageBytes) := by
      rw [pageAddr, mirrorPages_keeps.pages]
      exact (congrArg (Option.map fun x => x * pageBytes + 0) hb).trans (congrArg some (Nat.add_zero _))
    rw [mirrorPages_succ, writePage_stackMem haddr]
    refine ⟨memWrite_wf hwf, fun i j hi hj a ha => ?_⟩
    have hlen := fit_length pageBytes (slice (n * pageBytes) pageBytes pages)
    by_cases hin : i = n
    · subst hin
      obtain rfl : a = b := Option.some.inj (ha.symm.trans hb)
      rw [memByte_memWrite_inside hwf (hj.trans_eq hlen.symm), fit_slice_getElem]
    · have hab : a ≠ b := fun hab => hin (Nat.add_left_cancel (physPage_injective hpages ha (hab ▸ hb)))
      have hapart : a * pageBytes + j < b * pageBytes ∨ b * pageBytes + pageBytes ≤ a * pageBytes + j := by
        rcases Nat.lt_or_gt_of_ne hab with hlt | hgt
        · have := Nat.mul_le_mul_right pageBytes (Nat.succ_le_of_lt hlt)
          rw [Nat.succ_mul] at this
          omega
        · have := Nat.mul_le_mul_right pageBytes (Nat.succ_le_of_lt hgt)
          rw [Nat.succ_mul] at this
          omega
      rw [memByte_memWrite_outside hwf (hapart.imp_right (le_of_eq_of_le (congrArg (b * pageBytes + ·) hlen)))]
      exact hbytes i j (Nat.lt_of_le_of_ne (Nat.le_of_lt_succ hi) hin) hj a ha

variable {device : BitVec 16} {partition : Byte} {ten : BitVec 32} {beat phase : Nat} {strips : List MirrorStrip}

/-- Pages that a mirror takes. -/
abbrev mirrorCount (pages : Bytes) : Nat := (pages.length + pageBytes - 1) / pageBytes

/-- The mirror slot that does not hold the newest. -/
def nextMirrorSlot (x : Partition) : Nat :=
  match x.mirrors with
  | m :: _ => 1 - m.slot
  | [] => 0

/-- The page index of that slot. -/
def mirrorFirst (d : Dev) (h : Nat) (pages : Bytes) : Nat := partNat d h 0x14 + nextMirrorSlot (d.partition h) * mirrorCount pages

/-- The mirror that a holder keeps of what it has written. -/
def heldMirror (d : Dev) (h : Nat) (ten : BitVec 32) (beat phase : Nat) (strips : List MirrorStrip) (pages : Bytes) : Mirror :=
  { beat := beat, slot := nextMirrorSlot (d.partition h), phase := phase, tenant := ten, pages := mirrorCount pages, strips := strips.map unmirrorStrip }

theorem mirrorWrite_no_holder (hn : holderOf d device partition = none) : mirrorWrite d device partition ten beat phase strips pages = d := by
  rw [mirrorWrite, hn]

theorem mirrorWrite_no_page (hh : holderOf d device partition = some h) {i : Nat} (hi : i < mirrorCount pages) (hp : physPage d h (mirrorFirst d h pages + i) = none) :
    mirrorWrite d device partition ten beat phase strips pages = d := by
  rw [mirrorWrite, hh]
  exact if_pos (List.any_eq_true.2 ⟨i, List.mem_range.2 hi, Option.isNone_iff_eq_none.2 hp⟩)

theorem mirrorWrite_pages (hh : holderOf d device partition = some h) (hall : ∀ i, i < mirrorCount pages → (physPage d h (mirrorFirst d h pages + i)).isSome = true) :
    mirrorWrite d device partition ten beat phase strips pages =
      sendPacket (updPart (mirrorPages d h (mirrorFirst d h pages) pages (mirrorCount pages)) h fun x =>
        { x with mirrors := heldMirror d h ten beat phase strips pages :: x.mirrors.take 1 }) .resp (.mirrorAck beat) device.toNat partition.toNat h 0 [] := by
  rw [mirrorWrite, hh]
  refine if_neg fun hany => ?_
  obtain ⟨i, hi, hp⟩ := List.any_eq_true.1 hany
  have := hall i (List.mem_range.1 hi)
  rw [Option.isSome_iff_ne_none] at this
  exact this (Option.isNone_iff_eq_none.1 hp)

/-- A mirror put in front and acknowledged. -/
theorem mirrorPut_keeps {y : Dev} (hkeep : PartsKeepButHalt d y) (m : Mirror) (kind : PktKind) (dst dpart : Nat) :
    let x := sendPacket (updPart y h fun x => { x with mirrors := m :: x.mirrors.take 1 }) .resp kind dst dpart h 0 []
    x.stackMem = y.stackMem ∧ (x.partition h).mirrors = m :: (d.partition h).mirrors.take 1 ∧ x.strips = d.strips := by
  obtain ⟨due, hy⟩ := hkeep.2 h
  obtain ⟨hparts, hstrips, hmem⟩ := sendPacket_keeps (d := updPart y h fun x => { x with mirrors := m :: x.mirrors.take 1 }) .resp kind dst dpart h 0 []
  have hne : ({ y.partition h with mirrors := m :: (y.partition h).mirrors.take 1 } : Partition) ≠ {} :=
    fun k => List.cons_ne_nil _ _ (congrArg Partition.mirrors k)
  refine ⟨hmem, ?_, hstrips.trans hkeep.1⟩
  rw [Dev.partition, hparts]
  calc ((updPart y h fun x => { x with mirrors := m :: x.mirrors.take 1 }).partition h).mirrors
      = m :: (y.partition h).mirrors.take 1 := congrArg Partition.mirrors (Dev.partition_setPartition_of_ne hne)
    _ = m :: (d.partition h).mirrors.take 1 := by rw [hy]

/-- A holder with the pages writes them, and puts the mirror in front of the one before it (R299). -/
theorem mirrorWrite_keeps (hh : holderOf d device partition = some h) (hall : ∀ i, i < mirrorCount pages → (physPage d h (mirrorFirst d h pages + i)).isSome = true) :
    let x := mirrorWrite d device partition ten beat phase strips pages
    x.stackMem = (mirrorPages d h (mirrorFirst d h pages) pages (mirrorCount pages)).stackMem ∧
      (x.partition h).mirrors = heldMirror d h ten beat phase strips pages :: (d.partition h).mirrors.take 1 ∧ x.strips = d.strips := by
  rw [mirrorWrite_pages hh hall]
  exact mirrorPut_keeps mirrorPages_keeps _ _ _ _

theorem exec_mirrorWrite : exec (.mirrorWrite e device partition ten beat phase strips pages) s =
    .next (s.withDev (mirrorWrite (dropHandedMirror (s.dev.at e) device partition beat) device partition ten beat phase strips pages)) := rfl

end

/-! ## A mirror acknowledged -/

section

variable {d : Dev} {s : State} {e p beat : Nat}

/-- The acknowledgements of this mirror handed before are gone. -/
def ackTaken (d : Dev) (p beat : Nat) : Dev :=
  { d with handed := d.handed.filter fun h => match h with
    | .mirrorAck _ pt b => !(decide (pt.toNat = p) && decide (b = beat))
    | _ => true }

theorem exec_mirrorAck (hp : p < 64) : exec (.mirrorAck e p beat) s = onUnit s true (mirrorAcked (ackTaken (s.dev.at e) p beat) p beat) :=
  congrArg (onUnit s · _) (decide_eq_true hp)

theorem mirrorAcked_other (h : (d.partition p).mirrorSent ≠ some beat) : mirrorAcked d p beat = d := if_neg h

theorem mirrorAcked_sent (h : (d.partition p).mirrorSent = some beat) :
    mirrorAcked d p beat = updStrips (updPart d p fun x => { x with mirrorSent := none, mirrorFail := false }) id (fun y => { y with mirrorBeat := beat }) (stripsOf d p) :=
  if_pos h

end

end Sys2Proof.Machine

section

open Sys2Proof.Machine

/-- Settles O41: each slot of ABORT is its own, a checkpoint completes in its slot and is mirrored, and the pages of a mirror do not
meet one another. -/
theorem sessionsAbortAndCheckpointsComplete : Obligations.SessionsAbortAndCheckpointsComplete := by
  intro s e ⟨hparts, hstrips, _⟩
  dsimp only
  refine ⟨fun k mask hk hopen hlen => ?_, fun p c hp h hc => ?_, fun p c hp h hc h0 => ?_, fun p hp h0 h1 => ?_,
    fun device partition ten beat phase strips pages h hh hall => ?_, fun device partition ten beat phase strips pages h i hh hi hnone => ?_,
    fun device partition ten beat phase strips pages hn => ?_, fun p beat hp h => ?_, fun p beat hp h => ?_⟩
  · refine does_next (exec_abort hk hopen mask) ⟨fun n hn => ?_, fun j hj => Dev.strip_setStrip_other hstrips hj _, rfl, rfl, rfl⟩
    rw [abortStrip, strip_updStrip_self (d := bumpChange (s.dev.at e) (abortKey k)) hstrips]
    exact abortedSlot_slotsOf hlen mask hn
  · refine does_onUnit (exec_checkpointComplete hp) ?_
    rw [completeCkpt_slot0 (d := s.dev.at e) h hc]
    exact sendMirror_ckptNoted (d := s.dev.at e) (slot := 0) hparts hstrips
  · refine does_onUnit (exec_checkpointComplete hp) ?_
    rw [completeCkpt_slot1 (d := s.dev.at e) h0 h hc]
    obtain ⟨hother, hslot, hbeats, -⟩ := sendMirror_ckptNoted (d := s.dev.at e) (p := p) (slot := 1) (c := c) hparts hstrips
    exact ⟨hslot, hother, hbeats⟩
  · exact does_onUnit (exec_checkpointComplete hp) (completeCkpt_none h0 h1)
  · obtain ⟨hmem, hmirrors, hstripsKept⟩ := mirrorWrite_keeps (d := dropHandedMirror (s.dev.at e) device partition beat) (ten := ten) (beat := beat)
      (phase := phase) (strips := strips) hh hall
    refine does_next exec_mirrorWrite ⟨fun i j hi hj a ha hpages hwf => ?_, hmirrors, hstripsKept⟩
    rw [hmem]
    exact (memByte_mirrorPages (d := dropHandedMirror (s.dev.at e) device partition beat) hpages hwf hall).2 i j hi hj a ha
  · refine does_next exec_mirrorWrite ?_
    rw [mirrorWrite_no_page (d := dropHandedMirror (s.dev.at e) device partition beat) hh hi hnone]
    exact ⟨rfl, rfl, rfl⟩
  · refine does_next exec_mirrorWrite ?_
    rw [mirrorWrite_no_holder (d := dropHandedMirror (s.dev.at e) device partition beat) hn]
    exact ⟨rfl, rfl, rfl⟩
  · refine does_onUnit (exec_mirrorAck hp) ?_
    rw [mirrorAcked_sent (d := ackTaken (s.dev.at e) p beat) h]
    refine ⟨?_, updStrips_strip (key := id) (P := fun y => y.mirrorBeat = beat) (fun _ => rfl) hstrips, updStrips_leaves (g := Dev.wire) fun _ _ => rfl⟩
    rw [updStrips_leaves (g := fun x => x.partition p) fun _ _ => rfl]
    exact partition_updPart_self (d := ackTaken (s.dev.at e) p beat) hparts _
  · refine does_onUnit (exec_mirrorAck hp) ?_
    rw [mirrorAcked_other (d := ackTaken (s.dev.at e) p beat) h]
    exact ⟨rfl, rfl, rfl⟩

end

/-! What moves of the graticule leave of the PON terminal (02 R46 to R55; 08 R333): a re-alignment or a loss touches the graticule
and what a raise of the device touches, and besides works an edge that was held. -/

namespace Sys2Proof.Machine

variable {d x y : Dev}

/-! ## Rows that replace the device -/

section

variable {s : State} {e : Nat} {c : Instr}

/-- A row whose device is one of its branches. -/
theorem exec_branch (hrow : exec c s = .next (s.withDev x)) (hx : x = y) : exec c s = .next (s.withDev y) := hx ▸ hrow

theorem does_branch {P : Dev → Prop} (hrow : exec c s = .next (s.withDev x)) (hx : x = y) (p : P y) : Does c s P := does_next (exec_branch hrow hx) p

theorem passes_branch (hrow : exec c s = .next (s.withDev x)) (hx : x = s.dev.at e) : Passes c s e := does_next hrow hx

end

/-! ## Raises of the terminal's own sources -/

section

variable {n : Nat}

theorem deviceRaiseKeeps_raisePon : DeviceRaiseKeeps d (raisePon d n) := deviceRaiseKeeps_raiseDev _ _ _

@[simp] theorem raisePon_pon : (raisePon d n).pon = d.pon := raise_pon _

@[simp] theorem raisePon_grat : (raisePon d n).grat = d.grat := raise_grat _

@[simp] theorem raisePon_dormant : (raisePon d n).dormant = d.dormant := raise_dormant _

@[simp] theorem raisePon_wire : (raisePon d n).wire = d.wire := raise_wire _

@[simp] theorem raisePon_handed : (raisePon d n).handed = d.handed := raise_handed _

theorem DeviceRaiseKeeps.pon (h : DeviceRaiseKeeps d x) : x.pon = d.pon := by rw [h]

theorem DeviceRaiseKeeps.legend (h : DeviceRaiseKeeps d x) : x.legend = d.legend := by rw [h]

end

/-! ## Moves of the graticule -/

section

variable {src : Source}

/-- A move of the graticule that works no edge touches it and what a raise of the device touches. -/
def GratMoveKeeps (d x : Dev) : Prop := x = { d with grat := x.grat, ez := x.ez, sentry := x.sentry, faults := x.faults }

theorem GratMoveKeeps.refl : GratMoveKeeps d d := rfl

theorem GratMoveKeeps.trans (a : GratMoveKeeps d x) (b : GratMoveKeeps x y) : GratMoveKeeps d y := by
  unfold GratMoveKeeps at *
  rw [b, a]

theorem GratMoveKeeps.pon (h : GratMoveKeeps d x) : x.pon = d.pon := by rw [h]

theorem GratMoveKeeps.legend (h : GratMoveKeeps d x) : x.legend = d.legend := by rw [h]

theorem DeviceRaiseKeeps.gratMove (h : DeviceRaiseKeeps d x) : GratMoveKeeps d x := by
  unfold DeviceRaiseKeeps at h
  rw [h]
  rfl

theorem gratMoveKeeps_updGrat (f : Grat → Grat) : GratMoveKeeps d (d.updGrat f) := rfl

theorem gratMoveKeeps_enterLocked : GratMoveKeeps d (enterLocked d src) := by
  unfold enterLocked
  refine GratMoveKeeps.trans ?_ (deviceRaiseKeeps_foldl _ (fun a n => ?_) _).gratMove
  · rfl
  · split
    · exact deviceRaiseKeeps_setCause _ _
    · exact .refl

theorem gratMoveKeeps_enterDwell (δ : Int) : GratMoveKeeps d (enterDwell d src δ) :=
  (gratMoveKeeps_updGrat _).trans (deviceRaiseKeeps_raiseGrat_setCause _ _ _).gratMove

theorem gratMoveKeeps_realign : GratMoveKeeps d (realign d src) := by
  unfold realign
  dsimp only
  split
  · split
    · exact gratMoveKeeps_updGrat _
    · exact gratMoveKeeps_enterDwell _
  · split
    · exact gratMoveKeeps_updGrat _
    · exact (gratMoveKeeps_updGrat _).trans gratMoveKeeps_enterLocked

theorem gratMoveKeeps_enterHoldover : GratMoveKeeps d (enterHoldover d) :=
  (gratMoveKeeps_updGrat _).trans (deviceRaiseKeeps_raiseGrat_setCause _ _ _).gratMove

theorem gratMoveKeeps_refreshDelay : GratMoveKeeps d (refreshDelay d) := by
  unfold refreshDelay
  extract_lets old new d1
  split
  · exact .refl
  · split
    · exact ((gratMoveKeeps_updGrat _).trans (gratMoveKeeps_updGrat _)).trans gratMoveKeeps_realign
    · exact gratMoveKeeps_updGrat _

/-- What moves of the graticule and the work of an edge keep, the loss of a source keeps (02 R46, R48, R49). -/
theorem loseSource_keeps {P : Dev → Prop} (move : ∀ {a b}, GratMoveKeeps a b → P a → P b) (edge : ∀ {a} n, P a → P (edgeWork a n)) (h : P d) :
    P (loseSource d src) := by
  have hgrat {a : Dev} (f : Grat → Grat) : P a → P (a.updGrat f) := move (gratMoveKeeps_updGrat f)
  have hdrop {a : Dev} (ha : P a) : P (dropSource a src) := by
    have hbreak : P (breakDwell a) := by
      unfold breakDwell
      split
      · exact edge 1 (hgrat _ ha)
      · exact ha
    unfold dropSource
    extract_lets y
    split
    · exact move gratMoveKeeps_realign (hgrat _ hbreak)
    · exact move gratMoveKeeps_enterHoldover (hgrat _ hbreak)
  have hrun : P (d.updGrat fun g => setRun g src {}) := hgrat _ h
  unfold loseSource
  extract_lets y
  split
  · split
    · exact hrun
    · exact hgrat _ hrun
  · split
    · exact hdrop hrun
    · split
      · exact hgrat _ hrun
      · exact hrun
  · split
    · exact hdrop hrun
    · split
      · exact hgrat _ hrun
      · exact hrun
  · split
    · exact hgrat _ hrun
    · exact hrun

end

/-! ## Octets and upstream messages -/

section

variable {s : State} {h : Ploam} {seq code : Byte}

/-- Octets that fit in front stay whole. -/
theorem fit_append {a b : Bytes} {n k : Nat} (ha : a.length = n) : fit (n + k) (a ++ b) = a ++ fit k b := by
  subst ha
  simp only [fit, List.take_length_add_append, List.length_append, Nat.add_sub_add_left, List.append_assoc]

/-- A message queued is the next free value, one more octet string, and nothing else (08 R336). -/
theorem ploamQueued_queuePloam {type : Nat} {content : Bytes} (hup : x.pon.ploamUp = s.dev.pon.ploamUp) :
    PloamQueued s (queuePloam x type seq.toNat content) type seq content :=
  ⟨Config.freeValue x.free, congrArg (· ++ _) hup⟩

@[simp] theorem queuePloam_pon (type n : Nat) (content : Bytes) :
    (queuePloam d type n content).pon = { d.pon with ploamUp := d.pon.ploamUp ++ [(ploamMessage d type n content).1] } := rfl

@[simp] theorem acknowledge_pon : (acknowledge d seq code).pon =
    { d.pon with lastAck := code, ploamUp := d.pon.ploamUp ++ [(ploamMessage (d.updPon fun p => { p with lastAck := code }) 0x09 seq.toNat (be 1 code.toNat)).1] } := rfl

theorem PloamQueued.congr {type : Nat} {content : Bytes} (h : PloamQueued s x type seq content) (hid : y.pon.onuId = x.pon.onuId)
    (hup : y.pon.ploamUp = x.pon.ploamUp) : PloamQueued s y type seq content := by
  obtain ⟨mic, hx⟩ := h
  exact ⟨mic, by rw [hup, hid, hx]⟩

theorem AckedIfUnicast.congr {code : Nat} (k : AckedIfUnicast s x h code) (hid : y.pon.onuId = x.pon.onuId) (hup : y.pon.ploamUp = x.pon.ploamUp) :
    AckedIfUnicast s y h code := by
  unfold AckedIfUnicast at *
  split at k
  · next hb => exact (if_pos hb).mpr (hup.trans k)
  · next hb => exact (if_neg hb).mpr (k.congr hid hup)

/-- An acknowledgement touches what waits upstream, the code last given and the free values. -/
def AckKeeps (d x : Dev) : Prop := x = { d with free := x.free, pon := { d.pon with ploamUp := x.pon.ploamUp, lastAck := x.pon.lastAck } }

theorem AckKeeps.grat (k : AckKeeps d x) : x.grat = d.grat := by rw [k]

theorem AckKeeps.dormant (k : AckKeeps d x) : x.dormant = d.dormant := by rw [k]

theorem AckKeeps.pon (k : AckKeeps d x) : x.pon = { d.pon with ploamUp := x.pon.ploamUp, lastAck := x.pon.lastAck } := congrArg Dev.pon k

theorem AckKeeps.act (k : AckKeeps d x) : x.pon.act = d.pon.act := by rw [k]

theorem AckKeeps.allocs (k : AckKeeps d x) : x.pon.allocs = d.pon.allocs := by rw [k]

theorem AckKeeps.watchful (k : AckKeeps d x) : x.pon.watchful = d.pon.watchful := by rw [k]

theorem AckKeeps.sleepAllowed (k : AckKeeps d x) : x.pon.sleepAllowed = d.pon.sleepAllowed := by rw [k]

theorem ackKeeps_ackUnicast : AckKeeps d (ackUnicast d h) := by
  unfold ackUnicast
  split <;> rfl

theorem ploamQueued_acknowledge {n : Nat} (hn : code.toNat = n) (hup : x.pon.ploamUp = s.dev.pon.ploamUp) :
    PloamQueued s (acknowledge x seq code) 0x09 seq (be 1 n) := by
  subst hn
  exact ploamQueued_queuePloam (x := x.updPon fun p => { p with lastAck := code }) hup

theorem ackedIfUnicast_ackUnicast (hup : x.pon.ploamUp = s.dev.pon.ploamUp) : AckedIfUnicast s (ackUnicast x h) h 0 := by
  unfold AckedIfUnicast ackUnicast
  split
  · exact hup
  · exact ploamQueued_acknowledge rfl hup

end

end Sys2Proof.Machine

/-! PLOAM messages (08 R325, R326, R328, R332, R336, R337, R340): each of the ten commands either leaves the message untaken, all
alike, or executes its own part and notes the sequence number. -/

namespace Sys2Proof.Machine

variable {d x : Dev} {s : State} {h : Ploam}

/-! ## Messages not taken -/

section

variable {f : Dev → Option Dev}

theorem takePloam_elsewhere (hr : ploamReaches d h = false) : takePloam d h f = d := if_pos (by simp [hr])

theorem takePloam_badMic (hr : ploamReaches d h = true) (hm : h.micOk = false) : takePloam d h f = raisePon d 0xA4 :=
  (if_neg (by simp [hr])).trans (if_pos (by simp [hm]))

theorem takePloam_repeat (hr : ploamReaches d h = true) (hm : h.micOk = true) (hu : h.onuId ≠ 1023) (hq : d.pon.lastSeq = some h.seq) :
    takePloam d h f = acknowledge d h.seq d.pon.lastAck :=
  (if_neg (by simp [hr])).trans ((if_neg (by simp [hm])).trans (if_pos ⟨hu, hq⟩))

/-- The header of the message that a command takes. -/
def ploamOf : Instr → Option Ploam
  | .burstProfile h .. | .assignOnuId h .. | .rangingTime h .. | .deactivateOnuId h | .disableSerialNumber h .. | .requestRegistration h
  | .assignAllocId h .. | .keyControl h .. | .sleepAllow h .. | .ploamUnsupported h .. => some h
  | _ => none

/-- Each of the ten commands takes the message that it names. -/
theorem ploamOf_mem {n : Nat} {a b : Bytes} {fec : Bool} {serial : Bytes} {onu : BitVec 10} {ns : Int} {rel : Bool} {opt : Option Bytes} {en : Bool}
    {alloc : Nat} {rem : Bool} {idx : Nat} {conf : Bool} {ty : Byte} {c : Instr}
    (hc : c ∈ [.burstProfile h n a b fec, .assignOnuId h serial onu, .rangingTime h ns rel, .deactivateOnuId h, .disableSerialNumber h opt en,
      .requestRegistration h, .assignAllocId h alloc rem, .keyControl h idx conf, .sleepAllow h en, .ploamUnsupported h ty]) : ploamOf c = some h := by
  simp only [List.mem_cons, List.not_mem_nil, or_false] at hc
  rcases hc with rfl | rfl | rfl | rfl | rfl | rfl | rfl | rfl | rfl | rfl
  all_goals rfl

/-- Every message that is not taken goes the way of all: what it would execute does not matter (08 R337). -/
theorem exec_ploam_untaken {c : Instr} (hc : ploamOf c = some h) (hn : ¬ PloamTaken s h) :
    ∃ f, exec c s = .next (s.withDev (takePloam (s.dev.at h.e) h f)) := by
  unfold ploamOf at hc
  split at hc
  all_goals cases hc
  case h_10 ty => exact ⟨fun _ => none, exec_branch rfl (if_neg hn)⟩
  all_goals exact ⟨_, rfl⟩

theorem does_untaken {c : Instr} {P : Dev → Prop} (hc : ploamOf c = some h) (hn : ¬ PloamTaken s h) (hP : ∀ f, P (takePloam (s.dev.at h.e) h f)) :
    Does c s P := by
  obtain ⟨f, hf⟩ := exec_ploam_untaken hc hn
  exact does_next hf (hP f)

end

/-! ## Messages taken -/

section

variable {f : Dev → Option Dev} {c : Instr}

/-- The terminal as a taken message finds it: what a repeat will be answered is noted as executed. -/
def ploamNoted (d : Dev) (h : Ploam) : Dev := d.updPon fun p => { p with lastAck := if h.onuId ≠ 1023 then 0 else p.lastAck }

@[simp] theorem ploamNoted_pon : (ploamNoted d h).pon = { d.pon with lastAck := if h.onuId ≠ 1023 then 0 else d.pon.lastAck } := rfl

/-- A sequence number noted, or none. -/
def seqNoted (x : Dev) (q : Option Byte) : Dev := x.updPon fun p => { p with lastSeq := q }

@[simp] theorem seqNoted_pon (q : Option Byte) : (seqNoted x q).pon = { x.pon with lastSeq := q } := rfl

theorem ploamQueued_seqNoted {q : Option Byte} {type : Nat} {seq : Byte} {content : Bytes} (k : PloamQueued s x type seq content) :
    PloamQueued s (seqNoted x q) type seq content := k.congr rfl rfl

theorem ackedIfUnicast_seqNoted {q : Option Byte} {code : Nat} (k : AckedIfUnicast s x h code) : AckedIfUnicast s (seqNoted x q) h code := k.congr rfl rfl

/-- The terminal that has executed a message: a unicast one leaves its sequence number, once there is an ONU-ID. -/
def ploamExecuted (x : Dev) (h : Ploam) : Dev :=
  if h.onuId ≠ 1023 ∧ x.pon.onuId ≠ 0xFFFF then seqNoted x (some h.seq) else x

theorem takePloam_taken (ht : PloamTaken s h) :
    takePloam (s.dev.at h.e) h f = (f (ploamNoted (s.dev.at h.e) h)).elim (s.dev.at h.e) (ploamExecuted · h) := by
  obtain ⟨hr, hm, hn⟩ := ht
  refine (if_neg (by simp [hr])).trans ((if_neg (by simp [hm])).trans ((if_neg fun k => hn.elim k.1 (absurd k.2)).trans ?_))
  simp only [decide_eq_true_eq]
  rw [← ploamNoted]
  cases f (ploamNoted (s.dev.at h.e) h) <;> rfl

/-- A message that is not for this terminal's state is not executed (08 R337). -/
theorem passes_taken (ht : PloamTaken s h) (hx : exec c s = ploamRow h s f) (hf : f (ploamNoted (s.dev.at h.e) h) = none) : Passes c s h.e :=
  does_next hx (by rw [takePloam_taken ht, hf]; rfl)

/-- Of a message executed everything is what it does, but for a sequence number, which a terminal without an ONU-ID does not note. -/
theorem does_taken {P : Dev → Prop} (ht : PloamTaken s h) (hx : exec c s = ploamRow h s f) (hf : f (ploamNoted (s.dev.at h.e) h) = some x)
    (hP : ∀ q, (x.pon.onuId = 0xFFFF → q = x.pon.lastSeq) → P (seqNoted x q)) : Does c s P := by
  refine does_next hx ?_
  rw [takePloam_taken ht, hf]
  show P (ploamExecuted x h)
  unfold ploamExecuted
  split
  · next hid => exact hP _ fun k => absurd k hid.2
  · exact hP x.pon.lastSeq fun _ => rfl

end

end Sys2Proof.Machine

/-! ## The effects of messages -/

namespace Sys2Proof.Machine

section

variable {d x : Dev} {s : State} {h : Ploam}

theorem AckKeeps.backoffOver (k : AckKeeps d x) : backoffOver x = backoffOver d := by
  rw [k]
  rfl

/-- A burst profile replaces the one of its number, is acknowledged, and begins an attempt in O1.2 once the back-off is over (R325,
R328, R336). -/
theorem storeProfile_spec (b : BurstProfile) (hup : d.pon.ploamUp = s.dev.pon.ploamUp) : let y := storeProfile d h b
    y.pon.profiles = (d.pon.profiles.filter fun x => decide (x.index ≠ b.index)) ++ [b] ∧ AckedIfUnicast s y h 0 ∧
      y.pon.act = (if d.pon.act = .o12 ∧ backoffOver d = true then .o23 else d.pon.act) ∧
      y.pon.attempting = (if d.pon.act = .o12 ∧ backoffOver d = true then true else d.pon.attempting) := by
  intro y
  set a := ackUnicast (d.updPon fun p => { p with profiles := (p.profiles.filter fun x => decide (x.index ≠ b.index)) ++ [b] }) h with ha
  have hy : y = if a.pon.act = .o12 ∧ backoffOver a = true then a.updPon fun p => { p with act := .o23, attempting := true } else a := rfl
  have hack : AckedIfUnicast s a h 0 := ackedIfUnicast_ackUnicast hup
  have hkeep : AckKeeps (d.updPon fun p => { p with profiles := (p.profiles.filter fun x => decide (x.index ≠ b.index)) ++ [b] }) a := ackKeeps_ackUnicast
  have hact : a.pon.act = d.pon.act := hkeep.act
  have hatt : a.pon.attempting = d.pon.attempting := by rw [hkeep.pon]; rfl
  have hprofiles : a.pon.profiles = (d.pon.profiles.filter fun x => decide (x.index ≠ b.index)) ++ [b] := by rw [hkeep.pon]; rfl
  have hover : backoffOver a = backoffOver d := hkeep.backoffOver
  rw [hy, hact, hover]
  by_cases hgo : d.pon.act = .o12 ∧ backoffOver d = true
  · simp only [if_pos hgo]
    exact ⟨hprofiles, hack.congr rfl rfl, rfl, rfl⟩
  · simp only [if_neg hgo]
    exact ⟨hprofiles, hack, hact, hatt⟩

/-- Of the profiles of other numbers and a new one, the number selects the new one and leaves the others. -/
theorem filter_profile_replaced (l : List BurstProfile) (b : BurstProfile) :
    (((l.filter fun x => decide (x.index ≠ b.index)) ++ [b]).filter fun x => decide (x.index = b.index)) = [b] ∧
      (((l.filter fun x => decide (x.index ≠ b.index)) ++ [b]).filter fun x => decide (x.index ≠ b.index)) = l.filter fun x => decide (x.index ≠ b.index) := by
  constructor
  · simp [List.filter_filter]
  · simp [List.filter_filter]

/-- EQD_NS given by a message: the newest change in the log is of the present frame (R332). -/
theorem setEqd_pon (n : Nat) : (setEqd d n).pon =
    { d.pon with eqdNs := BitVec.ofNat 32 n, eqdLog := eqdKeep (countTick d.pon.lastCount) ((countTick d.pon.lastCount, BitVec.ofNat 32 n) :: d.pon.eqdLog) } := by
  unfold setEqd
  extract_lets new x
  split
  · rfl
  · exact gratMoveKeeps_refreshDelay.pon

theorem head_eqdKeep (t : TickNo) (v : BitVec 32) (l : List (TickNo × BitVec 32)) : (eqdKeep t ((t, v) :: l)).head? = some (t, v) := by
  have hnow : decide ((t - t).toNat < 8) = true := by rw [BitVec.sub_self]; rfl
  simp only [eqdKeep, List.takeWhile_cons, hnow, if_true, List.cons_append, List.head?_cons]

theorem deactivated_pon : (deactivated d).pon = d.pon := by
  unfold deactivated
  split
  · exact raisePon_pon
  · rfl

/-- The terminal that Disable_Serial_Number takes to O7: an attempt under way stays one (R326, R328). -/
def disabled (d : Dev) : Dev := (releaseIds ((raisePon d 0xA2).setCause 0xA2 true)).updPon fun p => { p with act := .o7 }

theorem disabled_pon : (disabled d).pon = { d.pon with act := .o7, onuId := 0xFFFF, allocs := [], ploamUp := [], omciUp := [], lastSeq := none, filled := [] } := by
  simp only [disabled, releaseIds, Dev.updPon_pon, Dev.setCause_pon, raisePon_pon]

/-- O1.1 or O1.2 is entered with nothing left of the identities (R325, R328). -/
theorem entersOff_enterOff : EntersOff d.pon (enterOff d).pon ∧ (enterOff d).pon.sync = d.pon.sync := by
  unfold enterOff releaseIds EntersOff
  simp only [Dev.updPon_pon, deactivated_pon]
  cases hatt : d.pon.attempting <;> simp

/-- The terminal that has taken a Ranging_Time of O4 or O5 (R332). -/
def ranged (d : Dev) (h : Ploam) (v : Nat) : Dev :=
  let y := ackUnicast (setEqd d v) h
  if y.pon.act = .o4 then enterOperation y else y

theorem ranged_spec (v : Nat) (hact : d.pon.act = .o4 ∨ d.pon.act = .o5) (hup : d.pon.ploamUp = s.dev.pon.ploamUp) : let y := ranged d h v
    y.pon.act = .o5 ∧ y.pon.eqdLog.head? = some (countTick d.pon.lastCount, y.pon.eqdNs) ∧ AckedIfUnicast s y h 0 ∧ y.pon.eqdNs = BitVec.ofNat 32 v := by
  intro y
  set a := ackUnicast (setEqd d v) h with ha
  have hy : y = if a.pon.act = .o4 then enterOperation a else a := rfl
  have hset := setEqd_pon (d := d) v
  have hack : AckedIfUnicast s a h 0 := ackedIfUnicast_ackUnicast (by rw [hset]; exact hup)
  have hpon : a.pon = { (setEqd d v).pon with ploamUp := a.pon.ploamUp, lastAck := a.pon.lastAck } := ackKeeps_ackUnicast.pon
  have hlog : a.pon.eqdLog.head? = some (countTick d.pon.lastCount, BitVec.ofNat 32 v) := by
    rw [hpon, hset]
    exact head_eqdKeep _ _ _
  have hns : a.pon.eqdNs = BitVec.ofNat 32 v := by rw [hpon, hset]
  have hkept : a.pon.act = d.pon.act := by rw [hpon, hset]
  rw [hy]
  split
  · refine ⟨rfl, ?_, hack.congr rfl rfl, hns⟩
    exact hlog.trans (by rw [← hns]; rfl)
  · next ho4 => exact ⟨hkept.trans (hact.resolve_left (hkept ▸ ho4)), by rw [hlog, hns], hack, hns⟩

/-- A message that names this serial number or none is for this terminal (R326). -/
theorem not_otherSerial {opt : Option Bytes} (hopt : opt = none ∨ opt = some (serialNumber d)) : ¬ (opt.isSome = true ∧ opt ≠ some (serialNumber d)) := by
  rcases hopt with rfl | rfl
  · exact fun k => Bool.noConfusion k.1
  · exact fun k => k.2 rfl

theorem assignAlloc_remove (hid : d.pon.onuId ≠ 0xFFFF) (a : Nat) :
    assignAlloc d h a true = some (ackUnicast (d.updPon fun p => { p with allocs := d.pon.allocs.filter (· ≠ a) }) h) := by
  rw [assignAlloc, if_neg hid, if_pos rfl]
  rfl

theorem assignAlloc_add (hid : d.pon.onuId ≠ 0xFFFF) {a : Nat} (hnew : a ∉ d.pon.allocs) (hroom : d.pon.allocs.length < 32) :
    assignAlloc d h a false = some (ackUnicast (d.updPon fun p => { p with allocs := d.pon.allocs ++ [a] }) h) := by
  rw [assignAlloc, if_neg hid, if_neg Bool.false_ne_true, if_neg hnew, if_neg (Nat.not_le.2 hroom)]
  rfl

theorem assignAlloc_full (hid : d.pon.onuId ≠ 0xFFFF) {a : Nat} (hnew : a ∉ d.pon.allocs) (hfull : 32 ≤ d.pon.allocs.length) :
    assignAlloc d h a false = some (acknowledge d h.seq 4) := by
  rw [assignAlloc, if_neg hid, if_neg Bool.false_ne_true, if_neg hnew, if_pos hfull]

/-- The terminal that has made a key (R336, log 33). -/
def keyMade (d : Dev) (h : Ploam) (i : Nat) : Dev :=
  let key := (drawEntropy d).1.take 16
  queuePloam ((drawEntropy d).2.updPon fun p => { p with uni1 := if i = 1 then some key else p.uni1, uni2 := if i = 2 then some key else p.uni2, keyPending := some (i, key) })
    0x05 h.seq.toNat (be 1 0 ++ be 1 i ++ zeros 2 ++ key)

theorem keyControl_make (hid : d.pon.onuId ≠ 0xFFFF) (i : Nat) : keyControl d h i false = some (keyMade d h i) := by
  rw [keyControl, if_neg hid, if_neg Bool.false_ne_true]
  rfl

/-- The terminal that has a key confirmed (R336, log 33). -/
def keyConfirmed (d : Dev) (h : Ploam) (i : Nat) (name : Bytes) : Dev :=
  queuePloam (d.updPon fun p => { p with keyPending := p.keyPending.filter (fun k => decide (k.1 ≠ i)), txKey := some i }) 0x05 h.seq.toNat (be 1 1 ++ be 1 i ++ zeros 2 ++ name)

theorem keyControl_confirm (hid : d.pon.onuId ≠ 0xFFFF) (i : Nat) : ∃ name, keyControl d h i true = some (keyConfirmed d h i name) := by
  rw [keyControl, if_neg hid, if_pos rfl]
  exact ⟨_, rfl⟩

/-- A key made is 16 octets of entropy (R336). -/
theorem length_key : ((drawEntropy d).1.take 16).length = 16 := by
  rw [List.length_take, drawEntropy, fit_length]
  rfl

end

/-! ## The rules of the messages -/

section

variable {s : State} {h : Ploam} (ht : PloamTaken s h)

theorem noted_ploamUp (s : State) (h : Ploam) : (ploamNoted (s.dev.at h.e) h).pon.ploamUp = s.dev.pon.ploamUp := rfl

include ht

theorem does_burstProfile {n : Nat} (hn : n < 4) (a b : Bytes) (fec : Bool) : Does (.burstProfile h n a b fec) s fun d =>
    d.pon.profiles = (s.dev.pon.profiles.filter fun x => decide (x.index ≠ n)) ++ [{ index := n, preamble := a, delimiter := b, fec := fec }] ∧ AckedIfUnicast s d h 0 ∧
      d.pon.act = (if s.dev.pon.act = .o12 ∧ backoffOver (s.dev.at h.e) = true then .o23 else s.dev.pon.act) ∧
      d.pon.attempting = (if s.dev.pon.act = .o12 ∧ backoffOver (s.dev.at h.e) = true then true else s.dev.pon.attempting) := by
  refine does_taken ht rfl (if_pos hn) fun q _ => ?_
  obtain ⟨hprofiles, hack, hact, hatt⟩ := storeProfile_spec (s := s) (h := h) { index := n, preamble := a, delimiter := b, fec := fec } (noted_ploamUp s h)
  exact ⟨hprofiles, ackedIfUnicast_seqNoted hack, hact, hatt⟩

theorem does_assignOnuId {serial : Bytes} (hact : s.dev.pon.act = .o23) (hserial : serial = serialNumber (s.dev.at h.e)) (onu : BitVec 10) :
    Does (.assignOnuId h serial onu) s fun d =>
      d.pon.act = .o4 ∧ d.pon.onuId = onu.setWidth 16 ∧ d.pon.allocs = [onu.toNat] ∧ d.pon.timerAt = now (s.dev.at h.e) ∧ d.grat = (s.dev.at h.e).grat :=
  does_taken ht rfl (if_pos ⟨hact, hserial⟩) fun _ _ => ⟨rfl, rfl, rfl, rfl, rfl⟩

theorem passes_assignOnuId {serial : Bytes} (hno : s.dev.pon.act ≠ .o23 ∨ serial ≠ serialNumber (s.dev.at h.e)) (onu : BitVec 10) :
    Passes (.assignOnuId h serial onu) s h.e := passes_taken ht rfl (if_neg fun k => hno.elim (absurd k.1) (absurd k.2))

theorem does_rangingTime (hact : s.dev.pon.act = .o4 ∨ s.dev.pon.act = .o5) (ns : Int) (rel : Bool) : Does (.rangingTime h ns rel) s fun d =>
    d.pon.act = .o5 ∧ d.pon.eqdLog.head? = some (countTick s.dev.pon.lastCount, d.pon.eqdNs) ∧ AckedIfUnicast s d h 0 ∧
      d.pon.eqdNs = BitVec.ofNat 32 (if rel then (s.dev.pon.eqdNs.toNat : Int) + ns else ns).toNat := by
  have hv : (if rel then ((ploamNoted (s.dev.at h.e) h).pon.eqdNs.toNat : Int) + ns else ns) = if rel then (s.dev.pon.eqdNs.toNat : Int) + ns else ns := rfl
  refine does_taken ht rfl (if_pos hact) fun q _ => ?_
  obtain ⟨hact', hlog, hack, hns⟩ := ranged_spec (s := s) (d := ploamNoted (s.dev.at h.e) h) (h := h)
    (if rel then ((ploamNoted (s.dev.at h.e) h).pon.eqdNs.toNat : Int) + ns else ns).toNat hact (noted_ploamUp s h)
  refine ⟨hact', hlog, ackedIfUnicast_seqNoted hack, ?_⟩
  rw [← hv]
  exact hns

theorem does_deactivateOnuId (hact : s.dev.pon.act = .o4 ∨ s.dev.pon.act = .o5) : Does (.deactivateOnuId h) s fun d =>
    d.pon.act = .o23 ∧ d.pon.onuId = 0xFFFF ∧ d.pon.allocs = [] :=
  does_taken ht rfl (if_pos hact) fun _ _ => ⟨rfl, rfl, rfl⟩

theorem does_disable {opt : Option Bytes} (hopt : opt = none ∨ opt = some (serialNumber (s.dev.at h.e))) (hact : s.dev.pon.act ≠ .o7) :
    Does (.disableSerialNumber h opt false) s fun d =>
      d.pon.act = .o7 ∧ d.pon.onuId = 0xFFFF ∧ d.pon.allocs = [] ∧ d.pon.attempting = s.dev.pon.attempting ∧ d.pon.attemptsFailed = s.dev.pon.attemptsFailed := by
  refine does_taken (x := disabled (ploamNoted (s.dev.at h.e) h)) ht rfl ((if_neg ?_).trans (if_neg Bool.false_ne_true)) fun q _ => ?_
  · exact not_or.2 ⟨not_otherSerial hopt, not_or.2 ⟨fun k => Bool.noConfusion k.1, fun k => hact k.2⟩⟩
  · rw [seqNoted_pon, disabled_pon]
    exact ⟨rfl, rfl, rfl, rfl, rfl⟩

theorem does_enable {opt : Option Bytes} (hopt : opt = none ∨ opt = some (serialNumber (s.dev.at h.e))) (hact : s.dev.pon.act = .o7) :
    Does (.disableSerialNumber h opt true) s fun d => EntersOff s.dev.pon d.pon ∧ d.pon.sync = s.dev.pon.sync := by
  refine does_taken (x := (enterOff (ploamNoted (s.dev.at h.e) h)).setCause 0xA2 false) ht rfl ((if_neg ?_).trans (if_pos rfl)) fun q hq => ?_
  · exact not_or.2 ⟨not_otherSerial hopt, not_or.2 ⟨fun k => k.2 hact, fun k => Bool.noConfusion k.1⟩⟩
  · have hoff := entersOff_enterOff (d := ploamNoted (s.dev.at h.e) h)
    obtain rfl := hq hoff.1.2.1
    exact hoff

theorem does_requestRegistration (hid : s.dev.pon.onuId ≠ 0xFFFF) : Does (.requestRegistration h) s fun d =>
    PloamQueued s d 0x02 h.seq (zeros 36) ∧ d.pon.act = s.dev.pon.act := by
  refine does_taken ht rfl (if_neg hid) fun q _ => ⟨ploamQueued_seqNoted (ploamQueued_queuePloam (noted_ploamUp s h)), ?_⟩
  rw [seqNoted_pon, queuePloam_pon, ploamNoted_pon]
  rfl

/-- Alloc-IDs set by a message that is acknowledged as executed (R340). -/
theorem does_setAllocs {c : Instr} {f : Dev → Option Dev} (hx : exec c s = ploamRow h s f) (l : List Nat)
    (hf : f (ploamNoted (s.dev.at h.e) h) = some (ackUnicast ((ploamNoted (s.dev.at h.e) h).updPon fun p => { p with allocs := l }) h)) :
    Does c s fun d => d.pon.allocs = l ∧ AckedIfUnicast s d h 0 :=
  does_taken ht hx hf fun _ _ => ⟨ackKeeps_ackUnicast.allocs, ackedIfUnicast_seqNoted (ackedIfUnicast_ackUnicast (noted_ploamUp s h))⟩

theorem does_removeAlloc (hid : s.dev.pon.onuId ≠ 0xFFFF) (a : Nat) : Does (.assignAllocId h a true) s fun d =>
    d.pon.allocs = s.dev.pon.allocs.filter (· ≠ a) ∧ AckedIfUnicast s d h 0 := by
  have hrow := assignAlloc_remove (d := ploamNoted (s.dev.at h.e) h) (h := h) hid a
  exact does_setAllocs ht (f := fun d => assignAlloc d h a true) rfl ((ploamNoted (s.dev.at h.e) h).pon.allocs.filter (· ≠ a)) hrow

theorem does_addAlloc (hid : s.dev.pon.onuId ≠ 0xFFFF) {a : Nat} (hnew : a ∉ s.dev.pon.allocs) (hroom : s.dev.pon.allocs.length < 32) :
    Does (.assignAllocId h a false) s fun d => d.pon.allocs = s.dev.pon.allocs ++ [a] ∧ AckedIfUnicast s d h 0 :=
  does_setAllocs ht (f := fun d => assignAlloc d h a false) rfl _ (assignAlloc_add (d := ploamNoted (s.dev.at h.e) h) hid hnew hroom)

theorem does_refuseAlloc (hid : s.dev.pon.onuId ≠ 0xFFFF) {a : Nat} (hnew : a ∉ s.dev.pon.allocs) (hfull : 32 ≤ s.dev.pon.allocs.length) :
    Does (.assignAllocId h a false) s fun d => d.pon.allocs = s.dev.pon.allocs ∧ PloamQueued s d 0x09 h.seq (be 1 4) := by
  refine does_taken ht (f := fun d => assignAlloc d h a false) rfl (assignAlloc_full (d := ploamNoted (s.dev.at h.e) h) hid hnew hfull) fun q _ => ⟨?_, ?_⟩
  · simp only [seqNoted_pon, acknowledge_pon, ploamNoted_pon]
    rfl
  · exact ploamQueued_seqNoted (ploamQueued_acknowledge rfl (noted_ploamUp s h))

theorem does_makeKey (hid : s.dev.pon.onuId ≠ 0xFFFF) {i : Nat} (hi : i = 1 ∨ i = 2) : Does (.keyControl h i false) s fun d => ∃ key, key.length = 16 ∧
    d.pon.keyPending = some (i, key) ∧ d.pon.uni1 = (if i = 1 then some key else s.dev.pon.uni1) ∧ d.pon.uni2 = (if i = 2 then some key else s.dev.pon.uni2) ∧
      PloamQueued s d 0x05 h.seq (be 1 0 ++ be 1 i ++ zeros 2 ++ key) := by
  refine does_taken ht rfl ((if_pos hi).trans (keyControl_make (d := ploamNoted (s.dev.at h.e) h) hid i)) fun _ _ => ?_
  exact ⟨_, length_key, rfl, rfl, rfl, ploamQueued_seqNoted (ploamQueued_queuePloam rfl)⟩

theorem does_confirmKey (hid : s.dev.pon.onuId ≠ 0xFFFF) {i : Nat} (hi : i = 1 ∨ i = 2) {key : Bytes} (hpend : s.dev.pon.keyPending = some (i, key)) :
    Does (.keyControl h i true) s fun d => d.pon.keyPending = none ∧ d.pon.uni1 = s.dev.pon.uni1 ∧ d.pon.uni2 = s.dev.pon.uni2 ∧ d.pon.txKey = some i := by
  obtain ⟨name, hf⟩ := keyControl_confirm (d := ploamNoted (s.dev.at h.e) h) (h := h) hid i
  refine does_taken ht rfl ((if_pos hi).trans hf) fun _ _ => ?_
  simp only [seqNoted_pon, keyConfirmed, queuePloam_pon, Dev.updPon_pon, ploamNoted_pon, Dev.at_pon, hpend]
  simp

theorem does_sleepAllow (hawake : s.dev.pon.watchful = false) (allowed : Bool) : Does (.sleepAllow h allowed) s fun d =>
    d.pon.sleepAllowed = allowed ∧ AckedIfUnicast s d h 0 ∧ d.dormant = s.dev.dormant := by
  have hack := ackKeeps_ackUnicast (d := (ploamNoted (s.dev.at h.e) h).updPon fun p => { p with sleepAllowed := allowed }) (h := h)
  refine does_taken ht rfl (congrArg some (if_neg fun k => ne_true_of_eq_false (hack.watchful.trans hawake) k.1)) fun _ _ => ?_
  exact ⟨hack.sleepAllowed, ackedIfUnicast_seqNoted (ackedIfUnicast_ackUnicast (noted_ploamUp s h)), hack.dormant⟩

theorem does_ploamUnsupported (ty : Byte) : Does (.ploamUnsupported h ty) s fun d =>
    d.pon.ploamUnsupported = s.dev.pon.ploamUnsupported + 1 ∧ d.pon.lastSeq = s.dev.pon.lastSeq ∧ PloamQueued s d 0x09 h.seq (be 1 3) :=
  does_branch rfl (if_pos ht)
    ⟨rfl, rfl, ploamQueued_queuePloam (x := (s.dev.at h.e).updPon fun p => { p with ploamUnsupported := p.ploamUnsupported + 1 }) rfl⟩

end

end Sys2Proof.Machine

section

open Sys2Proof.Machine

/-- Settles O43: an untaken message goes one way for all ten commands, and each taken one has its own rule. -/
theorem ploamMessagesTakeEffect : Obligations.PloamMessagesTakeEffect := by
  intro s h d0 p rows
  refine ⟨?elsewhere, ?badMic, ?again, fun ht => ⟨?profile, fun n a b fec hn => passes_taken ht rfl (if_neg (Nat.not_lt.2 hn)),
    fun serial onu hact hserial => does_assignOnuId ht hact hserial onu, ?notAssigned, fun ns rel hact => does_rangingTime ht hact ns rel, does_deactivateOnuId ht,
    fun opt hopt => ⟨does_disable ht hopt, does_enable ht hopt⟩,
    fun hid => ⟨does_requestRegistration ht hid, does_removeAlloc ht hid, fun a => does_addAlloc ht hid, fun a => does_refuseAlloc ht hid,
      fun i => does_makeKey ht hid, fun i key hi => does_confirmKey ht hid hi⟩,
    fun i conf hi => passes_taken ht rfl (if_neg (not_or.2 hi)), fun allowed hawake => does_sleepAllow ht hawake allowed, does_ploamUnsupported ht⟩⟩
  case elsewhere =>
    intro n a b fec serial onu ns rel opt en alloc rem idx conf ty hr c hc
    exact does_untaken (ploamOf_mem hc) (fun ht => ne_true_of_eq_false hr ht.1) fun f => takePloam_elsewhere hr
  case badMic =>
    intro n a b fec serial onu ns rel opt en alloc rem idx conf ty hr hm c hc
    refine does_untaken (ploamOf_mem hc) (fun ht => ne_true_of_eq_false hm ht.2.1) fun f => ?_
    rw [takePloam_badMic hr hm, raisePon_pon, raisePon_grat, raisePon_dormant]
    exact ⟨rfl, rfl, rfl⟩
  case again =>
    intro n a b fec serial onu ns rel opt en alloc rem idx conf ty hr hm hu hq c hc
    refine does_untaken (ploamOf_mem hc) (fun ht => ht.2.2.elim hu (absurd hq)) fun f => ?_
    rw [takePloam_repeat hr hm hu hq]
    exact ⟨ploamQueued_acknowledge rfl rfl, rfl, rfl⟩
  case profile =>
    intro n a b fec hn
    obtain ⟨t, hx, hp, hf, hprofiles, hack, hact⟩ := does_burstProfile ht hn a b fec
    obtain ⟨hsame, hother⟩ := filter_profile_replaced p.profiles { index := n, preamble := a, delimiter := b, fec := fec }
    refine ⟨t, hx, hp, hf, ?_, ?_, hack, hact⟩
    · exact hprofiles ▸ hsame
    · exact hprofiles ▸ hother
  case notAssigned =>
    intro serial onu hno
    obtain ⟨t, hx, hp, hf, hd⟩ := passes_assignOnuId ht hno onu
    refine ⟨t, hx, hp, hf, ?_⟩
    rw [hd]
    exact ⟨rfl, rfl, rfl⟩

end

/-! OMCI (08 R339, R346, Table 8.5): each message is answered once, and touches what its class and action say. -/

namespace Sys2Proof.Machine

section

variable {d x : Dev} {s : State} {m : Omci}

/-! ## Replies -/

/-- The reply that waits: a free value is its MIC (log 33). -/
def omciFrame (d : Dev) (tci type cls inst : Nat) (content : Bytes) : Bytes :=
  be 2 tci ++ be 1 (0x20 + type) ++ be 1 0x0A ++ be 2 cls ++ be 2 inst ++ fit 32 content ++ be 4 0x28 ++ be 4 (Config.freeValue d.free)

@[simp] theorem omciReply_pon (tci type cls inst : Nat) (content : Bytes) :
    (omciReply d tci type cls inst content).pon = { d.pon with omciUp := d.pon.omciUp ++ [omciFrame d tci type cls inst content] } := rfl

/-- What a reply says begins with its result. -/
theorem omciReplied_omciReply (hup : x.pon.omciUp = s.dev.pon.omciUp) (tci : BitVec 16) (type cls inst result : Nat) (rest : Bytes) :
    OmciReplied s (omciReply x tci.toNat type cls inst (be 1 result ++ rest)) tci type cls inst result := by
  refine ⟨fit 31 rest ++ (be 4 0x28 ++ be 4 (Config.freeValue x.free)), ?_⟩
  have hfit : fit 32 (be 1 result ++ rest) = be 1 result ++ fit 31 rest := fit_append (n := 1) (k := 31) rfl
  rw [omciReply_pon, hup, omciFrame, hfit]
  simp only [List.append_assoc]

theorem omciReplied_result (hup : x.pon.omciUp = s.dev.pon.omciUp) (tci : BitVec 16) (type cls inst result : Nat) :
    OmciReplied s (omciReply x tci.toNat type cls inst (be 1 result)) tci type cls inst result := by
  have h := omciReplied_omciReply hup tci type cls inst result []
  rwa [List.append_nil] at h

/-! ## Messages -/

theorem omciMessage_discarded (h : omciReaches d m.micOk = false ∨ m.extended = true) : omciMessage d m = d :=
  if_pos (h.imp (fun h => by simp [h]) id)

variable (hr : omciReaches d m.micOk = true) (hx : m.extended = false)

/-- The terminal with a refused Create or Set counted (R339). -/
def omciCounted (d : Dev) (m : Omci) : Dev :=
  if m.action = .create ∨ m.action = .set then d.updPon fun p => { p with omciRefused := p.omciRefused + 1 } else d

theorem omciCounted_pon : (omciCounted d m).pon = { d.pon with omciRefused := if m.action = .create ∨ m.action = .set then d.pon.omciRefused + 1 else d.pon.omciRefused } := by
  unfold omciCounted
  split <;> rfl

theorem omciCounted_wire : (omciCounted d m).wire = d.wire := by
  unfold omciCounted
  split <;> rfl

include hr hx

theorem omciReaches_taken : ¬ (¬ omciReaches d m.micOk = true ∨ m.extended = true) := by simp [hr, hx]

theorem omciMessage_unsupported (hc : m.cls ∉ omciClasses) :
    omciMessage d m = omciReply (omciCounted d m) m.tci.toNat (omciType m.action) m.cls m.inst (be 1 4) :=
  (if_neg (omciReaches_taken hr hx)).trans (if_pos hc)

theorem omciMessage_get (hc : m.cls ∈ omciClasses) (ha : m.action = .get) : omciMessage d m = omciGet d m :=
  (if_neg (omciReaches_taken hr hx)).trans ((if_neg (not_not.2 hc)).trans (if_pos ha))

/-- Create, Set and Delete answer with the result of what they apply; a success steps the MIB data sync (R339). -/
theorem omciMessage_apply {n : Nat} {q : Pon} (hc : m.cls ∈ omciClasses) (ha : m.action ≠ .get) (happly : omciApply d m = (n, q)) :
    omciMessage d m = omciReply (d.updPon fun _ => if n = 0 ∧ m.cls ≠ 2 then { q with mibSync := mibStep q.mibSync } else q)
      m.tci.toNat (omciType m.action) m.cls m.inst (be 1 n) := by
  refine (if_neg (omciReaches_taken hr hx)).trans ((if_neg (not_not.2 hc)).trans ((if_neg ha).trans ?_))
  rw [happly]

end

section

variable {d x : Dev} {s : State} {m : Omci}

/-! ## What the actions apply -/

theorem omciApply_download (ha : m.action = .download) : omciApply d m = (2, d.pon) := by
  simp only [omciApply, ha]

theorem omciApply_create (hc : m.cls = 268) (ha : m.action = .create) (hfree : tabGet none d.pon.gemPorts m.inst = none)
    (hclash : gemClash d m (gemOf m none) = false) :
    omciApply d m = (0, { d.pon with gemPorts := tabSet none d.pon.gemPorts m.inst (some (gemOf m none)) }) := by
  simp [omciApply, hc, ha, hfree, hclash]

theorem omciApply_delete (hc : m.cls = 268) (ha : m.action = .delete) (hheld : tabGet none d.pon.gemPorts m.inst ≠ none) :
    omciApply d m = (0, { d.pon with gemPorts := tabSet none d.pon.gemPorts m.inst none }) := by
  simp [omciApply, hc, ha, Option.isSome_iff_ne_none, hheld]

/-- A read draws a free value at most (log 33). -/
theorem omciRead_free (cls inst n len : Nat) : ∃ k, (omciRead d cls inst n len).2 = { d with free := k } := by
  unfold omciRead
  extract_lets running known f
  clear_value known
  cases known with
  | some b => exact ⟨d.free, rfl⟩
  | none => exact ⟨d.free + 1, rfl⟩

/-- A Get reads its attributes one after another and answers with success. -/
theorem omciGet_eq (d : Dev) (m : Omci) : ∃ k rest, omciGet d m = omciReply { d with free := k } m.tci.toNat 9 m.cls m.inst (be 1 0 ++ rest) := by
  unfold omciGet
  extract_lets mask r
  have hr : ∃ k, r.2 = { d with free := k } := by
    refine List.foldlRecOn (motive := fun acc : Bytes × Dev => ∃ k, acc.2 = { d with free := k }) m.attrs _ ⟨d.free, rfl⟩ fun acc h a _ => ?_
    obtain ⟨k, hk⟩ := h
    obtain ⟨k', hk'⟩ := omciRead_free (d := acc.2) m.cls m.inst a.1 a.2.length
    exact ⟨k', by rw [hk', hk]⟩
  obtain ⟨k, hk⟩ := hr
  exact ⟨k, be 2 mask ++ r.1, by rw [hk, List.append_assoc]⟩

end

/-! ## The commands -/

section

variable {s : State} {e : Nat} {m : Omci}

theorem exec_omciMessage : exec (.omciMessage e m) s = .next (s.withDev (omciMessage (dropHandedOmci (s.dev.at e)) m)) := rfl

theorem does_omciDiscarded (h : omciReaches (s.dev.at e) m.micOk = false ∨ m.extended = true) : Does (.omciMessage e m) s fun d =>
    d.pon = s.dev.pon ∧ d.wire = s.dev.wire := by
  refine does_next exec_omciMessage ?_
  rw [omciMessage_discarded (d := dropHandedOmci (s.dev.at e)) h]
  exact ⟨rfl, rfl⟩

variable (hr : omciReaches (s.dev.at e) m.micOk = true) (hx : m.extended = false)

include hr hx

theorem does_omciUnsupported (hc : m.cls ∉ omciClasses) : Does (.omciMessage e m) s fun d => OmciReplied s d m.tci (omciType m.action) m.cls m.inst 4 ∧
    d.pon = { s.dev.pon with
      omciUp := d.pon.omciUp
      omciRefused := if m.action = .create ∨ m.action = .set then s.dev.pon.omciRefused + 1 else s.dev.pon.omciRefused } ∧ d.wire = s.dev.wire := by
  have hpon := omciCounted_pon (d := dropHandedOmci (s.dev.at e)) (m := m)
  refine does_next exec_omciMessage ?_
  rw [omciMessage_unsupported (d := dropHandedOmci (s.dev.at e)) hr hx hc]
  refine ⟨omciReplied_result ?_ _ _ _ _ _, ?_, omciCounted_wire⟩
  · rw [hpon]
    rfl
  · rw [omciReply_pon, hpon]
    rfl

theorem does_omciGet (hc : m.cls ∈ omciClasses) (ha : m.action = .get) : Does (.omciMessage e m) s fun d =>
    OmciReplied s d m.tci 9 m.cls m.inst 0 ∧ d.pon = { s.dev.pon with omciUp := d.pon.omciUp } ∧ d.wire = s.dev.wire := by
  obtain ⟨k, rest, hget⟩ := omciGet_eq (dropHandedOmci (s.dev.at e)) m
  refine does_next exec_omciMessage ?_
  rw [omciMessage_get (d := dropHandedOmci (s.dev.at e)) hr hx hc ha, hget]
  have hreply := omciReplied_omciReply (s := s) (x := { dropHandedOmci (s.dev.at e) with free := k }) rfl m.tci 9 m.cls m.inst 0 rest
  exact ⟨hreply, rfl, rfl⟩

/-- What Create, Set and Delete make of the terminal but for its replies, with their result. -/
theorem does_omciApply {n : Nat} {q : Pon} {P : Dev → Prop} (hc : m.cls ∈ omciClasses) (ha : m.action ≠ .get)
    (happly : omciApply (dropHandedOmci (s.dev.at e)) m = (n, q)) (hup : q.omciUp = s.dev.pon.omciUp)
    (hP : ∀ x up, x.wire = s.dev.wire → x.pon = { (if n = 0 ∧ m.cls ≠ 2 then { q with mibSync := mibStep q.mibSync } else q) with omciUp := up } →
      OmciReplied s x m.tci (omciType m.action) m.cls m.inst n → P x) : Does (.omciMessage e m) s P := by
  refine does_next exec_omciMessage ?_
  rw [omciMessage_apply (d := dropHandedOmci (s.dev.at e)) hr hx hc ha happly]
  refine hP _ _ rfl (omciReply_pon ..) (omciReplied_result ?_ _ _ _ _ _)
  rw [Dev.updPon_pon]
  split <;> exact hup

theorem does_omciDownload (hc : m.cls ∈ omciClasses) (ha : m.action = .download) : Does (.omciMessage e m) s fun d =>
    OmciReplied s d m.tci 19 m.cls m.inst 2 ∧ d.pon = { s.dev.pon with omciUp := d.pon.omciUp } ∧ d.wire = s.dev.wire := by
  refine does_omciApply hr hx hc (by simp [ha]) (omciApply_download ha) rfl fun x up hwire hpon hreply => ?_
  rw [ha] at hreply
  refine ⟨hreply, ?_, hwire⟩
  rw [hpon]
  rfl

theorem does_omciCreate (hwf : tabWf none s.dev.pon.gemPorts = true) (hc : m.cls = 268) (ha : m.action = .create) (hfree : tabGet none s.dev.pon.gemPorts m.inst = none)
    (hclash : gemClash (s.dev.at e) m (gemOf m none) = false) : Does (.omciMessage e m) s fun d =>
    OmciReplied s d m.tci 4 268 m.inst 0 ∧ tabGet none d.pon.gemPorts m.inst = some (gemOf m none) ∧
      (∀ i, i ≠ m.inst → tabGet none d.pon.gemPorts i = tabGet none s.dev.pon.gemPorts i) ∧ d.pon.mibSync = mibStep s.dev.pon.mibSync := by
  have happly := omciApply_create (d := dropHandedOmci (s.dev.at e)) hc ha hfree hclash
  refine does_omciApply hr hx (by rw [hc]; decide) (by simp [ha]) happly rfl fun x up _ hpon hreply => ?_
  rw [ha, hc] at hreply
  rw [if_pos ⟨rfl, by rw [hc]; decide⟩] at hpon
  rw [hpon]
  exact ⟨hreply, tabGet_tabSet_self_wf hwf, fun i hi => tabGet_tabSet_other_wf hwf hi, rfl⟩

theorem does_omciDelete (hwf : tabWf none s.dev.pon.gemPorts = true) (hc : m.cls = 268) (ha : m.action = .delete) (hheld : tabGet none s.dev.pon.gemPorts m.inst ≠ none) :
    Does (.omciMessage e m) s fun d => OmciReplied s d m.tci 6 268 m.inst 0 ∧ tabGet none d.pon.gemPorts m.inst = none := by
  have happly := omciApply_delete (d := dropHandedOmci (s.dev.at e)) hc ha hheld
  refine does_omciApply hr hx (by rw [hc]; decide) (by simp [ha]) happly rfl fun x up _ hpon hreply => ?_
  rw [ha, hc] at hreply
  rw [if_pos ⟨rfl, by rw [hc]; decide⟩] at hpon
  rw [hpon]
  exact ⟨hreply, tabGet_tabSet_self_wf hwf⟩

end

section

variable {s : State} {e : Nat} (hr : omciReaches (s.dev.at e) true = true)

include hr

theorem does_mibReset (tci : BitVec 16) : Does (.mibReset e true tci) s fun d =>
    d.pon = { s.dev.pon with gemPorts := [], tconts := [], gemIwtp := [], mcastIwtp := [], mibSync := 0, omciUp := d.pon.omciUp } ∧ OmciReplied s d tci 15 2 0 0 :=
  does_branch rfl (if_pos hr) ⟨rfl, omciReplied_result rfl _ _ _ _ _⟩

theorem does_timeOfDaySet (tci : BitVec 16) (sq : BitVec 32) (stamp : Bytes) : Does (.timeOfDaySet e true tci sq stamp) s fun d =>
    d.grat.todValue = fit 10 stamp ∧ d.grat.todStamp = stampOf (nearestTick (stampTick (now (s.dev.at e))) sq) 0 ∧ d.grat.tick = s.dev.grat.tick ∧
      d.pon = { s.dev.pon with omciUp := d.pon.omciUp } ∧ OmciReplied s d tci 8 131 0 0 :=
  does_branch rfl (if_pos hr) ⟨rfl, rfl, rfl, rfl, omciReplied_result rfl _ _ _ _ _⟩

end

end Sys2Proof.Machine

/-! Downstream XGEM frames (08 R323, R324, R342, R343). -/

namespace Sys2Proof.Machine

section

variable {d x : Dev} {n : Nat} {l : List Nat}

/-! ## Codewords lost -/

theorem loseCodeword_seen (h : n < d.pon.lostSeen) : loseCodeword d n = d := if_pos h

theorem loseCodeword_new (h : d.pon.lostSeen ≤ n) : loseCodeword d n =
    raisePon (d.updPon fun p => { p with fecUncorrectable := p.fecUncorrectable + 1, lostSeen := n + 1 }) 0xA3 := if_neg (Nat.not_lt.2 h)

/-- The terminal after codewords of rising numbers are lost: those not seen before count, each once (R323). -/
structure Lost (d : Dev) (l : List Nat) (x : Dev) : Prop where
  handed : x.handed = d.handed
  grows : d.pon.lostSeen ≤ x.pon.lostSeen
  seen : ∀ n ∈ l, n < x.pon.lostSeen
  pon : x.pon = { d.pon with
    lostSeen := x.pon.lostSeen
    fecUncorrectable := d.pon.fecUncorrectable + BitVec.ofNat 64 (l.filter fun n => decide (d.pon.lostSeen ≤ n)).length }

theorem lost_seen_cons (hn : n < d.pon.lostSeen) (h : Lost d l x) : Lost d (n :: l) x where
  handed := h.handed
  grows := h.grows
  seen := List.forall_mem_cons.2 ⟨Nat.lt_of_lt_of_le hn h.grows, h.seen⟩
  pon := by
    rw [List.filter_cons_of_neg (by simpa using hn)]
    exact h.pon

theorem lost_new_cons (hn : d.pon.lostSeen ≤ n) (hl : ∀ k ∈ l, n < k) (h : Lost (loseCodeword d n) l x) : Lost d (n :: l) x := by
  have hpon : (loseCodeword d n).pon = { d.pon with fecUncorrectable := d.pon.fecUncorrectable + 1, lostSeen := n + 1 } := by
    rw [loseCodeword_new hn, raisePon_pon]
    rfl
  have hgrows : n + 1 ≤ x.pon.lostSeen := by simpa only [hpon] using h.grows
  have hall : l.filter (fun k => decide (n + 1 ≤ k)) = l := List.filter_eq_self.2 fun k hk => decide_eq_true (hl k hk)
  have hall' : l.filter (fun k => decide (d.pon.lostSeen ≤ k)) = l := List.filter_eq_self.2 fun k hk => decide_eq_true (hn.trans (hl k hk).le)
  refine ⟨?_, hn.trans (Nat.le_of_succ_le hgrows), List.forall_mem_cons.2 ⟨hgrows, h.seen⟩, ?_⟩
  · rw [h.handed, loseCodeword_new hn, raisePon_handed]
    rfl
  · have hcount : d.pon.fecUncorrectable + BitVec.ofNat 64 ((n :: l).filter fun k => decide (d.pon.lostSeen ≤ k)).length =
        d.pon.fecUncorrectable + 1 + BitVec.ofNat 64 l.length := by
      rw [List.filter_cons_of_pos (by simpa using hn), hall', List.length_cons, Nat.add_comm, BitVec.ofNat_add, ← BitVec.add_assoc]
      rfl
    have hx := h.pon
    rw [hpon] at hx
    simp only [hall] at hx
    rw [hcount]
    exact hx

theorem lost_foldl (hl : l.Pairwise (· < ·)) : Lost d l (l.foldl loseCodeword d) := by
  induction l generalizing d with
  | nil =>
    refine ⟨rfl, Nat.le_refl _, by simp, ?_⟩
    simp
  | cons n r ih =>
    obtain ⟨hn, hr⟩ := List.pairwise_cons.1 hl
    rw [List.foldl_cons]
    rcases Nat.lt_or_ge n d.pon.lostSeen with h | h
    · rw [loseCodeword_seen h]
      exact lost_seen_cons h (ih hr)
    · exact lost_new_cons h hn (ih hr)

end

section

variable {d : Dev} {port key counter : Nat} {pay : Bytes}

/-! ## Frames handed on -/

/-- The OMCC's port is the ONU-ID, and no binding bears on it (R342). -/
theorem xgemFrame_omcc (hid : d.pon.onuId ≠ 0xFFFF) (hport : port = d.pon.onuId.toNat) : xgemFrame d port key counter pay =
    (xgemClear d.pon false key counter pay).elim (raisePon (d.updPon fun p => { p with dsUndecryptable := p.dsUndecryptable + 1 }) 0xA9)
      fun sdu => { d with handed := d.handed ++ [.omci sdu] } := by
  have homcc : (decide (d.pon.onuId ≠ 0xFFFF) && decide (port = d.pon.onuId.toNat)) = true :=
    Bool.and_eq_true_iff.2 ⟨decide_eq_true hid, decide_eq_true hport⟩
  unfold xgemFrame
  rw [homcc]
  simp only [not_true_eq_false, false_and, if_false, Bool.not_true, Bool.and_false, if_true, Option.toList_some]
  cases xgemClear d.pon false key counter pay <;> rfl

theorem xgemFrame_omcc_clear (hid : d.pon.onuId ≠ 0xFFFF) (hport : port = d.pon.onuId.toNat) :
    xgemFrame d port 0 counter pay = { d with handed := d.handed ++ [.omci pay] } := xgemFrame_omcc hid hport

/-- There is no key of an index above 4 (log 33). -/
theorem xgemClear_no_key (p : Pon) (hk : 5 ≤ key) : xgemClear p false key counter pay = none := by
  obtain ⟨j, rfl⟩ := Nat.exists_eq_add_of_le' hk
  rfl

theorem xgemFrame_omcc_undecryptable (hid : d.pon.onuId ≠ 0xFFFF) (hport : port = d.pon.onuId.toNat) (hk : 5 ≤ key) :
    xgemFrame d port key counter pay = raisePon (d.updPon fun p => { p with dsUndecryptable := p.dsUndecryptable + 1 }) 0xA9 := by
  rw [xgemFrame_omcc hid hport, xgemClear_no_key _ hk]
  rfl

/-- A port that is neither the OMCC's nor bound is passed by (R342). -/
theorem xgemFrame_unbound (homcc : d.pon.onuId = 0xFFFF ∨ port ≠ d.pon.onuId.toNat) (hb : ∀ b ∈ ponBindings d, beAt 2 1 b.2 = 0 ∨ beAt 0 2 b.2 ≠ port) :
    xgemFrame d port key counter pay = d := by
  have hfind : ((ponBindings d).find? fun b => decide (beAt 2 1 b.2 ≠ 0) && decide (beAt 0 2 b.2 = port)) = none := by
    refine List.find?_eq_none.2 fun b hb' => ?_
    rcases hb b hb' with h | h <;> simp [h]
  unfold xgemFrame
  rw [hfind]
  refine if_pos ⟨?_, rfl⟩
  rcases homcc with h | h <;> simp [h]

end

/-! ## The command -/

section

variable {s : State} {e port key cor : Nat} {lost : List Nat} {ctr : BitVec 128} {pay : Bytes}

theorem passes_xgemFrame (h : listening (s.dev.at e) = false ∨ s.dev.pon.sync = .hunt ∨ s.dev.pon.sync = .preSync) :
    Passes (.xgemFrameReceived e port key cor lost ctr pay) s e :=
  passes_branch rfl (if_pos (h.imp (fun h => by simp [h]) id))

/-- The terminal with the codewords corrected before a frame counted (R323). -/
def corrected (d : Dev) (cor : Nat) : Dev := d.updPon fun p => { p with fecCorrected := p.fecCorrected + BitVec.ofNat 64 cor }

variable (hl : listening (s.dev.at e) = true) (hs : s.dev.pon.sync = .sync ∨ s.dev.pon.sync = .reSync)

include hl hs

theorem exec_xgemFrame : exec (.xgemFrameReceived e port key cor lost ctr pay) s = .next (s.withDev
    (if lost ≠ [] then lost.foldl loseCodeword (corrected (s.dev.at e) cor) else xgemFrame (corrected (s.dev.at e) cor) port key ctr.toNat pay)) := by
  refine exec_branch rfl (if_neg ?_)
  rcases hs with h | h <;> simp [hl, h]

theorem does_xgemLost (hne : lost ≠ []) (hrise : lost.Pairwise (· < ·)) : Does (.xgemFrameReceived e port key cor lost ctr pay) s fun d =>
    Lost (corrected (s.dev.at e) cor) lost d := by
  refine does_next (exec_xgemFrame hl hs) ?_
  rw [if_pos hne]
  exact lost_foldl hrise

theorem does_xgemOmcc (hid : s.dev.pon.onuId ≠ 0xFFFF) (hport : port = s.dev.pon.onuId.toNat) : Does (.xgemFrameReceived e port 0 cor [] ctr pay) s fun d =>
    d = { corrected (s.dev.at e) cor with handed := s.dev.handed ++ [.omci pay] } := by
  refine does_next (exec_xgemFrame hl hs) ?_
  rw [if_neg (by simp), xgemFrame_omcc_clear (d := corrected (s.dev.at e) cor) hid hport]
  rfl

theorem does_xgemUndecryptable (hid : s.dev.pon.onuId ≠ 0xFFFF) (hport : port = s.dev.pon.onuId.toNat) (hk : 5 ≤ key) :
    Does (.xgemFrameReceived e port key cor [] ctr pay) s fun d =>
      d.pon = { (corrected (s.dev.at e) cor).pon with dsUndecryptable := s.dev.pon.dsUndecryptable + 1 } ∧ d.handed = s.dev.handed := by
  refine does_next (exec_xgemFrame hl hs) ?_
  rw [if_neg (by simp), xgemFrame_omcc_undecryptable (d := corrected (s.dev.at e) cor) hid hport hk, raisePon_pon, raisePon_handed]
  exact ⟨rfl, rfl⟩

theorem does_xgemUnbound (homcc : s.dev.pon.onuId = 0xFFFF ∨ port ≠ s.dev.pon.onuId.toNat) (hb : ∀ b ∈ ponBindings s.dev, beAt 2 1 b.2 = 0 ∨ beAt 0 2 b.2 ≠ port) :
    Does (.xgemFrameReceived e port key cor [] ctr pay) s fun d => d = corrected (s.dev.at e) cor := by
  refine does_next (exec_xgemFrame hl hs) ?_
  rw [if_neg (by simp), xgemFrame_unbound (d := corrected (s.dev.at e) cor) homcc hb]

end

end Sys2Proof.Machine

/-! Allocations: bursts and BURST_EN (08 R346 to R350), and their contents (09 R389 to R405). -/

namespace Sys2Proof.Machine

section

variable {d x y : Dev} {a : Alloc}

/-! ## What a burst carries -/

theorem legNat_congr (h : x.legend = d.legend) (idx sub : Nat) : legNat x idx sub = legNat d idx sub := by
  unfold legNat legVal
  rw [h]

/-- Taking a burst's contents leaves the pins, the Legend and the burst before. -/
def BurstKeeps (d x : Dev) : Prop :=
  x.wire = d.wire ∧ x.legend = d.legend ∧ x.pon.burstFrom = d.pon.burstFrom ∧ x.pon.guardNs = d.pon.guardNs

theorem burstKeeps_nextPloam : BurstKeeps d (nextPloam d).2 := by
  unfold nextPloam
  split
  · exact ⟨rfl, rfl, rfl, rfl⟩
  · split
    · exact ⟨rfl, rfl, rfl, rfl⟩
    · exact ⟨rfl, rfl, rfl, rfl⟩

/-- The random delay of R330 ends at 48 µs. -/
theorem randomDelay_le : (randomDelay d).1 ≤ 48000 := by
  unfold randomDelay
  dsimp only
  omega

/-- The uses of an allocation: none, serial number, ranging, data. -/
theorem permitted_cases : permitted d a = 0 ∨ permitted d a = 1 ∨ permitted d a = 2 ∨ permitted d a = 3 := by
  unfold permitted
  split
  · exact .inl rfl
  · split
    · split <;> simp
    · split <;> simp
    · split <;> simp
    · exact .inl rfl

/-- A burst's delay, PLOAM message and DBRu, as the use of its allocation has them (Table 8.3, R330, R346). -/
structure Carries (d : Dev) (a : Alloc) (use : Nat) (c : Nat × Option Bytes × Option Nat × List (Nat × Bool × Bytes) × Dev) : Prop where
  keeps : BurstKeeps d c.2.2.2.2
  noDelay : use ≠ 1 → c.1 = 0
  delay_le : c.1 ≤ 48000
  ploam : use ≠ 3 ∨ a.ploamu = true → c.2.1 ≠ none
  dbru : use = 3 → (c.2.2.1 ≠ none ↔ a.dbru = true)

theorem burstContents_carries {use : Nat} (hu : use = 1 ∨ use = 2 ∨ use = 3) : Carries d a use (burstContents d a use) := by
  rcases hu with rfl | rfl | rfl
  · exact ⟨⟨rfl, rfl, rfl, rfl⟩, fun h => absurd rfl h, randomDelay_le, fun _ => Option.some_ne_none _, fun h => by omega⟩
  · exact ⟨⟨rfl, rfl, rfl, rfl⟩, fun _ => rfl, Nat.zero_le _, fun _ => Option.some_ne_none _, fun h => by omega⟩
  · unfold burstContents
    extract_lets r m1 m2 f dbru frames d' m
    show Carries d a 3 (if a.ploamu = true then (0, some m.1, dbru, frames, m.2) else (0, none, dbru, frames, d'))
    have hd : BurstKeeps d d' := ⟨rfl, rfl, rfl, rfl⟩
    have hdbru : dbru ≠ none ↔ a.dbru = true := by
      show (if a.dbru then _ else _) ≠ none ↔ _
      cases a.dbru <;> simp
    split
    · obtain ⟨h1, h2, h3, h4⟩ := burstKeeps_nextPloam (d := d')
      exact ⟨⟨h1, h2, h3, h4⟩, fun _ => rfl, Nat.zero_le _, fun _ => Option.some_ne_none _, fun _ => hdbru⟩
    · next hp => exact ⟨hd, fun _ => rfl, Nat.zero_le _, fun h => (h.elim (absurd rfl) (absurd · hp)), fun _ => hdbru⟩

/-! ## Bursts on the fibre -/

/-- An allocation of a use on the fibre from `start`: one burst, its BURST_EN from its lead to its lag, and its guard (R347 to R349). -/
def Transmitted (d : Dev) (a : Alloc) (use start : Nat) (y : Dev) : Prop :=
  let q := y.pon
  let lead := legNat d 0x5000 0x0C
  let lag := legNat d 0x5000 0x0E
  ∃ delay ploam dbru frames, y.wire = d.wire ++ [.burst a.allocId (start + delay) a.profile a.goesOn (eqdOf d a) ploam dbru frames,
      .burstEn q.burstFrom q.burstTo (decide (legNat d 0x5000 0x0D = 0))] ∧
    q.burstOn = true ∧ q.burstOpen = true ∧ q.burstTo = start + delay + a.lengthNs + lag ∧ q.txEndNs = q.burstTo ∧
    q.burstFrom = (if a.goesOn then d.pon.burstFrom else start + delay - lead) ∧ q.guardNs = (if a.goesOn then d.pon.guardNs + a.lengthNs else a.lengthNs + lead + lag + 16) ∧
    (use ≠ 1 → delay = 0) ∧ delay ≤ 48000 ∧ (use ≠ 3 ∨ a.ploamu = true → ploam ≠ none) ∧ (use = 3 → (dbru ≠ none ↔ a.dbru = true))

theorem transmitted_sendBurst {use : Nat} (hu : use = 1 ∨ use = 2 ∨ use = 3) (start : Nat) : Transmitted d a use start (sendBurst d a use start) := by
  unfold sendBurst
  extract_lets lead lag eqd c start' d'
  have hc : Carries d a use c := burstContents_carries hu
  obtain ⟨hwire, hlegend, hfrom, hguard⟩ := hc.keeps
  refine ⟨c.1, c.2.1, c.2.2.1, c.2.2.2.1.zipIdx.map (xgemUp d' start'), ?_, rfl, rfl, rfl, rfl, ?_, ?_, hc.noDelay, hc.delay_le, hc.ploam, hc.dbru⟩
  · have hpin : legNat (d'.emit (.burst a.allocId start' a.profile a.goesOn eqd c.2.1 c.2.2.1 (c.2.2.2.1.zipIdx.map (xgemUp d' start')))) 0x5000 0x0D = legNat d 0x5000 0x0D :=
      legNat_congr hlegend _ _
    rw [driveBurstEn, hpin]
    show (c.2.2.2.2.wire ++ [_]) ++ [_] = _
    rw [hwire, List.append_assoc]
    rfl
  · show (if a.goesOn then c.2.2.2.2.pon.burstFrom else start' - lead) = _
    rw [hfrom]
  · show (if a.goesOn then c.2.2.2.2.pon.guardNs + a.lengthNs else a.lengthNs + lead + lag + 16) = _
    rw [hguard]

end

section

variable {d x y : Dev} {a : Alloc} {point room : Nat}

/-! ## Allocations transmitted (R347) -/

theorem transmit_goesOn {use : Nat} (hg : a.goesOn = true) (ho : d.pon.burstOpen = true) (hn : d.pon.burstOn = true) :
    transmit d a use = sendBurst d a use (d.pon.txEndNs - legNat d 0x5000 0x0E) := (if_pos hg).trans (if_pos ⟨ho, hn⟩)

theorem transmit_broken {use : Nat} (hg : a.goesOn = true) (h : d.pon.burstOpen = false ∨ d.pon.burstOn = false) : transmit d a use = d :=
  (if_pos hg).trans (if_neg fun k => h.elim (fun h => ne_true_of_eq_false h k.1) fun h => ne_true_of_eq_false h k.2)

theorem transmit_overlap {use : Nat} (hg : a.goesOn = false) (h : burstStart d a < d.pon.txEndNs) : transmit d a use =
    raisePon (d.updPon fun p => { p with grantOverlaps := p.grantOverlaps + 1, burstOpen := false }) 0xA6 :=
  (if_neg (by simp [hg])).trans (if_pos h)

theorem transmit_begins {use : Nat} (hg : a.goesOn = false) (h : d.pon.txEndNs ≤ burstStart d a) : transmit d a use = sendBurst d a use (burstStart d a) :=
  (if_neg (by simp [hg])).trans (if_neg (Nat.not_lt.2 h))

/-! ## The upstream store -/

/-- The choice of contents touches neither the terminal nor the pins. -/
def ChoiceKeeps (d x : Dev) : Prop := x.pon = d.pon ∧ x.wire = d.wire

theorem ChoiceKeeps.refl : ChoiceKeeps d d := ⟨rfl, rfl⟩

theorem ChoiceKeeps.trans (h : ChoiceKeeps d x) (k : ChoiceKeeps x y) : ChoiceKeeps d y := ⟨k.1.trans h.1, k.2.trans h.2⟩

theorem choiceKeeps_raise (r : Raise) : ChoiceKeeps d (raise d r) := ⟨raise_pon r, raise_wire r⟩

theorem choiceKeeps_foldl {β : Type} (f : Dev → β → Dev) (h : ∀ a b, ChoiceKeeps a (f a b)) (l : List β) : ChoiceKeeps d (l.foldl f d) :=
  List.foldlRecOn l f .refl fun _ k b _ => k.trans (h _ b)

theorem choiceKeeps_setPtx (p : Nat) (t : PartTx) : ChoiceKeeps d (d.setPtx p t) := ⟨rfl, rfl⟩

theorem choiceKeeps_passOver : ChoiceKeeps d (passOver d point) := by
  refine choiceKeeps_foldl _ (fun x p => ?_) _
  dsimp only
  split
  · exact .refl
  · exact (choiceKeeps_setPtx _ _).trans (choiceKeeps_foldl _ (fun _ _ => choiceKeeps_raise _) _)

theorem choiceKeeps_commitItem (it : Item) : ChoiceKeeps d (commitItem d it).2 := by
  unfold commitItem
  extract_lets slot key auth stamp close late marks d'
  split
  · exact .refl
  · show ChoiceKeeps d (if late then _ else d)
    split
    · exact ChoiceKeeps.trans (x := updStrip d it.strip fun x => { x with lateTurns := x.lateTurns + 1 }) ⟨rfl, rfl⟩ (choiceKeeps_raise _)
    · exact .refl

theorem choiceKeeps_setQueueAt (p : Nat) (q : WfqQueue) : ChoiceKeeps d (setQueueAt d point p q) := ⟨rfl, rfl⟩

theorem choiceKeeps_activate : ChoiceKeeps d (activate d point) := by
  unfold activate
  extract_lets full d'
  refine (choiceKeeps_foldl _ (fun x p => ?_) _).trans (choiceKeeps_foldl _ (fun x p => ?_) _)
  · split
    · exact .refl
    · exact choiceKeeps_setQueueAt _ _
  · split
    · exact choiceKeeps_setQueueAt _ _
    · exact .refl

theorem choiceKeeps_nextResult : ChoiceKeeps d (nextResult d point).2 := by
  unfold nextResult
  extract_lets d' l
  have hd : ChoiceKeeps d d' := choiceKeeps_activate
  clear_value l d'
  split
  · exact hd
  · exact hd.trans ⟨rfl, rfl⟩

theorem choiceKeeps_chooseNext : ChoiceKeeps d (chooseNext d point).2 := by
  unfold chooseNext
  split
  · exact .refl
  · split
    · exact .refl
    · exact choiceKeeps_nextResult

theorem choiceKeeps_putItem (c : Chosen) (it : Item) : ChoiceKeeps d (putItem d c it) := by
  cases c <;> exact ⟨rfl, rfl⟩

theorem choiceKeeps_setFrag (owner : Nat) : ChoiceKeeps d (setFrag d point owner) := ⟨rfl, rfl⟩

theorem choiceKeeps_takeTokens (p len : Nat) : ChoiceKeeps d (takeTokens d p len) := by
  simp only [takeTokens]
  split
  · exact .refl
  · exact ⟨rfl, rfl⟩

theorem choiceKeeps_takeNext {c : Chosen} {sdu : Bytes} {it : Item} (h : takeNext d c = some (sdu, it, x)) : ChoiceKeeps d x := by
  unfold takeNext at h
  split at h
  · cases h
  · next it' _ =>
    have hcommit : ChoiceKeeps d (if it'.cls ≠ .mgmt ∧ it'.sealed.isNone = true then commitItem d it' else (it', d)).2 := by
      split
      · exact choiceKeeps_commitItem _
      · exact .refl
    cases h
    split
    · exact hcommit.trans (choiceKeeps_takeTokens _ _)
    · exact hcommit

theorem choiceKeeps_placeSdu (port : Nat) (c : Chosen) (it : Item) (sdu : Bytes) : ChoiceKeeps d (placeSdu d point port room c it sdu).2.2 := by
  simp only [placeSdu]
  split
  · exact (choiceKeeps_putItem _ _).trans (choiceKeeps_setFrag _)
  · exact (choiceKeeps_putItem _ _).trans (choiceKeeps_setFrag _)

/-- Filling an allocation takes OMCI that waits, and of the terminal nothing else. -/
def FillKeeps (d x : Dev) : Prop := x.pon = { d.pon with omciUp := x.pon.omciUp } ∧ x.wire = d.wire

theorem FillKeeps.trans (h : FillKeeps d x) (k : FillKeeps x y) : FillKeeps d y := by
  refine ⟨?_, k.2.trans h.2⟩
  rw [k.1, h.1]

theorem ChoiceKeeps.fill (h : ChoiceKeeps d x) : FillKeeps d x := ⟨by rw [h.1], h.2⟩

theorem fillKeeps_fillAlloc (frames : List (Nat × Bool × Bytes)) (fuel : Nat) : FillKeeps d (fillAlloc d point room frames fuel).2 := by
  induction fuel generalizing d room frames with
  | zero => exact ChoiceKeeps.refl.fill
  | succ n ih =>
    unfold fillAlloc
    split
    · exact ChoiceKeeps.refl.fill
    · extract_lets pend p ch
      have hchosen : ChoiceKeeps d ch.2 := (choiceKeeps_setFrag 0).trans choiceKeeps_chooseNext
      clear_value pend
      cases pend with
      | some c => exact (choiceKeeps_placeSdu _ _ _ _).fill.trans (ih _)
      | none =>
        dsimp only
        split
        · next m _ => exact FillKeeps.trans (x := { d with pon := { p with omciUp := d.pon.omciUp.drop 1 } }) ⟨rfl, rfl⟩ (ih _)
        · split
          · exact hchosen.fill
          · split
            · exact hchosen.fill
            · next htake => exact ((hchosen.trans (choiceKeeps_takeNext htake)).trans (choiceKeeps_placeSdu _ _ _ _)).fill.trans (ih _)

/-- The frames of an allocation and the device that has chosen them: an idle one takes nothing (R358). -/
def chosenContents (d : Dev) (a : Alloc) : List (Nat × Bool × Bytes) × Dev :=
  if d.pon.sleepRefused then ([], d)
  else fillAlloc (passOver d a.allocId) a.allocId (a.bytes - 4 * bit a.dbru - 48 * bit a.ploamu) [] (a.bytes + 1)

theorem fillKeeps_chosenContents : FillKeeps d (chosenContents d a).2 := by
  unfold chosenContents
  split
  · exact ChoiceKeeps.refl.fill
  · exact choiceKeeps_passOver.fill.trans (fillKeeps_fillAlloc _ _)

/-- The contents that wait for their burst. -/
def waiting (a : Alloc) (c : List (Nat × Bool × Bytes) × Dev) : Filled :=
  { allocId := a.allocId, startNs := a.startNs, frames := c.1, dbru := if a.dbru then some (dbruOf c.2 a.allocId) else none }

theorem fill_eq (d : Dev) (a : Alloc) : fill d a =
    (chosenContents d a).2.updPon fun p => { p with filled := p.filled ++ [waiting a (chosenContents d a)] } := by
  unfold fill chosenContents
  by_cases h : d.pon.sleepRefused = true
  · simp only [if_pos h]
    rfl
  · have hpass : ¬ (passOver d a.allocId).pon.sleepRefused = true := by rwa [choiceKeeps_passOver.1]
    simp only [if_neg h, if_neg hpass]
    rfl

/-- Contents chosen wait for their burst; an idle allocation takes nothing (R358, R401). -/
theorem fill_spec (d : Dev) (a : Alloc) : (fill d a).wire = d.wire ∧ ∃ f : Filled,
    (fill d a).pon = { d.pon with filled := d.pon.filled ++ [f], omciUp := (fill d a).pon.omciUp } ∧
      f.allocId = a.allocId ∧ f.startNs = a.startNs ∧ (f.dbru ≠ none ↔ a.dbru = true) ∧
      (d.pon.sleepRefused = true → f.frames = [] ∧ (fill d a).pon.omciUp = d.pon.omciUp ∧ (fill d a).partTx = d.partTx) := by
  obtain ⟨hpon, hwire⟩ := fillKeeps_chosenContents (d := d) (a := a)
  rw [fill_eq]
  refine ⟨hwire, waiting a (chosenContents d a), ?_, rfl, rfl, ?_, fun hidle => ?_⟩
  · rw [Dev.updPon_pon, hpon]
  · cases hd : a.dbru <;> simp [waiting, hd]
  · rw [show chosenContents d a = ([], d) from if_pos hidle]
    exact ⟨rfl, rfl, rfl⟩

end

end Sys2Proof.Machine

/-! The Legend at a tick edge: WAKE_AT alone may change (02 R45; 15 R608). -/

namespace Sys2Proof.Machine

variable {d : Dev}

theorem legend_foldl {β : Type} {f : Dev → β → Dev} (h : ∀ a b, (f a b).legend = a.legend) (l : List β) : (l.foldl f d).legend = d.legend :=
  List.foldlRecOn (motive := fun x : Dev => x.legend = d.legend) l f rfl fun _ k b _ => (h _ b).trans k

theorem legend_raiseCad (n a b : Nat) : (raiseCad d n a b).legend = d.legend := (deviceRaiseKeeps_raiseDev _ _ _).legend

/-! ## Packets -/

theorem legend_freeBuffer (holds : Option (Nat × Bool)) (p : Packet) : (freeBuffer d holds p).legend = d.legend := by
  unfold freeBuffer
  split
  · rfl
  · split <;> rfl

theorem legend_sendQueued (port i : Nat) : (sendQueued d port i).legend = d.legend := by
  unfold sendQueued
  dsimp only
  split
  · rfl
  · exact legend_freeBuffer _ _

theorem legend_servePort (port fuel : Nat) : (servePort d port fuel).legend = d.legend := by
  induction fuel generalizing d with
  | zero => rfl
  | succ n ih =>
    unfold servePort
    split
    · exact ih.trans (legend_sendQueued _ _)
    · rfl

theorem legend_sendNeighbour (dir : Nat) (k : PktKind) : (sendNeighbour d dir k).legend = d.legend := by
  unfold sendNeighbour
  split
  · exact legend_servePort _ _
  · rfl

theorem legend_sendUpdates : (sendUpdates d).legend = d.legend := by
  unfold sendUpdates
  split
  · exact legend_foldl (fun _ _ => legend_sendNeighbour _ _) _
  · rfl

/-! ## The cadastre -/

theorem legend_eraseArea (id : BitVec 64) : (eraseArea d id).legend = d.legend := rfl

theorem legend_takeParcel (c b : Nat) (id : BitVec 64) : (takeParcel d c b id).legend = d.legend := by
  unfold takeParcel
  dsimp only
  split
  · exact legend_raiseCad _ _ _
  · rfl

theorem legend_newParcel (c : Nat) (id : BitVec 64) : (newParcel d c id).legend = d.legend := by
  unfold newParcel
  split
  · exact legend_takeParcel _ _ _
  · rfl

theorem legend_programPage (id : BitVec 64) (k : Nat) : (programPage d id k).legend = d.legend := by
  unfold programPage
  extract_lets cs c d'
  have h : d'.legend = d.legend := by
    show (if _ then d else newParcel d c id).legend = d.legend
    split
    · rfl
    · exact legend_newParcel _ _
  split
  · exact h
  · exact h

theorem legend_updObjPort (n : Nat) (f : ObjPort → ObjPort) : (updObjPort d n f).legend = d.legend := by
  unfold updObjPort
  simp only [Dev.setObjPort]
  split
  · split <;> rfl
  · split <;> rfl

theorem legend_drainPort (n : Nat) : (drainPort d n).legend = d.legend := by
  unfold drainPort
  extract_lets x left
  split
  · rfl
  · rw [legend_updObjPort]
    split
    · rfl
    · exact legend_foldl (fun _ _ => legend_programPage _ _) _

theorem legend_replaceBad (c b : Nat) : (replaceBad d c b).legend = d.legend := by
  unfold replaceBad
  dsimp only
  split
  · rfl
  · split
    · rfl
    · exact legend_takeParcel _ _ _

theorem legend_drainBuffers : (drainBuffers d).legend = d.legend := by
  unfold drainBuffers
  extract_lets d1 owed areas d2
  have h1 : d1.legend = d.legend := legend_foldl (fun _ _ => legend_drainPort _) _
  have h2 : d2.legend = d1.legend := legend_foldl (fun _ _ => legend_eraseArea _) _
  split
  · rfl
  · exact (legend_foldl (fun _ _ => legend_replaceBad _ _) _).trans (h2.trans h1)

theorem legend_patrolClock (n : Nat) : (patrolClock d n).legend = d.legend := by
  unfold patrolClock patrolLate
  split
  · rfl
  · split
    · rfl
    · split
      · rfl
      · split
        · exact legend_raiseCad _ _ _
        · rfl

/-! ## The edge -/

theorem legVal_congr {x : Dev} (h : x.legend = d.legend) (idx sub : Nat) : legVal x idx sub = legVal d idx sub := by
  unfold legVal
  rw [h]

/-- An entry put reads as put. -/
theorem legVal_legPut_self {idx sub : Nat} (w : tabWf none d.legend = true) (v : Bytes) : legVal (legPut d idx sub v) idx sub = v := by
  have hget : tabGet none (legPut d idx sub v).legend (legKey idx sub) = if v = legDefault idx sub then none else some v := tabGet_tabSet_self_wf w
  unfold legVal
  rw [hget]
  split
  · next h =>
    split at h
    · cases h
    · exact Option.some.inj h.symm
  · next h =>
    split at h
    · next hv => exact hv.symm
    · cases h

theorem legVal_legPut_other {idx sub i k : Nat} (w : tabWf none d.legend = true) (h : legKey idx sub ≠ legKey i k) (v : Bytes) :
    legVal (legPut d i k v) idx sub = legVal d idx sub := by
  have hget : tabGet none (legPut d i k v).legend (legKey idx sub) = tabGet none d.legend (legKey idx sub) := tabGet_tabSet_other_wf w h
  unfold legVal
  rw [hget]

/-- The end of an edge may clear WAKE_AT, and no other entry. -/
theorem legVal_passWakeAt {idx sub : Nat} (w : tabWf none d.legend = true) (h : legKey idx sub ≠ legKey 0x8800 0x12) :
    tabWf none (passWakeAt d).legend = true ∧ legVal (passWakeAt d) idx sub = legVal d idx sub := by
  unfold passWakeAt
  dsimp only
  split
  · unfold clearWakeAt ownChange
    split
    · exact ⟨w, rfl⟩
    · exact ⟨tabSet_wf w, legVal_legPut_other w h _⟩
  · exact ⟨w, rfl⟩

theorem legVal_edgeWork {idx sub : Nat} (w : tabWf none d.legend = true) (h : legKey idx sub ≠ legKey 0x8800 0x12) (n : Nat) :
    tabWf none (edgeWork d n).legend = true ∧ legVal (edgeWork d n) idx sub = legVal d idx sub := by
  have hstart : (edgeCounts (edgeStart d n) n).legend = d.legend := by
    rw [edgeStart_eq]
    rfl
  have hlast : (patrolClock (drainBuffers (sendUpdates (edgeCounts (edgeStart d n) n))) n).legend = d.legend :=
    (legend_patrolClock n).trans (legend_drainBuffers.trans (legend_sendUpdates.trans hstart))
  obtain ⟨hwf, hval⟩ := legVal_passWakeAt (d := patrolClock (drainBuffers (sendUpdates (edgeCounts (edgeStart d n) n))) n) (by rw [hlast]; exact w) h
  exact ⟨hwf, hval.trans (legVal_congr hlast _ _)⟩

theorem edgeWork_pon (n : Nat) : (edgeWork d n).pon = d.pon := by
  rw [edgeWork_keeps_start n, edgeStart_eq]
  rfl

end Sys2Proof.Machine

/-! Allocations, the burst guard, optics, FLAVOUR and receptions of watchful sleep as commands (08 R319, R346 to R359). -/

namespace Sys2Proof.Machine

/-! ## Allocations and the guard -/

section

variable {s : State} {e : Nat} {a : Alloc}

theorem passes_allocation_watchful (hw : s.dev.pon.watchful = true) (h : receiving (s.dev.at e) = false ∨ a.forcedWake = false ∨ a.allocId ∉ s.dev.pon.allocs) :
    Passes (.allocation e a) s e := by
  refine passes_branch rfl ((if_pos hw).trans (if_neg fun k => ?_))
  obtain ⟨hrecv, hwake, hmine⟩ := k
  exact h.elim (fun h => ne_true_of_eq_false h hrecv) fun h => h.elim (fun h => ne_true_of_eq_false h hwake) fun h => h hmine

variable (hw : s.dev.pon.watchful = false)

include hw

theorem exec_allocation : exec (.allocation e a) s = .next (s.withDev
    (if permitted (s.dev.at e) a = 0 then (s.dev.at e).updPon fun p => { p with burstOpen := false } else transmit (s.dev.at e) a (permitted (s.dev.at e) a))) :=
  exec_branch rfl (if_neg (ne_true_of_eq_false hw))

theorem does_allocation_unused (hu : permitted (s.dev.at e) a = 0) : Does (.allocation e a) s fun d =>
    d = { s.dev.at e with pon := { s.dev.pon with burstOpen := false } } :=
  does_next (exec_allocation hw) (if_pos hu)

theorem passes_allocation_broken (hu : permitted (s.dev.at e) a ≠ 0) (hg : a.goesOn = true) (h : s.dev.pon.burstOpen = false ∨ s.dev.pon.burstOn = false) :
    Passes (.allocation e a) s e :=
  does_next (exec_allocation hw) ((if_neg hu).trans (transmit_broken hg h))

theorem does_allocation_overlap (hu : permitted (s.dev.at e) a ≠ 0) (hg : a.goesOn = false) (h : burstStart s.dev a < s.dev.pon.txEndNs) :
    Does (.allocation e a) s fun d =>
      d.pon = { s.dev.pon with grantOverlaps := s.dev.pon.grantOverlaps + 1, burstOpen := false } ∧ d.wire = s.dev.wire := by
  refine does_next (exec_allocation hw) ?_
  rw [if_neg hu, transmit_overlap (d := s.dev.at e) hg h, raisePon_pon, raisePon_wire]
  exact ⟨rfl, rfl⟩

theorem does_allocation_burst (hu : permitted (s.dev.at e) a ≠ 0)
    (h : (a.goesOn = false ∧ s.dev.pon.txEndNs ≤ burstStart s.dev a) ∨ (a.goesOn = true ∧ s.dev.pon.burstOpen = true ∧ s.dev.pon.burstOn = true)) :
    Does (.allocation e a) s fun d =>
      Transmitted (s.dev.at e) a (permitted (s.dev.at e) a) (if a.goesOn then s.dev.pon.txEndNs - legNat s.dev 0x5000 0x0E else burstStart s.dev a) d := by
  have huse : permitted (s.dev.at e) a = 1 ∨ permitted (s.dev.at e) a = 2 ∨ permitted (s.dev.at e) a = 3 := permitted_cases.resolve_left hu
  refine does_next (exec_allocation hw) ?_
  rw [if_neg hu]
  rcases h with ⟨hg, hend⟩ | ⟨hg, hopen, hon⟩
  · rw [transmit_begins (d := s.dev.at e) hg hend, if_neg (by simp [hg])]
    exact transmitted_sendBurst huse _
  · rw [transmit_goesOn (d := s.dev.at e) hg hopen hon, if_pos hg]
    exact transmitted_sendBurst huse _

end

section

variable {s : State} {e ns : Nat}

theorem does_allocationFill {a : Alloc} (h : fillsNow (s.dev.at e) a = true) : Does (.allocationFill e a) s fun d => d.wire = s.dev.wire ∧ ∃ f : Filled,
    d.pon = { s.dev.pon with filled := s.dev.pon.filled ++ [f], omciUp := d.pon.omciUp } ∧ f.allocId = a.allocId ∧ f.startNs = a.startNs ∧
      (f.dbru ≠ none ↔ a.dbru = true) ∧ (s.dev.pon.sleepRefused = true → f.frames = [] ∧ d.pon.omciUp = s.dev.pon.omciUp ∧ d.partTx = s.dev.partTx) :=
  does_branch rfl (if_pos h) (fill_spec (s.dev.at e) a)

theorem passes_allocationFill {a : Alloc} (h : fillsNow (s.dev.at e) a = false) : Passes (.allocationFill e a) s e :=
  passes_branch rfl (if_neg (ne_true_of_eq_false h))

/-- The guard negates BURST_EN at its limit (R349). -/
theorem does_burstOverrun (hon : s.dev.pon.burstOn = true) (h : s.dev.pon.guardNs < ns) : Does (.burstOverrun e ns) s fun d =>
    d.pon = { s.dev.pon with burstOn := false, burstOpen := false, burstTo := s.dev.pon.burstFrom + ns, txEndNs := s.dev.pon.burstFrom + ns } ∧
      d.wire = s.dev.wire ++ [.burstEn s.dev.pon.burstFrom (s.dev.pon.burstFrom + ns) (decide (legNat s.dev 0x5000 0x0D = 0))] := by
  refine does_branch rfl (if_pos ⟨hon, h⟩) ?_
  rw [cutBurst, raisePon_pon, raisePon_wire]
  exact ⟨rfl, rfl⟩

theorem passes_burstOverrun (h : s.dev.pon.burstOn = false ∨ ns ≤ s.dev.pon.guardNs) : Passes (.burstOverrun e ns) s e :=
  passes_branch rfl (if_neg fun k => h.elim (fun h => ne_true_of_eq_false h k.1) fun h => Nat.not_lt.2 h k.2)

end

/-! ## Optics (R351 to R353) -/

section

variable {d : Dev} {s : State} {e : Nat}

theorem opticsRead_some (b : Bytes) : (opticsRead d (some b)).pon = { d.pon with optDiag := (fit 16 b).take 10, optFlags := slice 10 6 (fit 16 b), optMissed := 0 } := by
  unfold opticsRead
  dsimp only
  split
  · split
    · rfl
    · rw [Dev.setCause_pon, raisePon_pon]
      rfl
  · rfl

theorem opticsRead_none : (opticsRead d none).pon = { d.pon with optMissed := min 3 (d.pon.optMissed + 1) } := by
  unfold opticsRead
  dsimp only
  split
  · rw [Dev.setCause_pon, raisePon_pon]
    rfl
  · rfl

theorem exec_opticsPoll (h : netUp (s.dev.at e) = true) (hr : reached (s.dev.at e) (after s.dev.pon.optAt 8000) = true) (reading : Option Bytes) :
    exec (.opticsPoll e reading) s = .next (s.withDev (opticsRead ((s.dev.at e).updPon fun p => { p with optAt := now (s.dev.at e) }) reading)) :=
  exec_branch rfl (if_pos ⟨h, hr⟩)

theorem passes_opticsPoll (h : netUp (s.dev.at e) = false ∨ reached (s.dev.at e) (after s.dev.pon.optAt 8000) = false) (reading : Option Bytes) :
    Passes (.opticsPoll e reading) s e :=
  passes_branch rfl (if_neg fun k => h.elim (fun h => ne_true_of_eq_false h k.1) fun h => ne_true_of_eq_false h k.2)

end

/-! ## FLAVOUR and watchful sleep (R319, R356 to R359) -/

section

variable {d x : Dev} {s : State} {e : Nat}

/-- FLAVOUR is in force, the terminal back in HUNT with its activation state as it was (R319). -/
structure Retuned (d : Dev) (v : Bytes) (x : Dev) : Prop where
  legend : tabWf none x.legend = true
  flavour : legVal x 0x5000 0x00 = v
  sync : x.pon.sync = .hunt
  act : x.pon.act = d.pon.act

theorem Retuned.of_eq {v : Bytes} {y : Dev} (h : Retuned d v x) (hl : y.legend = x.legend) (hp : y.pon = x.pon) : Retuned d v y where
  legend := by rw [hl]; exact h.legend
  flavour := (legVal_congr hl _ _).trans h.flavour
  sync := by rw [hp]; exact h.sync
  act := by rw [hp]; exact h.act

theorem Retuned.edgeWork {v : Bytes} (h : Retuned d v x) (n : Nat) : Retuned d v (edgeWork x n) := by
  obtain ⟨hwf, hval⟩ := legVal_edgeWork (idx := 0x5000) (sub := 0x00) h.legend (by decide) n
  refine ⟨hwf, hval.trans h.flavour, ?_, ?_⟩
  · rw [edgeWork_pon]
    exact h.sync
  · rw [edgeWork_pon]
    exact h.act

theorem Retuned.loseSource {v : Bytes} (h : Retuned d v x) (src : Source) : Retuned d v (loseSource x src) :=
  loseSource_keeps (P := Retuned d v) (fun hm h => h.of_eq hm.legend hm.pon) (fun n h => h.edgeWork n) h

/-- The terminal off leaves the Legend as it is. -/
theorem enterOff_legend : (enterOff d).legend = d.legend := by
  show (deactivated d).legend = d.legend
  unfold deactivated
  split
  · exact deviceRaiseKeeps_raisePon.legend
  · rfl

theorem setFlavour_spec (w : tabWf none d.legend = true) (v : Bytes) : let y := setFlavour d v
    legVal y 0x5000 0x00 = v ∧ y.pon.sync = .hunt ∧ y.pon.act = if d.pon.act = .o7 then .o7 else .o11 := by
  have hput : legVal (legPut d 0x5000 0x00 v) 0x5000 0x00 = v := legVal_legPut_self w v
  have hwf : tabWf none (legPut d 0x5000 0x00 v).legend = true := tabSet_wf w
  intro y
  set d1 := legPut d 0x5000 0x00 v
  set d2 := if d1.pon.sync = .hunt then d1 else loseSource (d1.updPon fun p => { p with sync := .hunt, badPsbd := 0 }) .pon with hd2
  have h2 : Retuned d v d2 := by
    rw [hd2]
    split
    · next hs => exact ⟨hwf, hput, hs, rfl⟩
    · exact Retuned.loseSource (d := d) (x := d1.updPon fun p => { p with sync := .hunt, badPsbd := 0 }) ⟨hwf, hput, rfl, rfl⟩ .pon
  have hy : y = if d2.pon.act = .o7 then d2 else enterOff d2 := rfl
  rw [hy, h2.act]
  split
  · next h7 => exact ⟨h2.flavour, h2.sync, h2.act.trans h7⟩
  · obtain ⟨hoff, hsync⟩ := entersOff_enterOff (d := d2)
    refine ⟨(legVal_congr enterOff_legend _ _).trans h2.flavour, hsync.trans h2.sync, ?_⟩
    rw [hoff.1, hsync, h2.sync]
    rfl

theorem does_flavour (w : tabWf none s.dev.legend = true) {v : Byte} (hv : v.toNat ≤ 2) : Does (.flavour e v) s fun d =>
    legVal d 0x5000 0x00 = [v] ∧ d.pon.sync = .hunt ∧ d.pon.act = if s.dev.pon.act = .o7 then .o7 else .o11 :=
  does_branch rfl (if_pos hv) (setFlavour_spec (d := s.dev.at e) w [v])

theorem passes_flavour {v : Byte} (hv : 2 < v.toNat) : Passes (.flavour e v) s e :=
  passes_branch rfl (if_neg (Nat.not_le.2 hv))

@[simp] theorem noteWake_pon (cause : Byte) : (noteWake d cause).pon = d.pon := by
  unfold noteWake noteWakeAt
  split
  · rfl
  · rfl
  · split <;> rfl

theorem sleepAlign_pon (count : BitVec 51) : (sleepAlign d count).pon = d.pon := by
  unfold sleepAlign
  extract_lets stamp d'
  split
  · rfl
  · exact gratMoveKeeps_realign.pon

/-- A reception that reaches SYNC gives its count (R356, R357). -/
theorem sleepReception_some (c : BitVec 51) (wake : Bool) : (sleepReception d (some c) wake).pon =
    { d.pon with rxAt := now d, sync := .sync, lastCount := c, badPsbd := 0 } := by
  unfold sleepReception
  dsimp only
  split
  · rw [noteWake_pon, sleepAlign_pon]
    rfl
  · rw [sleepAlign_pon]
    rfl

theorem sleepReception_none (wake : Bool) : (sleepReception d none wake).pon = { d.pon with rxAt := now d } := by
  unfold sleepReception
  dsimp only
  split
  · rw [noteWake_pon]
    rfl
  · rfl

theorem exec_watchfulSleepReception (hw : s.dev.pon.watchful = true) (hr : reached (s.dev.at e) (after s.dev.pon.rxAt (rxOffTicks (s.dev.at e))) = true)
    (count : Option (BitVec 51)) (wake : Bool) :
    exec (.watchfulSleepReception e count wake) s = .next (s.withDev (sleepReception (s.dev.at e) count wake)) :=
  exec_branch rfl (if_pos ⟨hw, hr⟩)

theorem passes_watchfulSleepReception (h : s.dev.pon.watchful = false ∨ reached (s.dev.at e) (after s.dev.pon.rxAt (rxOffTicks (s.dev.at e))) = false)
    (count : Option (BitVec 51)) (wake : Bool) : Passes (.watchfulSleepReception e count wake) s e :=
  passes_branch rfl (if_neg fun k => h.elim (fun h => ne_true_of_eq_false h k.1) fun h => ne_true_of_eq_false h k.2)

end

end Sys2Proof.Machine

section

open Sys2Proof.Machine

/-- Settles O44, by the rule of each command: an OMCI message answers once, a frame overlaps lost codewords or is handed on, an allocation
carries one burst or none, and moves of the graticule leave the terminal. -/
theorem omciFramesBurstsAndOptics : Obligations.OmciFramesBurstsAndOptics := by
  intro s e hlegend hports d0 p
  refine ⟨fun m hr hx => ⟨does_omciUnsupported hr hx, does_omciGet hr hx, does_omciDownload hr hx, does_omciCreate hr hx hports, does_omciDelete hr hx hports⟩,
    fun m h => does_omciDiscarded h, fun tci hr => does_mibReset hr tci, fun tci sq stamp hr => does_timeOfDaySet hr tci sq stamp, ?frames, ?allocations,
    fun ns => ⟨does_burstOverrun, passes_burstOverrun⟩, ?optics, fun reading h => passes_opticsPoll h reading,
    fun v => ⟨does_flavour hlegend, passes_flavour⟩, ?reception, fun count wake h => passes_watchfulSleepReception h count wake⟩
  case frames =>
    intro port key cor lost ctr pay
    refine ⟨passes_xgemFrame, fun hl hs => ⟨fun hne hrise => ?_, fun hn hid hport hk => ?_, fun hn hid hport hk => ?_, fun hn homcc hb => ?_⟩⟩
    · obtain ⟨t, hexec, hpend, hfuses, hlost⟩ := does_xgemLost (key := key) (port := port) (cor := cor) (ctr := ctr) (pay := pay) hl hs hne hrise
      exact ⟨t, hexec, hpend, hfuses, hlost.handed, hlost.seen, hlost.pon⟩
    · subst hn hk
      exact does_xgemOmcc hl hs hid hport
    · subst hn
      exact does_xgemUndecryptable hl hs hid hport hk
    · subst hn
      exact does_xgemUnbound hl hs homcc hb
  case allocations =>
    exact fun a => ⟨passes_allocation_watchful, does_allocation_unused, passes_allocation_broken, does_allocation_overlap, does_allocation_burst,
      does_allocationFill, passes_allocationFill⟩
  case optics =>
    intro reading h hr
    refine does_next (exec_opticsPoll h hr reading) ?_
    cases reading with
    | some b => exact opticsRead_some b
    | none => exact opticsRead_none
  case reception =>
    intro count wake hw hr
    refine does_next (exec_watchfulSleepReception hw hr count wake) ?_
    cases count with
    | some c => exact sleepReception_some c wake
    | none => exact sleepReception_none wake

end

/-! What raises and writes of stack memory leave of session transport, and its tables read back (09 R366 to R377; 16 R612, R616). -/

namespace Sys2Proof.Machine

/-! ## Raises that name no quad, and writes into pages -/

section

variable {d x y : Dev}

/-- What a raise that names no quad and a write of stack memory may touch. -/
def PageWorkKeeps (d x : Dev) : Prop :=
  x = { d with parts := x.parts, ez := x.ez, sentry := x.sentry, faults := x.faults, stackMem := x.stackMem, stackInj := x.stackInj }

theorem PageWorkKeeps.refl : PageWorkKeeps d d := rfl

theorem PageWorkKeeps.trans (a : PageWorkKeeps d x) (b : PageWorkKeeps x y) : PageWorkKeeps d y := by
  unfold PageWorkKeeps at *
  rw [b, a]

theorem pageWorkKeeps_foldl {β : Type} (f : Dev → β → Dev) (h : ∀ a b, PageWorkKeeps a (f a b)) (l : List β) : PageWorkKeeps d (l.foldl f d) :=
  List.foldlRecOn l f .refl fun _ k b _ => k.trans (h _ b)

theorem DeviceRaiseKeeps.pageWork (h : DeviceRaiseKeeps d x) : PageWorkKeeps d x := by
  unfold DeviceRaiseKeeps at h
  rw [h]
  rfl

theorem pageWorkKeeps_isolate {r : Raise} (h : r.quad = none) (t : Stamp) : PageWorkKeeps d (isolate d r t) := by
  unfold isolate
  split
  · exact .refl
  · simp only [recoveryDue]
    split
    · rfl
    · exact .refl
  · next n hn => exact absurd hn (attribution_ne_quad h n)

theorem pageWorkKeeps_raise {r : Raise} (h : r.quad = none) : PageWorkKeeps d (raise d r) := by
  rcases raise_isolates d r with k | ⟨p, t, hp, k⟩
  · exact k.pageWork
  · exact (hp.pageWork.trans (pageWorkKeeps_isolate h t)).trans k.pageWork

theorem pageWorkKeeps_raisePart (src p loc16 loc64 : Nat) : PageWorkKeeps d (raisePart d src p loc16 loc64) := pageWorkKeeps_raise rfl

theorem pageWorkKeeps_raiseFrame (src k : Nat) (fseq : BitVec 32) : PageWorkKeeps d (raiseFrame d src k fseq) := by
  simp only [raiseFrame]
  split
  · exact pageWorkKeeps_raisePart _ _ _ _
  · exact pageWorkKeeps_raise rfl

@[simp] theorem raiseFrame_stackMem (src k : Nat) (fseq : BitVec 32) : (raiseFrame d src k fseq).stackMem = d.stackMem := by
  simp only [raiseFrame]
  split
  · exact raise_stackMem _
  · exact raise_stackMem _

theorem pageWorkKeeps_checkStackWord (w : Nat × Nat) : PageWorkKeeps d (checkStackWord d w).2 := by
  unfold checkStackWord
  split
  · exact PageWorkKeeps.trans (x := { d with stackInj := tabSet 0 d.stackInj w.1 0 }) rfl (pageWorkKeeps_raise rfl)
  · exact PageWorkKeeps.trans (pageWorkKeeps_raise rfl) (deviceRaiseKeeps_setCause _ _).pageWork

theorem pageWorkKeeps_checkStackWords (ws : List (Nat × Nat)) : PageWorkKeeps d (checkStackWords d ws).2 :=
  List.foldlRecOn (motive := fun acc : Bool × Dev => PageWorkKeeps d acc.2) ws _ .refl fun _ h w _ => h.trans (pageWorkKeeps_checkStackWord w)

theorem pageWorkKeeps_dropStackInj (gone : Nat × Nat → Bool) : PageWorkKeeps d (dropStackInj d gone) := by
  simp only [dropStackInj]
  split
  · rfl
  · split <;> rfl

theorem pageWorkKeeps_writePage (p page off : Nat) (bs : Bytes) : PageWorkKeeps d (writePage d p page off bs) := by
  unfold writePage
  split
  · unfold writeStack storeStack
    extract_lets hit part r
    have hr : PageWorkKeeps d r.2 := pageWorkKeeps_checkStackWords _
    exact (hr.trans (y := { r.2 with stackMem := memWrite r.2.stackMem _ bs }) rfl).trans (pageWorkKeeps_dropStackInj _)
  · exact .refl

theorem pageWorkKeeps_zeroSlot (k n : Nat) : PageWorkKeeps d (zeroSlot d k n) := by
  unfold zeroSlot
  split
  · exact PageWorkKeeps.trans (x := { d with stackMem := memZero d.stackMem _ _ }) rfl (pageWorkKeeps_dropStackInj _)
  · exact .refl

theorem pageWorkKeeps_writeSlot (k n : Nat) (b : Bytes) : PageWorkKeeps d (writeSlot d k n b) := by
  refine pageWorkKeeps_foldl _ (fun z piece => ?_) _
  split
  · exact .refl
  · exact pageWorkKeeps_writePage _ _ _ _

/-- A check takes its keys; a slot that is unusable, or no context left, is raised. -/
theorem pageWorkKeeps_openCheck (slot use ten : Nat) : PageWorkKeeps d (openCheck d slot use ten).2 := by
  unfold openCheck
  split
  · exact (deviceRaiseKeeps_raiseDev _ _ _).pageWork
  · split
    · exact .refl
    · exact (deviceRaiseKeeps_raiseDev _ _ _).pageWork

variable (h : PageWorkKeeps d x)

include h

theorem PageWorkKeeps.wire : x.wire = d.wire := by rw [h]

theorem PageWorkKeeps.legend : x.legend = d.legend := by rw [h]

theorem PageWorkKeeps.strips : x.strips = d.strips := by rw [h]

theorem PageWorkKeeps.stripTx : x.stripTx = d.stripTx := by rw [h]

theorem PageWorkKeeps.partTx : x.partTx = d.partTx := by rw [h]

theorem PageWorkKeeps.sched : x.sched = d.sched := by rw [h]

theorem PageWorkKeeps.eth : x.eth = d.eth := by rw [h]

theorem PageWorkKeeps.now_eq : now x = now d := by
  rw [h]
  rfl

theorem PageWorkKeeps.ordinal_eq : ordinal x = ordinal d := by
  rw [h]
  rfl

theorem PageWorkKeeps.strip (k : Nat) : x.strip k = d.strip k := congrArg (fun t => tabGet ({} : Strip) t k) h.strips

theorem PageWorkKeeps.stx (k : Nat) : x.stx k = d.stx k := congrArg (fun t => tabGet ({} : StripTx) t k) h.stripTx

theorem PageWorkKeeps.ptx (p : Nat) : x.ptx p = d.ptx p := congrArg (fun t => tabGet ({} : PartTx) t p) h.partTx

theorem PageWorkKeeps.legNat_eq (idx sub : Nat) : legNat x idx sub = legNat d idx sub := legNat_congr h.legend idx sub

end

/-! ## Transport states read back -/

section

variable {d x : Dev} {k p : Nat}

theorem Dev.stx_setStx_self (w : tabWf {} d.stripTx = true) (y : StripTx) : (d.setStx k y).stx k = y := tabGet_tabSet_self_wf w

theorem Dev.stx_setStx_other (w : tabWf {} d.stripTx = true) {j : Nat} (h : j ≠ k) (y : StripTx) : (d.setStx k y).stx j = d.stx j :=
  tabGet_tabSet_other_wf w h

theorem Dev.ptx_setPtx_self (w : tabWf {} d.partTx = true) (y : PartTx) : (d.setPtx p y).ptx p = y := tabGet_tabSet_self_wf w

end

/-! ## One strip's transport state replaced -/

section

variable {d x z : Dev} {k : Nat} {y v : StripTx}

/-- Strip k's transport state becomes `y`; beside it pages are written and partitions' sources raised. -/
structure StripTxBecomes (d : Dev) (k : Nat) (y : StripTx) (x : Dev) : Prop where
  stx : x.stx k = y
  other : ∀ j, j ≠ k → x.stx j = d.stx j
  wf : tabWf {} x.stripTx = true
  keeps : PageWorkKeeps { d with stripTx := x.stripTx } x

theorem StripTxBecomes.refl (w : tabWf {} d.stripTx = true) : StripTxBecomes d k (d.stx k) d := ⟨rfl, fun _ _ => rfl, w, rfl⟩

theorem StripTxBecomes.work (h : StripTxBecomes d k y x) (hw : PageWorkKeeps x z) : StripTxBecomes d k y z where
  stx := (hw.stx k).trans h.stx
  other := fun j hj => (hw.stx j).trans (h.other j hj)
  wf := by rw [hw.stripTx]; exact h.wf
  keeps := by
    rw [hw.stripTx]
    exact h.keeps.trans hw

theorem StripTxBecomes.set (h : StripTxBecomes d k y x) (v : StripTx) : StripTxBecomes d k v (x.setStx k v) where
  stx := Dev.stx_setStx_self h.wf v
  other := fun j hj => (Dev.stx_setStx_other h.wf hj v).trans (h.other j hj)
  wf := tabSet_wf h.wf
  keeps := by
    have hk := h.keeps
    unfold PageWorkKeeps at hk ⊢
    rw [hk]
    rfl

theorem StripTxBecomes.upd (h : StripTxBecomes d k y x) (f : StripTx → StripTx) : StripTxBecomes d k (f y) (updStx x k f) := by
  rw [updStx, h.stx]
  exact h.set _

theorem StripTxBecomes.trans (h : StripTxBecomes d k y x) (hz : StripTxBecomes x k v z) : StripTxBecomes d k v z where
  stx := hz.stx
  other := fun j hj => (hz.other j hj).trans (h.other j hj)
  wf := hz.wf
  keeps := by
    have hk := h.keeps
    have hkz := hz.keeps
    unfold PageWorkKeeps at hk hkz ⊢
    rw [hkz, hk]

end

end Sys2Proof.Machine

/-! Segments of a strip: policed, started in a claimed slot, joined, landed or dropped (09 R365 to R374). -/

namespace Sys2Proof.Machine

/-! ## Frames that are not landed -/

section

variable {d : Dev} {k : Nat} {b : Bytes} {a : Assembly}

/-- The strip's transport state without the frame being assembled. -/
def unassembled (x : StripTx) (a : Assembly) : StripTx := { x with asm := none, ring := tabSet none x.ring a.slot none }

theorem dropFrame_none (h : (d.stx k).asm = none) : dropFrame d k = d := by
  unfold dropFrame
  rw [h]

theorem dropFrame_some (w : tabWf {} d.stripTx = true) (h : (d.stx k).asm = some a) :
    StripTxBecomes d k (unassembled (d.stx k) a) (dropFrame d k) := by
  unfold dropFrame
  rw [h]
  exact ((StripTxBecomes.refl w).upd fun x => unassembled x a).work (pageWorkKeeps_zeroSlot _ _)

/-- A frame dropped under a counter, and its source raised. -/
theorem dropped_counted (w : tabWf {} d.stripTx = true) (h : (d.stx k).asm = some a) (f : StripTx → StripTx) (src : Nat) (fseq : BitVec 32) :
    StripTxBecomes d k (f (unassembled (d.stx k) a)) (raiseFrame (updStx (dropFrame d k) k f) src k fseq) :=
  ((dropFrame_some w h).upd f).work (pageWorkKeeps_raiseFrame _ _ _)

theorem incompleteFrame_none (h : (d.stx k).asm = none) : incompleteFrame d k = d := by
  unfold incompleteFrame
  rw [h]

theorem incompleteFrame_some (w : tabWf {} d.stripTx = true) (h : (d.stx k).asm = some a) :
    StripTxBecomes d k { unassembled (d.stx k) a with incomplete := (d.stx k).incomplete + 1 } (incompleteFrame d k) := by
  unfold incompleteFrame
  rw [h]
  exact dropped_counted w h (fun x => { x with incomplete := x.incomplete + 1 }) _ _

/-! ## Frames whose LAST segment has arrived (R369 to R373) -/

/-- The slip buffer alone gives frames up, each counted. -/
theorem trimSlip_spec (w : tabWf {} d.stripTx = true) (depth fuel : Nat) : ∃ slip drops,
    StripTxBecomes d k { d.stx k with slip := slip, slipDrops := drops } (trimSlip d k depth fuel) := by
  induction fuel generalizing d with
  | zero => exact ⟨_, _, StripTxBecomes.refl w⟩
  | succ n ih =>
    unfold trimSlip
    extract_lets x
    split
    · exact ⟨_, _, StripTxBecomes.refl w⟩
    · next m rest _ =>
      split
      · exact ⟨_, _, StripTxBecomes.refl w⟩
      · extract_lets f
        have hone := (((StripTxBecomes.refl (k := k) w).set { x with slip := rest, slipDrops := x.slipDrops + 1 }).work
          (pageWorkKeeps_raiseFrame 0xB4 k (f.getD 0)))
        obtain ⟨slip, drops, hrest⟩ := ih hone.wf
        rw [hone.stx] at hrest
        exact ⟨slip, drops, hone.trans hrest⟩

/-- The checks of R369 on a frame whose octets are all there. -/
def framePasses (d : Dev) (k : Nat) (a : Assembly) : Bool :=
  tagOk a && headerOk d (d.strip k).partition.toNat [1, 2] a.buf && decide (beAt 4 4 a.buf = streamId d k)

/-- FSEQ of a frame, as its header has it. -/
def frameSeq (a : Assembly) : BitVec 32 := BitVec.ofNat 32 (beAt 8 4 a.buf)

theorem finishFrame_fails (w : tabWf {} d.stripTx = true) (h : (d.stx k).asm = some a) (hp : framePasses d k a = false) :
    StripTxBecomes d k { unassembled (d.stx k) a with authFails := (d.stx k).authFails + 1 } (finishFrame d k) := by
  have hfails : finishFrame d k = raiseFrame (updStx (dropFrame d k) k fun x => { x with authFails := x.authFails + 1 }) 0xB0 k a.fseq := by
    unfold finishFrame
    rw [h]
    exact if_pos (ne_true_of_eq_false hp)
  rw [hfails]
  exact dropped_counted w h (fun x => { x with authFails := x.authFails + 1 }) _ _

/-- The ring slot of a frame that lands now. -/
def landedSlot (d : Dev) (a : Assembly) : RingSlot :=
  { fseq := frameSeq a, sessions := BitVec.ofNat 64 (beAt 16 8 a.buf), turns := BitVec.ofNat 64 (beAt 24 8 a.buf), landed := now d }

/-- The strip's transport state after a frame has landed in the slip buffer `slip`. -/
def landed (x : StripTx) (a : Assembly) (r : RingSlot) (slip : List Nat) (drops : BitVec 32) : StripTx :=
  { x with asm := none, ring := tabSet none x.ring a.slot (some r), slip := slip ++ [a.slot], slipDrops := drops, landedOnce := true, framesLanded := x.framesLanded + 1, highFseq := frameSeq a }

theorem finishFrame_lands (w : tabWf {} d.stripTx = true) (h : (d.stx k).asm = some a) (hp : framePasses d k a = true)
    (hseq : (d.stx k).landedOnce = false ∨ olderSeq (d.stx k).highFseq (frameSeq a) = true) : ∃ r slip drops, r.fseq = frameSeq a ∧
    StripTxBecomes d k (landed (d.stx k) a r slip drops) (finishFrame d k) := by
  obtain ⟨slip, drops, htrim⟩ := trimSlip_spec (k := k) w (stripNat d k 0x26 - 1) 16
  have hlands : finishFrame d k = updStx (trimSlip d k (stripNat d k 0x26 - 1) 16) k fun x =>
      landed x a (landedSlot (trimSlip d k (stripNat d k 0x26 - 1) 16) a) x.slip x.slipDrops := by
    unfold finishFrame
    rw [h]
    exact (if_neg (not_not_intro hp)).trans (if_neg fun hold => hseq.elim (fun h => ne_true_of_eq_false h hold.1) hold.2)
  generalize trimSlip d k (stripNat d k 0x26 - 1) 16 = z at htrim hlands
  rw [hlands]
  exact ⟨landedSlot z a, slip, drops, rfl, htrim.upd fun x => landed x a (landedSlot z a) x.slip x.slipDrops⟩

/-! ## Octets that join a frame (R366 to R368) -/

/-- An assembly with a segment's octets joined. -/
def joined (d : Dev) (a : Assembly) (b : Bytes) : Assembly := { a with buf := a.buf ++ b.drop 16, lastAt := now d }

/-- The device with a segment's octets in the frame and in its slot. -/
def withSegment (d : Dev) (k : Nat) (a : Assembly) (b : Bytes) : Dev :=
  writeSlot (updStx d k fun x => { x with asm := some (joined d a b) }) k a.slot ((a.buf ++ b.drop 16).take (64 + payloadLen (a.buf ++ b.drop 16)))

theorem takeSegment_spec (w : tabWf {} d.stripTx = true) (h : (d.stx k).asm = some a) (ho : ¬ overlong (a.buf ++ b.drop 16)) : ∃ x,
    StripTxBecomes d k { d.stx k with asm := some (joined d a b) } x ∧ takeSegment d k b = if segLast b then finishFrame x k else x := by
  have htake : takeSegment d k b = if segLast b then finishFrame (withSegment d k a b) k else withSegment d k a b := by
    unfold takeSegment
    rw [h]
    exact if_neg ho
  exact ⟨_, ((StripTxBecomes.refl w).upd fun x => { x with asm := some (joined d a b) }).work (pageWorkKeeps_writeSlot _ _ _), htake⟩

theorem framePasses_joined {x : Dev} {y : StripTx} (h : StripTxBecomes d k y x) (a : Assembly) : framePasses x k a = framePasses d k a := by
  have hk := h.keeps
  unfold framePasses
  rw [show x.strip k = d.strip k from hk.strip k, show streamId x k = streamId d k from hk.legNat_eq _ _]
  congr 2
  unfold headerOk
  rw [show tenant x (d.strip k).partition.toNat = tenant d (d.strip k).partition.toNat from hk.legNat_eq _ _]

/-! ## A frame started (R365, R366) -/

/-- The assembly that a segment starts in the claimed slot, with the keys of its check. -/
def begun (d : Dev) (k : Nat) (b : Bytes) (keys : List Bytes) : Assembly :=
  { slot := claimable (d.stx k), type := nth 0 b 2, fseq := segFseq b, buf := [], auth := BitVec.ofNat 8 (stripNat d k 0x21),
    keySlot := BitVec.ofNat 8 (stripNat d k 0x22), keys := keys, lastAt := now d }

/-- The strip's transport state with a frame started, a token spent. -/
def spent (x : StripTx) (a : Assembly) : StripTx :=
  { x with tokens := x.tokens - 1, discarding := none, asm := some a, claims := x.claims.filter (· ≠ claimable x) ++ [claimable x], ring := tabSet none x.ring (claimable x) none }

theorem startFrame_spec (w : tabWf {} d.stripTx = true) (hl : segLast b = false) (ho : ¬ overlong (b.drop 16)) : ∃ keys,
    StripTxBecomes d k (spent (d.stx k) (joined d (begun d k b keys) b)) (startFrame d k b) := by
  unfold startFrame
  extract_lets x slot key c a
  have hc : StripTxBecomes d k (d.stx k) c.2 := (StripTxBecomes.refl w).work (pageWorkKeeps_openCheck _ _ _)
  have hs := hc.upd fun x => { x with tokens := x.tokens - 1, discarding := none, asm := some a, claims := x.claims.filter (· ≠ slot) ++ [slot], ring := tabSet none x.ring slot none }
  have hasm := congrArg StripTx.asm hs.stx
  obtain ⟨y, hy, htake⟩ := takeSegment_spec (b := b) hs.wf hasm ho
  rw [hs.stx] at hy
  rw [htake, hl, if_neg Bool.false_ne_true]
  refine ⟨c.1, ?_⟩
  have hnow : ∀ z, joined (updStx c.2 k z) a b = joined d (begun d k b c.1) b := fun z => by
    unfold joined
    rw [show now (updStx c.2 k z) = now c.2 from rfl, (pageWorkKeeps_openCheck _ _ _).now_eq]
    rfl
  rw [hnow] at hy
  exact hs.trans hy

end

/-! ## What a segment does -/

section

variable {d : Dev} {k : Nat} {b : Bytes} {a : Assembly}

theorem stripSegment_refused (h : takesFrames (d.strip k) = false ∨ segmentOk d b = false) : stripSegment d k b = d :=
  if_pos (h.imp ne_true_of_eq_false ne_true_of_eq_false)

variable (ht : takesFrames (d.strip k) = true) (ho : segmentOk d b = true)

include ht ho

theorem stripSegment_first (h0 : segOffset b = 0) (hn : (d.stx k).asm = none) : stripSegment d k b =
    if (d.stx k).tokens = 0 then
      raiseFrame (d.setStx k { d.stx k with discarding := if segLast b then none else some (segFseq b), policed := (d.stx k).policed + 1 }) 0xB2 k (segFseq b)
    else startFrame d k b := by
  unfold stripSegment
  rw [if_neg (by simp [ht, ho]), if_pos h0, incompleteFrame_none hn]

theorem stripSegment_later (h0 : segOffset b ≠ 0) (ha : (d.stx k).asm = some a) : stripSegment d k b =
    if segOffset b = a.buf.length then takeSegment d k b else incompleteFrame d k := by
  unfold stripSegment
  rw [if_neg (by simp [ht, ho]), if_neg h0]
  dsimp only
  rw [ha]

end

end Sys2Proof.Machine

/-! Segments of an answer: the limit of a tick, assembly, the check, the stamp (09 R376, R377). -/

namespace Sys2Proof.Machine

section

variable {d x : Dev} {p port : Nat} {b : Bytes} {a : Assembly} {v : Option Assembly}

/-! ## The answers being assembled in a partition -/

/-- A partition's transport state with the assembly of one port replaced. -/
def assembling (t : PartTx) (port : Nat) (v : Option Assembly) : PartTx := { t with answerAsm := tabSet none t.answerAsm port v }

theorem setAnswer_ptx (w : tabWf {} d.partTx = true) (v : Option Assembly) : (setAnswer d p port v).ptx p = assembling (d.ptx p) port v :=
  Dev.ptx_setPtx_self w _

theorem answerOf_assembling_self (wa : tabWf none (d.ptx p).answerAsm = true) (h : (x.ptx p).answerAsm = (assembling (d.ptx p) port v).answerAsm) :
    answerOf x p port = v := by
  unfold answerOf
  rw [h]
  exact tabGet_tabSet_self_wf wa

theorem answerOf_assembling_other (wa : tabWf none (d.ptx p).answerAsm = true) (h : (x.ptx p).answerAsm = (assembling (d.ptx p) port v).answerAsm)
    {q : Nat} (hq : q ≠ port) : answerOf x p q = answerOf d p q := by
  unfold answerOf
  rw [h]
  exact tabGet_tabSet_other_wf wa hq

theorem answerFails_ptx (src : Nat) (f : StripTx → StripTx) : (answerFails d p src a f).ptx p = d.ptx p := by
  unfold answerFails
  split
  · next k _ => exact (pageWorkKeeps_raisePart (d := updStx d k f) _ _ _ _).ptx p
  · exact (pageWorkKeeps_raisePart _ _ _ _).ptx p

theorem incompleteAnswer_none (h : answerOf d p port = none) : incompleteAnswer d p port = d := by
  unfold incompleteAnswer
  rw [h]

theorem incompleteAnswer_ptx (w : tabWf {} d.partTx = true) (h : answerOf d p port = some a) :
    (incompleteAnswer d p port).ptx p = assembling (d.ptx p) port none := by
  unfold incompleteAnswer
  rw [h]
  exact (answerFails_ptx _ _).trans (setAnswer_ptx w none)

/-! ## Octets that join an answer -/

theorem takeAnswer_joins (h : answerOf d p port = some a) (ho : ¬ overlong (a.buf ++ b.drop 16)) : takeAnswer d p port b =
    if segLast b then finishAnswer (setAnswer d p port (some (joined d a b))) p port else setAnswer d p port (some (joined d a b)) := by
  unfold takeAnswer
  rw [h]
  exact if_neg ho

/-- An assembly that follows another on its port. -/
theorem setAnswer_setAnswer_ptx (w : tabWf {} d.partTx = true) (a : Assembly) (v : Option Assembly) :
    (setAnswer (setAnswer d p port (some a)) p port v).ptx p = assembling (d.ptx p) port v := by
  rw [setAnswer_ptx (d := setAnswer d p port (some a)) (tabSet_wf w), setAnswer_ptx w]
  unfold assembling
  rw [tabSet_tabSet (Option.some_ne_none a)]

/-- An answer that passes its check is stamped (R376). -/
theorem finishAnswer_stamps (h : answerOf d p port = some a) {k : Nat} (hk : strandOf d p (beAt 4 4 a.buf) = some k)
    (hp : (tagOk a && headerOk d p [3] a.buf) = true) : finishAnswer d p port =
      (setAnswer d p port none).setPtx p { (setAnswer d p port none).ptx p with
        answers := ((setAnswer d p port none).ptx p).answers ++ [(k, slice 64 264 a.buf, now d)] } := by
  unfold finishAnswer
  rw [h]
  dsimp only
  rw [show strandOf (setAnswer d p port none) p (beAt 4 4 a.buf) = some k from hk,
    show (tagOk a && headerOk (setAnswer d p port none) p [3] a.buf) = true from hp]
  rfl

/-- An answer whose last segment joins it, and that passes its check, waits for its bearing with its stamp (R376). -/
theorem takeAnswer_stamps (w : tabWf {} d.partTx = true) (wa : tabWf none (d.ptx p).answerAsm = true) (h : answerOf d p port = some a)
    (ho : ¬ overlong (a.buf ++ b.drop 16)) (hl : segLast b = true) {k : Nat} (hk : strandOf d p (beAt 4 4 (a.buf ++ b.drop 16)) = some k)
    (hp : (tagOk (joined d a b) && headerOk d p [3] (a.buf ++ b.drop 16)) = true) : let x := takeAnswer d p port b
    answerOf x p port = none ∧ (x.ptx p).answers = (d.ptx p).answers ++ [(k, slice 64 264 (a.buf ++ b.drop 16), now d)] ∧ x.stripTx = d.stripTx := by
  intro x
  have hjoined : answerOf (setAnswer d p port (some (joined d a b))) p port = some (joined d a b) :=
    answerOf_assembling_self wa (congrArg PartTx.answerAsm (setAnswer_ptx w _))
  have hx : x = _ := ((takeAnswer_joins h ho).trans (if_pos hl)).trans (finishAnswer_stamps hjoined hk hp)
  have hptx : x.ptx p = { assembling (d.ptx p) port none with answers := (d.ptx p).answers ++ [(k, slice 64 264 (a.buf ++ b.drop 16), now d)] } := by
    rw [hx, Dev.ptx_setPtx_self (tabSet_wf (tabSet_wf w)), setAnswer_setAnswer_ptx w]
    rfl
  refine ⟨answerOf_assembling_self wa (congrArg PartTx.answerAsm hptx :), congrArg PartTx.answers hptx, ?_⟩
  rw [hx]
  rfl

/-- The first segment of an answer begins its assembly on its port (R376). -/
theorem startAnswer_ptx (w : tabWf {} d.partTx = true) (wa : tabWf none (d.ptx p).answerAsm = true) (hl : segLast b = false) (ho : ¬ overlong (b.drop 16)) :
    ∃ a, a.buf = b.drop 16 ∧ a.fseq = segFseq b ∧ (startAnswer d p port b).ptx p = assembling (d.ptx p) port (some a) := by
  unfold startAnswer
  extract_lets slot auth c
  have hc : PageWorkKeeps d c.2 := pageWorkKeeps_openCheck _ _ _
  have hw : tabWf {} c.2.partTx = true := by rw [hc.partTx]; exact w
  have hwa : tabWf none (c.2.ptx p).answerAsm = true := by rw [hc.ptx]; exact wa
  generalize ha : ({ slot := 16, type := nth 0 b 2, fseq := segFseq b, buf := [], auth := BitVec.ofNat 8 auth, keySlot := BitVec.ofNat 8 slot, keys := c.1, lastAt := now d } : Assembly) = a
  have hbegun : answerOf (setAnswer c.2 p port (some a)) p port = some a := answerOf_assembling_self hwa (congrArg PartTx.answerAsm (setAnswer_ptx hw _))
  refine ⟨joined (setAnswer c.2 p port (some a)) a b, ?_, ?_, ?_⟩
  · rw [← ha]
    rfl
  · rw [← ha]
    rfl
  · rw [takeAnswer_joins hbegun (by rw [← ha]; exact ho), hl, if_neg Bool.false_ne_true, setAnswer_setAnswer_ptx hw, hc.ptx]

/-! ## What a segment does -/

/-- A partition's transport state with one more answer taken in the tick (R377). -/
def counted (t : PartTx) (port : Nat) : PartTx := { t with answersNow := t.answersNow + 1, answerSkip := tabSet none t.answerSkip port none }

theorem answerSegment_refused (h : segmentOk d b = false) : answerSegment d p port b = d := if_pos (ne_true_of_eq_false h)

variable (ho : segmentOk d b = true)

include ho

theorem answerSegment_first (h0 : segOffset b = 0) (hn : answerOf d p port = none) : answerSegment d p port b =
    if legNat d 0x5400 0x03 ≤ (d.ptx p).answersNow then
      raisePart (d.setPtx p { d.ptx p with answersPoliced := (d.ptx p).answersPoliced + 1, answerSkip := tabSet none (d.ptx p).answerSkip port (some (segFseq b)) }) 0xB6 p 0xFFFF (segFseq b).toNat
    else startAnswer (d.setPtx p (counted (d.ptx p) port)) p port b := by
  unfold answerSegment
  rw [if_neg (not_not_intro ho), if_pos h0, incompleteAnswer_none hn]
  rfl

theorem answerSegment_later (h0 : segOffset b ≠ 0) (ha : answerOf d p port = some a) : answerSegment d p port b =
    if segOffset b = a.buf.length then takeAnswer d p port b else incompleteAnswer d p port := by
  unfold answerSegment
  rw [if_neg (not_not_intro ho), if_neg h0, ha]

end

end Sys2Proof.Machine

/-! Session transport's downstream commands (09 R365 to R377). -/

namespace Sys2Proof.Machine

section

variable {s : State} {e k p port : Nat} {b : Bytes} {a : Assembly} {P : Dev → Prop}

theorem does_segmentReceived (hk : k < 256) (h : P (stripSegment (taken s e (.segment k b)) k b)) : Does (.segmentReceived e k b) s P := by
  refine does_onUnit (d := stripSegment (taken s e (.segment k b)) k b) ?_ h
  rw [← decide_eq_true hk]
  rfl

theorem does_answerSegment (hp : p < 64) (h : P (answerSegment (taken s e (.answer p port b)) p port b)) : Does (.answerSegment e p port b) s P := by
  refine does_onUnit (d := answerSegment (taken s e (.answer p port b)) p port b) ?_ h
  rw [← decide_eq_true hp]
  rfl

/-- A strip's frame waits ASSEMBLY_TICKS for its next segment (R368). -/
theorem exec_assemblyTimeout (hk : k < 256) (ha : (s.dev.stx k).asm = some a) : exec (.assemblyTimeout e (.strip k)) s = onUnit s true
    (if reached (s.dev.at e) (after a.lastAt (legNat s.dev 0x5400 0x04)) then incompleteFrame (s.dev.at e) k else s.dev.at e) := by
  show onUnit s (decide (k < 256)) (if (match (s.dev.stx k).asm with | some x => _ | none => _) = true then _ else _) = _
  rw [decide_eq_true hk, ha]
  rfl

theorem passes_assemblyTimeout (hk : k < 256) (ha : (s.dev.stx k).asm = none) : Passes (.assemblyTimeout e (.strip k)) s e := by
  refine does_onUnit (d := s.dev.at e) ?_ rfl
  show onUnit s (decide (k < 256)) (if (match (s.dev.stx k).asm with | some x => _ | none => _) = true then _ else _) = _
  rw [decide_eq_true hk, ha]
  rfl

end

end Sys2Proof.Machine

section

open Sys2Proof.Machine

/-- Settles O45, by the transport state that each segment leaves its strip or its answer: policed, started, joined, landed or dropped. -/
theorem segmentsAssembleAndLand : Obligations.SegmentsAssembleAndLand := by
  intro s e ⟨hstx, hptx, hstrips⟩ d0
  refine ⟨?segments, ?answers, ?timeouts, fun k hk hn => passes_assemblyTimeout hk hn⟩
  case segments =>
    intro k b hk x c
    refine ⟨fun h => does_segmentReceived hk (stripSegment_refused h), fun ht ho => ⟨?policed, ?starts, ?joins, ?lands, ?elsewhere⟩⟩
    case policed =>
      intro h0 hn htok
      refine does_segmentReceived hk ?_
      rw [(stripSegment_first (d := taken s e (.segment k b)) ht ho h0 hn).trans (if_pos htok)]
      have hset := ((StripTxBecomes.refl (d := taken s e (.segment k b)) (k := k) hstx).set
        { x with discarding := if segLast b then none else some (segFseq b), policed := x.policed + 1 }).work (pageWorkKeeps_raiseFrame 0xB2 k (segFseq b))
      exact ⟨hset.stx, hset.other, raiseFrame_stackMem _ _ _⟩
    case starts =>
      intro h0 hn htok hl hover
      refine does_segmentReceived hk ?_
      rw [(stripSegment_first (d := taken s e (.segment k b)) ht ho h0 hn).trans (if_neg (Nat.ne_of_gt htok))]
      obtain ⟨keys, hstart⟩ := startFrame_spec (d := taken s e (.segment k b)) (k := k) hstx hl hover
      rw [hstart.stx]
      exact ⟨_, rfl, rfl, rfl, rfl, rfl, rfl, rfl, hstart.keeps.wire⟩
    case joins =>
      intro a ha h0 hat hl hover
      refine does_segmentReceived hk ?_
      obtain ⟨y, hy, htake⟩ := takeSegment_spec (d := taken s e (.segment k b)) hstx ha hover
      rw [(stripSegment_later (d := taken s e (.segment k b)) ht ho h0 ha).trans (if_pos hat), htake, hl, if_neg Bool.false_ne_true]
      exact ⟨hy.stx, hy.other⟩
    case lands =>
      intro a ha h0 hat hl hover a' fseq good
      obtain ⟨y, hy, htake⟩ := takeSegment_spec (d := taken s e (.segment k b)) hstx ha hover
      have hfinish := ((stripSegment_later (d := taken s e (.segment k b)) ht ho h0 ha).trans (if_pos hat)).trans (htake.trans (if_pos hl))
      have hasm : (y.stx k).asm = some a' := congrArg StripTx.asm hy.stx
      have hpasses : framePasses y k a' = good := framePasses_joined hy a'
      refine ⟨fun hgood hseq => does_segmentReceived hk ?_, fun hbad => does_segmentReceived hk ?_⟩
      · obtain ⟨r, slip, drops, hr, hland⟩ := finishFrame_lands hy.wf hasm (hpasses.trans hgood) (by rw [hy.stx]; exact hseq)
        rw [hy.stx] at hland
        rw [hfinish, hland.stx]
        refine ⟨rfl, rfl, rfl, List.getLast?_concat, ?_⟩
        rw [landed, tabGet_tabSet_self (Option.some_ne_none r), Option.map_some, hr]
        rfl
      · have hfail := finishFrame_fails hy.wf hasm (hpasses.trans hbad)
        rw [hy.stx] at hfail
        rw [hfinish, hfail.stx]
        exact ⟨rfl, rfl, rfl, rfl⟩
    case elsewhere =>
      intro a ha h0 hat
      refine does_segmentReceived hk ?_
      rw [(stripSegment_later (d := taken s e (.segment k b)) ht ho h0 ha).trans (if_neg hat)]
      rw [(incompleteFrame_some (d := taken s e (.segment k b)) hstx ha).stx]
      exact ⟨rfl, rfl, rfl⟩
  case answers =>
    intro p port b hp wa x c
    refine ⟨fun h => does_answerSegment hp (answerSegment_refused h), fun ho => ⟨?policed, ?begins, ?stamps, ?elsewhere⟩⟩
    case policed =>
      intro h0 hn hlim
      refine does_answerSegment hp ?_
      rw [(answerSegment_first (d := taken s e (.answer p port b)) ho h0 hn).trans (if_pos hlim), (pageWorkKeeps_raisePart _ _ _ _).ptx,
        Dev.ptx_setPtx_self (d := taken s e (.answer p port b)) hptx]
      exact ⟨rfl, rfl⟩
    case begins =>
      intro h0 hn hlim hl hover
      refine does_answerSegment hp ?_
      rw [(answerSegment_first (d := taken s e (.answer p port b)) ho h0 hn).trans (if_neg (Nat.not_le.2 hlim))]
      have hset : ((taken s e (.answer p port b)).setPtx p (counted (s.dev.ptx p) port)).ptx p = counted (s.dev.ptx p) port := Dev.ptx_setPtx_self hptx _
      have hwa : tabWf none (((taken s e (.answer p port b)).setPtx p (counted (s.dev.ptx p) port)).ptx p).answerAsm = true := by rw [hset]; exact wa
      obtain ⟨a, hbuf, hfseq, hbegun⟩ := startAnswer_ptx (tabSet_wf hptx) hwa hl hover
      rw [hset] at hbegun
      have hasm := congrArg PartTx.answerAsm hbegun
      exact ⟨⟨a, answerOf_assembling_self (d := s.dev) wa hasm, hbuf, hfseq⟩, congrArg PartTx.answersNow hbegun,
        fun q hq => answerOf_assembling_other (d := s.dev) wa hasm hq⟩
    case stamps =>
      intro a k ha h0 hat hl hover hk hgood
      refine does_answerSegment hp ?_
      rw [(answerSegment_later (d := taken s e (.answer p port b)) ho h0 ha).trans (if_pos hat)]
      exact takeAnswer_stamps (d := taken s e (.answer p port b)) hptx wa ha hover hl hk hgood
    case elsewhere =>
      intro a ha h0 hat
      refine does_answerSegment hp ?_
      rw [(answerSegment_later (d := taken s e (.answer p port b)) ho h0 ha).trans (if_neg hat)]
      have hdrop := incompleteAnswer_ptx (d := taken s e (.answer p port b)) hptx ha
      exact ⟨answerOf_assembling_self (d := taken s e (.answer p port b)) wa (congrArg PartTx.answerAsm hdrop), (congrArg PartTx.answers hdrop :)⟩
  case timeouts =>
    intro k a hk ha
    refine ⟨fun hr => does_onUnit (exec_assemblyTimeout hk ha) ?_, fun hr => does_onUnit (exec_assemblyTimeout hk ha) (if_neg (ne_true_of_eq_false hr))⟩
    rw [if_pos hr, (incompleteFrame_some (d := s.dev.at e) hstx ha).stx]
    exact ⟨rfl, rfl⟩

end

/-! Results enter the upstream store (09 R385, R387; 07 R292, R293). -/

namespace Sys2Proof.Machine

/-! ## Turns and aborts touch sessions alone -/

section

variable {x y z : Strip}

/-- Of a strip nothing but its sessions and their abort states changes. -/
def SessionsChange (x y : Strip) : Prop := y = { x with sessions := y.sessions, abortStatus := y.abortStatus }

theorem SessionsChange.refl : SessionsChange x x := rfl

theorem SessionsChange.trans (h : SessionsChange x y) (k : SessionsChange y z) : SessionsChange x z := by
  unfold SessionsChange at *
  rw [k, h]

theorem SessionsChange.rseq (h : SessionsChange x y) : y.rseq = x.rseq := by rw [h]

theorem SessionsChange.highSeq (h : SessionsChange x y) : y.highSeq = x.highSeq := by rw [h]

theorem SessionsChange.replaySuppressed (h : SessionsChange x y) : y.replaySuppressed = x.replaySuppressed := by rw [h]

theorem sessionsChange_lateAborts (stamp : Stamp) (ord : Nat) (turns : BitVec 64) : SessionsChange x (lateAborts stamp ord x turns) := by
  refine List.foldlRecOn (motive := fun y : Strip => SessionsChange x y) _ _ .refl fun y h n _ => h.trans ?_
  dsimp only
  split
  · rfl
  · exact .refl

theorem sessionsChange_popTurn (stamp : Stamp) (n : Nat) : SessionsChange x (popTurn stamp x n).2 := by
  unfold popTurn
  dsimp only
  split
  · exact .refl
  · rfl

theorem sessionsChange_completeTurns (stamp : Stamp) (turns : BitVec 64) : SessionsChange x (completeTurns stamp x turns).2 :=
  List.foldlRecOn (motive := fun acc : List Stamp × Strip => SessionsChange x acc.2) _ _ .refl fun _ h _ _ => h.trans (sessionsChange_popTurn _ _)

end

/-! ## The frame of a result -/

section

variable {d : Dev} {p : Nat} {t : TakenRec} {rest : List TakenRec}

/-- Without injected errors a page is read as it stands, and nothing is raised. -/
theorem pageBytesOf_clean (hi : d.stackInj = []) (p page off len : Nat) : pageBytesOf d p page off len = ((pageBytesOf d p page off len).1, d) := by
  refine Prod.ext rfl ?_
  unfold pageBytesOf
  split
  · rw [stackBytes, readStack_clean hi]
    rfl
  · rfl

theorem frameHeader_length (type stream fseq len sessions turns stamp marks form ten emitter : Nat) :
    (frameHeader type stream fseq len sessions turns stamp marks form ten emitter).length = 64 := by
  simp [frameHeader, be_length, zeros]

theorem beAt_append {a b : Bytes} (c : Bytes) {i n : Nat} (hi : a.length = i) (hn : b.length = n) : beAt i n (a ++ (b ++ c)) = beVal b := by
  rw [beAt, slice, List.drop_left' hi, List.take_left' hn]

/-- FSEQ stands in octets 8 to 11 of a frame (Table 9.1). -/
theorem beAt_frameHeader_fseq (type stream len sessions turns stamp marks form ten emitter : Nat) (fseq : BitVec 32) (body : Bytes) :
    beAt 8 4 (frameHeader type stream fseq.toNat len sessions turns stamp marks form ten emitter ++ body) = fseq.toNat := by
  have hsplit (rest : Bytes) : be 2 0x5A46 ++ (be 1 1 ++ (be 1 type ++ (be 4 stream ++ rest))) = (be 2 0x5A46 ++ be 1 1 ++ be 1 type ++ be 4 stream) ++ rest := by
    simp only [List.append_assoc]
  simp only [frameHeader, List.append_assoc]
  rw [hsplit, beAt_append _ (by simp [be_length]) (be_length _ _), beVal_be]
  exact Nat.mod_eq_of_lt fseq.isLt

/-- The payload of the result that a record names: as it stands, or packed (R385). -/
def resultBody (d : Dev) (p : Nat) (t : TakenRec) : Bytes :=
  if t.form = 1 then packWide (pageBytesOf d p t.srcPage t.srcOff t.length).1 else (pageBytesOf d p t.srcPage t.srcOff t.length).1

/-- A replay has come to a result that has entered before (07 R293). -/
def repeats (x : Strip) : Bool := x.entered && !olderSeq x.highSeq x.rseq

/-- The store has room for a record's result beside its reserve (R387). -/
def hasRoom (d : Dev) (p : Nat) (t : TakenRec) : Bool := decide (itemBytes (zeros 64 ++ resultBody d p t) + legNat d (0x5410 + p) 0x02 ≤ storeFree d p)

/-- The record taken leaves its partition, marked in the emit page (R384). -/
def recordDone (d : Dev) (p n : Nat) (rest : List TakenRec) : Dev := writeValid (d.setPtx p { d.ptx p with taken := rest }) p n 2

theorem pageWork_recordDone (n : Nat) : PageWorkKeeps (d.setPtx p { d.ptx p with taken := rest }) (recordDone d p n rest) := pageWorkKeeps_writePage _ _ _ _

/-- The strip's sessions with the turns of a record completed now. -/
def turned (d : Dev) (t : TakenRec) : Strip := (completeTurns (now d) (lateAborts (now d) (ordinal d) (d.strip t.strip) t.turns) t.turns).2

theorem sessionsChange_turned : SessionsChange (d.strip t.strip) (turned d t) :=
  (sessionsChange_lateAborts _ _ _).trans (sessionsChange_completeTurns _ _)

theorem enterResult_waits (hi : d.stackInj = []) (hn : repeats (d.strip t.strip) = false) (hroom : hasRoom d p t = false) : enterResult d p t rest = d := by
  unfold enterResult
  rw [pageBytesOf_clean hi]
  exact if_pos ⟨ne_true_of_eq_false hn, Nat.not_le.1 (of_decide_eq_false hroom)⟩

theorem enterResult_repeats (hi : d.stackInj = []) (hr : repeats (d.strip t.strip) = true) : enterResult d p t rest =
    (recordDone d p t.recNo rest).setStrip t.strip { turned (recordDone d p t.recNo rest) t with
      rseq := (turned (recordDone d p t.recNo rest) t).rseq + 1, replaySuppressed := (turned (recordDone d p t.recNo rest) t).replaySuppressed + 1 } := by
  unfold enterResult
  rw [pageBytesOf_clean hi]
  exact (if_neg fun h => h.1 hr).trans (if_pos hr)

/-- The strip once a result has entered: HIGH_SEQ is the RSEQ it took (07 R292). -/
def enteredStrip (x : Strip) (turns : BitVec 64) : Strip :=
  { x with rseq := x.rseq + 1, highSeq := x.rseq + 1 - 1, entered := true, turns := turns }

/-- An item at the end of a partition's store. -/
def putResult (d : Dev) (p : Nat) (it : Item) : Dev := d.setPtx p { d.ptx p with items := (d.ptx p).items ++ [it] }

/-- The item of a record that enters. -/
structure IsResult (d : Dev) (p : Nat) (t : TakenRec) (it : Item) : Prop where
  cls : it.cls = .result
  strip : it.strip = t.strip
  partition : it.partition = p
  entered : it.entered = now d
  seq : it.seq = d.sched.nextSeq
  body : it.frame.drop 64 = resultBody d p t
  fseq : beAt 8 4 it.frame = (d.strip t.strip).rseq.toNat

theorem enterResult_enters (hi : d.stackInj = []) (hn : repeats (d.strip t.strip) = false) (hroom : hasRoom d p t = true) : ∃ turns it, IsResult d p t it ∧
    enterResult d p t rest = putResult (wakeQueue ((countEntry (recordDone d p t.recNo rest)).setStrip t.strip
      (enteredStrip (turned (recordDone d p t.recNo rest) t) turns)) p) p it := by
  have hwork : PageWorkKeeps (d.setPtx p { d.ptx p with taken := rest }) (recordDone d p t.recNo rest) := pageWork_recordDone _
  have hseq : (turned (recordDone d p t.recNo rest) t).rseq + 1 - 1 = (d.strip t.strip).rseq := by
    rw [BitVec.add_sub_cancel, sessionsChange_turned]
    exact (congrArg Strip.rseq (hwork.strip t.strip) :)
  refine ⟨?turns, ?it, ?result, ?eq⟩
  case eq =>
    unfold enterResult
    rw [pageBytesOf_clean hi]
    refine (if_neg fun h => Nat.not_le.2 h.2 (of_decide_eq_true hroom)).trans ?_
    extract_lets y r late x keep done x'
    refine (if_neg (ne_true_of_eq_false hn)).trans ?_
    exact rfl
  case result =>
    refine ⟨rfl, rfl, rfl, hwork.now_eq, congrArg Sched.nextSeq hwork.sched, ?_, ?_⟩
    · exact List.drop_left' (frameHeader_length _ _ _ _ _ _ _ _ _ _ _)
    · exact (beAt_frameHeader_fseq _ _ _ _ _ _ _ _ _ _ _ _).trans (congrArg BitVec.toNat hseq)

end

end Sys2Proof.Machine

/-! ITEM_ENTRY (09 R384, R385, R387; 06 R235; 07 R292, R293). -/

namespace Sys2Proof.Machine

section

variable {s : State} {d : Dev} {e p : Nat} {t : TakenRec} {rest : List TakenRec} {P : Dev → Prop}

theorem does_itemEntry (hp : p < 64) (h : P (itemEntry (s.dev.at e) p)) : Does (.itemEntry e p) s P := by
  refine does_onUnit (d := itemEntry (s.dev.at e) p) ?_ h
  rw [← decide_eq_true hp]
  rfl

theorem itemEntry_none (h : (d.ptx p).taken = []) : itemEntry d p = d := by
  unfold itemEntry
  rw [h]

theorem itemEntry_refused (h : (d.ptx p).taken = t :: rest) (hr : t.refuse = true) : itemEntry d p =
    if pageTag d p (legNat d (0x5410 + p) 0x00) ≠ 0 then d else refuseRecord (d.setPtx p { d.ptx p with taken := rest }) p t.recNo := by
  unfold itemEntry
  rw [h]
  exact if_pos hr

theorem itemEntry_tagged (h : (d.ptx p).taken = t :: rest) (hr : t.refuse = false) (htag : takenTag d p t ≠ 0) : itemEntry d p = d := by
  unfold itemEntry
  rw [h]
  exact (if_neg (ne_true_of_eq_false hr)).trans (if_pos htag)

theorem itemEntry_clean (h : (d.ptx p).taken = t :: rest) (hr : t.refuse = false) (htag : takenTag d p t = 0) : itemEntry d p = enterResult d p t rest := by
  unfold itemEntry
  rw [h]
  exact (if_neg (ne_true_of_eq_false hr)).trans (if_neg (not_not.2 htag))

/-! ## A record refused -/

theorem pageWork_refuseRecord (n : Nat) : PageWorkKeeps (d.setPtx p { d.ptx p with emitRefused := (d.ptx p).emitRefused + 1 }) (refuseRecord d p n) :=
  pageWorkKeeps_writePage _ _ _ _

theorem refuseRecord_ptx (w : tabWf {} d.partTx = true) (n : Nat) :
    (refuseRecord d p n).ptx p = { d.ptx p with emitRefused := (d.ptx p).emitRefused + 1 } :=
  ((pageWork_refuseRecord n).ptx p).trans (Dev.ptx_setPtx_self w _)

/-! ## A record that leaves -/

theorem recordDone_ptx (w : tabWf {} d.partTx = true) (n : Nat) : (recordDone d p n rest).ptx p = { d.ptx p with taken := rest } :=
  ((pageWork_recordDone n).ptx p).trans (Dev.ptx_setPtx_self w _)

theorem recordDone_strips_wf (w : tabWf {} d.strips = true) (n : Nat) : tabWf {} (recordDone d p n rest).strips = true := by
  rwa [(pageWork_recordDone (rest := rest) n).strips]

theorem recordDone_partTx_wf (w : tabWf {} d.partTx = true) (n : Nat) : tabWf {} (recordDone d p n rest).partTx = true := by
  rw [(pageWork_recordDone n).partTx]
  exact tabSet_wf w

/-- The strip after the turns of a record that has left, but for its sessions, is the strip before. -/
theorem sessionsChange_turned_recordDone (n : Nat) : SessionsChange (d.strip t.strip) (turned (recordDone d p n rest) t) := by
  have h := sessionsChange_turned (d := recordDone d p n rest) (t := t)
  rwa [(pageWork_recordDone (rest := rest) n).strip t.strip] at h

/-- Waking a queue touches the queues' tags alone (R394). -/
theorem wakeQueue_eq : wakeQueue d p = { d with sched := (wakeQueue d p).sched } := by
  unfold wakeQueue
  split
  · rfl
  · dsimp only
    split
    · rfl
    · rfl

/-- The result stands last in its partition's store. -/
theorem putResult_wakeQueue_ptx (w : tabWf {} d.partTx = true) (it : Item) :
    (putResult (wakeQueue d p) p it).ptx p = { d.ptx p with items := (d.ptx p).items ++ [it] } := by
  have hptx : (wakeQueue d p).partTx = d.partTx := by rw [wakeQueue_eq]
  rw [putResult, Dev.ptx_setPtx_self (by rwa [hptx])]
  rw [Dev.ptx, hptx]
  rfl

theorem putResult_wakeQueue_strip (it : Item) (k : Nat) : (putResult (wakeQueue d p) p it).strip k = d.strip k := by
  rw [wakeQueue_eq]
  rfl

/-! ## A record entered -/

theorem enterResult_repeats_ptx (w : tabWf {} d.partTx = true) (hi : d.stackInj = []) (hr : repeats (d.strip t.strip) = true) :
    (enterResult d p t rest).ptx p = { d.ptx p with taken := rest } := by
  rw [enterResult_repeats hi hr]
  exact recordDone_ptx w _

theorem enterResult_repeats_strip (w : tabWf {} d.strips = true) (hi : d.stackInj = []) (hr : repeats (d.strip t.strip) = true) :
    ∃ y, SessionsChange (d.strip t.strip) y ∧ (enterResult d p t rest).strip t.strip = { y with rseq := y.rseq + 1, replaySuppressed := y.replaySuppressed + 1 } := by
  rw [enterResult_repeats hi hr]
  exact ⟨_, sessionsChange_turned_recordDone _, Dev.strip_setStrip_self (recordDone_strips_wf w _) _⟩

theorem enterResult_stores (wp : tabWf {} d.partTx = true) (ws : tabWf {} d.strips = true) (hi : d.stackInj = [])
    (hn : repeats (d.strip t.strip) = false) (hroom : hasRoom d p t = true) : ∃ it, IsResult d p t it ∧
    (enterResult d p t rest).ptx p = { d.ptx p with taken := rest, items := (d.ptx p).items ++ [it] } ∧
    ∃ y turns, SessionsChange (d.strip t.strip) y ∧ (enterResult d p t rest).strip t.strip = enteredStrip y turns := by
  obtain ⟨turns, it, hit, henter⟩ := enterResult_enters (rest := rest) hi hn hroom
  rw [henter]
  refine ⟨it, hit, ?_, turned (recordDone d p t.recNo rest) t, turns, sessionsChange_turned_recordDone t.recNo, ?_⟩
  · refine (putResult_wakeQueue_ptx (d := (countEntry (recordDone d p t.recNo rest)).setStrip t.strip _) (recordDone_partTx_wf wp t.recNo) it).trans ?_
    exact congrArg (fun y : PartTx => { y with items := y.items ++ [it] }) (recordDone_ptx wp t.recNo)
  · rw [putResult_wakeQueue_strip]
    exact Dev.strip_setStrip_self (d := countEntry (recordDone d p t.recNo rest)) (recordDone_strips_wf ws _) _

end

end Sys2Proof.Machine

/-! Datagrams handed on and group membership reported (09 R406 to R408). -/

namespace Sys2Proof.Machine

section

variable {s : State} {d : Dev} {e n port : Nat} {address group : BitVec 32} {udpPort : BitVec 16} {fragment : Bool} {payload : Bytes} {P : Dev → Prop}

/-! ## Datagrams (R406, R408) -/

/-- The local ports are ports 1 and 2. -/
theorem isLocalPort (hn : n = 1 ∨ n = 2) : (decide (n = 1) || decide (n = 2)) = true := by simpa using hn

theorem does_udpDatagramReceived (hn : port = 1 ∨ port = 2)
    (h : P (udpReceived (taken s e (.datagram port address udpPort payload)) port address udpPort fragment payload)) :
    Does (.udpDatagramReceived e port address udpPort fragment payload) s P := by
  refine does_onUnit (d := udpReceived (taken s e (.datagram port address udpPort payload)) port address udpPort fragment payload) ?_ h
  rw [← isLocalPort hn]
  rfl

theorem udpReceived_discards (h : ethMode d = false ∨ fragment = true ∨ udpMatch d port address udpPort = none) :
    udpReceived d port address udpPort fragment payload = d := by
  unfold udpReceived
  split
  · rfl
  · next hno =>
    obtain ⟨hm, hf⟩ := not_or.1 hno
    have hnone : udpMatch d port address udpPort = none := (h.resolve_left fun k => hm (ne_true_of_eq_false k)).resolve_left hf
    rw [hnone]

theorem udpReceived_hands {b : Bytes} (hm : ethMode d = true) (hf : fragment = false) (hb : udpMatch d port address udpPort = some b) :
    udpReceived d port address udpPort fragment payload = { d with handed := d.handed ++
      [if beAt 6 1 b = 3 then .answer (beAt 7 1 b) (0x10000 + udpPort.toNat) payload else .segment (beAt 7 1 b) payload] } := by
  unfold udpReceived
  rw [hm, hf, hb]
  rfl

/-! ## A frame that leaves a local port -/

theorem Dev.setEthPort_eq (x : EthPort) : d.setEthPort n x = { d with eth := (d.setEthPort n x).eth } := by
  unfold Dev.setEthPort
  split
  · rfl
  · split <;> rfl

theorem Dev.ethPort_setEthPort_self (x : EthPort) : (d.setEthPort n x).ethPort n = x := by
  unfold Dev.setEthPort Dev.ethPort
  by_cases h0 : n = 0
  · simp only [if_pos h0]
  · by_cases h1 : n = 1
    · simp only [if_neg h0, if_pos h1]
    · simp only [if_neg h0, if_neg h1]

theorem local_ne_zero (hn : n = 1 ∨ n = 2) : n ≠ 0 := by omega

/-- A local port counts its frames; the octets of a tick are counted on the management port alone (R456). -/
theorem ethEmit_local (hn : n = 1 ∨ n = 2) (frame : Bytes) :
    ethEmit d n frame = (d.setEthPort n { d.ethPort n with txFrames := (d.ethPort n).txFrames + 1 }).emit (.eth n frame) := by
  rw [ethEmit, countMgmt, if_pos (local_ne_zero hn)]
  rfl

/-- A frame leaves port n: the port counts it, and nothing else changes but the pins. -/
structure Leaves (d : Dev) (n : Nat) (frame : Bytes) (x : Dev) : Prop where
  wire : x.wire = d.wire ++ [.eth n frame]
  port : x.ethPort n = { d.ethPort n with txFrames := (d.ethPort n).txFrames + 1 }
  strips : x.strips = d.strips
  stripTx : x.stripTx = d.stripTx

theorem leaves_ethEmit (hn : n = 1 ∨ n = 2) (frame : Bytes) : Leaves d n frame (ethEmit d n frame) := by
  have hset := Dev.setEthPort_eq (d := d) (n := n) { d.ethPort n with txFrames := (d.ethPort n).txFrames + 1 }
  rw [ethEmit_local hn]
  refine ⟨?_, Dev.ethPort_setEthPort_self (d := d) (n := n) _, ?_, ?_⟩
  · rw [hset]
    rfl
  · rw [hset]
    rfl
  · rw [hset]
    rfl

/-! ## Membership reports (R407) -/

theorem sendIp_leaves (hn : n = 1 ∨ n = 2) (hl : (d.ethPort n).link = true) {m : BitVec 48} (hto : macTo d n address = some m) (u : EthUse) (datagram : Bytes) :
    Leaves d n (ethFrame d n u m 0x0800 datagram) (sendIp d n u address datagram) := by
  have hsend : sendIp d n u address datagram = ethEmit d n (ethFrame d n u m 0x0800 datagram) := by
    unfold sendIp
    rw [hto]
    exact if_pos hl
  rw [hsend]
  exact leaves_ethEmit hn _

/-- A report goes to the group of all IGMPv3 routers, whose address needs no resolution. -/
theorem igmpReport_leaves (hn : n = 1 ∨ n = 2) (hl : (d.ethPort n).link = true) (record : Nat) (g : BitVec 32) :
    ∃ frame, Leaves d n frame (igmpReport d n record g) :=
  ⟨_, sendIp_leaves (address := 0xE0000016) hn hl (if_pos (by decide)) _ _⟩

/-- One report leaves for each group. -/
theorem igmpReports_leave (hn : n = 1 ∨ n = 2) (record : Nat) (gs : List (BitVec 32)) : ∀ {d : Dev}, (d.ethPort n).link = true →
    let x := gs.foldl (fun d g => igmpReport d n record g) d
    (∃ frames : List Bytes, x.wire = d.wire ++ frames.map (.eth n) ∧ frames.length = gs.length) ∧ x.strips = d.strips ∧ x.stripTx = d.stripTx := by
  induction gs with
  | nil => exact fun _ => ⟨⟨[], (List.append_nil _).symm, rfl⟩, rfl, rfl⟩
  | cons g gs ih =>
    intro d hl x
    obtain ⟨frame, hfirst⟩ := igmpReport_leaves hn hl record g
    have hl' : ((igmpReport d n record g).ethPort n).link = true := by rw [hfirst.port]; exact hl
    obtain ⟨⟨frames, hwire, hlen⟩, hstrips, hstx⟩ := ih hl'
    refine ⟨⟨frame :: frames, ?_, congrArg (· + 1) hlen⟩, hstrips.trans hfirst.strips, hstx.trans hfirst.stripTx⟩
    rw [List.map_cons, List.append_cons, ← hfirst.wire]
    exact hwire

theorem exec_igmpQuery (hn : port = 1 ∨ port = 2) : exec (.igmpQuery e port group) s = onUnit s true
    (if ethMode s.dev then ((boundGroups s.dev).eraseDups.filter fun g => decide (group = 0) || decide (g = group)).foldl (fun d g => igmpReport d port 2 g)
      (taken s e (.igmp port group)) else taken s e (.igmp port group)) := by
  show onUnit s (decide (port = 1) || decide (port = 2)) _ = _
  rw [isLocalPort hn]
  rfl

end

end Sys2Proof.Machine

/-! LOCAL_PORT_TRANSMIT (09 R409; 11 R454, R455). -/

namespace Sys2Proof.Machine

/-! ## The choice of a segment leaves the Ethernet ports alone -/

section

variable {d x : Dev} {point : Nat}

theorem foldl_eth {β : Type} (f : Dev → β → Dev) (h : ∀ a b, (f a b).eth = a.eth) (l : List β) : (l.foldl f d).eth = d.eth :=
  List.foldlRecOn (motive := fun x : Dev => x.eth = d.eth) l f rfl fun _ k b _ => (h _ b).trans k

theorem passOver_eth : (passOver d point).eth = d.eth := by
  refine foldl_eth _ (fun y p => ?_) _
  dsimp only
  split
  · rfl
  · exact foldl_eth _ (fun _ _ => raise_eth _) _

theorem commitItem_eth (it : Item) : (commitItem d it).2.eth = d.eth := by
  unfold commitItem
  extract_lets slot key auth stamp close late marks d'
  split
  · rfl
  · show Dev.eth (if late then _ else d) = _
    split
    · exact raise_eth _
    · rfl

theorem activate_eth : (activate d point).eth = d.eth := by
  unfold activate
  extract_lets full d'
  refine (foldl_eth _ (fun y p => ?_) _).trans (foldl_eth _ (fun y p => ?_) _)
  · split <;> rfl
  · split <;> rfl

theorem nextResult_eth : (nextResult d point).2.eth = d.eth := by
  unfold nextResult
  extract_lets d' l
  have hd : d'.eth = d.eth := activate_eth
  clear_value l d'
  split
  · exact hd
  · exact hd

theorem chooseNext_eth : (chooseNext d point).2.eth = d.eth := by
  unfold chooseNext
  split
  · rfl
  · split
    · rfl
    · exact nextResult_eth

theorem putItem_eth (c : Chosen) (it : Item) : (putItem d c it).eth = d.eth := by
  cases c <;> rfl

theorem takeTokens_eth (p len : Nat) : (takeTokens d p len).eth = d.eth := by
  simp only [takeTokens]
  split <;> rfl

theorem takeNext_eth {c : Chosen} {sdu : Bytes} {it : Item} (h : takeNext d c = some (sdu, it, x)) : x.eth = d.eth := by
  unfold takeNext at h
  split at h
  · cases h
  · next it' _ =>
    have hcommit : (if it'.cls ≠ .mgmt ∧ it'.sealed.isNone = true then commitItem d it' else (it', d)).2.eth = d.eth := by
      split
      · exact commitItem_eth _
      · rfl
    cases h
    split
    · exact (takeTokens_eth _ _).trans hcommit
    · exact hcommit

end

/-! ## The octets of a segment's datagram -/

section

variable {d : Dev} {n : Nat}

theorem patch_length {off : Nat} {new bs : Bytes} (h : off + new.length ≤ bs.length) : (patch off new bs).length = bs.length := by
  simp only [patch, List.length_append, List.length_take, List.length_drop, zeros, List.length_replicate]
  omega

theorem udp_length (src dst : BitVec 32) (sport dport : Nat) (body : Bytes) : (udp src dst sport dport body).length = 8 + body.length := by
  rw [udp, List.length_append, patch_length] <;> simp [be_length]

theorem ipv4_length (src dst : BitVec 32) (proto ttl : Nat) (options body : Bytes) :
    (ipv4 src dst proto ttl options body).length = 20 + options.length + body.length := by
  rw [ipv4, List.length_append, patch_length]
  · simp [be_length]
    omega
  · simp [be_length]
    omega

theorem ethTags_length_le (u : EthUse) : (ethTags d n u).length ≤ 8 := by
  unfold ethTags
  extract_lets tci
  split <;> simp [tci, be_length]

/-- A segment's frame: 50 octets about it at most, with two tags. -/
theorem ethFrame_upDatagram_length_le (u : EthUse) (m : BitVec 48) (r : UpRoute) (sdu : Bytes) :
    (ethFrame d n u m 0x0800 (upDatagram d n r sdu)).length ≤ sdu.length + 50 := by
  have htags : (ethTags d n u).length ≤ 8 := ethTags_length_le u
  simp only [ethFrame, upDatagram, macBytes, List.length_append, ipv4_length, udp_length, be_length, List.length_nil]
  omega

end

/-! ## The command -/

section

variable {s : State} {d d' : Dev} {e n port : Nat}

theorem exec_localPortTransmit (hn : port = 1 ∨ port = 2) : exec (.localPortTransmit e port) s = onUnit s true
    (if ethMode s.dev ∧ (s.dev.ethPort port).link then localTransmit (s.dev.at e) port else s.dev.at e) := by
  show onUnit s (decide (port = 1) || decide (port = 2)) _ = _
  rw [isLocalPort hn]
  rfl

/-- The scheduling point of local port n. -/
def localPoint (n : Nat) : Nat := 0x10000 + (n - 1)

theorem localTransmit_idle (h : peekRoute (passOver d (localPoint n)) (localPoint n) = none) : localTransmit d n = passOver d (localPoint n) := by
  unfold localTransmit
  unfold localPoint at *
  simp only [h]

/-- With its queue empty the port has room for every segment, and sends the frame of the one chosen (R455). -/
theorem localTransmit_leaves {r : UpRoute} {m : BitVec 48} {c : Chosen} {sdu : Bytes} {it : Item} (hn : n = 1 ∨ n = 2)
    (hr : peekRoute (passOver d (localPoint n)) (localPoint n) = some r) (hm : macTo (passOver d (localPoint n)) n r.address = some m)
    (hc : (chooseNext (passOver d (localPoint n)) (localPoint n)).1 = some c)
    (ht : takeNext (chooseNext (passOver d (localPoint n)) (localPoint n)).2 c = some (sdu, it, d'))
    (hq : (d.ethPort n).txq = []) (hlen : sdu.length ≤ 131072) : ∃ frame, Leaves (putItem d' c it) n frame (localTransmit d n) := by
  have hport : (passOver d (localPoint n)).ethPort n = d.ethPort n := by simp only [Dev.ethPort, passOver_eth]
  have hroom : ¬ 262144 < txBytes ((passOver d (localPoint n)).ethPort n) +
      (ethFrame d' n (if it.cls = .query then .first else .other) m 0x0800 (upDatagram d' n r sdu)).length := by
    have hframe := ethFrame_upDatagram_length_le (d := d') (n := n) (if it.cls = .query then .first else .other) m r sdu
    rw [hport, txBytes, hq, List.map_nil, List.foldl_nil]
    omega
  refine ⟨ethFrame d' n (if it.cls = .query then .first else .other) m 0x0800 (upDatagram d' n r sdu), ?_⟩
  have hsend : localTransmit d n = ethEmit (putItem d' c it) n (ethFrame d' n (if it.cls = .query then .first else .other) m 0x0800 (upDatagram d' n r sdu)) := by
    unfold localTransmit
    rw [localPoint] at hr hm hc ht hroom
    simp only [hr, hm, hc, ht]
    exact if_neg hroom
  rw [hsend]
  exact leaves_ethEmit hn _

end

end Sys2Proof.Machine

section

open Sys2Proof.Machine

/-- Settles O46, by what each command hands over: a record to the store, a datagram to its binding, a frame to its port. -/
theorem resultsEnterAndLocalPortsSend : Obligations.ResultsEnterAndLocalPortsSend := by
  intro s e ⟨_, hptx, hstrips⟩ hinj d0
  refine ⟨fun p hp hnone => does_itemEntry hp (itemEntry_none (d := s.dev.at e) hnone), ?records, ?datagrams, ?queries, ?ports⟩
  case records =>
    intro p t rest hp htaken x again raw body fits
    refine ⟨fun hr htag => does_itemEntry hp ((itemEntry_refused (d := s.dev.at e) htaken hr).trans (if_pos htag)), fun hr htag => does_itemEntry hp ?refused,
      fun hr => ⟨fun htag => does_itemEntry hp (itemEntry_tagged (d := s.dev.at e) htaken hr htag), fun htag hr' => ?repeated, fun htag hn hfits => ?waits, fun htag hn hfits => ?enters⟩⟩
    case refused =>
      rw [(itemEntry_refused (d := s.dev.at e) htaken hr).trans (if_neg (not_not.2 htag))]
      have hwork := pageWork_refuseRecord (d := (s.dev.at e).setPtx p { s.dev.ptx p with taken := rest }) (p := p) t.recNo
      rw [refuseRecord_ptx (tabSet_wf hptx), Dev.ptx_setPtx_self (d := s.dev.at e) hptx]
      exact ⟨rfl, rfl, rfl, hwork.strips, hwork.wire⟩
    all_goals
      refine does_itemEntry hp ?_
      rw [itemEntry_clean (d := s.dev.at e) htaken hr htag]
    case repeated =>
      have hptx' := enterResult_repeats_ptx (d := s.dev.at e) (p := p) (rest := rest) hptx hinj hr'
      obtain ⟨y, hy, hstrip⟩ := enterResult_repeats_strip (d := s.dev.at e) (p := p) (rest := rest) hstrips hinj hr'
      rw [hptx', hstrip]
      exact ⟨rfl, rfl, congrArg (· + 1) hy.replaySuppressed, congrArg (· + 1) hy.rseq, hy.highSeq⟩
    case waits =>
      rw [enterResult_waits (d := s.dev.at e) hinj hn hfits]
      exact ⟨rfl, rfl, rfl⟩
    case enters =>
      obtain ⟨it, hit, hptx', y, turns, hy, hstrip⟩ := enterResult_stores (d := s.dev.at e) (p := p) (rest := rest) hptx hstrips hinj hn hfits
      rw [hptx', hstrip]
      refine ⟨rfl, ⟨it, rfl, hit.cls, hit.strip, hit.partition, hit.entered, hit.seq, hit.body, hit.fseq⟩, congrArg (· + 1) hy.rseq, ?_, rfl⟩
      exact (BitVec.add_sub_cancel _ _).trans hy.rseq
  case datagrams =>
    intro port address udpPort fragment payload hn c d1
    exact ⟨fun h => does_udpDatagramReceived hn (udpReceived_discards h), fun b hm hf hb => does_udpDatagramReceived hn (udpReceived_hands hm hf hb)⟩
  case queries =>
    intro port group hn
    refine ⟨fun hm => does_onUnit (exec_igmpQuery hn) (if_neg (ne_true_of_eq_false hm)), fun hm hl => does_onUnit (exec_igmpQuery hn) ?_⟩
    rw [if_pos hm]
    obtain ⟨⟨frames, hwire, hlen⟩, hstrips', hstx⟩ := igmpReports_leave hn 2
      ((boundGroups s.dev).eraseDups.filter fun g => decide (group = 0) || decide (g = group)) (d := taken s e (.igmp port group)) hl
    exact ⟨frames, hwire, hlen, hstrips', hstx⟩
  case ports =>
    intro port hn point dp
    refine ⟨fun h => does_onUnit (exec_localPortTransmit hn) ?down, fun hm hl hr => does_onUnit (exec_localPortTransmit hn) ?idle, ?sends⟩
    case down => exact if_neg fun k => h.elim (fun h => ne_true_of_eq_false h k.1) fun h => ne_true_of_eq_false h k.2
    case idle =>
      rw [if_pos ⟨hm, hl⟩, localTransmit_idle (d := s.dev.at e) hr]
      exact choiceKeeps_passOver.2
    case sends =>
      intro r m c sdu it d' hm hl hr hto hc ht hq hlen
      refine does_onUnit (exec_localPortTransmit hn) ?_
      rw [if_pos ⟨hm, hl⟩]
      obtain ⟨frame, hleave⟩ := localTransmit_leaves (d := s.dev.at e) hn hr hto hc ht hq hlen
      have hwire : (putItem d' c it).wire = s.dev.wire :=
        (((choiceKeeps_passOver.trans choiceKeeps_chooseNext).trans (choiceKeeps_takeNext ht)).trans (choiceKeeps_putItem c it)).2
      have heth : (putItem d' c it).eth = s.dev.eth := (putItem_eth c it).trans ((takeNext_eth ht).trans (chooseNext_eth.trans passOver_eth))
      refine ⟨⟨frame, hleave.wire.trans (congrArg (· ++ _) hwire)⟩, ?_⟩
      rw [hleave.port]
      simp only [Dev.ethPort, heth]

end

/-! A takeover that uncovers ATLAS_MODE: the premises of the statement on the datum and its heartbeats leave the Legend's table
and the numbers of strips free (10 R440, R442, R444). -/

namespace Sys2Proof.Machine

/-- The tensor sheet, id 77, that partition 8 loads. -/
def uncoveredSheet : Object :=
  { id := 77, kind := 2, st := .sealed, size := 4096, sealAt := 0, digest := 0, lost := []
    bytes := le 4 1 ++ zeros 12 ++ le 8 32 ++ le 4 4 ++ zeros 4 ++ [1, 2, 3, 4] }

/-- Partitions 8 and 9 watch device 3, both past the window of a device in PON mode, and partition 8 is ready to take over. The
shadow "strip" 0x3000, whose PEER partition 8's mirror names, has the index 0x7000 in the Legend; its STATE is listed before
ATLAS_MODE (0x6000.05, Ethernet mode), out of the order of keys, so ATLAS_MODE reads as unwritten for as long as it stands. -/
def uncoveredModeState : State := { dev := {
  grat := { everLocked := true, tick := 3 }
  start := { stage := .ready }
  parts := [(8, {
    st := .stopped, quadMap := [0],
    mirrors := [{ beat := 8, slot := 0, phase := 0, tenant := 0, pages := 0, strips := [
      { strip := 5, beat := 8, rseq := 0, present := 0, sessions := [], abortStatus := [] }] }] })]
  strips := [(0x3000, { st := .shadow })]
  cad := { objects := [uncoveredSheet] }
  aksia := { watches := [(8, { st := .watching, heardAt := -318504960 }), (9, { st := .watching, heardAt := -318504960 })] }
  legend := [(legKey 0x3008 0x0A, some (be 8 77)), (legKey 0x3008 0x13, some (be 4 0x30002)), (legKey 0x3009 0x13, some (be 4 0x30004)),
    (legKey 0x7000 0x03, some [1]), (legKey 0x6000 0x05, some [1]), (legKey 0x7000 0x04, some (be 4 0x30005))] } }

/-- A heartbeat of device 3 that tells of nothing. -/
def quietHeartbeat : Instr := .heartbeatReceived 0 3 0 0 false

/-- The state of a holder's watch after a command that answers a next state. -/
def watchAfter (c : Instr) (s : State) (h : Nat) : Option WatchState :=
  match exec c s with
  | .next t => some (watchOf t.dev h).st
  | _ => none

theorem watchAfter_next {c : Instr} {s t : State} (hexec : exec c s = .next t) (h : Nat) :
    watchAfter c s h = some (watchOf t.dev h).st := by
  rw [watchAfter, hexec]

/-- The premises: canonical tables, the stage READY, a mirror of device 3 at partition 9, whose watch is past its window. -/
theorem uncoveredModeState_premises :
    PartTables uncoveredModeState ∧ tabWf {} uncoveredModeState.dev.aksia.watches = true ∧ tabWf {} uncoveredModeState.dev.aksia.buddies = true ∧
    netUp uncoveredModeState.dev = true ∧ mirrorOf uncoveredModeState.dev 9 = some (3, 4) ∧
    (watchOf uncoveredModeState.dev 9).st = .watching ∧ peerLost (uncoveredModeState.dev.at 0) 9 = true := by
  unfold PartTables
  decide +kernel

/-- Partition 8 takes over first and adopts 0x3000; its STATE leaves the Legend, ATLAS_MODE is read again, the heartbeat period
grows with the tick of Ethernet mode, and partition 9's window is open again: it goes on watching. -/
theorem watchAfter_quietHeartbeat : watchAfter quietHeartbeat uncoveredModeState 9 = some .watching := by decide +kernel

end Sys2Proof.Machine

section

open Sys2Proof.Machine

/-- Refutes O48: of two holders whose windows have closed, the second need not take over at a heartbeat (10 R442, R443). The
premises leave the Legend's table and the numbers of strips free: in `uncoveredModeState`, whose Legend is not in the order of
its keys and whose shadow strip has the number 0x3000, the takeover of partition 8 changes ATLAS_MODE as it is read, and with it
the window of partition 9. -/
theorem not_datumHeartbeatsAndTakeovers : ¬ Obligations.DatumHeartbeatsAndTakeovers := by
  intro h
  obtain ⟨htables, hwatches, hbuddies, hnet, hmirror, hwatching, hlost⟩ := uncoveredModeState_premises
  obtain ⟨-, -, -, -, hreceived, -, -⟩ := h uncoveredModeState 0 htables hwatches hbuddies
  obtain ⟨-, -, htakesOver, -, -⟩ := hreceived 3 0 0 false 9 4 hnet (by decide) hmirror
  obtain ⟨t, hexec, -, -, hleft, -⟩ := htakesOver hwatching (.inl hlost)
  have hstays := (watchAfter_next hexec 9).symm.trans watchAfter_quietHeartbeat
  exact hleft (Option.some.inj hstays)

end
/-! Aksia ports read back, and what sending does to them (10 R416 to R418, R423 to R426, R431). -/

namespace Sys2Proof.Machine

variable {d x y : Dev} {i p : Nat}

/-! ## Ports read back -/

theorem Dev.port_setPort_self (w : tabWf {} d.aksia.ports = true) (v : AksPort) : (d.setPort i v).port i = v := tabGet_tabSet_self_wf w

theorem Dev.port_setPort_other (w : tabWf {} d.aksia.ports = true) {j : Nat} (h : j ≠ i) (v : AksPort) : (d.setPort i v).port j = d.port j :=
  tabGet_tabSet_other_wf w h

theorem port_congr (h : x.aksia.ports = d.aksia.ports) (j : Nat) : x.port j = d.port j := congrArg (fun t => tabGet ({} : AksPort) t j) h

/-- The UP ports of a link are those that the states of the ports name. -/
theorem upPorts_congr (hst : ∀ j, (x.port j).st = (d.port j).st) (hg : x.part = d.part) (dir : Nat) : upPorts x dir = upPorts d dir := by
  simp only [upPorts, linkPorts, portsPerLink, hg, hst]

theorem upPorts_setPort (w : tabWf {} d.aksia.ports = true) {v : AksPort} (hv : v.st = (d.port i).st) (dir : Nat) : upPorts (d.setPort i v) dir = upPorts d dir := by
  refine upPorts_congr (d := d) (x := d.setPort i v) (fun j => ?_) rfl dir
  by_cases hj : j = i
  · rw [hj, Dev.port_setPort_self w, hv]
  · rw [Dev.port_setPort_other w hj]

theorem up_of_mem_upPorts {dir : Nat} (h : p ∈ upPorts d dir) : (d.port p).st = .up := of_decide_eq_true (List.mem_filter.1 h).2

theorem up_of_head_upPorts {dir : Nat} (h : (upPorts d dir).head? = some p) : (d.port p).st = .up := up_of_mem_upPorts (List.mem_of_mem_head? h)

theorem flowPort_mem_upPorts {dir : Nat} {k : Packet} (h : flowPort d dir k = some p) : p ∈ upPorts d dir := by
  unfold flowPort at h
  split at h
  · exact List.mem_of_getElem? h
  · exact List.mem_of_mem_head? h

/-! ## What sending leaves of a port and of the device -/

/-- What sending changes of a port; a port that is not UP sends nothing. -/
def PortSends (a b : AksPort) : Prop :=
  b = { a with txSeq := b.txSeq, retry := b.retry, queue := b.queue, served := b.served, badCrc := b.badCrc, injected := b.injected, linkFell := b.linkFell } ∧
    (a.st ≠ .up → b = a)

section

variable {a b c : AksPort}

theorem PortSends.refl : PortSends a a := ⟨rfl, fun _ => rfl⟩

theorem PortSends.st (h : PortSends a b) : b.st = a.st := by rw [h.1]

theorem PortSends.trans (h : PortSends a b) (k : PortSends b c) : PortSends a c := by
  refine ⟨?_, fun hn => ?_⟩
  · rw [k.1, h.1]
  · rw [k.2 (h.st ▸ hn), h.2 hn]

/-- An UP port with other frames sent, kept and waiting. -/
theorem portSends_of_up (hu : a.st = .up) (seq : BitVec 12) (retry : List (BitVec 12 × Packet)) (queue : List Queued) (served badCrc : Nat)
    (injected : List (BitVec 12)) (fell : Bool) :
    PortSends a { a with txSeq := seq, retry := retry, queue := queue, served := served, badCrc := badCrc, injected := injected, linkFell := fell } :=
  ⟨rfl, fun hn => absurd hu hn⟩

end

/-- What packets, and the notices and raises of links, may touch: ports, credits, counts and sequences of the fabric, the wire. -/
def FabricWork (d x : Dev) : Prop :=
  x = { d with
    aksia := { d.aksia with
      ports := x.aksia.ports, linkUsed := x.aksia.linkUsed, dropped := x.aksia.dropped, unreachable := x.aksia.unreachable
      msgGiven := x.aksia.msgGiven, mySeq := x.aksia.mySeq }
    ez := x.ez, sentry := x.sentry, faults := x.faults, wire := x.wire, free := x.free }

theorem FabricWork.trans (h : FabricWork d x) (k : FabricWork x y) : FabricWork d y := by
  unfold FabricWork at *
  rw [k, h]

theorem DeviceRaiseKeeps.fabricWork (h : DeviceRaiseKeeps d x) : FabricWork d x := by
  unfold DeviceRaiseKeeps at h
  rw [h]
  rfl

theorem DeviceRaiseKeeps.aksia (h : DeviceRaiseKeeps d x) : x.aksia = d.aksia := by rw [h]

/-- Work of the fabric as port i sees it: what sending changes of the port, and nothing when the port is not UP. -/
structure PortServed (i : Nat) (d x : Dev) : Prop where
  work : FabricWork d x
  wf : tabWf {} x.aksia.ports = true
  port : PortSends (d.port i) (x.port i)

theorem PortServed.refl (w : tabWf {} d.aksia.ports = true) : PortServed i d d := ⟨rfl, w, .refl⟩

theorem PortServed.trans (h : PortServed i d x) (k : PortServed i x y) : PortServed i d y := ⟨h.work.trans k.work, k.wf, h.port.trans k.port⟩

theorem PortServed.up (h : PortServed i d x) (hu : (d.port i).st = .up) : (x.port i).st = .up := h.port.st.trans hu

theorem portServed_of_ports (w : tabWf {} d.aksia.ports = true) (h : FabricWork d x) (hp : x.aksia.ports = d.aksia.ports) : PortServed i d x :=
  ⟨h, hp ▸ w, port_congr hp i ▸ .refl⟩

theorem DeviceRaiseKeeps.portServed (w : tabWf {} d.aksia.ports = true) (h : DeviceRaiseKeeps d x) : PortServed i d x :=
  portServed_of_ports w h.fabricWork (congrArg Aksia.ports h.aksia)

theorem portServed_foldl {β : Type} {f : Dev → β → Dev} (w : tabWf {} d.aksia.ports = true) (l : List β)
    (h : ∀ a, PortServed i d a → ∀ b ∈ l, PortServed i a (f a b)) : PortServed i d (l.foldl f d) :=
  List.foldlRecOn (motive := PortServed i d) l f (.refl w) fun a ha b hb => ha.trans (h a ha b hb)

theorem portServed_setPort (w : tabWf {} d.aksia.ports = true) {v : AksPort} (h : p = i → PortSends (d.port i) v) : PortServed i d (d.setPort p v) := by
  refine ⟨rfl, tabSet_wf w, ?_⟩
  by_cases hp : p = i
  · subst hp
    rw [Dev.port_setPort_self w]
    exact h rfl
  · rw [Dev.port_setPort_other w (Ne.symm hp)]
    exact .refl

theorem portServed_emit (w : tabWf {} d.aksia.ports = true) (m : Emission) : PortServed i d (d.emit m) := portServed_of_ports w rfl rfl

/-! ## Sending -/

theorem portServed_freeBuffer (w : tabWf {} d.aksia.ports = true) (holds : Option (Nat × Bool)) (k : Packet) : PortServed i d (freeBuffer d holds k) := by
  unfold freeBuffer
  split
  · exact .refl w
  · split
    · exact portServed_emit w _
    · exact .refl w

theorem portServed_sendOn (w : tabWf {} d.aksia.ports = true) (up : p = i → (d.port i).st = .up) (k : Packet) : PortServed i d (sendOn d p k) := by
  unfold sendOn
  extract_lets v bad v'
  have h : PortServed i d (d.setPort p v') := portServed_setPort w fun hp => by
    subst hp
    exact portSends_of_up (up rfl) ..
  exact h.trans (portServed_emit h.wf _)

theorem portServed_sendQueued (w : tabWf {} d.aksia.ports = true) (up : p = i → (d.port i).st = .up) (n : Nat) : PortServed i d (sendQueued d p n) := by
  unfold sendQueued
  extract_lets port
  split
  · exact .refl w
  · next q _ =>
    extract_lets slot d1 d2
    have h1 : PortServed i d d1 := portServed_setPort w fun hp => by
      subst hp
      exact portSends_of_up (up rfl) ..
    have h2 : PortServed i d d2 := h1.trans (portServed_of_ports h1.wf rfl rfl)
    have h3 := h2.trans (portServed_sendOn h2.wf (fun hp => h2.up (up hp)) q.pkt)
    exact h3.trans (portServed_freeBuffer h3.wf _ _)

theorem portServed_servePort (w : tabWf {} d.aksia.ports = true) (up : p = i → (d.port i).st = .up) (fuel : Nat) : PortServed i d (servePort d p fuel) := by
  induction fuel generalizing d with
  | zero => exact .refl w
  | succ n ih =>
    unfold servePort
    split
    · have h := portServed_sendQueued w up (i := i)
      exact (h _).trans (ih (h _).wf fun hp => (h _).up (up hp))
    · exact .refl w

theorem portServed_offer (w : tabWf {} d.aksia.ports = true) (up : p = i → (d.port i).st = .up) (q : Queued) : PortServed i d (offer d p q) := by
  have h : PortServed i d (d.setPort p { d.port p with queue := (d.port p).queue ++ [q] }) := portServed_setPort w fun hp => by
    subst hp
    exact portSends_of_up (up rfl) ..
  exact h.trans (portServed_servePort h.wf (fun hp => h.up (up hp)) _)

theorem portServed_serveLink (w : tabWf {} d.aksia.ports = true) (dir : Nat) : PortServed i d (serveLink d dir) :=
  portServed_foldl w _ fun _ ha _ hb => portServed_servePort ha.wf (fun hp => ha.up (up_of_mem_upPorts (hp ▸ hb))) _

theorem portServed_dropPacket (w : tabWf {} d.aksia.ports = true) (n : Nat) (k : Packet) : PortServed i d (dropPacket d n k) := by
  have h : PortServed i d { d with aksia := { d.aksia with dropped := d.aksia.dropped + 1 } } := portServed_of_ports w rfl rfl
  exact h.trans ((deviceRaiseKeeps_raiseDev _ _ _).portServed h.wf)

theorem portServed_sendHop (w : tabWf {} d.aksia.ports = true) (dir : Nat) (fresh : Bool) (holds : Option (Nat × Bool)) (k : Packet) :
    PortServed i d (sendHop d dir fresh holds k) := by
  unfold sendHop
  extract_lets k'
  split
  · next hf => exact portServed_offer w (fun hp => up_of_mem_upPorts (hp ▸ flowPort_mem_upPorts hf)) _
  · have h := portServed_dropPacket (i := i) w (dir * portsPerLink d) k'
    exact h.trans (portServed_freeBuffer h.wf _ _)

theorem portServed_sendNeighbour (w : tabWf {} d.aksia.ports = true) (dir : Nat) (k : PktKind) : PortServed i d (sendNeighbour d dir k) := by
  unfold sendNeighbour
  split
  · next hf => exact portServed_offer w (fun hp => up_of_head_upPorts (hp ▸ hf)) _
  · exact .refl w

theorem portServed_sendPacket (w : tabWf {} d.aksia.ports = true) {dst : Nat} (h : dst ≠ deviceNumber d) (cls : PktClass) (kind : PktKind) (dpart spart : Nat)
    (tag : BitVec 16) (payload : Bytes) : PortServed i d (sendPacket d cls kind dst dpart spart tag payload) := by
  simp only [sendPacket]
  rw [if_neg h]
  split
  · split
    · exact portServed_sendHop w _ _ _ _
    · exact .refl w
  · have h1 : PortServed i d { d with aksia := { d.aksia with unreachable := d.aksia.unreachable + 1 } } := portServed_of_ports w rfl rfl
    exact h1.trans ((deviceRaiseKeeps_raiseDev _ _ _).portServed h1.wf)

/-! ## Credits and notices -/

theorem portServed_grantTo (w : tabWf {} d.aksia.ports = true) (n : Nat) (peer : Nat × Nat) : PortServed i d (grantTo d n peer) := by
  unfold grantTo
  extract_lets key given want
  split
  · exact .refl w
  · next h =>
    have h1 : PortServed i d (d.updAksia fun a => { a with msgGiven := tabSet 0 a.msgGiven key want }) := portServed_of_ports w rfl rfl
    exact h1.trans (portServed_sendPacket h1.wf (fun k => h (.inl k)) _ _ _ _ _ _)

theorem portServed_grantAll (w : tabWf {} d.aksia.ports = true) : PortServed i d (grantAll d) :=
  portServed_foldl w _ fun _ ha _ _ => portServed_foldl ha.wf _ fun _ hb _ _ => portServed_grantTo hb.wf _ _

theorem portServed_floodNotice (w : tabWf {} d.aksia.ports = true) (dev : BitVec 16) (dir : Nat) (up : Bool) (seq : BitVec 16) (from_ : Option Nat) :
    PortServed i d (floodNotice d dev dir up seq from_) :=
  portServed_foldl w _ fun _ ha _ _ => by
    split
    · exact .refl ha.wf
    · exact portServed_sendNeighbour ha.wf _ _

theorem portServed_ownLinkChange (w : tabWf {} d.aksia.ports = true) (dir : Nat) (up : Bool) : PortServed i d (ownLinkChange d dir up) := by
  have h : PortServed i d { d with aksia := { d.aksia with mySeq := d.aksia.mySeq + 1 } } := portServed_of_ports w rfl rfl
  exact h.trans (portServed_floodNotice h.wf _ _ _ _ _)

/-! ## Ports that leave UP and ports that reach it -/

theorem deviceRaiseKeeps_raiseRetry (n : Nat) (injected : Bool) : DeviceRaiseKeeps d (raiseRetry d n injected) :=
  (deviceRaiseKeeps_raiseOne (attribution_device rfl rfl)).trans (deviceRaiseKeeps_eventsLost _)

theorem deviceRaiseKeeps_raisePort (n q : Nat) : DeviceRaiseKeeps d (raisePort d n q) := deviceRaiseKeeps_raiseDev _ _ _

/-- A port that has left UP: nothing waits, nothing is kept to be resent (R431). -/
def leftPort (d : Dev) (p : Nat) (st : PortState) (fell : Bool) : AksPort :=
  { d.port p with st := st, lanesUp := 0, retry := [], queue := [], resent := 0, injected := [], since := now d, linkFell := fell }

/-- A port leaves UP; the other ports of the device are served after it. -/
theorem leaveUp_serves (w : tabWf {} d.aksia.ports = true) (st : PortState) : ∃ fell a, FabricWork d a ∧ a.port p = leftPort d p st fell ∧
    (∀ j, j ≠ p → a.port j = d.port j) ∧ ∀ i, PortServed i a (leaveUp d p st) := by
  unfold leaveUp
  extract_lets x0 dir f lost x1 waits bad d1
  have w1 : tabWf {} d1.aksia.ports = true := tabSet_wf w
  have h1 : d1.port p = leftPort d p st x0.linkFell := Dev.port_setPort_self (d := f.2) w _
  have hother : ∀ j, j ≠ p → d1.port j = d.port j := fun j hj => Dev.port_setPort_other (d := f.2) w hj _
  split
  · next other hhead =>
    extract_lets d2 v d3
    refine ⟨x0.linkFell, d1, rfl, h1, hother, fun i => ?_⟩
    have hup : other = i → (d1.port i).st = .up := fun h => up_of_head_upPorts (h ▸ hhead)
    have h2 : PortServed i d1 d2 := portServed_foldl w1 _ fun a ha fr _ => by
      have hr := (deviceRaiseKeeps_raiseRetry other (decide (fr.1 ∈ bad)) (d := a)).portServed (i := i) ha.wf
      exact hr.trans (portServed_sendOn hr.wf (fun h => hr.up (ha.up (hup h))) _)
    have h3 : PortServed i d1 d3 := h2.trans (portServed_setPort h2.wf fun h => by
      subst h
      exact portSends_of_up (h2.up (hup rfl)) ..)
    exact h3.trans (portServed_servePort h3.wf (fun h => h3.up (hup h)) _)
  · next d2 d3 d4 d5 _ hnone =>
    refine ⟨true, d1.setPort p { x1 with linkFell := true }, rfl, Dev.port_setPort_self w1 _, fun j hj => ?_, fun i => ?_⟩
    · rw [Dev.port_setPort_other w1 hj, hother j hj]
    · have h2 : PortServed i (d1.setPort p { x1 with linkFell := true }) d2 := (deviceRaiseKeeps_raisePort _ _).portServed (tabSet_wf w1)
      have h3 : PortServed i d2 d3 := portServed_foldl h2.wf _ fun a ha fr _ => portServed_dropPacket ha.wf p fr.2
      have h4 : PortServed i d3 d4 := portServed_foldl h3.wf _ fun a ha q _ =>
        have hk := portServed_dropPacket ha.wf p q.pkt
        hk.trans (portServed_freeBuffer hk.wf q.holds q.pkt)
      have h5 : PortServed i d4 d5 := portServed_of_ports h4.wf rfl rfl
      exact (((h2.trans h3).trans h4).trans h5).trans (portServed_ownLinkChange h5.wf _ _)

theorem leaveUp_port_self (w : tabWf {} d.aksia.ports = true) {st : PortState} (hst : st ≠ .up) : ∃ fell, (leaveUp d p st).port p = leftPort d p st fell := by
  obtain ⟨fell, a, -, hp, -, hserved⟩ := leaveUp_serves (p := p) w st
  exact ⟨fell, ((hserved p).port.2 (by rw [hp]; exact hst)).trans hp⟩

theorem portServed_leaveUp (w : tabWf {} d.aksia.ports = true) (hp : p ≠ i) (st : PortState) : PortServed i d (leaveUp d p st) := by
  obtain ⟨fell, a, hwork, -, hother, hserved⟩ := leaveUp_serves (p := p) w st
  exact ⟨hwork.trans (hserved i).work, (hserved i).wf, hother i (Ne.symm hp) ▸ (hserved i).port⟩

theorem portServed_resetPort (w : tabWf {} d.aksia.ports = true) (hp : p ≠ i) (st : PortState) : PortServed i d (resetPort d p st) := by
  unfold resetPort
  split
  · exact portServed_leaveUp w hp st
  · exact portServed_setPort w fun h => absurd h hp

theorem FabricWork.netUp_eq (h : FabricWork d x) : netUp x = netUp d := (congrArg netUp h).trans rfl

theorem FabricWork.portOff_eq (h : FabricWork d x) (q : Nat) : portOff x q = portOff d q := (congrArg (portOff · q) h).trans rfl

/-- A port that is UP and not off stays so when the ports are set anew (R433). -/
theorem portServed_refreshPorts (w : tabWf {} d.aksia.ports = true) (hn : netUp d = true) (hoff : portOff d i = false) (hup : (d.port i).st = .up) :
    PortServed i d (refreshPorts d false) :=
  portServed_foldl w _ fun a ha q _ => by
    have hoff' : portOff a i = false := (ha.work.portOff_eq i).trans hoff
    have hn' : netUp a = true := ha.work.netUp_eq.trans hn
    by_cases hq : q = i
    · subst hq
      rw [if_neg (by simp [hoff', hn']), if_neg (by simp [ha.up hup])]
      exact .refl ha.wf
    · split
      · split
        · exact .refl ha.wf
        · exact portServed_resetPort ha.wf hq .disabled
      · split
        · have h := portServed_resetPort ha.wf hq .detect
          exact h.trans (portServed_setPort h.wf fun k => absurd k hq)
        · exact .refl ha.wf

theorem portServed_gatherQueues (w : tabWf {} d.aksia.ports = true) (dir : Nat) : PortServed i d (gatherQueues d dir) := by
  unfold gatherQueues
  split
  · exact .refl w
  · next low rest hups =>
    extract_lets moves moved d1
    have hup : ∀ q ∈ low :: rest, q = i → (d.port i).st = .up := fun q hq h => up_of_mem_upPorts (dir := dir) (h ▸ hups ▸ hq)
    have h1 : PortServed i d d1 := portServed_foldl w _ fun a ha q hq => portServed_setPort ha.wf fun h => by
      subst h
      exact portSends_of_up (ha.up (hup q (List.mem_cons_of_mem _ hq) rfl)) ..
    refine h1.trans (portServed_setPort h1.wf fun h => ?_)
    subst h
    exact portSends_of_up (h1.up (hup low List.mem_cons_self rfl)) ..

/-- A port as it reaches UP (R429). -/
def upPort (v : AksPort) : AksPort :=
  { v with st := .up, lanesUp := 8, attempts := 0, fell := false, miscabled := false, exchangeAge := 0, resent := 0 }

theorem reachUp_serves (w : tabWf {} d.aksia.ports = true) (v : AksPort) : PortServed i (d.setPort i (upPort v)) (reachUp d i v) := by
  unfold reachUp
  extract_lets dir was d1 d2
  have w1 : tabWf {} d1.aksia.ports = true := tabSet_wf w
  have hup : (d1.port i).st = .up := by rw [Dev.port_setPort_self w]
  have h1 := portServed_foldl (i := i) (f := fun d p => d.setPort p { d.port p with linkFell := false }) w1 (linkPorts d1 dir) fun a ha p _ =>
    portServed_setPort ha.wf fun h => by
      subst h
      exact portSends_of_up (ha.up hup) ..
  have h2 : PortServed i d1 d2 := h1.trans (portServed_gatherQueues h1.wf dir)
  split
  · have h3 := h2.trans (portServed_ownLinkChange h2.wf dir true)
    exact h3.trans (portServed_grantAll h3.wf)
  · exact h2.trans (portServed_serveLink h2.wf dir)

end Sys2Proof.Machine

/-! A packet offered to a port where none waits goes at once when its credits are there, and waits alone otherwise (10 R417, R418). -/

namespace Sys2Proof.Machine

variable {d x : Dev} {p dir : Nat} {q : Queued}

/-! ## The next packet of a port -/

theorem mem_serviceClasses (c : PktClass) (served : Nat) : c ∈ serviceClasses served := by
  have hall : c = .time ∨ c ∈ ([.msg, .req, .resp, .key] : List PktClass) := by cases c <;> decide
  unfold serviceClasses
  extract_lets four
  rcases hall with rfl | h
  · exact List.mem_cons_self
  · rw [← List.take_append_drop served [PktClass.msg, .req, .resp, .key]] at h
    exact List.mem_cons_of_mem _ (List.mem_append.2 (List.mem_append.1 h).symm)

theorem readyOf_single (hq : (d.port p).queue = [q]) (c : PktClass) :
    readyOf d p c = if q.pkt.cls = c ∧ creditsFor d (portDir d p) q.pkt = true then some 0 else none := by
  unfold readyOf
  simp only [hq]
  by_cases h : q.pkt.cls = c ∧ creditsFor d (portDir d p) q.pkt = true <;> simp [List.range_succ, h]

theorem nextReady_sends (hq : (d.port p).queue = [q]) (hc : creditsFor d (portDir d p) q.pkt = true) : nextReady d p = some 0 := by
  have hmem := mem_serviceClasses q.pkt.cls ((d.port p).served % 4)
  unfold nextReady
  generalize serviceClasses ((d.port p).served % 4) = l at hmem
  induction l with
  | nil => exact absurd hmem List.not_mem_nil
  | cons c r ih =>
    rw [List.findSome?_cons, readyOf_single hq]
    by_cases h : q.pkt.cls = c
    · rw [if_pos ⟨h, hc⟩]
    · rw [if_neg fun k => h k.1]
      exact ih ((List.mem_cons.1 hmem).resolve_left h)

theorem nextReady_waits (hq : (d.port p).queue = [q]) (hc : creditsFor d (portDir d p) q.pkt = false) : nextReady d p = none :=
  List.findSome?_eq_none_iff.2 fun c _ => (readyOf_single hq c).trans (if_neg fun h => by simp [hc] at h)

/-! ## A frame sent -/

/-- A port after a packet has gone out of it (R416). -/
def sentPort (v : AksPort) (k : Packet) : AksPort :=
  { v with
    txSeq := v.txSeq + 1, retry := (v.retry ++ [(v.txSeq, k)]).drop (v.retry.length + 1 - 2048), badCrc := v.badCrc - 1
    injected := if decide (0 < v.badCrc) then v.injected ++ [v.txSeq] else v.injected }

theorem sendOn_port_self (w : tabWf {} d.aksia.ports = true) (k : Packet) : (sendOn d p k).port p = sentPort (d.port p) k :=
  Dev.port_setPort_self w _

/-- A packet goes out in one link frame. -/
theorem sendOn_wire (k : Packet) : ∃ f, f.packet = k ∧ f.header = packetHeader k ∧ f.seq = (d.port p).txSeq ∧ (sendOn d p k).wire = d.wire ++ [.packet p f] :=
  ⟨_, rfl, rfl, rfl, rfl⟩

theorem sendOn_port_other (w : tabWf {} d.aksia.ports = true) {j : Nat} (hj : j ≠ p) (k : Packet) : (sendOn d p k).port j = d.port j :=
  Dev.port_setPort_other w hj _

theorem upPorts_sendOn (w : tabWf {} d.aksia.ports = true) (k : Packet) (dir : Nat) : upPorts (sendOn d p k) dir = upPorts d dir := by
  refine upPorts_congr (d := d) (x := sendOn d p k) (fun j => ?_) rfl dir
  by_cases hj : j = p
  · rw [hj, sendOn_port_self w]
    rfl
  · rw [sendOn_port_other w hj]

/-! ## Offers -/

/-- The device once a port's one packet has left its queue and spent its credits. -/
def dequeued (d : Dev) (p : Nat) (q : Queued) : Dev :=
  let slot := creditSlot (portDir d p) q.pkt.cls q.pkt.dl
  (d.setPort p { d.port p with queue := [], served := if q.pkt.cls = .time then (d.port p).served else classCode q.pkt.cls }).updAksia fun a =>
    { a with linkUsed := tabSet 0 a.linkUsed slot (tabGet 0 a.linkUsed slot + packetUnits q.pkt) }

theorem dequeued_port_self (w : tabWf {} d.aksia.ports = true) : (dequeued d p q).port p =
    { d.port p with queue := [], served := if q.pkt.cls = .time then (d.port p).served else classCode q.pkt.cls } :=
  Dev.port_setPort_self w _

theorem dequeued_st (w : tabWf {} d.aksia.ports = true) (j : Nat) : ((dequeued d p q).port j).st = (d.port j).st := by
  by_cases hj : j = p
  · rw [hj, dequeued_port_self w]
  · exact congrArg AksPort.st (Dev.port_setPort_other w hj _)

theorem sendQueued_head (h : (d.port p).queue = [q]) : sendQueued d p 0 = freeBuffer (sendOn (dequeued d p q) p q.pkt) q.holds q.pkt := by
  simp only [sendQueued, h]
  rfl

/-- The port with the one packet that is offered to it. -/
def offered (d : Dev) (p : Nat) (q : Queued) : Dev := d.setPort p { d.port p with queue := [q] }

section

variable (w : tabWf {} d.aksia.ports = true) (hq : (d.port p).queue = [])

include w hq

omit w in
theorem offer_eq_servePort : offer d p q = servePort (offered d p q) p 1 := by
  simp only [offer, offered, hq]
  rfl

omit hq in
theorem offered_queue : ((offered d p q).port p).queue = [q] := by rw [offered, Dev.port_setPort_self w]

theorem offer_waits (hc : creditsFor d (portDir d p) q.pkt = false) : offer d p q = offered d p q := by
  rw [offer_eq_servePort hq, servePort, nextReady_waits (offered_queue w) hc]

theorem offer_sends (hc : creditsFor d (portDir d p) q.pkt = true) : offer d p q = sendQueued (offered d p q) p 0 := by
  rw [offer_eq_servePort hq, servePort, nextReady_sends (offered_queue w) hc]
  rfl

/-- A packet that goes at once: one link frame, and the buffer that it held is free. -/
theorem offer_spec (hc : creditsFor d (portDir d p) q.pkt = true) : ∃ y f, offer d p q = freeBuffer y q.holds q.pkt ∧
    f.packet = q.pkt ∧ f.header = packetHeader q.pkt ∧ y.wire = d.wire ++ [.packet p f] ∧ (y.port p).txSeq = (d.port p).txSeq + 1 ∧
    ∀ dir, upPorts y dir = upPorts d dir := by
  have w1 : tabWf {} (offered d p q).aksia.ports = true := tabSet_wf w
  have w2 : tabWf {} (dequeued (offered d p q) p q).aksia.ports = true := tabSet_wf w1
  have hport : ((dequeued (offered d p q) p q).port p).txSeq = (d.port p).txSeq := by
    rw [dequeued_port_self w1, offered, Dev.port_setPort_self w]
  have hups : ∀ dir, upPorts (dequeued (offered d p q) p q) dir = upPorts d dir := fun dir =>
    (upPorts_congr (dequeued_st w1) rfl dir).trans (upPorts_setPort (i := p) (v := { d.port p with queue := [q] }) w rfl dir)
  rw [offer_sends w hq hc, sendQueued_head (offered_queue w)]
  obtain ⟨f, hpacket, hheader, -, hwire⟩ := sendOn_wire (d := dequeued (offered d p q) p q) (p := p) q.pkt
  refine ⟨sendOn (dequeued (offered d p q) p q) p q.pkt, f, rfl, hpacket, hheader, hwire, ?_, fun dir => ?_⟩
  · rw [sendOn_port_self w2, sentPort, hport]
  · rw [upPorts_sendOn w2, hups]

end

/-! ## Buffers and credits -/

theorem freeBuffer_some {low : Nat} (h : (upPorts d dir).head? = some low) (dl : Bool) (k : Packet) :
    freeBuffer d (some (dir, dl)) k = d.emit (.credit low { cls := k.cls, dl := dl, units := packetUnits k }) := by
  simp only [freeBuffer, h]

theorem serveLink_idle (h : ∀ n ∈ upPorts d dir, (d.port n).queue = []) : serveLink d dir = d := by
  unfold serveLink
  generalize upPorts d dir = l at h
  induction l with
  | nil => rfl
  | cons n r ih =>
    rw [List.foldl_cons, h n List.mem_cons_self]
    exact ih fun m hm => h m (List.mem_cons_of_mem _ hm)

/-! ## Other ports -/

theorem freeBuffer_ports (holds : Option (Nat × Bool)) (k : Packet) : (freeBuffer d holds k).aksia.ports = d.aksia.ports := by
  unfold freeBuffer
  split
  · rfl
  · split <;> rfl

section

variable {j : Nat} (hj : j ≠ p)

include hj

theorem sendQueued_port_other (w : tabWf {} d.aksia.ports = true) (n : Nat) : (sendQueued d p n).port j = d.port j := by
  unfold sendQueued
  extract_lets v
  split
  · rfl
  · extract_lets slot d1 d2
    rw [port_congr (freeBuffer_ports _ _), sendOn_port_other (d := d2) (tabSet_wf w) hj]
    exact Dev.port_setPort_other w hj _

theorem servePort_port_other (w : tabWf {} d.aksia.ports = true) (fuel : Nat) : (servePort d p fuel).port j = d.port j := by
  induction fuel generalizing d with
  | zero => rfl
  | succ n ih =>
    unfold servePort
    split
    · rw [ih (portServed_sendQueued (i := j) w (fun h => absurd h.symm hj) _).wf, sendQueued_port_other hj w]
    · rfl

theorem offer_port_other (w : tabWf {} d.aksia.ports = true) : (offer d p q).port j = d.port j :=
  (servePort_port_other hj (tabSet_wf w) _).trans (Dev.port_setPort_other w hj _)

end

end Sys2Proof.Machine

/-! The count of a device source under its raises (16 R614, R615), and link frames sent again (10 R416; 16 R613). -/

namespace Sys2Proof.Machine

variable {d x : Dev} {r : Raise}

/-! ## The count of a source -/

/-- A count after one more raise: it stays at its greatest value. -/
def countUp (n : BitVec 32) : BitVec 32 := if n = 0xFFFFFFFF#32 then n else n + 1

theorem countUp_toNat (n : BitVec 32) : (countUp n).toNat = min 0xFFFFFFFF (n.toNat + 1) := by
  unfold countUp
  split
  · next h => rw [h]; rfl
  · next h =>
    have hn : n.toNat ≠ 0xFFFFFFFF := fun k => h (BitVec.eq_of_toNat_eq k)
    have hlt := n.isLt
    show (n.toNat + 1) % 2 ^ 32 = _
    omega

theorem countUp_ne_zero (n : BitVec 32) : countUp n ≠ 0 := fun h => by
  have := countUp_toNat n
  rw [h] at this
  have hzero : (0 : BitVec 32).toNat = 0 := rfl
  omega

theorem sources_logRecord (e : Bytes) : (logRecord d e).faults.sources = d.faults.sources := by
  simp only [logRecord]
  split <;> rfl

theorem sources_latch (n : Nat) (t : Stamp) : (latch d n t).2.faults.sources = d.faults.sources := by
  simp only [latch]
  split
  · rfl
  · split <;> rfl

theorem sources_pushEvent (k : Nat) (b : Bytes) : (pushEvent d k b).1.faults.sources = d.faults.sources := by
  unfold pushEvent
  refine List.foldlRecOn (motive := fun acc : Dev × List Nat => acc.1.faults.sources = d.faults.sources) _ _ rfl fun acc h n _ => ?_
  dsimp only
  split
  · refine Eq.trans ?_ h
    simp only [offerEvent]
    split <;> rfl
  · exact h

theorem sources_haltDevice (v n : Nat) (t : Stamp) : (haltDevice d v n t).faults.sources = d.faults.sources := by
  simp only [haltDevice]
  split <;> rfl

/-- A raise of a source of the device writes that source's entry alone, and counts in it. -/
theorem raiseOne_sources (ha : attribution r = .device) (hb : r.boot = none) (hs : severityOf d r.src ≠ 0) : ∃ v : FaultSrc,
    v.count = countUp (d.fault r.src).count ∧ (raiseOne d r).1.faults.sources = tabSet {} d.faults.sources r.src v := by
  unfold raiseOne
  extract_lets sev0 held stamp asNotify sev v count lf flags data d1 ev d2 p d3
  have hheld : held ≠ 0 := by
    show (if r.boot.isSome then min sev0 2 else sev0) ≠ 0
    rw [hb]
    exact hs
  rw [if_neg hheld]
  have hlf : lf.2.faults.sources = d.faults.sources := by
    show (if 2 ≤ sev then latch d r.src stamp else (0, d)).2.faults.sources = _
    split
    · exact sources_latch _ _
    · rfl
  clear_value lf
  have h1 : ∃ v : FaultSrc, v.count = count ∧ d1.faults.sources = tabSet {} d.faults.sources r.src v :=
    ⟨_, rfl, congrArg (fun t => tabSet ({} : FaultSrc) t r.src _) hlf⟩
  obtain ⟨v, hv, h1⟩ := h1
  clear_value ev d1
  refine ⟨v, hv, ?_⟩
  split
  · exact h1
  · have hp : p.1.faults.sources = tabSet {} d.faults.sources r.src v := by
      have h2 : d2.faults.sources = d1.faults.sources := sources_logRecord ev
      have hpush : p = pushEvent d2 0 ev := rfl
      rw [hpush, sources_pushEvent, h2, h1]
    clear_value p
    show (if sev = 3 then isolate p.1 r stamp else if 4 ≤ sev then haltDevice p.1 sev r.src stamp else p.1).faults.sources = _
    split
    · simpa only [isolate, ha] using hp
    · split
      · exact (sources_haltDevice _ _ _).trans hp
      · exact hp

theorem raiseOne_fault_other (ha : attribution r = .device) (hb : r.boot = none) {n : Nat} (hn : n ≠ r.src) : (raiseOne d r).1.fault n = d.fault n := by
  by_cases hs : severityOf d r.src = 0
  · simp [raiseOne, hs, hb]
  · obtain ⟨v, hv, h⟩ := raiseOne_sources ha hb hs
    have hne : v ≠ {} := fun k => countUp_ne_zero _ (hv.symm.trans (congrArg FaultSrc.count k))
    exact (congrArg (fun t => tabGet ({} : FaultSrc) t n) h).trans (tabGet_tabSet_other hne hn)

theorem raiseOne_fault_count (ha : attribution r = .device) (hb : r.boot = none) (hs : severityOf d r.src ≠ 0) :
    ((raiseOne d r).1.fault r.src).count = countUp (d.fault r.src).count := by
  obtain ⟨v, hv, h⟩ := raiseOne_sources ha hb hs
  have hne : v ≠ {} := fun k => countUp_ne_zero _ (hv.symm.trans (congrArg FaultSrc.count k))
  have hget : (raiseOne d r).1.fault r.src = v := (congrArg (fun t => tabGet ({} : FaultSrc) t r.src) h).trans (tabGet_tabSet_self hne)
  rw [hget, hv]

theorem eventsLost_fault_other {n : Nat} (hn : n ≠ 0xF2) (l : List Nat) : (eventsLost d l).fault n = d.fault n := by
  unfold eventsLost
  refine List.foldlRecOn (motive := fun x : Dev => x.fault n = d.fault n) l _ rfl fun x h m _ => ?_
  exact (raiseOne_fault_other (r := { src := 0xF2, loc16 := m }) (attribution_device rfl rfl) rfl hn).trans h

/-! ## Frames sent again -/

/-- One frame of port i sent again, its retry raised. -/
def resendFrame (i : Nat) (bad : List (BitVec 12)) (d : Dev) (f : BitVec 12 × Packet) : Dev :=
  (raiseRetry d i (decide (f.1 ∈ bad))).emit (.resend i (sentFrame f.1 f.2 false))

section

variable {i : Nat} {bad : List (BitVec 12)}

theorem resendFrame_keeps (f : BitVec 12 × Packet) : let y := resendFrame i bad d f
    y.aksia = d.aksia ∧ y.wire = d.wire ++ [.resend i (sentFrame f.1 f.2 false)] ∧ y.legend = d.legend :=
  have h := deviceRaiseKeeps_raiseRetry i (decide (f.1 ∈ bad)) (d := d)
  ⟨h.aksia, congrArg (· ++ _) (raise_wire _), h.legend⟩

theorem resendFrame_count (f : BitVec 12 × Packet) (hs : severityOf d 0x8B ≠ 0) :
    ((resendFrame i bad d f).fault 0x8B).count = countUp (d.fault 0x8B).count := by
  have ha : attribution { src := 0x8B, loc16 := i, loc64 := (d.port i).partnerDev.toNat, injected := decide (f.1 ∈ bad) } = .device := attribution_device rfl rfl
  exact (congrArg FaultSrc.count (eventsLost_fault_other (by decide) _)).trans (raiseOne_fault_count ha rfl hs)

theorem resendFrames_keep (l : List (BitVec 12 × Packet)) : let y := l.foldl (resendFrame i bad) d
    y.aksia = d.aksia ∧ y.wire = d.wire ++ l.map fun f => .resend i (sentFrame f.1 f.2 false) := by
  induction l generalizing d with
  | nil => exact ⟨rfl, (List.append_nil _).symm⟩
  | cons f r ih =>
    obtain ⟨haksia, hwire, -⟩ := resendFrame_keeps (d := d) (i := i) (bad := bad) f
    exact ⟨ih.1.trans haksia, by rw [List.foldl_cons, ih.2, hwire, List.append_assoc]; rfl⟩

theorem resendFrames_count (l : List (BitVec 12 × Packet)) (hs : severityOf d 0x8B ≠ 0) :
    ((l.foldl (resendFrame i bad) d).fault 0x8B).count.toNat = min 0xFFFFFFFF ((d.fault 0x8B).count.toNat + l.length) := by
  induction l generalizing d with
  | nil =>
    have := (d.fault 0x8B).count.isLt
    simp only [List.foldl_nil, List.length_nil]
    omega
  | cons f r ih =>
    have hsev : severityOf (resendFrame i bad d f) 0x8B ≠ 0 := by
      rw [severityOf, legNat_congr (resendFrame_keeps f).2.2]
      exact hs
    rw [List.foldl_cons, ih hsev, resendFrame_count f hs, countUp_toNat, List.length_cons]
    omega

end

/-! ## The retry buffer -/

section

variable {i : Nat} {seq : BitVec 12} {k : Packet} {before_ rest : List (BitVec 12 × Packet)}

theorem findIdx_retry (hfirst : ∀ f ∈ before_, f.1 ≠ seq) :
    (before_ ++ (seq, k) :: rest).findIdx? (fun f => decide (f.1 = seq)) = some before_.length := by
  have hnone : before_.findIdx? (fun f => decide (f.1 = seq)) = none := List.findIdx?_eq_none_iff.2 fun f hf => decide_eq_false (hfirst f hf)
  rw [List.findIdx?_append, hnone]
  simp [List.findIdx?_cons]

/-- The port whose frames are about to be sent again. -/
def resentPort (v : AksPort) (again : List (BitVec 12 × Packet)) : AksPort :=
  { v with resent := v.resent + again.length, injected := v.injected.filter fun n => again.all fun f => decide (f.1 ≠ n) }

theorem retransmit_found (hretry : (d.port i).retry = before_ ++ (seq, k) :: rest) (hfirst : ∀ f ∈ before_, f.1 ≠ seq) : retransmit d i seq =
    ((seq, k) :: rest).foldl (resendFrame i (d.port i).injected) (d.setPort i (resentPort (d.port i) ((seq, k) :: rest))) := by
  have hfind : (d.port i).retry.findIdx? (fun f => decide (f.1 = seq)) = some before_.length := hretry ▸ findIdx_retry hfirst
  have hdrop : (d.port i).retry.drop before_.length = (seq, k) :: rest := by rw [hretry, List.drop_left]
  simp only [retransmit, hfind, hdrop]
  rfl

theorem retransmit_missing (h : ∀ f ∈ (d.port i).retry, f.1 ≠ seq) : retransmit d i seq = d := by
  have hnone : (d.port i).retry.findIdx? (fun f => decide (f.1 = seq)) = none := List.findIdx?_eq_none_iff.2 fun f hf => decide_eq_false (h f hf)
  simp only [retransmit, hnone]

end

end Sys2Proof.Machine

/-! The commands of an Aksia port (10 R414 to R418, R421 to R425, R429 to R434). -/

namespace Sys2Proof.Machine

variable {s : State} {e i : Nat} {c : Instr} {P : Dev → Prop} {f : Dev → Dev}

/-! ## Rows -/

theorem passes_portRow_down (hx : exec c s = portRow e i s f) (hi : i < portsFitted s.dev) (hn : netUp s.dev = false) : Passes c s e := by
  refine does_onUnit (d := s.dev.at e) (hx.trans ?_) rfl
  have hn' : netUp (s.dev.at e) = false := hn
  simp only [portRow, hn', hi, decide_true, Bool.false_eq_true, if_false]

theorem does_portRow (hx : exec c s = portRow e i s f) (hi : i < portsFitted s.dev) (hn : netUp s.dev = true) (h : P (f (s.dev.at e))) : Does c s P := by
  refine does_onUnit (d := f (s.dev.at e)) (hx.trans ?_) h
  have hn' : netUp (s.dev.at e) = true := hn
  simp only [portRow, hn', hi, decide_true, if_true]

theorem does_portRow_eq {y : Dev} (hx : exec c s = portRow e i s f) (hi : i < portsFitted s.dev) (hn : netUp s.dev = true) (hy : f (s.dev.at e) = y) (h : P y) : Does c s P :=
  does_portRow hx hi hn (hy ▸ h)

theorem passes_portRow (hx : exec c s = portRow e i s f) (hi : i < portsFitted s.dev) (h : f (s.dev.at e) = s.dev.at e) : Passes c s e := by
  by_cases hn : netUp s.dev = true
  · exact does_portRow (P := fun d => d = s.dev.at e) hx hi hn h
  · exact passes_portRow_down hx hi (eq_false_of_ne_true hn)

theorem exec_portAttempt (phase : PortPhase) : exec (.portAttempt e i phase) s = portRow e i s fun d => portAttempt d i phase := rfl

theorem exec_portAttemptTimeout : exec (.portAttemptTimeout e i) s = portRow e i s fun d => if attemptOver d i then failAttempt d i else d := rfl

theorem exec_portBackoffEnd : exec (.portBackoffEnd e i) s = portRow e i s fun d =>
    if (d.port i).st = .backoff ∧ reached d (after (d.port i).since (portBackoff (d.port i).attempts.toNat)) then toDetect d i else d := rfl

theorem exec_ident (m : IdentMsg) (t : DelayTimes) : exec (.ident e i m t) s = portRow e i s fun d => identify d i m (delayOf t.t1 t.t2 t.t3 t.t4) := rfl

/-- A port that falls, before it leaves UP: the fall is counted and raised (R431). -/
def fallen (d : Dev) (i : Nat) : Dev := raisePort (d.setPort i { d.port i with fell := true, retrains := (d.port i).retrains + 1 }) 0x80 i

theorem exec_portDown (lost : Bool) : exec (.portDown e i lost) s = portRow e i s fun d =>
    if (d.port i).st = .up ∧ (lost ∨ 256 < (d.port i).resent) then leaveUp (fallen d i) i .detect else d := rfl

theorem exec_linkFrameRetransmit (seq : BitVec 12) : exec (.linkFrameRetransmit e i seq) s = portRow e i s fun d =>
    if (d.port i).st = .up then retransmit d i seq else d := rfl

/-- A port's eyes measured: the lowest is kept, and each below the limit raises (R432). -/
def eyesNoted (d : Dev) (i : Nat) (eyes : List Nat) : Dev :=
  (eyes.filter fun v => decide (v < legNat d 0x6000 0x0C)).foldl (fun d _ => raisePort d 0x83 i) (d.setPort i { d.port i with eyeMv := BitVec.ofNat 16 (eyes.foldl min 65535) })

theorem exec_eyeMeasurement (eyes : List Nat) : exec (.eyeMeasurement e i eyes) s = portRow e i s fun d =>
    if (d.port i).st = .up ∧ eyes ≠ [] then eyesNoted d i eyes else d := rfl

/-- A port's delay measured, and the next request offered (R434). -/
def delayNoted (d : Dev) (i delay : Nat) : Dev :=
  offer (d.setPort i { d.port i with delay := delay, exchangeAge := 0 }) i { pkt := timePacket d (portDir d i) .delayRequest, holds := none }

theorem exec_delayExchange (t1 t2 t3 t4 : Int) : exec (.delayExchange e i t1 t2 t3 t4) s = portRow e i s fun d =>
    if (d.port i).st = .up ∧ 1024 ≤ (d.port i).exchangeAge then delayNoted d i (delayOf t1 t2 t3 t4) else d := rfl

theorem exec_linkState (dev : BitVec 16) (dir : Nat) (up : Bool) (seq : BitVec 16) : exec (.linkState e i dev dir up seq) s = portRow e i s fun d =>
    if (d.port i).st = .up ∧ dir < 6 then noticeIn d dev dir up seq else d := rfl

theorem exec_packetReceived (cor : Nat) (k : LinkFrame) : exec (.packetReceived e i cor k) s = portRow e i s fun d =>
    if (d.port i).st = .up then linkFrameIn d i cor k else d := rfl

/-- Outside SYNC and READY a port's commands let the moment pass. -/
theorem passes_portCommands_down (hi : i < portsFitted s.dev) (hn : netUp s.dev = false) (phase : PortPhase) (m : IdentMsg) (lost : Bool) (seq : BitVec 12)
    (eyes : List Nat) (t : DelayTimes) (dev : BitVec 16) (dir : Nat) (up : Bool) (n : BitVec 16) (cor : Nat) (k : LinkFrame) :
    ∀ c ∈ portCommands e i phase m lost seq eyes t dev dir up n cor k, Passes c s e := by
  simp only [portCommands, List.forall_mem_cons]
  exact ⟨passes_portRow_down (exec_portAttempt phase) hi hn, passes_portRow_down exec_portAttemptTimeout hi hn, passes_portRow_down exec_portBackoffEnd hi hn,
    passes_portRow_down (exec_ident m t) hi hn, passes_portRow_down (exec_portDown lost) hi hn, passes_portRow_down (exec_linkFrameRetransmit seq) hi hn,
    passes_portRow_down (exec_eyeMeasurement eyes) hi hn, passes_portRow_down (exec_delayExchange t.t1 t.t2 t.t3 t.t4) hi hn,
    passes_portRow_down (exec_linkState dev dir up n) hi hn, passes_portRow_down (exec_packetReceived cor k) hi hn, fun _ h => absurd h List.not_mem_nil⟩

section

variable {d : Dev}

/-! ## Attempts (R429) -/

theorem portAttempt_over (h : attemptOver d i = true) (phase : PortPhase) : portAttempt d i phase = failAttempt d i := if_pos h

theorem portAttempt_equalise (h : attemptOver d i = false) (hst : (d.port i).st = .detect) :
    portAttempt d i .equalise = d.setPort i { d.port i with st := .equalise } := by
  simp only [portAttempt, h, hst, Bool.false_eq_true, if_false]
  rfl

theorem portAttempt_align (h : attemptOver d i = false) (hst : (d.port i).st = .equalise) :
    portAttempt d i .align = d.setPort i { d.port i with st := .align } := by
  simp only [portAttempt, h, hst, Bool.false_eq_true, if_false]
  rfl

/-- A port as it begins to identify itself. -/
def identPort (v : AksPort) : AksPort := { v with st := .ident, lanesUp := 8 }

theorem portAttempt_ident (h : attemptOver d i = false) (hst : (d.port i).st = .align) :
    portAttempt d i .ident = sendIdentity (d.setPort i (identPort (d.port i))) i := by
  simp only [portAttempt, h, hst, Bool.false_eq_true, if_false]
  rfl

theorem portAttempt_failed (h : attemptOver d i = false) (ha : attempting (d.port i) = true) : portAttempt d i .failed = failAttempt d i := by
  simp only [portAttempt, h, ha, Bool.false_eq_true, if_false, if_true]

/-- What the device tells of itself in IDENT (R430). -/
def identityOf (d : Dev) (i : Nat) : IdentMsg :=
  { device := BitVec.ofNat 16 (deviceNumber d), uid := d.part.uniqueId, port := BitVec.ofNat 8 i, gradeL := decide (d.part.grade = 3)
    atlasId := BitVec.ofNat 32 (legNat d 0x6000 0x04), dimX := BitVec.ofNat 8 (dimSize d 0), dimY := BitVec.ofNat 8 (dimSize d 1), dimZ := BitVec.ofNat 8 (dimSize d 2) }

theorem sendIdentity_eq : sendIdentity d i = sendOn (d.emit (.ident i (identityOf d i))) i (timePacket d (portDir d i) .delayRequest) := rfl

/-- The identity goes out, and a delay request behind it (R430, R434). -/
theorem sendIdentity_spec (w : tabWf {} d.aksia.ports = true) : (sendIdentity d i).port i = sentPort (d.port i) (timePacket d (portDir d i) .delayRequest) ∧
    (∀ j, j ≠ i → (sendIdentity d i).port j = d.port j) ∧
    ∃ f, f.packet = timePacket d (portDir d i) .delayRequest ∧ f.seq = (d.port i).txSeq ∧
      (sendIdentity d i).wire = d.wire ++ [.ident i (identityOf d i), .packet i f] := by
  rw [sendIdentity_eq]
  obtain ⟨f, hpacket, -, hseq, hwire⟩ := sendOn_wire (d := d.emit (.ident i (identityOf d i))) (p := i) (timePacket d (portDir d i) .delayRequest)
  refine ⟨sendOn_port_self (d := d.emit _) w _, fun j hj => sendOn_port_other (d := d.emit _) w hj _, f, hpacket, hseq, hwire.trans ?_⟩
  exact List.append_assoc _ _ _

/-- From ALIGN a port goes to IDENT, and its identity and a delay request go out. -/
theorem portAttempt_sendsIdentity (w : tabWf {} d.aksia.ports = true) (h : attemptOver d i = false) (hst : (d.port i).st = .align) : let y := portAttempt d i .ident
    y.port i = sentPort (identPort (d.port i)) (timePacket d (portDir d i) .delayRequest) ∧ (∀ j, j ≠ i → y.port j = d.port j) ∧
    ∃ f, f.packet = timePacket d (portDir d i) .delayRequest ∧ f.seq = (d.port i).txSeq ∧ y.wire = d.wire ++ [.ident i (identityOf d i), .packet i f] := by
  rw [portAttempt_ident h hst]
  have hself : (d.setPort i (identPort (d.port i))).port i = identPort (d.port i) := Dev.port_setPort_self w _
  obtain ⟨hport, hother, f, hpacket, hseq, hwire⟩ := sendIdentity_spec (i := i) (d := d.setPort i (identPort (d.port i))) (tabSet_wf w)
  rw [hself] at hport hseq
  exact ⟨hport, fun j hj => (hother j hj).trans (Dev.port_setPort_other w hj _), f, hpacket, hseq, hwire⟩

/-! ## Identity (R430) -/

theorem identify_over (h : attemptOver d i = true) (m : IdentMsg) (delay : Nat) : identify d i m delay = failAttempt d i := if_pos h

theorem identify_idle (h : attempting (d.port i) = false) (m : IdentMsg) (delay : Nat) : identify d i m delay = d := by
  have hover : attemptOver d i = false := by simp [attemptOver, h]
  have hst : (d.port i).st ≠ .ident := fun k => by simp [attempting, k] at h
  simp [identify, hover, hst]

end

end Sys2Proof.Machine

/-! An identity exchanged, and the falls, resends, eyes and delays of an UP port (10 R416, R430 to R434). -/

namespace Sys2Proof.Machine

variable {d : Dev} {i : Nat}

/-! ## Identity (R430) -/

/-- The device once the grade of a link's partner is held. -/
def graded (d : Dev) (dir : Nat) (gradeL : Bool) : Dev :=
  d.updAksia fun a => { a with
    mixed := if decide (decide (d.part.grade = 3) ≠ gradeL) then a.mixed ++ [dir] else a.mixed.filter (· ≠ dir) }

theorem noteGrade_cases (dir : Nat) (gradeL : Bool) : noteGrade d dir gradeL = d ∨ noteGrade d dir gradeL = refreshPorts (graded d dir gradeL) false := by
  unfold noteGrade
  extract_lets other
  split
  · exact .inl rfl
  · exact .inr rfl

/-- A port that trains with its partner is not among those that the partner's grade switches off (R414). -/
theorem portOff_graded {m : IdentMsg} (hoff : portOff d i = false) (hok : partnerPortOk d i m = true) : portOff (graded d (portDir d i) m.gradeL) i = false := by
  simp only [portOff, Bool.or_eq_false_iff] at hoff
  obtain ⟨hothers, -⟩ := hoff
  simp only [← Bool.or_eq_false_iff] at hothers
  refine Bool.or_eq_false_iff.2 ⟨hothers, ?_⟩
  by_cases hL : d.part.grade = 3
  · have hper : portsPerLink d = 8 := if_pos hL
    cases hg : m.gradeL with
    | true =>
      have hnot : portDir d i ∉ (graded d (portDir d i) true).aksia.mixed := by simp [graded, Dev.updAksia, hL]
      exact Bool.and_eq_false_iff.2 (.inr (decide_eq_false hnot))
    | false =>
      have hlow : i % 8 < 4 := by simpa [partnerPortOk, hper, hg] using (Bool.and_eq_true_iff.1 hok).2
      exact Bool.and_eq_false_iff.2 (.inl (Bool.and_eq_false_iff.2 (.inr (decide_eq_false (Nat.not_le.2 hlow)))))
  · have hper : ¬ portsPerLink d = 8 := by
      rw [portsPerLink, if_neg hL]
      decide
    exact Bool.and_eq_false_iff.2 (.inl (Bool.and_eq_false_iff.2 (.inl (decide_eq_false hper))))

/-- An UP port stays as it is when its partner's grade is held. -/
theorem noteGrade_keeps {m : IdentMsg} (w : tabWf {} d.aksia.ports = true) (hn : netUp d = true) (hoff : portOff d i = false) (hok : partnerPortOk d i m = true)
    (hup : (d.port i).st = .up) : let y := noteGrade d (portDir d i) m.gradeL
    PortSends (d.port i) (y.port i) ∧ y.strips = d.strips ∧ y.stackMem = d.stackMem := by
  rcases noteGrade_cases (d := d) (portDir d i) m.gradeL with h | h
  · rw [h]
    exact ⟨.refl, rfl, rfl⟩
  · rw [h]
    have hserved : PortServed i (graded d (portDir d i) m.gradeL) _ := portServed_refreshPorts w hn (portOff_graded hoff hok) hup
    exact ⟨hserved.port, (congrArg Dev.strips hserved.work).trans rfl, (congrArg Dev.stackMem hserved.work).trans rfl⟩

/-- The device with the partner that IDENT names. -/
def metDev (d : Dev) (i : Nat) (m : IdentMsg) : Dev := d.setPort i { d.port i with partnerDev := m.device, partnerPort := m.port }

/-- The port with its partner and the delay of the exchange. -/
def metPort (v : AksPort) (m : IdentMsg) (delay : Nat) : AksPort := { v with partnerDev := m.device, partnerPort := m.port, delay := delay }

/-- A port miscabled: its attempt has failed, and it knows with whom. -/
def miscabledPort (v : AksPort) (m : IdentMsg) (t : Stamp) : AksPort :=
  { v with st := .backoff, attempts := v.attempts + 1, since := t, miscabled := true, partnerDev := m.device, partnerPort := m.port }

/-- The device whose attempt with a partner has failed. -/
def miscabledDev (d : Dev) (i : Nat) (m : IdentMsg) : Dev := updPort (failAttempt (metDev d i m) i) i fun v => { v with miscabled := true }

section

variable {m : IdentMsg} (w : tabWf {} d.aksia.ports = true)

include w

theorem metDev_port : (metDev d i m).port i = { d.port i with partnerDev := m.device, partnerPort := m.port } := Dev.port_setPort_self w _

theorem metDev_wf : tabWf {} (metDev d i m).aksia.ports = true := tabSet_wf w

theorem miscabledDev_port : (miscabledDev d i m).port i = miscabledPort (d.port i) m (now d) := by
  have w2 : tabWf {} (failAttempt (metDev d i m) i).aksia.ports = true := tabSet_wf (metDev_wf w)
  rw [miscabledDev, updPort, Dev.port_setPort_self w2, failAttempt, updPort, Dev.port_setPort_self (metDev_wf w), metDev_port w]
  rfl

theorem miscabledDev_port_other {j : Nat} (hj : j ≠ i) : (miscabledDev d i m).port j = d.port j := by
  have w2 : tabWf {} (failAttempt (metDev d i m) i).aksia.ports = true := tabSet_wf (metDev_wf w)
  rw [miscabledDev, updPort, Dev.port_setPort_other w2 hj, failAttempt, updPort, Dev.port_setPort_other (metDev_wf w) hj, metDev, Dev.port_setPort_other w hj]

variable (hst : (d.port i).st = .ident) (hover : attemptOver d i = false)

include hst hover

theorem identify_ident (delay : Nat) : identify d i m delay =
    if identOk d i m then noteGrade (reachUp (metDev d i m) i (metPort (d.port i) m delay)) (portDir d i) m.gradeL else raisePort (miscabledDev d i m) 0x82 i := by
  have hport : ({ (metDev d i m).port i with delay := delay } : AksPort) = metPort (d.port i) m delay := by
    rw [metDev_port w]
    rfl
  unfold identify
  rw [if_neg (ne_true_of_eq_false hover), if_neg (not_not_intro hst), ← hport]
  rfl

/-- A partner that agrees: the port is UP, with its delay (R430, R434). -/
theorem identify_agrees (hn : netUp d = true) (hok : identOk d i m = true) (hoff : portOff d i = false) (delay : Nat) : let y := identify d i m delay
    PortSends (upPort (metPort (d.port i) m delay)) (y.port i) ∧ y.strips = d.strips ∧ y.stackMem = d.stackMem := by
  rw [identify_ident w hst hover, if_pos hok]
  have hreach := reachUp_serves (i := i) (metDev_wf (i := i) (m := m) w) (metPort (d.port i) m delay)
  generalize reachUp (metDev d i m) i (metPort (d.port i) m delay) = r at hreach
  have hport : PortSends (upPort (metPort (d.port i) m delay)) (r.port i) := by
    have h := hreach.port
    rwa [Dev.port_setPort_self (metDev_wf w)] at h
  have hpartner : partnerPortOk r i m = true := ((congrArg (partnerPortOk · i m) hreach.work).trans rfl).trans (Bool.and_eq_true_iff.1 hok).2
  have hdir : portDir r i = portDir d i := (congrArg (portDir · i) hreach.work).trans rfl
  obtain ⟨hsends, hstrips, hmem⟩ := noteGrade_keeps hreach.wf (hreach.work.netUp_eq.trans hn) ((hreach.work.portOff_eq i).trans hoff) hpartner hport.st
  rw [← hdir]
  exact ⟨hport.trans hsends, hstrips.trans ((congrArg Dev.strips hreach.work).trans rfl), hmem.trans ((congrArg Dev.stackMem hreach.work).trans rfl)⟩

/-- A partner that does not agree: the attempt fails, and the port is miscabled. -/
theorem identify_differs (hok : identOk d i m = false) (delay : Nat) : let y := identify d i m delay
    y.port i = miscabledPort (d.port i) m (now d) ∧ (∀ j, j ≠ i → y.port j = d.port j) ∧ y.wire = d.wire := by
  rw [identify_ident w hst hover, if_neg (ne_true_of_eq_false hok)]
  have hraise := deviceRaiseKeeps_raisePort 0x82 i (d := miscabledDev d i m)
  have hports := congrArg Aksia.ports hraise.aksia
  exact ⟨(port_congr hports i).trans (miscabledDev_port w), fun j hj => (port_congr hports j).trans (miscabledDev_port_other w hj), (congrArg Dev.wire hraise).trans rfl⟩

end

/-! ## Falls (R431) -/

theorem fallen_port (w : tabWf {} d.aksia.ports = true) : (fallen d i).port i = { d.port i with fell := true, retrains := (d.port i).retrains + 1 } :=
  (port_congr (congrArg Aksia.ports (deviceRaiseKeeps_raisePort _ _).aksia) i).trans (Dev.port_setPort_self w _)

theorem fallen_wf (w : tabWf {} d.aksia.ports = true) : tabWf {} (fallen d i).aksia.ports = true :=
  (congrArg (fun a => tabWf ({} : AksPort) a.ports) (deviceRaiseKeeps_raisePort _ _).aksia).trans (tabSet_wf w)

/-- A port that falls goes back to DETECT with nothing waiting and nothing kept, and counts a retrain. -/
theorem leaveUp_fallen (w : tabWf {} d.aksia.ports = true) : ∃ fell, (leaveUp (fallen d i) i .detect).port i =
    { leftPort (fallen d i) i .detect fell with fell := true, retrains := (d.port i).retrains + 1 } := by
  obtain ⟨fell, h⟩ := leaveUp_port_self (p := i) (st := .detect) (fallen_wf w) (by decide)
  exact ⟨fell, by rw [h, leftPort, fallen_port w]⟩

/-! ## Frames sent again (R416) -/

theorem retransmit_spec {before_ rest : List (BitVec 12 × Packet)} {seq : BitVec 12} {k : Packet} (w : tabWf {} d.aksia.ports = true)
    (hretry : (d.port i).retry = before_ ++ (seq, k) :: rest) (hfirst : ∀ f ∈ before_, f.1 ≠ seq) : let y := retransmit d i seq
    y.wire = d.wire ++ ((seq, k) :: rest).map (fun f => .resend i (sentFrame f.1 f.2 false)) ∧ y.port i = resentPort (d.port i) ((seq, k) :: rest) ∧
    (severityOf d 0x8B ≠ 0 → (y.fault 0x8B).count.toNat = min 0xFFFFFFFF ((d.fault 0x8B).count.toNat + rest.length + 1)) := by
  rw [retransmit_found hretry hfirst]
  obtain ⟨haksia, hwire⟩ := resendFrames_keep (i := i) (bad := (d.port i).injected) (d := d.setPort i (resentPort (d.port i) ((seq, k) :: rest))) ((seq, k) :: rest)
  exact ⟨hwire, (port_congr (congrArg Aksia.ports haksia) i).trans (Dev.port_setPort_self w _), resendFrames_count (d := d.setPort i _) ((seq, k) :: rest)⟩

/-! ## Eyes (R432) -/

theorem eyesNoted_keeps (eyes : List Nat) : DeviceRaiseKeeps (d.setPort i { d.port i with eyeMv := BitVec.ofNat 16 (eyes.foldl min 65535) }) (eyesNoted d i eyes) :=
  List.foldlRecOn (motive := DeviceRaiseKeeps _) _ _ rfl fun _ h _ _ => h.trans (deviceRaiseKeeps_raisePort _ _)

/-! ## Delays (R434) -/

section

variable (w : tabWf {} d.aksia.ports = true) (delay : Nat)

/-- The device that has kept a delay and has not yet asked again. -/
abbrev delayKept (d : Dev) (i delay : Nat) : Dev := d.setPort i { d.port i with delay := delay, exchangeAge := 0 }

include w

theorem delayNoted_port (hup : (d.port i).st = .up) : PortSends { d.port i with delay := delay, exchangeAge := 0 } ((delayNoted d i delay).port i) := by
  have w1 : tabWf {} (delayKept d i delay).aksia.ports = true := tabSet_wf w
  have hport : (delayKept d i delay).port i = { d.port i with delay := delay, exchangeAge := 0 } := Dev.port_setPort_self w _
  exact hport ▸ (portServed_offer (i := i) (p := i) w1 (fun _ => (congrArg AksPort.st hport).trans hup) _).port

theorem delayNoted_port_other {j : Nat} (hj : j ≠ i) : (delayNoted d i delay).port j = d.port j :=
  (offer_port_other (d := delayKept d i delay) hj (tabSet_wf w)).trans (Dev.port_setPort_other w hj _)

variable (hq : (d.port i).queue = [])

include hq

/-- With its credits the request goes at once. -/
theorem delayNoted_sends (hc : creditsFor d (portDir d i) (timePacket d (portDir d i) .delayRequest) = true) :
    ∃ f, (delayNoted d i delay).wire = d.wire ++ [.packet i f] ∧ f.packet = timePacket d (portDir d i) .delayRequest := by
  have hq' : ((delayKept d i delay).port i).queue = [] := (congrArg AksPort.queue (Dev.port_setPort_self w _)).trans hq
  obtain ⟨y, f, hoffer, hpacket, -, hwire, -, -⟩ :=
    offer_spec (d := delayKept d i delay) (q := { pkt := timePacket d (portDir d i) .delayRequest, holds := none }) (tabSet_wf w) hq' hc
  exact ⟨f, (congrArg Dev.wire hoffer).trans hwire, hpacket⟩

/-- Without them it waits. -/
theorem delayNoted_waits (hc : creditsFor d (portDir d i) (timePacket d (portDir d i) .delayRequest) = false) : (delayNoted d i delay).wire = d.wire ∧
    ((delayNoted d i delay).port i).queue = [{ pkt := timePacket d (portDir d i) .delayRequest, holds := none }] := by
  have w1 : tabWf {} (delayKept d i delay).aksia.ports = true := tabSet_wf w
  have hq' : ((delayKept d i delay).port i).queue = [] := (congrArg AksPort.queue (Dev.port_setPort_self w _)).trans hq
  have hoffer := offer_waits (d := delayKept d i delay) (q := { pkt := timePacket d (portDir d i) .delayRequest, holds := none }) w1 hq' hc
  exact ⟨(congrArg Dev.wire hoffer).trans rfl, (congrArg (fun d : Dev => (d.port i).queue) hoffer).trans (offered_queue w1)⟩

end

end Sys2Proof.Machine

/-! LINK_STATE notices: what is kept of one not yet seen (10 R424). -/

namespace Sys2Proof.Machine

variable {d : Dev} {dev : BitVec 16} {dir : Nat} {up : Bool} {seq : BitVec 16}

/-! ## Sequences -/

theorem seqLater_self (a : BitVec 16) : seqLater a a = false := Bool.and_eq_false_iff.2 (.inl (decide_eq_false (not_not_intro rfl)))

theorem seqLater_asymm {a b : BitVec 16} (h : seqLater a b = true) : seqLater b a = false := by
  simp only [seqLater, Bool.and_eq_true, decide_eq_true_eq] at h
  obtain ⟨hne, hlt⟩ := h
  refine Bool.and_eq_false_iff.2 (.inr (decide_eq_false ?_))
  bv_omega

/-- A sequence that is noted is among those seen. -/
theorem mem_noteSeq (l : List (BitVec 16)) (seq : BitVec 16) : seq ∈ noteSeq l seq := by
  unfold noteSeq
  extract_lets l'
  have hmem : seq ∈ l' := List.mem_append.2 (.inr List.mem_cons_self)
  refine List.mem_filter.2 ⟨hmem, ?_⟩
  have hhead : seqLater seq (l'.headD seq) = false := by
    cases hnewer : l.takeWhile fun x => seqLater x seq with
    | nil =>
      have hl : l' = seq :: l.dropWhile fun x => seqLater x seq := congrArg (· ++ _) hnewer
      rw [hl]
      exact seqLater_self seq
    | cons a r =>
      have hl : l' = a :: (r ++ seq :: l.dropWhile fun x => seqLater x seq) := congrArg (· ++ _) hnewer
      have ha : seqLater a seq = true := List.mem_takeWhile_imp (p := fun x => seqLater x seq) (l := l) (hnewer ▸ List.mem_cons_self)
      rw [hl]
      exact seqLater_asymm ha
  rw [hhead]
  rfl

theorem noteSeq_ne_nil (l : List (BitVec 16)) (seq : BitVec 16) : noteSeq l seq ≠ [] := List.ne_nil_of_mem (mem_noteSeq l seq)

/-! ## Notices -/

/-- No newer notice has told of the link. -/
def noticeNewer (d : Dev) (dev : BitVec 16) (dir : Nat) (seq : BitVec 16) : Bool :=
  decide (tabGet 0 d.aksia.linkSeq (dev.toNat * 8 + dir) = 0) || seqLater seq (BitVec.ofNat 16 (tabGet 0 d.aksia.linkSeq (dev.toNat * 8 + dir) - 1))

theorem noticeNewer_iff : noticeNewer d dev dir seq = true ↔
    tabGet 0 d.aksia.linkSeq (dev.toNat * 8 + dir) = 0 ∨ seqLater seq (BitVec.ofNat 16 (tabGet 0 d.aksia.linkSeq (dev.toNat * 8 + dir) - 1)) = true := by
  rw [noticeNewer, Bool.or_eq_true, decide_eq_true_eq]

/-- The links held as down, once a notice has told of one. -/
def mapAfter (map : List LinkDown) (l : LinkDown) (up : Bool) : List LinkDown := if up then map.filter (· ≠ l) else map.filter (· ≠ l) ++ [l]

theorem mem_mapAfter_self (map : List LinkDown) (l : LinkDown) : l ∈ mapAfter map l up ↔ up = false := by
  cases up <;> simp [mapAfter]

theorem mem_mapAfter_other {map : List LinkDown} {l k : LinkDown} (h : k ≠ l) : k ∈ mapAfter map l up ↔ k ∈ map := by
  cases up <;> simp [mapAfter, h]

/-- The device that has kept a notice and has not yet sent it on. -/
def noticed (d : Dev) (dev : BitVec 16) (dir : Nat) (up : Bool) (seq : BitVec 16) : Dev :=
  d.updAksia fun a => { a with
    linkMap := if noticeNewer d dev dir seq then mapAfter a.linkMap { device := dev, direction := dir } up else a.linkMap
    linkSeq := if noticeNewer d dev dir seq then tabSet 0 a.linkSeq (dev.toNat * 8 + dir) (seq.toNat + 1) else a.linkSeq
    seenSeq := tabSet [] a.seenSeq dev.toNat (noteSeq (tabGet [] a.seenSeq dev.toNat) seq) }

theorem noticeIn_old (h : dev.toNat = deviceNumber d ∨ seq ∈ tabGet [] d.aksia.seenSeq dev.toNat) : noticeIn d dev dir up seq = d := if_pos h

theorem noticeIn_new (hdev : dev.toNat ≠ deviceNumber d) (hseq : seq ∉ tabGet [] d.aksia.seenSeq dev.toNat) : noticeIn d dev dir up seq =
    if noticeNewer d dev dir seq && up then grantAll (floodNotice (noticed d dev dir up seq) dev dir up seq none) else floodNotice (noticed d dev dir up seq) dev dir up seq none :=
  if_neg fun h => h.elim hdev hseq

/-- What follows a notice that is kept touches neither the link map nor the sequences. -/
theorem noticeIn_work (w : tabWf {} d.aksia.ports = true) (hdev : dev.toNat ≠ deviceNumber d) (hseq : seq ∉ tabGet [] d.aksia.seenSeq dev.toNat) :
    FabricWork (noticed d dev dir up seq) (noticeIn d dev dir up seq) := by
  have hflood := portServed_floodNotice (i := 0) (d := noticed d dev dir up seq) w dev dir up seq none
  rw [noticeIn_new hdev hseq]
  split
  · exact hflood.work.trans (portServed_grantAll (i := 0) hflood.wf).work
  · exact hflood.work

/-- A notice not yet seen is kept as seen, and updates the link map when no newer one has. -/
theorem noticeIn_spec (w : tabWf {} d.aksia.ports = true) (hdev : dev.toNat ≠ deviceNumber d) (hseq : seq ∉ tabGet [] d.aksia.seenSeq dev.toNat) :
    let a := (noticeIn d dev dir up seq).aksia
    seq ∈ tabGet [] a.seenSeq dev.toNat ∧
    (noticeNewer d dev dir seq = false → a.linkMap = d.aksia.linkMap ∧ a.linkSeq = d.aksia.linkSeq) ∧
    (noticeNewer d dev dir seq = true → a.linkMap = mapAfter d.aksia.linkMap { device := dev, direction := dir } up ∧
      tabGet 0 a.linkSeq (dev.toNat * 8 + dir) = seq.toNat + 1) := by
  intro a
  have hwork : a = _ := congrArg Dev.aksia (noticeIn_work (dir := dir) (up := up) w hdev hseq)
  have hseen : a.seenSeq = tabSet [] d.aksia.seenSeq dev.toNat (noteSeq (tabGet [] d.aksia.seenSeq dev.toNat) seq) := (congrArg Aksia.seenSeq hwork).trans rfl
  have hmap : a.linkMap = if noticeNewer d dev dir seq then mapAfter d.aksia.linkMap { device := dev, direction := dir } up else d.aksia.linkMap :=
    (congrArg Aksia.linkMap hwork).trans rfl
  have hlast : a.linkSeq = if noticeNewer d dev dir seq then tabSet 0 d.aksia.linkSeq (dev.toNat * 8 + dir) (seq.toNat + 1) else d.aksia.linkSeq :=
    (congrArg Aksia.linkSeq hwork).trans rfl
  refine ⟨?_, fun h => ?_, fun h => ?_⟩
  · rw [hseen, tabGet_tabSet_self (noteSeq_ne_nil _ _)]
    exact mem_noteSeq _ _
  · rw [hmap, hlast, h]
    exact ⟨rfl, rfl⟩
  · rw [hmap, hlast, h]
    exact ⟨rfl, tabGet_tabSet_self (Nat.succ_ne_zero _)⟩

end Sys2Proof.Machine

/-! Link frames received: the credits they return, claims, and packets forwarded or discarded (10 R417, R422, R423, R425, R435). -/

namespace Sys2Proof.Machine

variable {d : Dev} {i cor res : Nat}

/-! ## Corrected codewords -/

/-- The device that has counted the codewords corrected on a frame's way. -/
def fecCounted (d : Dev) (i cor : Nat) : Dev := d.setPort i { d.port i with fecCorrected := (d.port i).fecCorrected + BitVec.ofNat 64 cor }

section

variable (w : tabWf {} d.aksia.ports = true)

include w

theorem fecCounted_wf : tabWf {} (fecCounted d i cor).aksia.ports = true := tabSet_wf w

theorem fecCounted_port (j : Nat) : ∃ n, (fecCounted d i cor).port j = { d.port j with fecCorrected := n } := by
  by_cases hj : j = i
  · subst hj
    exact ⟨_, Dev.port_setPort_self w _⟩
  · exact ⟨(d.port j).fecCorrected, Dev.port_setPort_other w hj _⟩

theorem fecCounted_queue (j : Nat) : ((fecCounted d i cor).port j).queue = (d.port j).queue := by
  obtain ⟨n, h⟩ := fecCounted_port (i := i) (cor := cor) w j
  rw [h]

theorem fecCounted_txSeq (j : Nat) : ((fecCounted d i cor).port j).txSeq = (d.port j).txSeq := by
  obtain ⟨n, h⟩ := fecCounted_port (i := i) (cor := cor) w j
  rw [h]

theorem upPorts_fecCounted (dir : Nat) : upPorts (fecCounted d i cor) dir = upPorts d dir :=
  upPorts_setPort (i := i) (v := { d.port i with fecCorrected := (d.port i).fecCorrected + BitVec.ofNat 64 cor }) w rfl dir

theorem flowPort_fecCounted (dir : Nat) (p : Packet) : flowPort (fecCounted d i cor) dir p = flowPort d dir p := by
  unfold flowPort
  rw [upPorts_fecCounted w]

end

/-! ## Credits returned (R417) -/

/-- The device whose link has a credit back. -/
def credited (d : Dev) (dir : Nat) (c : LinkCredit) : Dev :=
  d.updAksia fun a => { a with linkUsed := tabSet 0 a.linkUsed (creditSlot dir c.cls c.dl) (tabGet 0 a.linkUsed (creditSlot dir c.cls c.dl) - c.units) }

theorem takeCredits_single (dir : Nat) (c : LinkCredit) : takeCredits d dir [c] = serveLink (credited d dir c) dir := if_neg (List.cons_ne_nil _ _)

/-- Where nothing waits, a credit that comes back sends nothing. -/
theorem takeCredits_idle {dir : Nat} (c : LinkCredit) (hidle : ∀ q ∈ upPorts d dir, (d.port q).queue = []) : takeCredits d dir [c] = credited d dir c := by
  have hups : upPorts (credited d dir c) dir = upPorts d dir := upPorts_congr (d := d) (x := credited d dir c) (fun _ => rfl) rfl dir
  rw [takeCredits_single]
  exact serveLink_idle fun q hq => hidle q (hups ▸ hq)

theorem linkFrameIn_credit (w : tabWf {} d.aksia.ports = true) (c : LinkCredit) (hidle : ∀ q ∈ upPorts d (portDir d i), (d.port q).queue = []) :
    linkFrameIn d i cor { credits := [c], packet := none, residence := res } = credited (fecCounted d i cor) (portDir d i) c := by
  refine takeCredits_idle (d := fecCounted d i cor) c fun q hq => ?_
  rw [fecCounted_queue w]
  exact hidle q (upPorts_fecCounted w _ ▸ hq)

/-! ## Packets -/

/-- A claim for this device is kept, and its buffer is free (R435). -/
theorem packetIn_claim {p : Packet} {pr : Byte} {uid : BitVec 64} {hops : Nat} {dev : BitVec 16} {low : Nat} (hdst : p.dst.toNat = deviceNumber d)
    (hkind : p.kind = .claim pr uid hops dev) (hlow : (upPorts d (portDir d i)).head? = some low) : packetIn d i res p =
    (d.emit (.credit low { cls := p.cls, dl := p.dl, units := packetUnits p })).updAksia fun a =>
      { a with claims := a.claims ++ [(i, { priority := pr, uid := uid, hops := hops, device := dev })] } := by
  simp only [packetIn, hdst, if_true, consume, hkind, freeBuffer_some hlow]

/-- A packet as it goes on in a direction, of a link in direction `from_` (R423). -/
def hopPacket (d : Dev) (dir from_ : Nat) (p : Packet) : Packet := { p with dl := crossesDateline d dir || (decide (dir / 2 = from_ / 2) && p.dl) }

theorem packetIn_hop {p : Packet} {dir : Nat} (hdst : p.dst.toNat ≠ deviceNumber d) (hhop : nextHop d p = some dir) :
    packetIn d i res p = sendHop d dir (decide (dir / 2 ≠ portDir d i / 2)) (some (portDir d i, p.dl)) p := by
  simp only [packetIn, hdst, if_false, hhop]

theorem sendHop_port {p : Packet} {dir from_ q : Nat} (holds : Option (Nat × Bool)) (hflow : flowPort d dir p = some q) :
    sendHop d dir (decide (dir / 2 ≠ from_ / 2)) holds p = offer d q { pkt := hopPacket d dir from_ p, holds := holds } := by
  have hpkt : hopPacket d dir from_ p = { p with dl := crossesDateline d dir || (!decide (dir / 2 ≠ from_ / 2) && p.dl) } := by
    rw [decide_not, Bool.not_not]
    rfl
  have hflow' : flowPort d dir (hopPacket d dir from_ p) = some q := hflow
  simp only [sendHop, ← hpkt, hflow']

theorem freeBuffer_dropped (holds : Option (Nat × Bool)) (k : Packet) : (freeBuffer d holds k).aksia.dropped = d.aksia.dropped := by
  unfold freeBuffer
  split
  · rfl
  · split <;> rfl

theorem dropPacket_dropped (n : Nat) (k : Packet) : (dropPacket d n k).aksia.dropped = d.aksia.dropped + 1 :=
  congrArg Aksia.dropped (deviceRaiseKeeps_raiseDev (d := { d with aksia := { d.aksia with dropped := d.aksia.dropped + 1 } }) 0x84 n k.dst.toNat).aksia

/-- A packet whose next link is down is discarded and counted (R425). -/
theorem sendHop_down {p : Packet} {dir : Nat} (fresh : Bool) (holds : Option (Nat × Bool)) (hflow : flowPort d dir p = none) :
    (sendHop d dir fresh holds p).aksia.dropped = d.aksia.dropped + 1 := by
  unfold sendHop
  extract_lets p'
  have hflow' : flowPort d dir p' = none := hflow
  rw [hflow']
  exact (freeBuffer_dropped holds p').trans (dropPacket_dropped _ p')

section

variable {p : Packet} {dir q low : Nat} (w : tabWf {} d.aksia.ports = true) (hdst : p.dst.toNat ≠ deviceNumber d) (hhop : nextHop d p = some dir)
  (hflow : flowPort d dir p = some q) (hq : (d.port q).queue = []) (hdir : portDir d q = dir)

include w hdst hhop hflow hq hdir

/-- A packet for another device leaves on its route when its credits are there, and its own credits go back. -/
theorem packetIn_forwards (hlow : (upPorts d (portDir d i)).head? = some low) (hc : creditsFor d dir (hopPacket d dir (portDir d i) p) = true) :
    let y := packetIn d i res p
    (y.port q).txSeq = (d.port q).txSeq + 1 ∧ ∃ f, f.packet = hopPacket d dir (portDir d i) p ∧ f.header = packetHeader (hopPacket d dir (portDir d i) p) ∧
      y.wire = d.wire ++ [.packet q f, .credit low { cls := p.cls, dl := p.dl, units := packetUnits p }] := by
  rw [packetIn_hop hdst hhop, sendHop_port _ hflow]
  obtain ⟨y, f, hoffer, hpacket, hheader, hwire, hseq, hups⟩ :=
    offer_spec (q := { pkt := hopPacket d dir (portDir d i) p, holds := some (portDir d i, p.dl) }) w hq (hdir.symm ▸ hc)
  rw [hoffer, freeBuffer_some ((hups _).symm ▸ hlow)]
  exact ⟨hseq, f, hpacket, hheader, (congrArg (· ++ _) hwire).trans (List.append_assoc _ _ _)⟩

/-- Without credits it waits, and keeps its buffer. -/
theorem packetIn_waits (hc : creditsFor d dir (hopPacket d dir (portDir d i) p) = false) : let y := packetIn d i res p
    y.wire = d.wire ∧ (y.port q).queue = [{ pkt := hopPacket d dir (portDir d i) p, holds := some (portDir d i, p.dl) }] := by
  rw [packetIn_hop hdst hhop, sendHop_port _ hflow, offer_waits w hq (hdir.symm ▸ hc)]
  exact ⟨rfl, offered_queue w⟩

end

end Sys2Proof.Machine

section

open Sys2Proof.Machine

/-- Settles O47, command by command: what each does to the port is a lemma on the device, and a row of the port carries it to the
command once the stage is SYNC or READY. -/
theorem portsTrainFallAndForward : Obligations.PortsTrainFallAndForward := by
  intro s e i hi w d0 x dir0 request
  refine ⟨passes_portCommands_down hi, fun hn => ⟨fun hover => ⟨?equalise, ?align, ?ident, ?failed, ?timeout⟩, fun hover phase => ⟨?late, ?lateTimeout, ?lateIdent⟩,
    ?backoff, ?backoffIdle, fun m times => ⟨fun hst hover => ⟨?agrees, ?differs⟩, ?identIdle⟩, ?down, ?downIdle, ?resend, ?resendIdle, ?eyes, ?delay, ?delayIdle,
    fun dev dir up seq => ⟨?noticeIdle, ?notice⟩, fun cor res hup => ⟨?plain, ?credit, ?claim, ?forward, ?dropped⟩⟩⟩
  case equalise => exact fun hst => does_portRow (exec_portAttempt _) hi hn (portAttempt_equalise hover hst)
  case align => exact fun hst => does_portRow (exec_portAttempt _) hi hn (portAttempt_align hover hst)
  case ident =>
    intro hst
    obtain ⟨hport, hother, f, hpacket, hseq, hwire⟩ := portAttempt_sendsIdentity (d := d0) w hover hst
    exact does_portRow (exec_portAttempt _) hi hn ⟨congrArg AksPort.st hport, congrArg AksPort.lanesUp hport, (congrArg AksPort.attempts hport).trans rfl,
      (congrArg AksPort.since hport).trans rfl, hother, identityOf d0 i, [.packet i f], hwire, rfl, rfl, rfl, rfl, rfl, rfl, fun _ _ => ⟨f, rfl, hpacket, hseq⟩⟩
  case failed => exact fun ha => does_portRow (exec_portAttempt _) hi hn (portAttempt_failed hover ha)
  case timeout => exact passes_portRow exec_portAttemptTimeout hi (if_neg (ne_true_of_eq_false hover))
  case late => exact does_portRow (exec_portAttempt _) hi hn (portAttempt_over hover phase)
  case lateTimeout => exact does_portRow exec_portAttemptTimeout hi hn (if_pos hover)
  case lateIdent => exact fun m times => does_portRow (exec_ident m times) hi hn (identify_over hover m _)
  case backoff => exact fun hst hdue => does_portRow exec_portBackoffEnd hi hn (if_pos ⟨hst, hdue⟩)
  case backoffIdle => exact fun h => passes_portRow exec_portBackoffEnd hi (if_neg fun k => h.elim (fun hst => hst k.1) fun hdue => ne_true_of_eq_false hdue k.2)
  case agrees =>
    intro hok hoff
    obtain ⟨hport, hstrips, hmem⟩ := identify_agrees (d := d0) w hst hover hn hok hoff (delayOf times.t1 times.t2 times.t3 times.t4)
    refine does_portRow (exec_ident m times) hi hn ?_
    exact ⟨congrArg AksPort.st hport.1, congrArg AksPort.lanesUp hport.1, congrArg AksPort.attempts hport.1, congrArg AksPort.delay hport.1,
      congrArg AksPort.exchangeAge hport.1, congrArg AksPort.partnerDev hport.1, congrArg AksPort.partnerPort hport.1, hstrips, hmem⟩
  case differs => exact fun hok => does_portRow (exec_ident m times) hi hn (identify_differs (d := d0) w hst hover hok _)
  case identIdle => exact fun ha => passes_portRow (exec_ident m times) hi (identify_idle (d := d0) ha m _)
  case down =>
    intro lost hup h
    obtain ⟨fell, hport⟩ := leaveUp_fallen (i := i) (d := d0) w
    exact does_portRow_eq (exec_portDown lost) hi hn (if_pos ⟨hup, h⟩) ⟨congrArg AksPort.st hport, congrArg AksPort.lanesUp hport, congrArg AksPort.retrains hport,
      congrArg AksPort.fell hport, congrArg AksPort.retry hport, congrArg AksPort.queue hport⟩
  case downIdle =>
    intro lost h
    refine passes_portRow (exec_portDown lost) hi (if_neg fun ⟨hup, k⟩ => ?_)
    obtain ⟨hlost, hresent⟩ := h.resolve_left (not_not_intro hup)
    exact k.elim (ne_true_of_eq_false hlost) (Nat.not_lt.2 hresent)
  case resend =>
    intro before_ seq p rest hup hretry hfirst
    obtain ⟨hwire, hport, hcount⟩ := retransmit_spec (d := d0) w hretry hfirst
    exact does_portRow_eq (exec_linkFrameRetransmit seq) hi hn (if_pos hup) ⟨hwire, congrArg AksPort.resent hport, (congrArg AksPort.retry hport).trans rfl, hcount⟩
  case resendIdle =>
    intro seq h
    refine passes_portRow (exec_linkFrameRetransmit seq) hi ?_
    split
    · next hup => exact retransmit_missing (h.resolve_left (not_not_intro hup))
    · rfl
  case eyes =>
    intro eyes hup hne
    have hkeeps := eyesNoted_keeps (d := d0) (i := i) eyes
    have hports := congrArg Aksia.ports hkeeps.aksia
    exact does_portRow_eq (exec_eyeMeasurement eyes) hi hn (if_pos ⟨hup, hne⟩)
      ⟨(port_congr hports i).trans (Dev.port_setPort_self w _), fun j hj => (port_congr hports j).trans (Dev.port_setPort_other (d := d0) w hj _),
        (congrArg Dev.wire hkeeps).trans rfl⟩
  case delay =>
    intro t1 t2 t3 t4 hup hage
    have hport := delayNoted_port (d := d0) w (delayOf t1 t2 t3 t4) hup
    have hother := fun j => delayNoted_port_other (d := d0) (i := i) w (delayOf t1 t2 t3 t4) (j := j)
    have hsends := delayNoted_sends (d := d0) (i := i) w (delayOf t1 t2 t3 t4)
    have hwaits := delayNoted_waits (d := d0) (i := i) w (delayOf t1 t2 t3 t4)
    have hrow : (if (d0.port i).st = .up ∧ 1024 ≤ (d0.port i).exchangeAge then delayNoted d0 i (delayOf t1 t2 t3 t4) else d0) = _ := if_pos ⟨hup, hage⟩
    exact does_portRow_eq (exec_delayExchange t1 t2 t3 t4) hi hn hrow
      ⟨congrArg AksPort.delay hport.1, congrArg AksPort.exchangeAge hport.1, hport.st.trans hup, hother, hsends, hwaits⟩
  case delayIdle =>
    exact fun t1 t2 t3 t4 h => passes_portRow (exec_delayExchange t1 t2 t3 t4) hi
      (if_neg fun k => h.elim (fun hst => hst k.1) fun hage => Nat.not_le.2 hage k.2)
  case noticeIdle =>
    intro h
    refine passes_portRow (exec_linkState dev dir up seq) hi ?_
    split
    · next k => exact noticeIn_old ((h.resolve_left (not_not_intro k.1)).resolve_left (Nat.not_le.2 k.2))
    · rfl
  case notice =>
    intro hup hdir hdev hseq
    obtain ⟨hseen, hold, hnew⟩ := noticeIn_spec (d := d0) (dir := dir) (up := up) w hdev hseq
    refine does_portRow_eq (exec_linkState dev dir up seq) hi hn (if_pos ⟨hup, hdir⟩) ⟨hseen, fun h => hold ?_, fun h => ?_⟩
    · exact eq_false_of_ne_true fun k => h ((noticeNewer_iff (d := d0)).1 k)
    · obtain ⟨hmap, hlast⟩ := hnew ((noticeNewer_iff (d := d0)).2 h)
      rw [hmap]
      exact ⟨mem_mapAfter_self _ _, fun l hl => mem_mapAfter_other hl, hlast⟩
  case plain => exact does_portRow (exec_packetReceived cor _) hi hn (if_pos hup)
  case credit =>
    intro c hused hidle
    have hy := linkFrameIn_credit (d := d0) (i := i) (cor := cor) (res := res) w c hidle
    exact does_portRow_eq (exec_packetReceived cor _) hi hn ((if_pos hup).trans hy) ⟨tabGet_tabSet_self_wf hused, rfl⟩
  case claim =>
    intro p pr uid hops dev low hdst hkind hlow
    have hy := packetIn_claim (d := fecCounted d0 i cor) (i := i) (res := res) hdst hkind ((congrArg List.head? (upPorts_fecCounted (d := d0) w dir0)).trans hlow)
    exact does_portRow_eq (exec_packetReceived cor _) hi hn ((if_pos hup).trans hy) ⟨rfl, congrArg AksPort.fecCorrected (Dev.port_setPort_self (d := d0) w _), rfl⟩
  case forward =>
    intro p dir q low hdst hhop hflow hlow hq p' c
    have w1 : tabWf {} (fecCounted d0 i cor).aksia.ports = true := fecCounted_wf w
    have hflow1 := (flowPort_fecCounted (d := d0) (i := i) (cor := cor) w dir p).trans hflow
    have hlow1 := (congrArg List.head? (upPorts_fecCounted (d := d0) (i := i) (cor := cor) w dir0)).trans hlow
    have hq1 := (fecCounted_queue (d := d0) (i := i) (cor := cor) w q).trans hq
    refine ⟨fun hc hdir => ?_, fun hc hdir => ?_⟩
    · obtain ⟨hseq, hframe⟩ := packetIn_forwards (d := fecCounted d0 i cor) (i := i) (res := res) w1 hdst hhop hflow1 hq1 hdir hlow1 hc
      exact does_portRow_eq (exec_packetReceived cor _) hi hn (if_pos hup) ⟨hseq.trans (congrArg (· + 1) (fecCounted_txSeq (d := d0) w q)), hframe⟩
    · exact does_portRow_eq (exec_packetReceived cor _) hi hn (if_pos hup) (packetIn_waits (d := fecCounted d0 i cor) (i := i) (res := res) w1 hdst hhop hflow1 hq1 hdir hc)
  case dropped =>
    intro p dir hdst hhop hflow
    have hflow1 := (flowPort_fecCounted (d := d0) (i := i) (cor := cor) w dir p).trans hflow
    have hy := packetIn_hop (d := fecCounted d0 i cor) (i := i) (res := res) hdst hhop
    exact does_portRow_eq (exec_packetReceived cor _) hi hn ((if_pos hup).trans hy) (sendHop_down _ _ hflow1)

end

/-! The Ethernet ports while a graticule moves and held partitions start (02 R46 to R55; 17 R643): only the history of octets moves,
with the ticks of an edge (11 R456). -/

namespace Sys2Proof.Machine

section

variable {d x y : Dev}

/-! ## Strips and rolling writes -/

theorem RaiseKeeps.eth (h : RaiseKeeps d x) : x.eth = d.eth := by rw [h]

theorem closeStrip_eth (s : Nat) : (closeStrip d s).eth = d.eth := by
  unfold closeStrip
  dsimp only
  split <;> rfl

theorem rollPut_eth (p key : Nat) (v : Bytes) : (rollPut d p key v).eth = d.eth := by
  unfold rollPut
  dsimp only
  split
  · rfl
  split
  · rfl
  split
  · split
    · split <;> rfl
    · split
      · exact closeStrip_eth _
      · rfl
  · rfl

theorem txnEvent_eth (code idx sub : Nat) (data : Bytes) : (txnEvent d code idx sub data).eth = d.eth :=
  ((keeps_pushEvent _ _).trans (keeps_eventsLost _)).eth

theorem endTxn_eth (r : Nat) (st : TxnState) : (endTxn d r st).eth = d.eth := by
  unfold endTxn
  refine (txnEvent_eth _ _ _ _).trans ?_
  split <;> rfl

theorem settleTxn_eth (r : Nat) : (settleTxn d r).eth = d.eth := by
  unfold settleTxn
  dsimp only
  split
  · exact endTxn_eth _ _
  · split
    · exact endTxn_eth _ _
    · rfl

theorem applyTxn_eth (r p : Nat) : (applyTxn d r p).eth = d.eth :=
  (settleTxn_eth r).trans (foldl_eth _ (fun _ _ => rollPut_eth _ _ _) _)

theorem revertTxn_eth (r p : Nat) : (revertTxn d r p).eth = d.eth := foldl_eth _ (fun _ _ => rollPut_eth _ _ _) _

theorem chainReverts_eth (r fuel : Nat) : (chainReverts d r fuel).eth = d.eth := by
  induction fuel generalizing d with
  | zero => exact settleTxn_eth r
  | succ n ih =>
    unfold chainReverts
    dsimp only
    split
    · split
      · exact ih.trans (revertTxn_eth _ _)
      · exact settleTxn_eth r
    · exact settleTxn_eth r

theorem rollsDue_eth (p : Nat) (o : Option Stamp) : (rollsDue d p o).eth = d.eth := by
  refine foldl_eth _ (fun a r => ?_) _
  dsimp only
  split
  · exact applyTxn_eth _ _
  · split
    · split
      · split
        · exact (chainReverts_eth _ _).trans (revertTxn_eth _ _)
        · rfl
      · exact chainReverts_eth _ _
    · rfl

/-! ## Partitions started -/

theorem syncStrips_eth (p : Nat) : (syncStrips d p).eth = d.eth := by
  refine foldl_eth _ (fun a k => ?_) _
  dsimp only
  split
  · split <;> rfl
  · split <;> rfl

theorem enterState_eth (p : Nat) (st : PartState) : (enterState d p st).eth = d.eth := by
  have hsync : (syncStrips (updPart d p fun x => { x with st := st }) p).eth = d.eth := syncStrips_eth p
  unfold enterState
  dsimp only
  split
  · exact hsync
  · exact (rollsDue_eth _ _).trans hsync

theorem zeroPage_eth (page : Nat) : (zeroPage d page).eth = d.eth := (pageWorkKeeps_dropStackInj _).eth

theorem writeStack_eth (a : Nat) (bs : Bytes) : (writeStack d a bs).eth = d.eth :=
  (pageWorkKeeps_dropStackInj _).eth.trans (pageWorkKeeps_checkStackWords _).eth

theorem writeSpan_eth (pages : List Nat) (off : Nat) (bs : Bytes) : (writeSpan d pages off bs).eth = d.eth := by
  refine foldl_eth _ (fun a piece => ?_) _
  split
  · rfl
  · exact writeStack_eth _ _

theorem beginLoad_eth (p : Nat) (cs : List Bytes) (st : PartState) : (beginLoad d p cs st).eth = d.eth := by
  refine (enterState_eth _ _).trans ?_
  refine (foldl_eth _ (fun _ _ => writeSpan_eth _ _ _) _).trans ?_
  refine (foldl_eth _ (fun _ _ => zeroPage_eth _) _).trans ?_
  exact foldl_eth _ (fun _ _ => zeroPage_eth _) _

theorem startRun_eth (p : Nat) : (startRun d p).eth = d.eth := by
  unfold startRun
  split
  · exact beginLoad_eth _ _ _
  · unfold setPartRun
    split <;> rfl

/-- A held RUN that takes effect starts its partition, and no port. -/
theorem runHeld_eth (p : Nat) : (runHeld d p).eth = d.eth := by
  unfold runHeld
  split
  · rfl
  · show (putRun d p true).eth = d.eth
    unfold putRun
    dsimp only
    rw [if_neg (by decide)]
    split
    · exact startRun_eth _
    · rfl

theorem readyIfLocked_eth (us : Nat) : (readyIfLocked us d).eth = d.eth := by
  unfold readyIfLocked
  split
  · exact foldl_eth _ (fun _ _ => runHeld_eth _) _
  · rfl

end

end Sys2Proof.Machine

/-! Sources lost and PTP states entered: what the graticule's moves leave of the Ethernet ports and of its clock (02 R46 to R53; 10 R440;
11 R462, R465). -/

namespace Sys2Proof.Machine

section

variable {d x y : Dev} {src : Source}

/-! ## The Ethernet ports -/

/-- Of the Ethernet ports nothing but the management port's history of octets moves. -/
def EthKeeps (d x : Dev) : Prop := x.eth = { d.eth with mgmt := { d.eth.mgmt with history := x.eth.mgmt.history } }

theorem EthKeeps.of_eq (h : x.eth = d.eth) : EthKeeps d x := by
  unfold EthKeeps
  rw [h]

theorem EthKeeps.refl : EthKeeps d d := .of_eq rfl

theorem EthKeeps.trans (a : EthKeeps d x) (b : EthKeeps x y) : EthKeeps d y := by
  unfold EthKeeps at *
  rw [b, a]

theorem EthKeeps.ptp (h : EthKeeps d x) : x.eth.ptp = d.eth.ptp := by rw [h]

theorem EthKeeps.ethPort (h : EthKeeps d x) (n : Nat) : x.ethPort n = d.ethPort n := by
  unfold Dev.ethPort
  rw [h]

theorem GratMoveKeeps.ethKeeps (h : GratMoveKeeps d x) : EthKeeps d x := .of_eq (by rw [h])

theorem DeviceRaiseKeeps.ethKeeps (h : DeviceRaiseKeeps d x) : EthKeeps d x := h.gratMove.ethKeeps

/-- An edge pushes the history of octets. -/
theorem ethKeeps_edgeWork (n : Nat) : EthKeeps d (edgeWork d n) := by
  unfold EthKeeps
  rw [edgeWork_keeps_start n, edgeStart_eq]
  rfl

theorem ethKeeps_loseSource : EthKeeps d (loseSource d src) :=
  loseSource_keeps (P := EthKeeps d) (fun hm h => h.trans hm.ethKeeps) (fun n h => h.trans (ethKeeps_edgeWork n)) .refl

/-! ## A source dropped -/

/-- The graticule with its re-alignment abandoned, out of a dwell (02 R49). -/
def abandoned (d : Dev) : Dev := (breakDwell d).updGrat fun g => { g with slew := 0, stepTo := none, realignDue := false }

/-- The source dropped, another is taken or none. -/
theorem dropSource_cases : dropSource d src = enterHoldover (abandoned d) ∨ ∃ next, dropSource d src = realign (abandoned d) next := by
  unfold dropSource
  extract_lets y
  split
  · exact .inr ⟨_, rfl⟩
  · exact .inl rfl

/-- Outside a dwell no edge is held. -/
theorem breakDwell_of_not_dwell (h : d.grat.state ≠ .dwell) : breakDwell d = d := if_neg h

theorem gratMoveKeeps_dropSource (h : d.grat.state ≠ .dwell) : GratMoveKeeps d (dropSource d src) := by
  have ha : GratMoveKeeps d (abandoned d) := by
    unfold abandoned
    rw [breakDwell_of_not_dwell h]
    exact gratMoveKeeps_updGrat _
  obtain hd | ⟨next, hd⟩ := dropSource_cases (d := d) (src := src)
  · rw [hd]
    exact ha.trans gratMoveKeeps_enterHoldover
  · rw [hd]
    exact ha.trans gratMoveKeeps_realign

theorem ethKeeps_dropSource : EthKeeps d (dropSource d src) := by
  have hb : EthKeeps d (breakDwell d) := by
    unfold breakDwell
    split
    · exact (gratMoveKeeps_updGrat _).ethKeeps.trans (ethKeeps_edgeWork 1)
    · exact .refl
  have ha : EthKeeps d (abandoned d) := hb.trans (gratMoveKeeps_updGrat _).ethKeeps
  obtain hd | ⟨next, hd⟩ := dropSource_cases (d := d) (src := src)
  · rw [hd]
    exact ha.trans gratMoveKeeps_enterHoldover.ethKeeps
  · rw [hd]
    exact ha.trans gratMoveKeeps_realign.ethKeeps

/-- A change of the graticule that leaves its clock. -/
def ClockStays (f : Grat → Grat) : Prop := ∀ g, (f g).clock = g.clock ∧ (f g).e = g.e

theorem clockStays_id : ClockStays id := fun _ => ⟨rfl, rfl⟩

theorem clockStays_setRun (r : SourceRun) : ClockStays fun g => setRun g src r := fun g => by cases src <;> exact ⟨rfl, rfl⟩

theorem setRun_state (g : Grat) (r : SourceRun) : (setRun g src r).state = g.state := by cases src <;> rfl

/-- The graticule whose source has lost its run. -/
def withoutRun (d : Dev) (src : Source) : Dev := d.updGrat fun g => setRun g src {}

/-- A source lost ends its run, a return to FREE or a step given up with it, or is dropped (02 R46, R48). -/
theorem loseSource_cases :
    (∃ f, loseSource d src = (withoutRun d src).updGrat f ∧ ClockStays f) ∨ loseSource d src = dropSource (withoutRun d src) src := by
  have hstep (z : Dev) : ∃ f, (if z.grat.stepTo = some src then z.updGrat fun g => { g with stepTo := none } else z) = z.updGrat f ∧ ClockStays f := by
    split
    · exact ⟨_, rfl, fun _ => ⟨rfl, rfl⟩⟩
    · exact ⟨id, rfl, clockStays_id⟩
  unfold loseSource
  extract_lets y
  split
  · split
    · exact .inl ⟨id, rfl, clockStays_id⟩
    · exact .inl ⟨_, rfl, fun _ => ⟨rfl, rfl⟩⟩
  · split
    · exact .inr rfl
    · exact .inl (hstep y)
  · split
    · exact .inr rfl
    · exact .inl (hstep y)
  · exact .inl (hstep y)

/-- Outside a dwell the loss of a source works no edge. -/
theorem gratMoveKeeps_loseSource (h : d.grat.state ≠ .dwell) : GratMoveKeeps d (loseSource d src) := by
  have hrun : GratMoveKeeps d (withoutRun d src) := gratMoveKeeps_updGrat _
  obtain ⟨f, hf, -⟩ | hd := loseSource_cases (d := d) (src := src)
  · rw [hf]
    exact hrun.trans (gratMoveKeeps_updGrat f)
  · rw [hd]
    exact hrun.trans (gratMoveKeeps_dropSource fun k => h ((setRun_state d.grat {}).symm.trans k))

/-! ## The graticule clock (10 R440) -/

/-- The clock runs on when the count of cycles is set. -/
theorem setE_clock (g : Grat) (e : Nat) : (g.setE e).clock + e * 256 = g.clock + g.e * 256 := by
  simp only [Grat.setE]
  ring

theorem clockNow_congr (h : x.grat = d.grat) : clockNow x = clockNow d := by
  unfold clockNow
  rw [h]

theorem clockNow_updGrat {f : Grat → Grat} (h : ClockStays f) : clockNow (d.updGrat f) = clockNow d :=
  congrArg₂ (fun (c : Int) (e : Nat) => c + e * 256) (h d.grat).1 (h d.grat).2

theorem DeviceRaiseKeeps.clockNow_eq (h : DeviceRaiseKeeps d x) : clockNow x = clockNow d := clockNow_congr (by rw [h])

theorem clockNow_enterLocked : clockNow (enterLocked d src) = clockNow d := by
  unfold enterLocked
  refine (DeviceRaiseKeeps.clockNow_eq (deviceRaiseKeeps_foldl _ (fun a n => ?_) _)).trans (setE_clock d.grat _)
  split
  · exact deviceRaiseKeeps_setCause _ _
  · exact .refl

theorem clockNow_enterDwell (δ : Int) : clockNow (enterDwell d src δ) = clockNow d :=
  (deviceRaiseKeeps_raiseGrat_setCause _ _ _).clockNow_eq.trans (setE_clock d.grat 0)

theorem clockNow_realign : clockNow (realign d src) = clockNow d := by
  unfold realign
  dsimp only
  split
  · split
    · rfl
    · exact clockNow_enterDwell _
  · split
    · rfl
    · exact clockNow_enterLocked

theorem clockNow_enterHoldover : clockNow (enterHoldover d) = clockNow d := (deviceRaiseKeeps_raiseGrat_setCause _ _ _).clockNow_eq

theorem clockNow_breakDwell : clockNow (breakDwell d) = clockNow d := by
  unfold breakDwell
  split
  · unfold clockNow
    rw [edgeWork_grat]
    exact setE_clock d.grat 0
  · rfl

theorem clockNow_dropSource : clockNow (dropSource d src) = clockNow d := by
  have ha : clockNow (abandoned d) = clockNow d := clockNow_breakDwell (d := d)
  obtain hd | ⟨next, hd⟩ := dropSource_cases (d := d) (src := src)
  · rw [hd]
    exact clockNow_enterHoldover.trans ha
  · rw [hd]
    exact clockNow_realign.trans ha

/-- No loss of a source disturbs the clock. -/
theorem clockNow_loseSource : clockNow (loseSource d src) = clockNow d := by
  have hrun : clockNow (withoutRun d src) = clockNow d := clockNow_updGrat (clockStays_setRun {})
  obtain ⟨f, hf, hclock⟩ | hd := loseSource_cases (d := d) (src := src)
  · rw [hf]
    exact (clockNow_updGrat hclock).trans hrun
  · rw [hd]
    exact clockNow_dropSource.trans hrun

/-! ## PTP states (11 R462, R465) -/

/-- PTP in another state: the counts begin anew, and outside UNCALIBRATED and SLAVE there is no master (Table 11.2). -/
def enteredPtp (p : Ptp) (st : PtpState) : Ptp :=
  { p with
    st := st
    good := 0
    bad := 0
    sync := if st = .listening ∨ st = .disabled then none else p.sync
    master := if st = .listening ∨ st = .disabled then none else p.master
    stepped := p.stepped && decide (st ≠ .listening) && decide (st ≠ .disabled) }

/-- The device whose PTP has entered a state, the source not yet lost. -/
def ptpIn (d : Dev) (st : PtpState) : Dev := updPtp d fun p => enteredPtp p st

variable {st : PtpState}

/-- A state entered raises or clears the cause, and leaving SLAVE loses the PTP source. -/
theorem ptpEnter_cases : ∃ z, DeviceRaiseKeeps (ptpIn d st) z ∧ (ptpEnter d st = z ∨ ptpEnter d st = loseSource z .ptp) := by
  unfold ptpEnter
  extract_lets old port y
  split
  · exact ⟨_, (deviceRaiseKeeps_raiseDev _ _ _).trans (deviceRaiseKeeps_setCause _ _), .inr rfl⟩
  · split
    · exact ⟨_, deviceRaiseKeeps_setCause _ _, .inl rfl⟩
    · exact ⟨_, .refl, .inl rfl⟩

theorem ethKeeps_ptpEnter : EthKeeps (ptpIn d st) (ptpEnter d st) := by
  obtain ⟨z, hz, h | h⟩ := ptpEnter_cases (d := d) (st := st)
  · rw [h]
    exact hz.ethKeeps
  · rw [h]
    exact hz.ethKeeps.trans ethKeeps_loseSource

theorem ptpEnter_ptp : (ptpEnter d st).eth.ptp = enteredPtp d.eth.ptp st := ethKeeps_ptpEnter.ptp

theorem ptpEnter_ethPort (n : Nat) : (ptpEnter d st).ethPort n = d.ethPort n := ethKeeps_ptpEnter.ethPort n

/-- Outside a dwell a state entered works no edge. -/
theorem gratMoveKeeps_ptpEnter (h : d.grat.state ≠ .dwell) : GratMoveKeeps (ptpIn d st) (ptpEnter d st) := by
  obtain ⟨z, hz, he | he⟩ := ptpEnter_cases (d := d) (st := st)
  · rw [he]
    exact hz.gratMove
  · rw [he]
    refine hz.gratMove.trans (gratMoveKeeps_loseSource ?_)
    rw [hz]
    exact h

theorem ptpEnter_mgmt : (ptpEnter d st).eth.mgmt = { d.eth.mgmt with history := (ptpEnter d st).eth.mgmt.history } := congrArg Eth.mgmt ethKeeps_ptpEnter

theorem ptpEnter_wire (h : d.grat.state ≠ .dwell) : (ptpEnter d st).wire = d.wire := by
  rw [gratMoveKeeps_ptpEnter h]
  rfl

theorem ptpEnter_strips : (ptpEnter d st).strips = d.strips := by
  obtain ⟨z, hz, h | h⟩ := ptpEnter_cases (d := d) (st := st)
  · rw [h, hz]
    rfl
  · rw [h]
    refine loseSource_keeps (P := fun x => x.strips = d.strips) (fun hm hs => ?_) (fun n hs => (edgeWork_strips n).trans hs) ?_
    · rw [hm]
      exact hs
    · rw [hz]
      rfl

theorem clockNow_ptpEnter : clockNow (ptpEnter d st) = clockNow d := by
  obtain ⟨z, hz, h | h⟩ := ptpEnter_cases (d := d) (st := st)
  · rw [h]
    exact hz.clockNow_eq
  · rw [h]
    exact clockNow_loseSource.trans hz.clockNow_eq

/-- An edge worked at the loss may clear WAKE_AT, and no other entry. -/
theorem legVal_ptpEnter {idx sub : Nat} (w : tabWf none d.legend = true) (hk : legKey idx sub ≠ legKey 0x8800 0x12) :
    legVal (ptpEnter d st) idx sub = legVal d idx sub := by
  obtain ⟨z, hz, h | h⟩ := ptpEnter_cases (d := d) (st := st)
  · rw [h]
    exact legVal_congr hz.legend _ _
  · rw [h]
    refine (loseSource_keeps (P := fun x => tabWf none x.legend = true ∧ legVal x idx sub = legVal d idx sub) (fun hm hx => ?_) (fun n hx => ?_) ?_).2
    · rw [hm.legend, legVal_congr hm.legend]
      exact hx
    · obtain ⟨hwf, hval⟩ := legVal_edgeWork hx.1 hk n
      exact ⟨hwf, hval.trans hx.2⟩
    · rw [hz.legend, legVal_congr hz.legend]
      exact ⟨w, rfl⟩

end

end Sys2Proof.Machine

/-! The rows of an Ethernet port, and a frame that leaves one (11 R448, R456, R459). -/

namespace Sys2Proof.Machine

section

variable {s : State} {d x y : Dev} {e n : Nat} {c : Instr} {f : Dev → Dev} {P : Dev → Prop}

/-! ## Rows -/

/-- Before firmware runs a row of a port lets its moment pass. -/
theorem passes_ethRow_down (hx : exec c s = ethRow e n s f) (hn : n < 3) (h : firmwareUp s.dev = false) : Passes c s e := by
  refine does_onUnit (d := if firmwareUp (s.dev.at e) then f (s.dev.at e) else s.dev.at e) ?_ (if_neg (ne_true_of_eq_false h))
  rw [hx, ethRow, decide_eq_true hn]

theorem does_ethRow (hx : exec c s = ethRow e n s f) (hn : n < 3) (hup : firmwareUp s.dev = true) (hy : f (s.dev.at e) = y) (h : P y) : Does c s P := by
  refine does_onUnit (d := if firmwareUp (s.dev.at e) then f (s.dev.at e) else s.dev.at e) ?_ ?_
  · rw [hx, ethRow, decide_eq_true hn]
  · rw [if_pos (show firmwareUp (s.dev.at e) = true from hup), hy]
    exact h

theorem passes_ethRow (hx : exec c s = ethRow e n s f) (hn : n < 3) (hf : f (s.dev.at e) = s.dev.at e) : Passes c s e := by
  cases hup : firmwareUp s.dev
  · exact passes_ethRow_down hx hn hup
  · exact does_ethRow hx hn hup hf rfl

/-- A row that dormant has off is that of a port, which passes asleep. -/
theorem does_awakeRow (hx : exec c s = awakeRow e n s f) (hn : n < 3) (hup : firmwareUp s.dev = true) (ha : ethAsleep s.dev = false)
    (hy : f (s.dev.at e) = y) (h : P y) : Does c s P :=
  does_ethRow hx hn hup ((if_neg (ne_true_of_eq_false ha)).trans hy) h

theorem passes_awakeRow_asleep (hx : exec c s = awakeRow e n s f) (hn : n < 3) (ha : ethAsleep s.dev = true) : Passes c s e :=
  passes_ethRow hx hn (if_pos ha)

theorem passes_awakeRow_down (hx : exec c s = awakeRow e n s f) (hn : n < 3) (h : firmwareUp s.dev = false) : Passes c s e := passes_ethRow_down hx hn h

theorem passes_awakeRow (hx : exec c s = awakeRow e n s f) (hn : n < 3) (hf : f (s.dev.at e) = s.dev.at e) : Passes c s e := by
  cases ha : ethAsleep s.dev
  · exact passes_ethRow hx hn ((if_neg (ne_true_of_eq_false ha)).trans hf)
  · exact passes_awakeRow_asleep hx hn ha

/-! ## Ports changed -/

theorem updEth_eq (g : EthPort → EthPort) : updEth d n g = { d with eth := (updEth d n g).eth } := Dev.setEthPort_eq _

theorem updEth_ethPort (g : EthPort → EthPort) : (updEth d n g).ethPort n = g (d.ethPort n) := Dev.ethPort_setEthPort_self _

/-- A port changed is neither PTP nor the PHY. -/
theorem updEth_ptp (g : EthPort → EthPort) : (updEth d n g).eth.ptp = d.eth.ptp := by
  unfold updEth Dev.setEthPort
  split
  · rfl
  · split <;> rfl

theorem updEth_mgmt (g : EthPort → EthPort) : (updEth d n g).eth.mgmt = d.eth.mgmt := by
  unfold updEth Dev.setEthPort
  split
  · rfl
  · split <;> rfl

/-! ## Octets counted and frames sent -/

/-- The octets of a frame are counted in the history of the management port alone (R456). -/
theorem countMgmt_eq (b : Nat) : countMgmt d n b = { d with eth := { d.eth with mgmt := { d.eth.mgmt with history := (countMgmt d n b).eth.mgmt.history } } } := by
  unfold countMgmt
  split <;> rfl

theorem ethKeeps_countMgmt (b : Nat) : EthKeeps d (countMgmt d n b) := by
  unfold EthKeeps
  rw [countMgmt_eq]

/-- What a frame that leaves may touch. -/
theorem ethEmit_eq (frame : Bytes) : ethEmit d n frame = { d with eth := (ethEmit d n frame).eth, wire := d.wire ++ [.eth n frame] } := by
  unfold ethEmit
  rw [countMgmt_eq, updEth_eq]
  rfl

/-- The port counts a frame that leaves. -/
theorem ethEmit_ethPort (frame : Bytes) : (ethEmit d n frame).ethPort n = { d.ethPort n with txFrames := (d.ethPort n).txFrames + 1 } :=
  ((ethKeeps_countMgmt (d := updEth d n fun x => { x with txFrames := x.txFrames + 1 }) (n := n) frame.length).ethPort n).trans (updEth_ethPort _)

theorem ethEmit_ptp (frame : Bytes) : (ethEmit d n frame).eth.ptp = d.eth.ptp :=
  (ethKeeps_countMgmt (d := updEth d n fun x => { x with txFrames := x.txFrames + 1 }) (n := n) frame.length).ptp.trans (updEth_ptp _)

theorem ethSend_up (h : (d.ethPort n).link = true) (frame : Bytes) : ethSend d n frame = ethEmit d n frame := if_pos h

end

end Sys2Proof.Machine

/-! The PTP slave's commands (11 R462 to R465, Table 11.2; 02 R36). -/

namespace Sys2Proof.Machine

section

variable {s : State} {d x y : Dev} {e n : Nat} {src : Source} {P : Dev → Prop}

/-! ## The rows of the commands -/

theorem exec_announce (a : AnnounceMsg) : exec (.announce e a) s = execAnnounce e a s := rfl

theorem exec_sync (port : Nat) (m : SyncFrom) (t1 t2 : Int) : exec (.sync e port m t1 t2) s = execSync e port m t1 t2 s := rfl

theorem exec_delayResp (t3 t4 : Int) : exec (.delayResp e t3 t4) s = execDelayResp e t3 t4 s := rfl

theorem exec_ptpTimeout : exec (.ptpTimeout e) s = execPtpTimeout e s := rfl

theorem exec_ptpEpochOffset (v : BitVec 64) : exec (.ptpEpochOffset e v) s =
    .next (s.withDev (bumpChange (setEpoch (s.dev.at e) (be 8 v.toNat)) (legKey 0x2000 0x10))) := rfl

/-! ## PTP time delivered -/

theorem ethKeeps_driftIfDue : EthKeeps d (driftIfDue d) := by
  unfold driftIfDue
  split
  · exact ((gratMoveKeeps_updGrat _).trans (deviceRaiseKeeps_raiseGrat_setCause _ _ _).gratMove).ethKeeps
  · exact .refl

theorem ethKeeps_firstLock (stamp : Stamp) (phase : Nat) : EthKeeps d (firstLock d src stamp phase) := by
  unfold firstLock
  extract_lets shift t
  exact (gratMoveKeeps_updGrat _).ethKeeps.trans gratMoveKeeps_enterLocked.ethKeeps

theorem ethKeeps_checkSequence (t : TickNo) : EthKeeps d (checkSequence d src t) := by
  unfold checkSequence
  extract_lets g want d1 d2
  have h1 : EthKeeps d d1 := .of_eq rfl
  split
  · exact .of_eq rfl
  · split
    · exact .of_eq rfl
    · have hdrop : EthKeeps d1 d2 := (gratMoveKeeps_updGrat _).ethKeeps.trans ethKeeps_dropSource
      exact (h1.trans hdrop).trans (deviceRaiseKeeps_raiseGrat_setCause _ _ _).ethKeeps

theorem ethKeeps_followedTick (t : TickNo) : EthKeeps d (followedTick d src t) := by
  unfold followedTick
  split
  · exact .of_eq rfl
  · split
    · exact ((gratMoveKeeps_updGrat _).trans gratMoveKeeps_realign).ethKeeps
    · exact ethKeeps_checkSequence t

theorem ethKeeps_deliverTick (stamp : Stamp) (phase : Nat) : EthKeeps d (deliverTick d src stamp phase) := by
  unfold deliverTick
  extract_lets d1 d2 take
  have h2 : EthKeeps d d2 := ethKeeps_driftIfDue.trans (gratMoveKeeps_updGrat _).ethKeeps
  split
  · exact h2.trans (gratMoveKeeps_updGrat _).ethKeeps
  · split
    · exact h2.trans (ethKeeps_firstLock _ _)
    · exact h2
  · split
    · exact h2.trans gratMoveKeeps_realign.ethKeeps
    · exact h2
  · split
    · exact h2.trans gratMoveKeeps_realign.ethKeeps
    · exact h2
  all_goals
    split
    · exact h2.trans (ethKeeps_followedTick _)
    · split
      · split
        · exact h2.trans (ethKeeps_firstLock _ _)
        · exact h2.trans gratMoveKeeps_realign.ethKeeps
      · exact h2

theorem ethKeeps_deliverPtp (ns : Int) : EthKeeps d (deliverPtp d ns) := by
  unfold deliverPtp
  extract_lets stamp t r k d1
  split
  · exact .of_eq rfl
  · have h1 : EthKeeps d d1 := by
      show EthKeeps d (if _ then _ else d)
      split
      · exact (gratMoveKeeps_updGrat _).ethKeeps
      · exact .refl
    exact (h1.trans (ethKeeps_deliverTick _ _)).trans (.of_eq (readyIfLocked_eth _))

/-! ## Measurements (R464) -/

/-- A measurement taken into PTP. -/
def notedPtp (p : Ptp) (offset delay : Int) : Ptp := { p with offsetNs := offset, meanDelayNs := delay, sync := none }

/-- An offset that counts for SLAVE or against it (Table 11.2). -/
def judgedPtp (p : Ptp) (offset : Int) : Ptp :=
  match p.st with
  | .uncalibrated =>
    if 1000 < offset.natAbs then { p with good := 0 }
    else if p.good + 1 < 16 then { p with good := p.good + 1 }
    else enteredPtp p .slave
  | .slave =>
    if offset.natAbs ≤ 10000 then { p with bad := 0 }
    else if p.bad + 1 < 4 then { p with bad := p.bad + 1 }
    else enteredPtp p .uncalibrated
  | _ => p

/-- A measurement is the first since UNCALIBRATED was entered from LISTENING. -/
def firstMeasured (p : Ptp) : Prop := p.st = .uncalibrated ∧ p.stepped = false

/-- The first measurement steps the time and moves no source. -/
theorem measured_first (h : firstMeasured d.eth.ptp) (offset delay ns : Int) :
    measured d offset delay ns = updPtp d fun p => { notedPtp p offset delay with stepped := true } := by
  unfold measured
  exact if_pos ⟨h.1, ne_true_of_eq_false h.2⟩

theorem measured_later (h : ¬ firstMeasured d.eth.ptp) (offset delay ns : Int) :
    (measured d offset delay ns).eth.ptp = judgedPtp (notedPtp d.eth.ptp offset delay) offset := by
  unfold measured
  extract_lets d1 p d2
  have hp : p = notedPtp d.eth.ptp offset delay := rfl
  rw [if_neg fun k => h ⟨k.1, eq_false_of_ne_true k.2⟩]
  have h2 : d2.eth.ptp = judgedPtp p offset := by
    unfold judgedPtp
    split
    case h_1 hs | h_2 hs =>
      conv_lhs => simp only [d2, hs]
      split
      · rfl
      · split
        · rfl
        · exact ptpEnter_ptp
    case h_3 =>
      simp only [d2]
      rfl
  rw [← hp, ← h2]
  split
  · exact (ethKeeps_deliverPtp ns).ptp
  · rfl

section

variable {p : Ptp} {offset : Int}

/-- In UNCALIBRATED the sixteenth small offset enters SLAVE, and a large one restarts the count. -/
theorem judgedPtp_uncalibrated (h : p.st = .uncalibrated) : let q := judgedPtp p offset
    (1000 < offset.natAbs → q.good = 0 ∧ q.st = .uncalibrated) ∧
      (offset.natAbs ≤ 1000 → p.good < 15 → q.good = p.good + 1 ∧ q.st = .uncalibrated) ∧
      (offset.natAbs ≤ 1000 → 15 ≤ p.good → q.st = .slave) := by
  have hq : judgedPtp p offset =
      if 1000 < offset.natAbs then { p with good := 0 } else if p.good + 1 < 16 then { p with good := p.good + 1 } else enteredPtp p .slave := by
    unfold judgedPtp
    rw [h]
  rw [hq]
  refine ⟨fun hfar => ?_, fun hnear hg => ?_, fun hnear hg => ?_⟩
  · rw [if_pos hfar]
    exact ⟨rfl, h⟩
  · rw [if_neg (Nat.not_lt.2 hnear), if_pos (by omega)]
    exact ⟨rfl, h⟩
  · rw [if_neg (Nat.not_lt.2 hnear), if_neg (by omega)]
    rfl

/-- In SLAVE the fourth large offset returns to UNCALIBRATED. -/
theorem judgedPtp_slave (h : p.st = .slave) : let q := judgedPtp p offset
    (offset.natAbs ≤ 10000 → q.bad = 0 ∧ q.st = .slave) ∧
      (10000 < offset.natAbs → p.bad < 3 → q.bad = p.bad + 1 ∧ q.st = .slave) ∧
      (10000 < offset.natAbs → 3 ≤ p.bad → q.st = .uncalibrated) := by
  have hq : judgedPtp p offset =
      if offset.natAbs ≤ 10000 then { p with bad := 0 } else if p.bad + 1 < 4 then { p with bad := p.bad + 1 } else enteredPtp p .uncalibrated := by
    unfold judgedPtp
    rw [h]
  rw [hq]
  refine ⟨fun hnear => ?_, fun hfar hb => ?_, fun hfar hb => ?_⟩
  · rw [if_pos hnear]
    exact ⟨rfl, h⟩
  · rw [if_neg (Nat.not_le.2 hfar), if_pos (by omega)]
    exact ⟨rfl, h⟩
  · rw [if_neg (Nat.not_le.2 hfar), if_neg (by omega)]
    rfl

/-- The judgement of an offset leaves what was measured. -/
theorem judgedPtp_measures : (judgedPtp p offset).offsetNs = p.offsetNs ∧ (judgedPtp p offset).meanDelayNs = p.meanDelayNs ∧ (judgedPtp p offset).sync = p.sync := by
  unfold judgedPtp
  split
  · split
    · exact ⟨rfl, rfl, rfl⟩
    · split <;> exact ⟨rfl, rfl, rfl⟩
  · split
    · exact ⟨rfl, rfl, rfl⟩
    · split <;> exact ⟨rfl, rfl, rfl⟩
  · exact ⟨rfl, rfl, rfl⟩

end

/-! ## Masters (R463) -/

/-- A new master, of which no Sync is known: its Sync interval counts as a second until one comes (log 37). -/
def selected (d : Dev) (a : Announce) : Dev :=
  updPtp d fun p => { p with master := some a, sync := none, syncAt := clockNow d, syncEvery := ptpInterval d 0 }

theorem announceIn_first {a : Announce} (h : d.eth.ptp.master = none) : announceIn d a = selected (ptpEnter d .uncalibrated) a := by
  unfold announceIn
  rw [h]
  rfl

theorem announceIn_same {a m : Announce} (h : d.eth.ptp.master = some m) (hs : m.sender = a.sender) (hp : m.port = a.port) :
    announceIn d a = updPtp d fun p => { p with master := some a } := by
  unfold announceIn
  simp only [h]
  exact if_pos ⟨hs, hp⟩

theorem announceIn_other {a m : Announce} (h : d.eth.ptp.master = some m) (ho : ¬ (m.sender = a.sender ∧ m.port = a.port)) :
    announceIn d a = if rankBefore (announceRank a) (announceRank m) then selected (ptpEnter d .uncalibrated) a else d := by
  unfold announceIn
  simp only [h]
  rw [if_neg ho]
  rfl

/-- The Announce of the master counts from its arrival. -/
theorem heardAnnounce_master {a : AnnounceMsg} {m : Announce} (h : d.eth.ptp.master = some m) (hs : m.sender = a.sender) (hp : m.port = a.port) :
    heardAnnounce d a = updPtp d fun p => { p with announceAt := clockNow d, announceEvery := ptpInterval d a.logInterval } := by
  unfold heardAnnounce
  rw [h]
  exact if_pos (decide_eq_true ⟨hs, hp⟩)

theorem heardAnnounce_other {a : AnnounceMsg} {m : Announce} (h : d.eth.ptp.master = some m) (ho : ¬ (m.sender = a.sender ∧ m.port = a.port)) :
    heardAnnounce d a = d := by
  unfold heardAnnounce
  rw [h]
  exact if_neg (ne_true_of_eq_false (decide_eq_false ho))

/-- An interval follows the nominal tick length, which no move of the graticule changes. -/
theorem ptpInterval_congr (h : legVal x 0x6000 0x05 = legVal d 0x6000 0x05) (log : BitVec 8) : ptpInterval x log = ptpInterval d log := by
  unfold ptpInterval nominalT ethMode legNat
  rw [h]

/-- PTP with the sender of an Announce as its new master, in UNCALIBRATED. -/
def newMasterPtp (d : Dev) (a : AnnounceMsg) : Ptp :=
  { enteredPtp d.eth.ptp .uncalibrated with
    master := some (announceOf a)
    sync := none
    syncAt := clockNow d
    syncEvery := ptpInterval d 0
    announceAt := clockNow d
    announceEvery := ptpInterval d a.logInterval }

/-- The sender of an Announce becomes the master. -/
theorem newMaster_spec (w : tabWf none d.legend = true) (a : AnnounceMsg) :
    let x := heardAnnounce (selected (ptpEnter d .uncalibrated) (announceOf a)) a
    x.eth.ptp = newMasterPtp d a ∧ x.strips = d.strips := by
  intro x
  have hx : x = updPtp (selected (ptpEnter d .uncalibrated) (announceOf a)) fun p =>
      { p with announceAt := clockNow (ptpEnter d .uncalibrated), announceEvery := ptpInterval (ptpEnter d .uncalibrated) a.logInterval } :=
    heardAnnounce_master (m := announceOf a) rfl rfl rfl
  have hlog (log : BitVec 8) : ptpInterval (ptpEnter d .uncalibrated) log = ptpInterval d log := ptpInterval_congr (legVal_ptpEnter w (by decide)) log
  rw [hx]
  refine ⟨?_, ptpEnter_strips⟩
  unfold newMasterPtp
  rw [← ptpEnter_ptp, ← clockNow_ptpEnter (d := d) (st := .uncalibrated), ← hlog, ← hlog]
  rfl

theorem does_announce {a : AnnounceMsg} (h : AnnounceHeard s a) (hy : heardAnnounce (announceIn (dropHandedPtp (s.dev.at e)) (announceOf a)) a = y) (p : P y) :
    Does (.announce e a) s P := by
  obtain ⟨hn, hup, hon, hst, hlink, hdom, ha⟩ := h
  exact does_awakeRow (exec_announce a) hn hup ha ((if_pos ⟨hon, hst, hlink, hdom⟩).trans hy) p

theorem does_announce_unheard {a : AnnounceMsg} (hn : a.port < 3) (hup : firmwareUp s.dev = true) (ha : ethAsleep s.dev = false) (h : ¬ AnnounceHeard s a) :
    Does (.announce e a) s fun d => d = dropHandedPtp (s.dev.at e) := by
  refine does_awakeRow (exec_announce a) hn hup ha (if_neg fun k => h ?_) rfl
  obtain ⟨hon, hst, hlink, hdom⟩ := k
  exact ⟨hn, hup, hon, hst, hlink, hdom, ha⟩

/-! ## Delay_Req and SYNC (R464) -/

/-- A Delay_Req leaves a port that is up: its group's address needs no resolution. -/
theorem sendDelayReq_sends (h : (d.ethPort n).link = true) :
    ∃ frame, sendDelayReq d n = ethEmit (updPtp d fun p => { p with seq := p.seq + 1 }) n frame := by
  unfold sendDelayReq
  extract_lets seq b d1
  have hlink : (d1.ethPort n).link = true := h
  split
  · exact ⟨_, ethSend_up hlink _⟩
  · unfold sendIp
    have hto : macTo d1 n ptpGroup = some (groupMac ptpGroup) := if_pos (by decide)
    rw [hto]
    exact ⟨_, ethSend_up hlink _⟩

theorem does_sync {port : Nat} {m : SyncFrom} (hn : port < 3) (hup : firmwareUp s.dev = true) (ha : ethAsleep s.dev = false) (h : SyncOfMaster s port m)
    (hl : (s.dev.ethPort port).link = true) (t1 t2 : Int) : Does (.sync e port m t1 t2) s fun d =>
      d.eth.ptp = { s.dev.eth.ptp with
        sync := some (t1, t2 - latency s.dev port 0x0E), syncAt := clockNow (s.dev.at e), syncEvery := ptpInterval s.dev m.logInterval, seq := s.dev.eth.ptp.seq + 1 } ∧
      (∃ f, d.wire = s.dev.wire ++ [.eth port f]) ∧ d.grat = (s.dev.at e).grat := by
  obtain ⟨frame, hsend⟩ := sendDelayReq_sends (n := port) (d := updPtp (dropHandedPtp (s.dev.at e)) fun p =>
    { p with sync := some (t1, t2 - latency s.dev port 0x0E), syncAt := clockNow (s.dev.at e), syncEvery := ptpInterval s.dev m.logInterval }) hl
  refine does_awakeRow (exec_sync port m t1 t2) hn hup ha ((if_pos h).trans hsend) ⟨ethEmit_ptp frame, ⟨frame, ?_⟩, ?_⟩
  · rw [ethEmit_eq]
    rfl
  · rw [ethEmit_eq]
    rfl

theorem does_sync_unknown {port : Nat} {m : SyncFrom} (hn : port < 3) (hup : firmwareUp s.dev = true) (ha : ethAsleep s.dev = false) (h : ¬ SyncOfMaster s port m)
    (t1 t2 : Int) : Does (.sync e port m t1 t2) s fun d => d = dropHandedPtp (s.dev.at e) :=
  does_awakeRow (exec_sync port m t1 t2) hn hup ha (if_neg h) rfl

/-! ## DELAY_RESP and PTP_TIMEOUT -/

theorem does_delayResp_idle (hup : firmwareUp s.dev = true) (ha : ethAsleep s.dev = false) (h : s.dev.eth.ptp.sync = none) (t3 t4 : Int) :
    Does (.delayResp e t3 t4) s fun d => d = dropHandedPtp (s.dev.at e) := by
  refine does_awakeRow (exec_delayResp t3 t4) (by decide) hup ha ?_ rfl
  have h' : (dropHandedPtp (s.dev.at e)).eth.ptp.sync = none := h
  simp only [h']

theorem does_delayResp (hup : firmwareUp s.dev = true) (ha : ethAsleep s.dev = false) {t1 t2 t3 t4 delay : Int} (h : s.dev.eth.ptp.sync = some (t1, t2))
    (hd : delay = ((t2 - t1) + (t4 - (t3 + latency s.dev (ptpPort s.dev) 0x0F))) / 2) (p : P (measured (dropHandedPtp (s.dev.at e)) (t2 - t1 - delay) delay (t4 - delay))) :
    Does (.delayResp e t3 t4) s P := by
  subst hd
  refine does_awakeRow (exec_delayResp t3 t4) (by decide) hup ha ?_ p
  have h' : (dropHandedPtp (s.dev.at e)).eth.ptp.sync = some (t1, t2) := h
  simp only [h']
  rfl

/-- The master is silent when one of its windows has closed. -/
theorem masterSilent_iff : masterSilent d = true ↔
    d.eth.ptp.announceAt + 3 * d.eth.ptp.announceEvery ≤ clockNow d ∨ d.eth.ptp.syncAt + 4 * d.eth.ptp.syncEvery ≤ clockNow d := by
  simp [masterSilent]

theorem does_ptpTimeout (hup : firmwareUp s.dev = true) (hst : s.dev.eth.ptp.st = .uncalibrated ∨ s.dev.eth.ptp.st = .slave) (h : masterSilent (s.dev.at e) = true)
    (p : P (ptpEnter (s.dev.at e) .listening)) : Does (.ptpTimeout e) s P :=
  does_ethRow exec_ptpTimeout (by decide) hup (if_pos ⟨hst, h⟩) p

theorem passes_ptpTimeout (h : (s.dev.eth.ptp.st ≠ .uncalibrated ∧ s.dev.eth.ptp.st ≠ .slave) ∨ masterSilent (s.dev.at e) = false) : Passes (.ptpTimeout e) s e := by
  refine passes_ethRow exec_ptpTimeout (by decide) (if_neg fun k => ?_)
  obtain ⟨hst, hm⟩ := k
  obtain ⟨hu, hs⟩ | hq := h
  · exact hst.elim hu hs
  · exact ne_true_of_eq_false hq hm

/-! ## PTP_EPOCH_OFFSET (02 R36) -/

/-- The run of PTP moved by an epoch offset, in ns. -/
def epochMoved (r : SourceRun) (ns : Int) : SourceRun :=
  { r with last := r.last + BitVec.ofInt 48 (ns / 125000), delta := (BitVec.ofInt 60 (r.delta + ns * 4096 / 125000)).toInt }

/-- No re-alignment to the time that the offset gives touches the Legend. -/
theorem setEpoch_legend {v : Bytes} : (setEpoch d v).legend = (legPut d 0x2000 0x10 v).legend := by
  unfold setEpoch
  extract_lets old d1 ns d2 takes
  split
  · exact gratMoveKeeps_realign.legend
  · rfl

/-- A device that does not follow PTP moves its source, and nothing re-aligns. -/
theorem setEpoch_unfollowed (hs : d.grat.source ≠ .ptp) (ht : d.grat.stepTo ≠ some .ptp) (v : Bytes) :
    setEpoch d v = (legPut d 0x2000 0x10 v).updGrat fun g =>
      { g with runPtp := epochMoved g.runPtp ((legNat d 0x2000 0x10 : Int) - legNat (legPut d 0x2000 0x10 v) 0x2000 0x10) } := by
  unfold setEpoch
  extract_lets old d1 ns d2 takes
  have htakes : takes = false := by
    show (decide (d2.grat.source = .ptp) && _) = false
    rw [decide_eq_false (show ¬ d2.grat.source = .ptp from hs), Bool.false_and]
  rw [if_neg fun k => k.elim (ne_true_of_eq_false htakes) ht]
  rfl

end

end Sys2Proof.Machine

section

open Sys2Proof.Machine

/-- Settles O50, by what each message leaves of the PTP state: the state entered, the measurement judged, the master's windows. -/
theorem ptpSelectsMeasuresAndLoses : Obligations.PtpSelectsMeasuresAndLoses := by
  intro s e hup w d0 p
  refine ⟨fun a hh => ⟨fun hm => ?first, fun m hm ho => ⟨fun hr => ?better, fun hr => ?worse⟩, fun m hm hs hp => ?same⟩,
    fun a hn ha hu => does_announce_unheard hn hup ha hu, ?asleep,
    fun port x t1 t2 hn ha => ⟨fun hs hl => does_sync hn hup ha hs hl t1 t2, fun hs => does_sync_unknown hn hup ha hs t1 t2⟩,
    fun t3 t4 ha hs => does_delayResp_idle hup ha hs t3 t4, ?response, fun hst hq => ?silent, fun hu hs => passes_ptpTimeout (.inl ⟨hu, hs⟩),
    fun ha hy => ?heard, ?epoch⟩
  case first =>
    obtain ⟨hptp, hstrips⟩ := newMaster_spec (d := dropHandedPtp d0) w a
    refine does_announce hh (by rw [announceIn_first (d := dropHandedPtp d0) hm]) ?_
    rw [hptp]
    exact ⟨rfl, rfl, rfl, hstrips, rfl, rfl, rfl, rfl⟩
  case better =>
    obtain ⟨hptp, -⟩ := newMaster_spec (d := dropHandedPtp d0) w a
    refine does_announce hh (by rw [announceIn_other (d := dropHandedPtp d0) hm (not_and_or.2 ho), if_pos hr]) ?_
    rw [hptp]
    exact ⟨rfl, rfl, rfl⟩
  case worse =>
    have hno : ¬ (m.sender = a.sender ∧ m.port = a.port) := not_and_or.2 ho
    refine does_announce hh ?_ rfl
    rw [announceIn_other (d := dropHandedPtp d0) hm hno, if_neg (ne_true_of_eq_false hr)]
    exact heardAnnounce_other (d := dropHandedPtp d0) hm hno
  case same =>
    have hin := announceIn_same (d := dropHandedPtp d0) (a := announceOf a) hm hs hp
    have hheard := heardAnnounce_master (d := updPtp (dropHandedPtp d0) fun p => { p with master := some (announceOf a) }) (a := a) (m := announceOf a) rfl rfl rfl
    exact does_announce hh ((congrArg (heardAnnounce · a) hin).trans hheard) ⟨rfl, rfl⟩
  case asleep =>
    exact fun ha => ⟨fun a hn => passes_awakeRow_asleep (exec_announce a) hn ha, fun port x t1 t2 hn => passes_awakeRow_asleep (exec_sync port x t1 t2) hn ha,
      fun t3 t4 => passes_awakeRow_asleep (exec_delayResp t3 t4) (by decide) ha⟩
  case response =>
    intro t1 t2 t3 t4 ha hsync gap delay offset
    refine does_delayResp hup ha hsync (delay := delay) rfl ?_
    by_cases hf : firstMeasured (dropHandedPtp d0).eth.ptp
    · obtain ⟨hst, hno⟩ := hf
      have hstepped : p.stepped ≠ true := ne_true_of_eq_false hno
      have hslave : p.st ≠ .slave := fun k => PtpState.noConfusion (hst.symm.trans k)
      rw [measured_first ⟨hst, hno⟩]
      exact ⟨rfl, rfl, rfl, fun hs _ => ⟨rfl, hs, rfl, rfl⟩, fun _ hp => absurd hp hstepped, fun _ hp => absurd hp hstepped, fun _ hp => absurd hp hstepped,
        fun hs => absurd hs hslave, fun hs => absurd hs hslave, fun hs => absurd hs hslave⟩
    · rw [measured_later hf]
      have hu := judgedPtp_uncalibrated (p := notedPtp (dropHandedPtp d0).eth.ptp offset delay) (offset := offset)
      have hv := judgedPtp_slave (p := notedPtp (dropHandedPtp d0).eth.ptp offset delay) (offset := offset)
      obtain ⟨ho, hd, hn⟩ := judgedPtp_measures (p := notedPtp (dropHandedPtp d0).eth.ptp offset delay) (offset := offset)
      exact ⟨ho, hd, hn, fun hs hp => absurd ⟨hs, hp⟩ hf, fun hs _ => let ⟨far, _, _⟩ := hu hs; far, fun hs _ => let ⟨_, near, _⟩ := hu hs; near,
        fun hs _ => let ⟨_, _, enough⟩ := hu hs; enough, fun hs => let ⟨near, _, _⟩ := hv hs; near, fun hs => let ⟨_, far, _⟩ := hv hs; far,
        fun hs => let ⟨_, _, enough⟩ := hv hs; enough⟩
  case silent =>
    refine does_ptpTimeout hup hst (masterSilent_iff.2 hq) ?_
    rw [ptpEnter_ptp]
    exact ⟨rfl, rfl, ptpEnter_strips⟩
  case heard =>
    exact passes_ptpTimeout (.inr (eq_false_of_ne_true fun k => (masterSilent_iff.1 k).elim (Int.not_le.2 ha) (Int.not_le.2 hy)))
  case epoch =>
    intro v
    have hval : legVal (legPut d0 0x2000 0x10 (be 8 v.toNat)) 0x2000 0x10 = be 8 v.toNat := legVal_legPut_self w _
    have hnat : legNat (legPut d0 0x2000 0x10 (be 8 v.toNat)) 0x2000 0x10 = v.toNat := by
      unfold legNat
      rw [hval, beVal_be]
      exact Nat.mod_eq_of_lt v.isLt
    refine does_next (exec_ptpEpochOffset v) ⟨(legVal_congr setEpoch_legend _ _).trans hval, fun hs ht => ?_⟩
    rw [setEpoch_unfollowed (d := d0) hs ht, hnat]
    exact ⟨rfl, rfl⟩

end

/-! The links, ARP entries, PHY and wake patterns of the Ethernet ports (11 R446, R447, R453, R456 to R461). -/

namespace Sys2Proof.Machine

section

variable {s : State} {d x y : Dev} {e n : Nat} {P : Dev → Prop}

/-! ## The rows of the commands -/

theorem exec_ethLinkChange (up : Bool) (speed : BitVec 32) : exec (.ethLinkChange e n up speed) s = execEthLinkChange e n up speed s := rfl

theorem exec_ethFrameReceived (ok : Bool) (f : Bytes) : exec (.ethFrameReceived e n ok f) s = execEthFrameReceived e n ok f s := rfl

theorem exec_arpRequestSend (ip : BitVec 32) : exec (.arpRequestSend e n ip) s = execArpRequestSend e n ip s := rfl

theorem exec_arpRefresh (ip : BitVec 32) : exec (.arpRefresh e n ip) s = execArpRefresh e n ip s := rfl

theorem exec_mdioPoll (st : Option Bool) : exec (.mdioPoll e st) s = execMdioPoll e st s := rfl

theorem exec_speedJudgement : exec (.speedJudgement e) s = execSpeedJudgement e s := rfl

theorem exec_wakeMatch (ok : Bool) (f : Bytes) : exec (.wakeMatch e n ok f) s = execWakeMatch e n ok f s := rfl

/-- Before firmware runs no command of a port does anything. -/
theorem passes_ethCommands_down (hn : n < 3) (h : firmwareUp s.dev = false) (up : Bool) (speed : BitVec 32) (ok : Bool) (f : Bytes) (ip : BitVec 32) (st : Option Bool) :
    ∀ c ∈ [Instr.ethLinkChange e n up speed, .ethFrameReceived e n ok f, .arpRequestSend e n ip, .arpRefresh e n ip, .mdioPoll e st, .speedJudgement e,
      .wakeMatch e n ok f, .ptpTimeout e], Passes c s e := by
  have h0 : 0 < 3 := by decide
  simp only [List.forall_mem_cons, List.not_mem_nil, IsEmpty.forall_iff, implies_true, and_true]
  exact ⟨passes_ethRow_down (exec_ethLinkChange up speed) hn h, passes_ethRow_down (exec_ethFrameReceived ok f) hn h, passes_awakeRow_down (exec_arpRequestSend ip) hn h,
    passes_awakeRow_down (exec_arpRefresh ip) hn h, passes_awakeRow_down (exec_mdioPoll st) h0 h, passes_awakeRow_down exec_speedJudgement h0 h,
    passes_ethRow_down (exec_wakeMatch ok f) hn h, passes_ethRow_down exec_ptpTimeout h0 h⟩

/-- In dormant the ports ask, poll and judge nothing (R459). -/
theorem passes_ethCommands_asleep (hn : n < 3) (h : ethAsleep s.dev = true) (ip : BitVec 32) (st : Option Bool) :
    ∀ c ∈ [Instr.arpRequestSend e n ip, .arpRefresh e n ip, .mdioPoll e st, .speedJudgement e], Passes c s e := by
  have h0 : 0 < 3 := by decide
  simp only [List.forall_mem_cons, List.not_mem_nil, IsEmpty.forall_iff, implies_true, and_true]
  exact ⟨passes_awakeRow_asleep (exec_arpRequestSend ip) hn h, passes_awakeRow_asleep (exec_arpRefresh ip) hn h, passes_awakeRow_asleep (exec_mdioPoll st) h0 h,
    passes_awakeRow_asleep exec_speedJudgement h0 h⟩

/-! ## Links (R446) -/

theorem updEth_updEth (f g : EthPort → EthPort) : updEth (updEth d n f) n g = updEth d n (g ∘ f) := by
  unfold updEth
  rw [Dev.ethPort_setEthPort_self]
  unfold Dev.setEthPort
  split
  · rfl
  · split <;> rfl

/-- A port whose link is down, its fault raised or not. -/
def downPort (fell : Bool) (p : EthPort) : EthPort := { p with link := false, speedMbps := 0, fell := p.fell || fell }

/-- A link that goes down raises its fault or not, and takes PTP with it or not (R446, R463). -/
theorem linkDown_cases (h : (d.ethPort n).link = true) :
    ∃ fell z, DeviceRaiseKeeps (updEth d n (downPort fell)) z ∧ (linkDown d n = z ∨ linkDown d n = ptpEnter z .listening) := by
  unfold linkDown
  rw [if_neg (not_not_intro h)]
  extract_lets quiet d1 d2
  refine ⟨!quiet, d2, ?_, ?_⟩
  · show DeviceRaiseKeeps _ (if quiet = true then d1 else _)
    cases quiet with
    | true =>
      have hd : d1 = updEth d n (downPort false) := congrArg (d.setEthPort n) (by simp [downPort])
      exact hd ▸ .refl
    | false =>
      have hd : updEth d1 n (fun p => { p with fell := true }) = updEth d n (downPort true) := by
        rw [updEth_updEth]
        exact congrArg (d.setEthPort n) (by simp [downPort])
      exact hd ▸ deviceRaiseKeeps_raiseDev _ _ _
  · split
    · exact .inr rfl
    · exact .inl rfl

theorem DeviceRaiseKeeps.wire (h : DeviceRaiseKeeps d x) : x.wire = d.wire := by rw [h]

theorem EthKeeps.mgmt (h : EthKeeps d x) : x.eth.mgmt = { d.eth.mgmt with history := x.eth.mgmt.history } := congrArg Eth.mgmt h

theorem updEth_wire (g : EthPort → EthPort) : (updEth d n g).wire = d.wire := by rw [updEth_eq]

theorem updEth_grat (g : EthPort → EthPort) : (updEth d n g).grat = d.grat := by rw [updEth_eq]

/-- A link that goes down: its port counts the same frames, and outside a dwell nothing is sent. -/
theorem linkDown_spec (h : (d.ethPort n).link = true) : let x := linkDown d n
    ((x.ethPort n).link = false ∧ (x.ethPort n).speedMbps = 0 ∧ (x.ethPort n).rxFrames = (d.ethPort n).rxFrames) ∧
      x.eth.mgmt = { d.eth.mgmt with history := x.eth.mgmt.history } ∧ (d.grat.state ≠ .dwell → x.wire = d.wire) := by
  intro x
  obtain ⟨fell, z, hz, hx⟩ : ∃ fell z, DeviceRaiseKeeps (updEth d n (downPort fell)) z ∧ (x = z ∨ x = ptpEnter z .listening) := linkDown_cases h
  have hport : z.ethPort n = downPort fell (d.ethPort n) := (hz.ethKeeps.ethPort n).trans (updEth_ethPort _)
  have hmgmt : z.eth.mgmt = { d.eth.mgmt with history := z.eth.mgmt.history } := by rw [hz.ethKeeps.mgmt, updEth_mgmt]
  have hwire : z.wire = d.wire := hz.wire.trans (updEth_wire _)
  have hgrat : z.grat.state = d.grat.state := by
    rw [hz]
    exact congrArg Grat.state (updEth_grat _)
  obtain hx | hx := hx
  · rw [hx, hport]
    exact ⟨⟨rfl, rfl, rfl⟩, hmgmt, fun _ => hwire⟩
  · rw [hx, ptpEnter_ethPort, hport]
    exact ⟨⟨rfl, rfl, rfl⟩, ptpEnter_mgmt.trans (by rw [hmgmt]), fun hd => (ptpEnter_wire (hgrat ▸ hd)).trans hwire⟩

theorem linkDown_idle (h : (d.ethPort n).link = false) : linkDown d n = d := if_pos (ne_true_of_eq_false h)

/-- With nothing in its queue a port that comes up sends nothing. -/
theorem flushQueue_nil (h : (d.ethPort n).txq = []) : flushQueue d n = updEth d n fun p => { p with txq := [] } := by
  unfold flushQueue
  simp only [h]
  rfl

/-- The PHY's record of a link that comes up: the tick at which it did (R456). -/
def upMgmt (d : Dev) (n : Nat) (speed : BitVec 32) : Mgmt :=
  if n = 0 then
    { d.eth.mgmt with
      upTick := if (d.ethPort n).link = true ∧ (d.ethPort n).speedMbps = speed then d.eth.mgmt.upTick else d.grat.tick
      changing := false }
  else d.eth.mgmt

theorem linkUp_eq (h : (d.ethPort n).txq = []) (reported : BitVec 32) : linkUp d n reported =
    updEth (updMgmt d fun _ => upMgmt d n (linkSpeed d n reported)) n fun p => { p with link := true, speedMbps := linkSpeed d n reported, fell := false, txq := [] } := by
  unfold linkUp
  extract_lets speed same d1
  have hd : d1 = updMgmt d fun _ => upMgmt d n speed := by
    show (if n = 0 then _ else d) = _
    unfold upMgmt
    split
    · simp only [same, Bool.and_eq_true, decide_eq_true_eq]
      rfl
    · rfl
  have hq : ((updEth d1 n fun p => { p with link := true, speedMbps := speed, fell := false }).ethPort n).txq = [] := by
    rw [updEth_ethPort, hd]
    exact h
  rw [flushQueue_nil hq, updEth_updEth, hd]
  rfl

/-- ETH_LINK_CHANGE with a link that is up. -/
theorem does_linkUp (hn : n < 3) (hup : firmwareUp s.dev = true) (hr : s.dev.dormant.st = .running) (hq : (s.dev.ethPort n).txq = []) (speed : BitVec 32)
    (p : P (updEth (updMgmt (s.dev.at e) fun _ => upMgmt (s.dev.at e) n (linkSpeed s.dev n speed)) n
      fun p => { p with link := true, speedMbps := linkSpeed s.dev n speed, fell := false, txq := [] })) : Does (.ethLinkChange e n true speed) s P := by
  refine does_ethRow (exec_ethLinkChange true speed) hn hup (((if_neg (not_not_intro rfl)).trans (if_neg fun k => ?_)).trans (linkUp_eq (d := s.dev.at e) hq speed)) p
  simp [ethAsleep, hr] at k

/-! ## ARP entries asked for (R453) -/

/-- An entry stamped anew reads so. -/
theorem find_stamped (l : List Arp) (ip : BitVec 32) (t : Stamp) :
    (l.map fun a => if a.ip = ip then { a with at_ := t } else a).find? (fun a => decide (a.ip = ip)) =
      (l.find? fun a => decide (a.ip = ip)).map fun a => { a with at_ := t } := by
  induction l with
  | nil => rfl
  | cons a r ih =>
    by_cases h : a.ip = ip
    · simp [h]
    · simp [h, ih]

/-- A request on a port that is up is sent, and its entry stamped with the moment. -/
theorem sendArp_spec {ip : BitVec 32} {a : Arp} (hl : (d.ethPort n).link = true) (ha : arpOf (d.ethPort n) ip = some a) : let x := sendArp d n ip
    (∃ f, x.wire = d.wire ++ [.eth n f]) ∧ arpOf (x.ethPort n) ip = some { a with at_ := now d } ∧ x.faults = d.faults := by
  unfold sendArp
  extract_lets d1 x
  have hport : d1.ethPort n = { d.ethPort n with arp := (d.ethPort n).arp.map fun a => if a.ip = ip then { a with at_ := now d } else a } := by
    refine (updEth_ethPort _).trans ?_
    simp only [ha]
  have hlink : (d1.ethPort n).link = true := by rw [hport]; exact hl
  have hd : d1 = { d with eth := d1.eth } := updEth_eq _
  obtain ⟨frame, hx⟩ : ∃ frame, x = ethEmit d1 n frame := ⟨_, ethSend_up hlink _⟩
  rw [hx]
  refine ⟨⟨frame, ?_⟩, ?_, ?_⟩
  · rw [ethEmit_eq, hd]
  · rw [ethEmit_ethPort, hport]
    exact (find_stamped _ _ _).trans (congrArg _ ha)
  · rw [ethEmit_eq, hd]

theorem does_arpRequestSend {ip : BitVec 32} {a : Arp} (hn : n < 3) (hup : firmwareUp s.dev = true) (ha : ethAsleep s.dev = false) (he : arpOf (s.dev.ethPort n) ip = some a)
    (hm : a.mac = none) (hr : reached (s.dev.at e) (after a.at_ 8) = true) (p : P (sendArp (s.dev.at e) n ip)) : Does (.arpRequestSend e n ip) s P := by
  refine does_awakeRow (exec_arpRequestSend ip) hn hup ha ?_ p
  have he' : arpOf ((s.dev.at e).ethPort n) ip = some a := he
  simp only [he']
  exact if_pos ⟨by rw [hm]; rfl, hr⟩

theorem passes_arpRequestSend {ip : BitVec 32} {a : Arp} (hn : n < 3) (he : arpOf (s.dev.ethPort n) ip = some a)
    (h : a.mac ≠ none ∨ reached (s.dev.at e) (after a.at_ 8) = false) : Passes (.arpRequestSend e n ip) s e := by
  refine passes_awakeRow (exec_arpRequestSend ip) hn ?_
  have he' : arpOf ((s.dev.at e).ethPort n) ip = some a := he
  simp only [he']
  exact if_neg fun k => h.elim (fun hm => hm (Option.isNone_iff_eq_none.1 k.1)) fun hr => ne_true_of_eq_false hr k.2

theorem does_arpRefresh {ip : BitVec 32} {a : Arp} (hn : n < 3) (hup : firmwareUp s.dev = true) (ha : ethAsleep s.dev = false) (he : arpOf (s.dev.ethPort n) ip = some a)
    (hm : a.mac ≠ none) (hr : reached (s.dev.at e) (after a.at_ 480000) = true) (p : P (sendArp (s.dev.at e) n ip)) : Does (.arpRefresh e n ip) s P := by
  refine does_awakeRow (exec_arpRefresh ip) hn hup ha ?_ p
  have he' : arpOf ((s.dev.at e).ethPort n) ip = some a := he
  simp only [he']
  exact if_pos ⟨Option.isSome_iff_ne_none.2 hm, hr⟩

theorem passes_arpRefresh {ip : BitVec 32} {a : Arp} (hn : n < 3) (he : arpOf (s.dev.ethPort n) ip = some a)
    (h : a.mac = none ∨ reached (s.dev.at e) (after a.at_ 480000) = false) : Passes (.arpRefresh e n ip) s e := by
  refine passes_awakeRow (exec_arpRefresh ip) hn ?_
  have he' : arpOf ((s.dev.at e).ethPort n) ip = some a := he
  simp only [he']
  exact if_neg fun k => h.elim (Option.isSome_iff_ne_none.1 k.1) fun hr => ne_true_of_eq_false hr k.2

/-! ## The PHY (R447) -/

/-- A read without an answer counts, and the third is raised. -/
theorem deviceRaiseKeeps_mdioRead_none : DeviceRaiseKeeps (updMgmt d fun m => { m with mdioMissed := min 3 (d.eth.mgmt.mdioMissed + 1) }) (mdioRead d none) := by
  unfold mdioRead
  dsimp only
  split
  · exact (deviceRaiseKeeps_raiseDev _ _ _).trans (deviceRaiseKeeps_setCause _ _)
  · exact .refl

/-- A read that finds the link up changes nothing but the count and the cause. -/
theorem deviceRaiseKeeps_mdioRead_up : DeviceRaiseKeeps (updMgmt d fun m => { m with mdioMissed := 0 }) (mdioRead d (some true)) := by
  unfold mdioRead
  dsimp only
  rw [if_neg fun k => k.1 rfl]
  exact deviceRaiseKeeps_setCause _ _

theorem does_mdioPoll (hup : firmwareUp s.dev = true) (ha : ethAsleep s.dev = false) (hr : reached (s.dev.at e) (after s.dev.eth.mgmt.mdioAt 80) = true) (st : Option Bool)
    (p : P (mdioRead (pollPhy (s.dev.at e)) st)) : Does (.mdioPoll e st) s P :=
  does_awakeRow (exec_mdioPoll st) (by decide) hup ha (if_pos hr) p

theorem passes_mdioPoll (hr : reached (s.dev.at e) (after s.dev.eth.mgmt.mdioAt 80) = false) (st : Option Bool) : Passes (.mdioPoll e st) s e :=
  passes_awakeRow (exec_mdioPoll st) (by decide) (if_neg (ne_true_of_eq_false hr))

/-- A read of the PHY that touches its record and what a raise touches. -/
theorem mdioPolled {missed : Nat} (h : DeviceRaiseKeeps (updMgmt (pollPhy d) fun m => { m with mdioMissed := missed }) x) :
    x.eth.mgmt = { d.eth.mgmt with mdioAt := now d, mdioMissed := missed } ∧ x.wire = d.wire ++ [.mdioRead (legNat d 0x5820 0x02) (legNat d 0x5820 0x01)] := by
  rw [h]
  exact ⟨rfl, rfl⟩

/-! ## The speed of the management port (R456, R457) -/

/-- The link is down while the PHY negotiates anew. -/
theorem changeSpeed_spec (h : (d.ethPort 0).link = true) (lower : Bool) : let x := changeSpeed d lower
    x.eth.mgmt.changing = true ∧ x.eth.mgmt.lowered = lower ∧ x.eth.mgmt.speedChanges = d.eth.mgmt.speedChanges + 1 ∧
      x.eth.mgmt.raiseTick = (if lower then d.eth.mgmt.raiseTick else some d.grat.tick) ∧ (x.ethPort 0).link = false ∧
      (d.grat.state ≠ .dwell → x.wire = d.wire ++ [.mdio (phyAt d).1 (phyAt d).2 lower]) := by
  unfold changeSpeed
  extract_lets d1 x
  have hz : DeviceRaiseKeeps (d1.emit (.mdio (phyAt d1).1 (phyAt d1).2 lower)) (raiseEth (d1.emit (.mdio (phyAt d1).1 (phyAt d1).2 lower)) 0xAF 0) :=
    deviceRaiseKeeps_raiseDev _ _ _
  have hlink : ((raiseEth (d1.emit (.mdio (phyAt d1).1 (phyAt d1).2 lower)) 0xAF 0).ethPort 0).link = true := by
    rw [hz.ethKeeps.ethPort]
    exact h
  obtain ⟨⟨hdown, -, -⟩, hm, hw⟩ := linkDown_spec hlink
  rw [show x = linkDown _ 0 from rfl, hm, hz.ethKeeps.mgmt]
  refine ⟨rfl, rfl, rfl, rfl, hdown, fun hd => ?_⟩
  rw [hw (by rw [hz]; exact hd), hz]
  rfl

/-- The last raise of the speed lies 80,000 ticks back (R456). -/
def raiseQuiet (d : Dev) : Bool :=
  match d.eth.mgmt.raiseTick with
  | some t => decide (80000 < (d.grat.tick - t).toNat)
  | none => true

theorem raiseQuiet_iff : raiseQuiet d = true ↔ ∀ t, d.eth.mgmt.raiseTick = some t → 80000 < (d.grat.tick - t).toNat := by
  unfold raiseQuiet
  split
  · next t h => simp [h]
  · next h => simp [h]

theorem judgeSpeed_off (h : legNat d 0x5820 0x00 ≠ 2 ∨ legNat d 0x5820 0x03 ≠ 1 ∨ (d.ethPort 0).link = false) : judgeSpeed d = d :=
  if_pos (h.imp id (Or.imp id ne_true_of_eq_false))

theorem judgeSpeed_on (hi : legNat d 0x5820 0x00 = 2) (hp : legNat d 0x5820 0x03 = 1) (hl : (d.ethPort 0).link = true) : judgeSpeed d =
    if (d.ethPort 0).speedMbps = 1000 ∧ 8000 ≤ (d.grat.tick - d.eth.mgmt.upTick).toNat ∧ raiseQuiet d ∧ movedIn d.eth.mgmt 8000 < legNat d 0x5820 0x04 then changeSpeed d true
    else if (d.ethPort 0).speedMbps = 100 ∧ legNat d 0x5820 0x05 < movedIn d.eth.mgmt 800 then changeSpeed d false
    else d :=
  if_neg fun k => k.elim (absurd hi) fun k => k.elim (absurd hp) (absurd hl)

theorem does_speedJudgement (hup : firmwareUp s.dev = true) (ha : ethAsleep s.dev = false) (ht : stampSub (now (s.dev.at e)) = 0) (hy : judgeSpeed (s.dev.at e) = y) (p : P y) :
    Does (.speedJudgement e) s P :=
  does_awakeRow exec_speedJudgement (by decide) hup ha ((if_pos ht).trans hy) p

theorem passes_speedJudgement (h : stampSub (now (s.dev.at e)) ≠ 0 ∨ judgeSpeed (s.dev.at e) = s.dev.at e) : Passes (.speedJudgement e) s e := by
  refine passes_awakeRow exec_speedJudgement (by decide) ?_
  obtain h | h := h
  · exact if_neg h
  · exact (ite_eq_right_iff.2 fun _ => h)

/-! ## Wake patterns (R459 to R461) -/

/-- The first match of a dormant period is recorded, and is a wake event (Table 11.3). -/
theorem matched_spec {code : Nat} (hd : d.dormant.st = .dormant) (hw : d.eth.wakeCause = 0) : let x := matched d n code
    x.eth.wakeCause = BitVec.ofNat 8 (16 * n + code) ∧ x.eth.wakeStamp = now d ∧ x.dormant.wake.isSome = true ∧ x.wire = d.wire := by
  unfold matched
  extract_lets inPeriod known d1 x
  have h1 : d1 = d.updEthernet fun t => { t with wakeCause := BitVec.ofNat 8 (16 * n + code), wakeStamp := now d } := if_pos ⟨by simp [inPeriod, hd], by simp [known, hw]⟩
  have hst : d1.dormant.st = .dormant := by rw [h1]; exact hd
  have hx : x = noteWakeAt d1 1 (now d1) := rfl
  rw [hx]
  unfold noteWakeAt
  simp only [hst]
  split
  · next h =>
    rw [h1] at h ⊢
    exact ⟨rfl, rfl, h, rfl⟩
  · rw [h1]
    exact ⟨rfl, rfl, rfl, rfl⟩

theorem does_wakeMatch {f : Bytes} (hn : n < 3) (hup : firmwareUp s.dev = true) (hl : (s.dev.ethPort n).link = true) (hc : wakeCode s.dev n f ≠ 0)
    (hd : s.dev.dormant.st ≠ .waking) (p : P (matched (s.dev.at e) n (wakeCode s.dev n f))) : Does (.wakeMatch e n true f) s P :=
  does_ethRow (exec_wakeMatch true f) hn hup (if_pos ⟨hl, rfl, hc, hd⟩) p

theorem passes_wakeMatch {f : Bytes} {ok : Bool} (hn : n < 3) (h : (s.dev.ethPort n).link = false ∨ ok = false ∨ wakeCode s.dev n f = 0 ∨ s.dev.dormant.st = .waking) :
    Passes (.wakeMatch e n ok f) s e := by
  refine passes_ethRow (exec_wakeMatch ok f) hn (if_neg fun k => ?_)
  obtain ⟨hl, hok, hc, hd⟩ := k
  exact h.elim (fun h => ne_true_of_eq_false h hl) fun h => h.elim (fun h => ne_true_of_eq_false h hok) fun h => h.elim hc hd

end

end Sys2Proof.Machine

/-! Frames that a port takes: discarded, answered or handed on (11 R448 to R453). -/

namespace Sys2Proof.Machine

section

variable {s : State} {d x y : Dev} {e n cause : Nat} {f body : Bytes} {type : Nat} {P : Dev → Prop}

/-- Nothing but the Ethernet ports differs. -/
def EthOnly (d x : Dev) : Prop := x = { d with eth := x.eth }

theorem EthOnly.trans (a : EthOnly d x) (b : EthOnly x y) : EthOnly d y := by
  unfold EthOnly at *
  rw [b, a]

theorem ethOnly_updEth (g : EthPort → EthPort) : EthOnly d (updEth d n g) := updEth_eq g

theorem ethOnly_countMgmt (b : Nat) : EthOnly d (countMgmt d n b) := by
  unfold EthOnly
  rw [countMgmt_eq]

/-- What a port's mode, addresses and tags say follows the Legend and the part. -/
theorem EthOnly.ethNat (h : EthOnly d x) (sub : Nat) : ethNat x n sub = ethNat d n sub := by
  rw [h]
  rfl

theorem EthOnly.portIp (h : EthOnly d x) : portIp x n = portIp d n := congrArg _ (h.ethNat _)

theorem EthOnly.untagFrame (h : EthOnly d x) : untagFrame x n f = untagFrame d n f := by
  unfold Machine.untagFrame
  simp only [h.ethNat]

theorem EthOnly.macAccepted (h : EthOnly d x) : macAccepted x n f = macAccepted d n f := by
  rw [h]
  rfl

theorem EthOnly.ethFrame (h : EthOnly d x) (u : EthUse) (dst : BitVec 48) : ethFrame x n u dst type body = ethFrame d n u dst type body := by
  rw [h]
  rfl

theorem EthOnly.arpBody (h : EthOnly d x) (op : Nat) (mac : BitVec 48) (ip : BitVec 32) : arpBody x n op mac ip = arpBody d n op mac ip := by
  rw [h]
  rfl

/-! ## A port that serves -/

/-- The device that has counted the octets of a frame received. -/
def heardFrame (s : State) (e n : Nat) (f : Bytes) : Dev := countMgmt (s.dev.at e) n f.length

theorem heardFrame_ethOnly : EthOnly (s.dev.at e) (heardFrame s e n f) := ethOnly_countMgmt _

theorem heardFrame_ethPort : (heardFrame s e n f).ethPort n = s.dev.ethPort n := (ethKeeps_countMgmt (d := s.dev.at e) f.length).ethPort n

theorem does_frame {ok : Bool} (h : PortServes s n) (hy : frameIn (s.dev.at e) n ok f = y) (p : P y) : Does (.ethFrameReceived e n ok f) s P := by
  obtain ⟨hn, hup, hl, hr, -⟩ := h
  have ha : ethAsleep (s.dev.at e) = false := by simp [ethAsleep, hr]
  exact does_ethRow (exec_ethFrameReceived ok f) hn hup (((if_neg (not_not_intro hl)).trans (if_neg (ne_true_of_eq_false ha))).trans hy) p

theorem passes_frame {ok : Bool} (hn : n < 3) (h : (s.dev.ethPort n).link = false) : Passes (.ethFrameReceived e n ok f) s e :=
  passes_ethRow (exec_ethFrameReceived ok f) hn (if_pos (ne_true_of_eq_false h))

/-! ## Discards -/

/-- A discard counts under its cause, and its raise touches no port. -/
theorem discardFrame_ethPort : (discardFrame d n cause).ethPort n =
    { d.ethPort n with discards := setNth (d.ethPort n).discards cause (nth 0 (d.ethPort n).discards cause + 1) } :=
  ((deviceRaiseKeeps_raiseDev _ _ _).ethKeeps.ethPort n).trans (updEth_ethPort _)

theorem discardedAs_discardFrame (h : PortServes s n) (hc : cause < 7) : DiscardedAs s (discardFrame (heardFrame s e n f) n cause) n cause := by
  obtain ⟨-, -, -, -, hlen⟩ := h
  have hkeep : DeviceRaiseKeeps (countDiscard (heardFrame s e n f) n cause) (discardFrame (heardFrame s e n f) n cause) := deviceRaiseKeeps_raiseDev _ _ _
  have hsame : EthOnly (s.dev.at e) (countDiscard (heardFrame s e n f) n cause) := heardFrame_ethOnly.trans (ethOnly_updEth _)
  unfold DiscardedAs
  rw [discardFrame_ethPort, heardFrame_ethPort]
  refine ⟨nth_setNth_self (hlen ▸ hc), fun k hk => nth_setNth_other hk, rfl, ?_, ?_⟩
  · rw [hkeep, hsame]
    rfl
  · rw [hkeep, hsame]
    rfl

theorem frameIn_badFcs : frameIn (s.dev.at e) n false f = discardFrame (heardFrame s e n f) n 0 := rfl

theorem frameIn_badTags (h : untagFrame s.dev n f = none) : frameIn (s.dev.at e) n true f = discardFrame (heardFrame s e n f) n 2 := by
  unfold frameIn
  extract_lets d1
  have hu : untagFrame d1 n f = none := (heardFrame_ethOnly (s := s) (e := e) (f := f)).untagFrame.trans h
  rw [if_neg (by decide), hu]
  rfl

/-- A frame for the port, taken by its EtherType (R448). -/
def typedFrameIn (d : Dev) (n type : Nat) (body : Bytes) : Dev :=
  if type = 0x0800 then datagramIn d n body
  else if type = 0x0806 then arpIn d n body
  else if type = 0x88F7 ∧ ptpOn d n then
    let d := updEth d n fun p => { p with rxFrames := p.rxFrames + 1 }
    if legNat d 0x5800 0x02 = 1 then { d with handed := d.handed ++ [.ptp n body] } else d
  else discardFrame d n 3

/-- A frame with the tags of the port's mode counts nowhere when it is for another address. -/
theorem frameIn_tagged (h : untagFrame s.dev n f = some (type, body)) : frameIn (s.dev.at e) n true f =
    if ¬ macAccepted s.dev n f then heardFrame s e n f else typedFrameIn (heardFrame s e n f) n type body := by
  unfold frameIn
  extract_lets d1
  have hu : untagFrame d1 n f = some (type, body) := (heardFrame_ethOnly (s := s) (e := e) (f := f)).untagFrame.trans h
  have hm : macAccepted d1 n f = macAccepted s.dev n f := (heardFrame_ethOnly (s := s) (e := e) (f := f)).macAccepted
  rw [if_neg (by decide), hu, ← hm]
  rfl

theorem frameIn_other (h : untagFrame s.dev n f = some (type, body)) (hm : macAccepted s.dev n f = false) : frameIn (s.dev.at e) n true f = heardFrame s e n f :=
  (frameIn_tagged h).trans (if_pos (ne_true_of_eq_false hm))

theorem frameIn_accepted (h : untagFrame s.dev n f = some (type, body)) (hm : macAccepted s.dev n f = true) :
    frameIn (s.dev.at e) n true f = typedFrameIn (heardFrame s e n f) n type body :=
  (frameIn_tagged h).trans (if_neg (not_not_intro hm))

theorem typedFrameIn_unknown (h4 : type ≠ 0x0800) (ha : type ≠ 0x0806) (hp : type ≠ 0x88F7) : typedFrameIn d n type body = discardFrame d n 3 := by
  unfold typedFrameIn
  rw [if_neg h4, if_neg ha, if_neg fun k => hp k.1]

/-! ## ARP requests (R453) -/

/-- A request for the port's address is answered on a port that is up. -/
theorem arpIn_request (hl : (d.ethPort n).link = true) (hlen : 28 ≤ body.length) (hop : beAt 6 2 body = 1) (hip : BitVec.ofNat 32 (beAt 24 4 body) = portIp d n)
    (h0 : portIp d n ≠ 0) : let mac := BitVec.ofNat 48 (beAt 8 6 body)
    ∃ z, EthOnly d z ∧ z.ethPort n = { d.ethPort n with rxFrames := (d.ethPort n).rxFrames + 1 } ∧
      arpIn d n body = ethEmit z n (ethFrame d n .other mac 0x0806 (arpBody d n 2 mac (BitVec.ofNat 32 (beAt 14 4 body)))) := by
  intro mac
  refine ⟨updEth d n fun p => { p with rxFrames := p.rxFrames + 1 }, ethOnly_updEth _, updEth_ethPort _, ?_⟩
  unfold arpIn
  extract_lets z
  have hz : EthOnly d z := ethOnly_updEth _
  have hlink : (z.ethPort n).link = true := (congrArg EthPort.link (updEth_ethPort _)).trans hl
  rw [if_neg (Nat.not_lt.2 hlen), if_pos hop, hz.portIp, if_pos ⟨hip, h0⟩, ethSend_up hlink, hz.ethFrame, hz.arpBody]

theorem answersArp (h : PortServes s n) (hlen : 28 ≤ body.length) (hop : beAt 6 2 body = 1) (hip : BitVec.ofNat 32 (beAt 24 4 body) = portIp s.dev n)
    (h0 : portIp s.dev n ≠ 0) : let x := arpIn (heardFrame s e n f) n body
    x.wire = s.dev.wire ++ [.eth n (ethFrame s.dev n .other (BitVec.ofNat 48 (beAt 8 6 body)) 0x0806
        (arpBody s.dev n 2 (BitVec.ofNat 48 (beAt 8 6 body)) (BitVec.ofNat 32 (beAt 14 4 body))))] ∧
      (x.ethPort n).rxFrames = (s.dev.ethPort n).rxFrames + 1 ∧ x.handed = s.dev.handed := by
  intro x
  obtain ⟨-, -, hl, -, -⟩ := h
  have hd : EthOnly (s.dev.at e) (heardFrame s e n f) := heardFrame_ethOnly
  have hpi : portIp (heardFrame s e n f) n = portIp s.dev n := hd.portIp
  obtain ⟨z, hz, hport, hx⟩ := arpIn_request (d := heardFrame s e n f) (by rw [heardFrame_ethPort]; exact hl) hlen hop (by rw [hpi]; exact hip) (by rw [hpi]; exact h0)
  have hzd : EthOnly (s.dev.at e) z := hd.trans hz
  rw [show x = _ from hx, hd.ethFrame, hd.arpBody]
  refine ⟨?_, ?_, ?_⟩
  · rw [ethEmit_eq, hzd]
    rfl
  · rw [ethEmit_ethPort, hport, heardFrame_ethPort]
  · rw [ethEmit_eq, hzd]
    rfl

/-! ## Datagrams to Ezith (R451, R452) -/

/-- A UDP datagram to port 6620 of MGMT's address is Ezith's. -/
theorem handDatagram_ezith {src dst : BitVec 32} (hd : dst = portIp d 0) (hp : beAt 2 2 body = 6620) :
    handDatagram d 0 src dst 17 body = { d with handed := d.handed ++ [.ezith (.mgmt src (BitVec.ofNat 16 (beAt 0 2 body))) (body.drop 8)] } := by
  unfold handDatagram
  extract_lets hand sport dport payload
  rw [if_neg (by decide), if_neg (by decide), if_pos ⟨rfl, hp, hd⟩]

/-- A whole datagram for the port's address, its checksums right, is handed on. -/
theorem datagramIn_mine (hmtu : beAt 2 2 body ≤ ethNat d n 0x0A) (hok : ipv4Ok body = true) (hfrag : beAt 6 2 body % 0x4000 = 0)
    (hl4 : layer4Ok (BitVec.ofNat 32 (beAt 12 4 body)) (BitVec.ofNat 32 (beAt 16 4 body)) (beAt 9 1 body) ((body.take (beAt 2 2 body)).drop (beAt 0 1 body % 16 * 4)) = true)
    (hdst : BitVec.ofNat 32 (beAt 16 4 body) = portIp d n) (h0 : BitVec.ofNat 32 (beAt 16 4 body) ≠ 0) : datagramIn d n body =
    handDatagram (updEth d n fun p => { p with rxFrames := p.rxFrames + 1 }) n (BitVec.ofNat 32 (beAt 12 4 body)) (BitVec.ofNat 32 (beAt 16 4 body)) (beAt 9 1 body)
      ((body.take (beAt 2 2 body)).drop (beAt 0 1 body % 16 * 4)) := by
  unfold datagramIn
  extract_lets ihl total src dst fragment b z mine
  have hf : fragment = false := decide_eq_false (not_not_intro hfrag)
  have hm : mine = true := by
    have hd : dst = portIp z n := hdst.trans (ethOnly_updEth (d := d) (n := n) _).portIp.symm
    show (decide _ && decide _ || decide _) = true
    rw [decide_eq_true hd, decide_eq_true (show dst ≠ 0 from h0)]
    rfl
  rw [if_neg (Nat.not_lt.2 hmtu), if_neg (not_not_intro hok), if_neg fun k => k.2 hl4, if_neg fun k => k.elim (ne_true_of_eq_false hf) fun k => k hm]

theorem handsToEzith (hmtu : beAt 2 2 body ≤ ethNat s.dev 0 0x0A) (hok : ipv4Ok body = true) (hfrag : beAt 6 2 body % 0x4000 = 0)
    (hproto : beAt 9 1 body = 17) {src dst : BitVec 32} (hsrc : src = BitVec.ofNat 32 (beAt 12 4 body)) (hto : dst = BitVec.ofNat 32 (beAt 16 4 body)) {udpBody : Bytes}
    (hu : udpBody = (body.take (beAt 2 2 body)).drop (beAt 0 1 body % 16 * 4)) (hl4 : layer4Ok src dst 17 udpBody = true) (hdst : dst = portIp s.dev 0) (h0 : dst ≠ 0)
    (hport : beAt 2 2 udpBody = 6620) : let x := datagramIn (heardFrame s e 0 f) 0 body
    x.handed = s.dev.handed ++ [.ezith (.mgmt src (BitVec.ofNat 16 (beAt 0 2 udpBody))) (udpBody.drop 8)] ∧
      (x.ethPort 0).rxFrames = (s.dev.ethPort 0).rxFrames + 1 ∧ x.wire = s.dev.wire := by
  intro x
  subst hsrc hto hu
  have hd : EthOnly (s.dev.at e) (heardFrame s e 0 f) := heardFrame_ethOnly
  have hpi : portIp (heardFrame s e 0 f) 0 = portIp s.dev 0 := hd.portIp
  set z := updEth (heardFrame s e 0 f) 0 fun p => { p with rxFrames := p.rxFrames + 1 } with hz
  have hzd : EthOnly (heardFrame s e 0 f) z := ethOnly_updEth _
  have hx : x = handDatagram z 0 _ _ (beAt 9 1 body) _ :=
    datagramIn_mine (by rw [hd.ethNat]; exact hmtu) hok hfrag (by rw [hproto]; exact hl4) (by rw [hpi]; exact hdst) h0
  rw [hx, hproto, handDatagram_ezith (by rw [hzd.portIp, hpi]; exact hdst) hport]
  have hzs : EthOnly (s.dev.at e) z := hd.trans hzd
  refine ⟨?_, ?_, ?_⟩
  · rw [hzs]
    rfl
  · show (z.ethPort 0).rxFrames = _
    rw [hz, updEth_ethPort, heardFrame_ethPort]
  · rw [hzs]
    rfl

end

end Sys2Proof.Machine

section

open Sys2Proof.Machine

/-- Settles O49, command by command: what each does to its port, to the PHY's record, to the wire and to what is handed on. -/
theorem ethernetPortsServe : Obligations.EthernetPortsServe := by
  intro s e n hn d0 x m
  refine ⟨fun h up speed ok f ip st => passes_ethCommands_down hn h up speed ok f ip st, fun hup => ⟨fun speed hl => ?linkDown, fun speed hl => ?linkIdle,
    fun speed hr hq => ?linkUp, fun ok f hl => passes_frame hn hl, fun h ip st => passes_ethCommands_asleep hn h ip st, fun ip a ha he hl => ?arp, fun ha hr => ?mdio,
    fun hr st => passes_mdioPoll hr st, ?speed, fun f hl hc hd hw => ?wake, fun ok f h => passes_wakeMatch hn h⟩, fun hs => ?frames⟩
  case linkDown =>
    obtain ⟨⟨hlink, hspeed, hrx⟩, -, hwire⟩ := linkDown_spec (d := d0) (n := n) hl
    exact does_ethRow (exec_ethLinkChange false speed) hn hup (if_pos Bool.false_ne_true) ⟨hlink, hspeed, hrx, hwire⟩
  case linkIdle => exact passes_ethRow (exec_ethLinkChange false speed) hn ((if_pos Bool.false_ne_true).trans (linkDown_idle (d := d0) hl))
  case linkUp =>
    refine does_linkUp hn hup hr hq speed ⟨?_, fun h0 => ?_, updEth_wire _, ?_⟩
    · rw [updEth_ethPort, ← hq]
      rfl
    · subst h0
      rw [updEth_mgmt]
      exact ⟨rfl, rfl⟩
    · rw [updEth_eq]
      rfl
  case arp =>
    have hsend := sendArp_spec (d := d0) (n := n) hl he
    exact ⟨fun hm hr => does_arpRequestSend hn hup ha he hm hr hsend, fun h => passes_arpRequestSend hn he h,
      fun hm hr => does_arpRefresh hn hup ha he hm hr hsend, fun h => passes_arpRefresh hn he h⟩
  case mdio =>
    exact ⟨does_mdioPoll hup ha hr none (mdioPolled (d := d0) deviceRaiseKeeps_mdioRead_none),
      does_mdioPoll hup ha hr (some true) (mdioPolled (d := d0) deviceRaiseKeeps_mdioRead_up)⟩
  case speed =>
    intro p lowest highest phy
    refine ⟨fun ha hi hp hl ht => ?on, fun h => passes_speedJudgement (h.imp id judgeSpeed_off)⟩
    have hj := judgeSpeed_on (d := d0) hi hp hl
    have hchange := changeSpeed_spec (d := d0) hl
    refine ⟨fun h1000 hup8 hq hlow => ?lower, fun h100 hhigh => ?raise, fun h1000 hno => ?stays, fun h100 hlow => ?slow⟩
    case lower => exact does_speedJudgement hup ha ht (hj.trans (if_pos ⟨h1000, hup8, raiseQuiet_iff.2 hq, hlow⟩)) (hchange true)
    case raise =>
      have hne : ¬ p.speedMbps = 1000 := by rw [h100]; decide
      exact does_speedJudgement hup ha ht (hj.trans ((if_neg fun k => hne k.1).trans (if_pos ⟨h100, hhigh⟩))) (hchange false)
    case stays =>
      have hne : ¬ p.speedMbps = 100 := by rw [h1000]; decide
      refine passes_speedJudgement (.inr (hj.trans ((if_neg fun k => ?_).trans (if_neg fun k => hne k.1))))
      obtain ⟨-, h8, hq, hl⟩ := k
      obtain h | ⟨t, ht, hlate⟩ | h := hno
      · exact Nat.not_lt.2 h8 h
      · exact Nat.not_lt.2 hlate (raiseQuiet_iff.1 hq t ht)
      · exact Nat.not_lt.2 h hl
    case slow =>
      have hne : ¬ p.speedMbps = 1000 := by rw [h100]; decide
      exact passes_speedJudgement (.inr (hj.trans ((if_neg fun k => hne k.1).trans (if_neg fun k => Nat.not_lt.2 hlow k.2))))
  case wake => exact does_wakeMatch hn hup hl hc (by rw [hd]; decide) (matched_spec (d := d0) hd hw)
  case frames =>
    refine ⟨fun f => does_frame hs frameIn_badFcs (discardedAs_discardFrame hs (by decide)), fun f hu => does_frame hs (frameIn_badTags hu) (discardedAs_discardFrame hs (by decide)),
      fun f type body hu => ⟨fun hm => does_frame hs (frameIn_other hu hm) ?other, fun hm h4 ha hp => does_frame hs (frameIn_accepted hu hm) ?unknown,
        fun hm ht hlen hop hip h0 => does_frame hs (frameIn_accepted hu hm) ?request, ?ezith⟩⟩
    case other =>
      refine ⟨heardFrame_ethPort, ?_, ?_⟩
      · rw [heardFrame_ethOnly]
        rfl
      · rw [heardFrame_ethOnly]
        rfl
    case unknown =>
      rw [typedFrameIn_unknown h4 ha hp]
      exact discardedAs_discardFrame hs (by decide)
    case request =>
      subst ht
      exact answersArp hs hlen hop hip h0
    case ezith =>
      intro ihl dst src udpBody h0 hm ht hmtu hok hfrag hproto hl4 hdst hne hport
      subst h0 ht
      exact does_frame hs (frameIn_accepted hu hm) (handsToEzith hmtu hok hfrag hproto rfl rfl rfl hl4 hdst hne hport)

end
